-- ==== Sys2Proof/Word.lean ====
section
/-!
DEFINITION. The word types of the device and the shapes of the register map: a field of a register and
one row of the register table (R8, R11, R12, R17).
-/
namespace Sys2Proof

/-- A register: 32 bits (R8). -/
abbrev Word := BitVec 32

/-- One byte of memory or of a message. -/
abbrev Byte := BitVec 8

/-- A run of bytes, lowest address first (R17: little-endian). -/
abbrev Bytes := List Byte

/-- A virtual address of a context: 57 bits (R137, R289). -/
abbrev VAddr := BitVec 57

/-- A lane mask of a thread group: 32 lanes (R88). -/
abbrev Mask32 := BitVec 32

/-- Sparse data by number: entries in rising order of their number, no number twice. -/
abbrev SMap (V : Type) := List (Nat × V)

/-- A field of a register: its lowest bit and its width (R11). -/
structure Field where
  lo : Nat
  len : Nat
  deriving DecidableEq, Repr

/-- One row of the register table: a base offset, two strides with their instance counts, the bits that a
plain write changes, those that a written 1 clears, those that a written 1 sets, the reset value, and
`pair`: 0 a single register, 1 the low half of a pair under R12, 2 its high half. -/
structure RegRow where
  base : Nat
  s1 : Nat
  c1 : Nat
  s2 : Nat
  c2 : Nat
  rw : Word
  w1c : Word
  w1s : Word
  reset : Word
  pair : Nat
  deriving DecidableEq, Repr

end Sys2Proof
end

