-- ==== Sys2Proof/Syntax.lean ====
section
/-!
DEFINITION. The commands of the block: one constructor for each row of the opcode table, with the operands
that the sender gives it. A row that writes a register carries the whole word written.
-/
namespace Sys2Proof

/-- What reads of host memory bring at the addresses that a step reads: a byte, or none where the read timed out or its completion came
poisoned (R242). -/
abbrev HostView := List (Nat × Option Byte)

/-- A source of a lane instruction: a register or an immediate. -/
inductive Src where
  | reg (r : Nat)
  | imm (v : Word)
  deriving DecidableEq, Repr

/-- The comparisons of the compare instructions (R100). -/
inductive Cmp where
  | eq | ne | lts | ges | ltu | geu
  deriving DecidableEq, Repr

/-- The I32 simple operations: add, subtract, logic, shift, compare, select and move (R63, R100). -/
inductive I32Op where
  | add | sub | and | or | xor | not | shl | shr | sar
  | cmp (c : Cmp)
  | sel (c : Nat)
  | mov
  deriving DecidableEq, Repr

/-- The lane exchange operations (R100). -/
inductive LaneOp where
  | shuffle | broadcast | ballot | voteAny | voteAll
  deriving DecidableEq, Repr

/-- What a special read delivers (R100). -/
inductive Special where
  | lane | slot | engine | counterLo | counterHi | ftr | aflags
  deriving DecidableEq, Repr

/-- The two source failures of a die's clock (R425). -/
inductive SourceFault where
  | refLost | rootLost
  deriving DecidableEq, Repr

/-- What the scan of a training or a retraining finds: for each failing wire its bundle, in the direction from the lower-numbered
die and in that from the higher-numbered one (R41). -/
structure LinkScan where
  lo : List Nat
  hi : List Nat
  deriving DecidableEq, Repr

/-- The error that the check code of a flit, of a slice, of a toile bank or of a tile store finds (R31, R37, R128, R150). -/
inductive CodeError where
  | none | single | double
  deriving DecidableEq, Repr

/-- What a slice's check code finds on an access: nothing, or an error in a sector of the line (R150). -/
inductive SliceError where
  | none | single (sec : Nat) | double (sec : Nat)
  deriving DecidableEq, Repr

/-- What a stack read finds: no symbol in error, one, two or more, or the sector of another address (R221). -/
inductive ReadError where
  | none | one | many | wrongAddress
  deriving DecidableEq, Repr

/-- What waits at a home slice: a transaction or a message. -/
inductive Waiter where
  | txn (i : Nat)
  | msg (m : Nat)
  deriving DecidableEq, Repr

/-- The outcome of a run of a traffic generator (R238). -/
structure TgcResult where
  errors : Nat
  pins : Nat
  line : Nat
  sector : Nat
  bw : Nat
  deriving DecidableEq, Repr

/-- Who pulls descriptors: a queue, or the admin queue of a function. -/
inductive Puller where
  | queue (q : Nat)
  | admin (fn : Nat)
  deriving DecidableEq, Repr

/-- The timers of the wait limit (R274, R275): a queue's command, a fence wait of a group or of a queue's
command, a completion held for its ring, a destroy drain, and a dispatch. -/
inductive Timer where
  | command (q : Nat)
  | fenceGroup (e g : Nat)
  | fenceQueue (q : Nat)
  | completion (q : Nat)
  | drain (q : Nat)
  deriving DecidableEq, Repr

/-- A message of an exchange (R383, R401). Between units of the own package `hoop` and `xch` name the exchange;
from a partner, `tag` and `xid` do. -/
structure ShxMsg where
  kind : Nat
  hoop : Nat
  xch : Nat
  tag : Nat
  xid : Nat
  dispatch : Nat
  dst : Nat
  src : Nat
  id : Nat
  round : Nat
  last : Bool
  line : Nat
  slot : Nat
  entries : List (Nat × Nat × Nat)
  body : Bytes
  deriving DecidableEq, Repr

/-- A message of a peer package (R400, R401). -/
structure PeerMsg where
  tag : Nat
  id : Nat
  addr : Nat
  mask : Nat
  body : Bytes
  deriving DecidableEq, Repr

/-- What the training of a port's lanes finds: good transmit and receive lanes, and whether the order is
reversed. -/
structure LaneScan where
  tx : Nat
  rx : Nat
  reversed : Bool
  deriving DecidableEq, Repr

/-- What the check of a partner's chain and signature finds (R410). -/
structure ChainVerdict where
  chain : Bool
  signature : Bool
  keyHash : Bytes
  deriving DecidableEq, Repr

/-- A flit that arrives on a port (R399): kind, sequence, acknowledgment, credits returned, whether its CRC and
tag are good, and the channel and START bit of each chunk. -/
structure GimpFlit where
  fkind : Nat
  seq : Nat
  ack : Nat
  nak : Bool
  credit : List Nat
  crc : Bool
  tag : Bool
  chunks : List (Nat × Bool)
  deriving DecidableEq, Repr

/-- The conditions that force a die to L0 (R438). -/
inductive ForceCause where
  | alert | tcrit
  deriving DecidableEq, Repr

/-- A unit that darning replaces (R448). -/
inductive DarnUnit where
  | engine (e : Nat)
  | slice (s : Nat)
  | channel (c : Nat)
  | winder
  | hostCtl
  deriving DecidableEq, Repr

/-- The transports of the mailbox (R491). -/
inductive Transport where
  | pcie | smbus
  deriving DecidableEq, Repr

/-- The commands of the block. -/
inductive Instr where
  /-- POWER_ON_RESET (R16): PWROK rises: clocks start, the boot ROM runs, the darning map loads and a device reset follows. -/
  | powerOnReset
  /-- PWROK_FALL (R428): PWROK falls and the package enters the safe states of R426 within 100 ns and is held in reset. -/
  | pwrokFall
  /-- TRIMMED_OSCILLATOR_STABLE (R420): The trimmed oscillator becomes stable and the clock monitor and Winder start at 40 MHz. -/
  | trimmedOscillatorStable (die : Nat)
  /-- REFERENCE_COUNT_PASS (R420): The reference passes 1 ms of gap-free counting and root PLL acquisition starts. -/
  | referenceCountPass (die : Nat)
  /-- ROOT_PLL_LOCK (R420): The root PLL locks, the dividers release together, the die counter starts and the Winder moves to the 250 MHz clock. -/
  | rootPllLock (die : Nat)
  /-- PLL_LOCK_TIMEOUT (R420): The PLL does not lock within 200 µs and the die starts the reference count again. -/
  | pllLockTimeout (die : Nat)
  /-- DEVICE_RESET (R16): PE_PERST_N or the end of a power-on or recovery reset ends every object, resets the listed blocks, clears stacks and toile and retrains links and ports. -/
  | deviceReset
  /-- TOILE_ZERO_END (R16): The zeroing of every toile bank ends, emptying the object tables. -/
  | toileZeroEnd
  /-- RECOVERY_RESET (R427): After a lost reference recovers, every die reruns the start sequence from the lock onward and then a device reset. -/
  | recoveryReset
  /-- SOURCE_FAILURE (R426): The clock monitor declares a lost reference or lost root lock and the die enters its safe states within 100 ns. -/
  | sourceFailure (die : Nat) (kind : SourceFault)
  /-- DIE_ISOLATE (R427): A non-zero die whose root was lost relocks and stays isolated with its links held down. -/
  | dieIsolate (die : Nat)
  /-- THERMAL_TRIP (R440): A sensor reads 120 °C; the die drives THERMTRIP_N low and enters the safe states. -/
  | thermalTrip (die : Nat)
  /-- REGISTER_WRITE (R8): A BAR0 write to a register with no behaviour of its own updates its writable fields, applying any clamp its field table gives. -/
  | registerWrite (fn : Nat) (off : Nat) (w : Word)
  /-- BAR0_BAD_ACCESS (R9): A BAR0 access of the wrong size or alignment reads zero, changes nothing and is counted. -/
  | bar0BadAccess (fn : Nat) (off : Nat) (size : Nat) (write : Bool)
  /-- PAIR_LO_READ (R12): A read of a _LO register returns the low half and captures the high half for the next _HI read. -/
  | pairLoRead (fn : Nat) (off : Nat)
  /-- PAIR_HI_WRITE (R12): A write of a _HI register commits the pair from the holding register and the written high half. -/
  | pairHiWrite (fn : Nat) (off : Nat) (w : Word)
  /-- LINK_ENABLE (R48): Setting EN of MSH_LINK_CTRL lets the link train and clears a failed state. -/
  | linkEnable (link : Nat) (w : Word)
  /-- LINK_DISABLE (R51): Clearing EN on an up link stops new flits, drains the replay buffers and takes the link down after routes change. -/
  | linkDisable (link : Nat) (w : Word)
  /-- LINK_RETRAIN_REQUEST (R41): Writing RETRAIN starts link retraining. -/
  | linkRetrainRequest (link : Nat) (w : Word)
  /-- MSH_LINK_ERR_CLEAR (R53): Writing CLEAR sets the link CRC and replay-failure counters to 0. -/
  | mshLinkErrClear (link : Nat)
  /-- LINK_TRAINED (R43): A link finishes training, measures its delay and comes up. -/
  | linkTrained (link : Nat) (delay : Nat) (scan : LinkScan)
  /-- LINK_TRAIN_TIMEOUT (R48): A link not up 500 µs after both ends leave reset is declared failed. -/
  | linkTrainTimeout (link : Nat)
  /-- LINK_CRC_ERROR_REPLAY (R41): The receiver finds a CRC error and the sender replays the failed slot group. -/
  | linkCrcErrorReplay (link : Nat) (low : Bool) (group : Nat) (bundle : Nat) (again : Bool)
  /-- BUNDLE_ERROR_THRESHOLD (R41): A bundle reaches SWAP_THRESH CRC errors within 1 ms and the link retrains it. -/
  | bundleErrorThreshold (link : Nat) (bundle : Nat)
  /-- LINK_RETRAIN_END (R42): Retraining ends with wires swapped and bundles disabled; the link returns at reduced width or is declared failed. -/
  | linkRetrainEnd (link : Nat) (scan : LinkScan)
  /-- ROUTE_RECOMPUTE (R45): The active Winder computes shortest detour paths and loads MSH_ROUTE within 100 µs of a failure. -/
  | routeRecompute
  /-- MSH_TEST_MODE_WRITE (R55): A write of MODE to MSH_TEST_CTRL is accepted only with debug unlocked and links down, otherwise REFUSED is set. -/
  | mshTestModeWrite (die : Nat) (w : Word)
  /-- MSH_TEST_START (R56): Writing START runs the test pattern on every edge stop of the die. -/
  | mshTestStart (die : Nat) (w : Word)
  /-- MSH_TEST_PATTERN_END (R56): The pattern ends after 2^24 slot times and DONE, PASS and the error fields are set. -/
  | mshTestPatternEnd (die : Nat) (errors : Nat) (bundle : Nat)
  /-- MESH_FLIT_FORWARD (R33): A flit crosses a router or link on credit, with check-code correction. -/
  | meshFlitForward (flit : Nat) (err : CodeError)
  /-- CROSSBAR_REQUEST (R144): The quadrant crossbar matches a request against windows, checks its channel set and routes it to its home. -/
  | crossbarRequest (txn : Nat)
  /-- I32_SIMPLE (R63): An I32 add, subtract, logic, shift, compare, select or move issues on all active lanes. -/
  | i32Simple (eng : Nat) (grp : Nat) (opc : Nat) (op : I32Op) (rd : Nat) (a : Src) (b : Src)
  /-- I32_MULTIPLY (R63): An I32 multiply or multiply-add returns the low 32 bits. -/
  | i32Multiply (eng : Nat) (grp : Nat) (opc : Nat) (rd : Nat) (a : Src) (b : Src) (c : Option Src)
  /-- LANE_EXCHANGE (R93): A shuffle, broadcast, ballot or vote reads source lanes whether active or not. -/
  | laneExchange (eng : Nat) (grp : Nat) (opc : Nat) (op : LaneOp) (rd : Nat) (ra : Nat) (b : Src)
  /-- CONDITIONAL_BRANCH (R96): A conditional branch splits or redirects the active mask, pushing or gathering on the reconvergence stack. -/
  | conditionalBranch (eng : Nat) (grp : Nat) (opc : Nat) (cond : Mask32) (target : VAddr) (rpc : VAddr)
  /-- JOIN (R97): A JOIN runs the pending path, reconverges and pops, or does nothing. -/
  | join (eng : Nat) (grp : Nat) (opc : Nat)
  /-- EXIT (R99): EXIT ends every active lane and continues at the stack top or ends the group. -/
  | exit (eng : Nat) (grp : Nat) (opc : Nat)
  /-- JUMP (R100): An unconditional jump moves the program counter. -/
  | jump (eng : Nat) (grp : Nat) (opc : Nat) (target : VAddr)
  /-- SPECIAL_READ (R100): A special read returns the lane number, group slot, engine identifier, die counter, FTR or AFLAGS. -/
  | specialRead (eng : Nat) (grp : Nat) (opc : Nat) (what : Special) (rd : Nat)
  /-- AFLAGS_CLEAR (R102): An AFLAGS clear clears the named sticky bits. -/
  | aflagsClear (eng : Nat) (grp : Nat) (opc : Nat) (mask : Nat)
  /-- LOAD (R105): A lane load checks alignment and translation and sends one request per sector, waiting behind unacknowledged stores. -/
  | load (eng : Nat) (grp : Nat) (opc : Nat) (size : Nat) (acq : Bool) (scope : Nat) (rd : Nat) (addrs : List VAddr)
  /-- STORE (R105): A lane store writes through with byte masks, one request per sector. -/
  | store (eng : Nat) (grp : Nat) (opc : Nat) (size : Nat) (rel : Bool) (scope : Nat) (rs : Nat) (addrs : List VAddr)
  /-- ATOMIC (R106): An atomic sends one request per line with every lane's offset and operands. -/
  | atomic (eng : Nat) (grp : Nat) (opc : Nat) (aop : Nat) (size : Nat) (order : Nat) (scope : Nat) (rd : Nat) (rs : Nat) (rt : Nat) (addrs : List VAddr)
  /-- FRAG_LOAD (R123): FRAG_LOAD moves 512 contiguous tile-store bytes into the group's registers. -/
  | fragLoad (eng : Nat) (grp : Nat) (opc : Nat) (rb : Nat) (base : Nat) (errs : List (Nat × CodeError))
  /-- FRAG_LOAD_S (R123): FRAG_LOAD_S moves strided tile-store bytes into the group's registers. -/
  | fragLoadS (eng : Nat) (grp : Nat) (opc : Nat) (rb : Nat) (base : Nat) (stride : Nat) (errs : List (Nat × CodeError))
  /-- FRAG_STORE (R123): FRAG_STORE writes 512 contiguous bytes from registers to the tile store. -/
  | fragStore (eng : Nat) (grp : Nat) (opc : Nat) (rb : Nat) (base : Nat)
  /-- FRAG_STORE_S (R123): FRAG_STORE_S writes strided lane ranges to the tile store, the highest lane winning overlaps. -/
  | fragStoreS (eng : Nat) (grp : Nat) (opc : Nat) (rb : Nat) (base : Nat) (stride : Nat)
  /-- MOTIF_EVALUATE (R86): A motif evaluation computes each active lane's piecewise cubic result from a loaded slot. -/
  | motifEvaluate (eng : Nat) (grp : Nat) (opc : Nat) (slot : Nat) (rd : Nat) (ra : Nat)
  /-- MOTIF_LOAD (R81): A motif-load checks the image and requests its 7 lines into a slot. -/
  | motifLoad (eng : Nat) (grp : Nat) (opc : Nat) (slot : Nat) (va : VAddr)
  /-- MOTIF_CLEAR (R80): A motif-clear empties a slot. -/
  | motifClear (eng : Nat) (grp : Nat) (opc : Nat) (slot : Nat)
  /-- FILET (R116): A FILET instruction takes a queue entry, sets the FTR bit and writes the token. -/
  | filet (eng : Nat) (grp : Nat) (opc : Nat) (vb : Nat) (rd : Nat)
  /-- FWAIT (R118): FWAIT stalls the group until FTR AND mask reads 0. -/
  | fwait (eng : Nat) (grp : Nat) (opc : Nat) (mask : Src)
  /-- BARRIER (R195): A barrier instruction releases at its scope, sends its arrival and waits. -/
  | barrier (eng : Nat) (grp : Nat) (opc : Nat) (num : Nat) (scope : Nat)
  /-- ACQUIRE (R188): An acquire waits for earlier loads and atomics and invalidates the context's L1 lines at die scope or wider. -/
  | acquire (eng : Nat) (grp : Nat) (opc : Nat) (scope : Nat)
  /-- RELEASE (R189): A release waits for earlier accesses to be issued, written or acknowledged according to its scope. -/
  | release (eng : Nat) (grp : Nat) (opc : Nat) (scope : Nat)
  /-- FENCE_SIGNAL_INSN (R198): FENCE_SIGNAL releases at its scope and sends the update to the fence's home. -/
  | fenceSignalInsn (eng : Nat) (grp : Nat) (opc : Nat) (scope : Nat) (va : VAddr) (value : Nat)
  /-- FENCE_WAIT_INSN (R199): FENCE_WAIT registers at the fence's home and stalls until the value reaches the target. -/
  | fenceWaitInsn (eng : Nat) (grp : Nat) (opc : Nat) (scope : Nat) (va : VAddr) (target : Nat)
  /-- KNOT (R326): A KNOT costs one issue slot, or parks the group with its record when a preemption is pending. -/
  | knot (eng : Nat) (grp : Nat) (opc : Nat) (krec : Int)
  /-- TRAP (R132): A trap instruction raises FAULT_TRAP with its code. -/
  | trap (eng : Nat) (grp : Nat) (opc : Nat) (code : Nat)
  /-- FAULT_PICOT_ARRIVE (R133): The fault picot reaches the launching front end, which tears the context down on every other engine. -/
  | faultPicotArrive (msg : Nat)
  /-- FAULT_DRAIN_END (R133): The faulted context's outstanding requests drain and its engine resources are freed. -/
  | faultDrainEnd (eng : Nat) (ctx : Nat)
  /-- ENG_FAULT_CLEAR (R138): Clearing VALID of ENG_FAULT also sets LOST to 0, with a concurrent capture winning. -/
  | engFaultClear (eng : Nat)
  /-- LOAD_RETURN (R49): Load data returns and is written to registers, faulting the context if poisoned. -/
  | loadReturn (txn : Nat)
  /-- STORE_ACK_RETURN (R152): A store acknowledgment returns to the engine and frees its tag and sector entry. -/
  | storeAckReturn (txn : Nat)
  /-- ATOMIC_REPLY (R106): The home's atomic reply returns lane values in ascending lane order, or poison. -/
  | atomicReply (txn : Nat)
  /-- MOTIF_LOAD_COMPLETE (R81): The last image line returns and the slot holds the new table 8 cycles later. -/
  | motifLoadComplete (eng : Nat) (ctx : Nat) (slot : Nat)
  /-- MMA_START (R110): An MMA operation starts on the arithmetic pipe once the scoreboard allows. -/
  | mmaStart (eng : Nat) (entry : Nat) (errs : List (Nat × CodeError))
  /-- OUT_START (R112): An OUT operation starts writing an accumulator tile as A48, packed or narrowed. -/
  | outStart (eng : Nat) (entry : Nat) (errs : List (Nat × CodeError))
  /-- FILET_LOAD_START (R114): A filet LOAD starts moving rows from memory to the tile store on the mover. -/
  | filetLoadStart (eng : Nat) (entry : Nat)
  /-- FILET_STORE_START (R114): A filet STORE starts moving rows from the tile store to memory on the mover. -/
  | filetStoreStart (eng : Nat) (entry : Nat) (errs : List (Nat × CodeError))
  /-- FILET_PAGE_TRANSLATE (R115): A running filet memory operation reaches a new page and translates it, faulting if invalid. -/
  | filetPageTranslate (eng : Nat) (entry : Nat)
  /-- FILET_COMPLETE (R120): A filet operation completes, clears its FTR bit and ORs its flags into AFLAGS. -/
  | filetComplete (eng : Nat) (entry : Nat)
  /-- KERNEL_START (R184): Earlier writes are acknowledged, L1 lines invalidated, the window zeroed and the kernel's first group placed. -/
  | kernelStart (eng : Nat) (queue : Nat)
  /-- WINDOW_ZERO_END (R127): The zeroing of a new tile-store window ends. -/
  | windowZeroEnd (eng : Nat) (queue : Nat)
  /-- GROUP_START (R92): A group is placed when its register rows free, with launch values set. -/
  | groupStart (eng : Nat) (queue : Nat)
  /-- HOME_READ (R147): A home slice serves a read, fetching only needed sectors from stack memory. -/
  | homeRead (txn : Nat) (err : SliceError)
  /-- HOME_STORE (R148): A home slice writes a store under its byte mask and updates sector states and directory. -/
  | homeStore (txn : Nat)
  /-- HOME_MIRRORED_STORE (R151): A mirrored store is written to both stack copies and acknowledged after both accept. -/
  | homeMirroredStore (txn : Nat)
  /-- WAITING_REQUEST_SERVE (R158): A request waiting behind a line in RECALL or HELD is served when the line frees. -/
  | waitingRequestServe (req : Waiter) (err : SliceError)
  /-- ALLOCATION_RETRY (R161): An allocation whose every way was passed over proceeds when a line leaves RECALL or HELD. -/
  | allocationRetry (txn : Nat)
  /-- STACK_FILL_RETURN (R147): A sector returns from the stack controller and is installed at the home. -/
  | stackFillReturn (req : Nat)
  /-- NEAR_READ (R154): A near slice serves a read from its copy or passes it to the home and installs the reply. -/
  | nearRead (txn : Nat) (err : SliceError)
  /-- NEAR_STORE (R155): A store reaches a near slice under NEAR 2 and is applied to an owned copy or sends an ownership request. -/
  | nearStore (txn : Nat)
  /-- OWNERSHIP_REQUEST (R157): The home receives an ownership request, invalidates sharers and enters RECALL. -/
  | ownershipRequest (msg : Nat)
  /-- OWNERSHIP_GRANT (R155): The near slice receives ownership, allocates the line and applies the store. -/
  | ownershipGrant (msg : Nat)
  /-- INVALIDATE (R157): A near slice receives an invalidation and drops its copy, answering the home. -/
  | invalidate (msg : Nat)
  /-- RECALL (R157): An owning near slice receives a recall and sends its dirty bytes back. -/
  | recall (msg : Nat)
  /-- DIRECTORY_ANSWER (R157): The home receives an invalidation or recall answer and, at the last, completes the transaction. -/
  | directoryAnswer (msg : Nat)
  /-- NEAR_EVICT (R157): A near slice evicts an owned copy and sends its dirty bytes home. -/
  | nearEvict (slice : Nat) (line : Nat)
  /-- HOME_EVICT (R157): The home evicts a line, recalling near copies and writing back dirty sectors. -/
  | homeEvict (slice : Nat) (line : Nat) (err : SliceError)
  /-- HOME_ATOMIC (R166): The home brings a line to HELD and applies every lane of an atomic or SADD request. -/
  | homeAtomic (txn : Nat) (err : SliceError)
  /-- LINE_REDUCTION (R170): The home applies a line reduction's factor to every position of its target line and acknowledges it. -/
  | lineReduction (txn : Nat) (err : SliceError)
  /-- LEDGER_INCREMENT (R174): The ledger die counts a line becoming dirty or owned and answers the home. -/
  | ledgerIncrement (msg : Nat)
  /-- LEDGER_DECREMENT (R174): The ledger die lowers a region's count without answer. -/
  | ledgerDecrement (msg : Nat)
  /-- LEDGER_ANSWER (R174): The ledger's answer lets the home acknowledge a store or grant ownership. -/
  | ledgerAnswer (msg : Nat)
  /-- HOME_TIMEOUT_EXPIRY (R178): In timeout mode a home transaction gives up on a silent die, poisons the line and ends. -/
  | homeTimeoutExpiry (slice : Nat) (line : Nat) (die : Nat)
  /-- RECLAIM_WALK_END (R177): The directory walk of reclaim mode after a die loss ends. -/
  | reclaimWalkEnd (die : Nat)
  /-- LEDGER_DIE_CHANGE (R176): A lost ledger die is replaced by die n XOR 1 and die n starts sending its counts. -/
  | ledgerDieChange (die : Nat)
  /-- LEDGER_WALK_END (R176): Die n's walk to its new ledger ends and held stores and grants proceed. -/
  | ledgerWalkEnd (die : Nat)
  /-- WINDOW_CONTROL_WRITE (R163): A CSH_WIN_CTRL write sets BUSY, propagates to crossbars and may start a flush or demotion walk. -/
  | windowControlWrite (win : Nat) (w : Word)
  /-- WINDOW_PROPAGATED (R163): A window write that starts no walk reaches every crossbar and BUSY clears. -/
  | windowPropagated (win : Nat)
  /-- FLUSH_WALK_END (R163): The flush walk of a window ends and BUSY clears. -/
  | flushWalkEnd (win : Nat)
  /-- DEMOTION_WALK_END (R163): The demotion walk of a persist window ends and BUSY clears. -/
  | demotionWalkEnd (win : Nat)
  /-- CSH_WIN_OVER_CLEAR (R182): Writing CLEAR sets OVER to 0. -/
  | cshWinOverClear (win : Nat)
  /-- CSH_SLICE_ERR_CLEAR (R150): Writing CLEAR sets the physical slice's error counters to 0. -/
  | cshSliceErrClear (index : Nat)
  /-- CSH_SADD_SAT_CLEAR (R182): Writing CLEAR sets CLAMPED to 0. -/
  | cshSaddSatClear (hoop : Nat)
  /-- FLUSH_WRITE_BACK (R180): CSH_FLUSH_CTRL OP 1 with START writes back every dirty sector of the range. -/
  | flushWriteBack
  /-- FLUSH_WRITE_BACK_INVALIDATE (R180): CSH_FLUSH_CTRL OP 2 with START writes back and invalidates the range. -/
  | flushWriteBackInvalidate
  /-- FLUSH_END (R180): The last slice ends its walk and every write-back is accepted; START reads 0. -/
  | flushEnd
  /-- BARRIER_ARRIVAL (R195): A barrier unit counts an arrival picot and, at the last, sends the release. -/
  | barrierArrival (msg : Nat)
  /-- BARRIER_RELEASE (R196): A release picot reaches waiting groups, which acquire and resume. -/
  | barrierRelease (msg : Nat)
  /-- CONTROLLER_READ (R219): A channel controller serves a sector read with decryption and symbol correction. -/
  | controllerRead (req : Nat) (err : ReadError)
  /-- CONTROLLER_WRITE (R220): A controller accepts a write after 28 cycles, merging partial masks. -/
  | controllerWrite (req : Nat) (err : ReadError)
  /-- MIRROR_READ_RETURN (R229): The mirror copy returns; good data goes home and the primary is rewritten, or the sector is poisoned. -/
  | mirrorReadReturn (req : Nat)
  /-- ROW_IDLE_CLOSE (R218): A row idle for 64 cycles is closed. -/
  | rowIdleClose (chan : Nat) (bank : Nat)
  /-- PER_BANK_REFRESH (R216): The tREFIpb interval expires and the next bank refreshes. -/
  | perBankRefresh (chan : Nat)
  /-- SCRUB_READ (R224): The scrubber reads the next sector, correcting or recording errors. -/
  | scrubRead (chan : Nat) (err : ReadError)
  /-- ROW_REPAIR (R226): A row meeting the repair conditions is copied into a spare row and remapped. -/
  | rowRepair (chan : Nat) (bank : Nat) (row : Nat)
  /-- ROW_REPAIR_END (R227): A repair ends, is logged, and requests to the bank proceed. -/
  | rowRepairEnd (chan : Nat) (bad : List Nat)
  /-- STACK_TEMPERATURE_REPORT (R217): A stack reports its temperature and the controllers switch refresh interval across 85 °C and 80 °C. -/
  | stackTemperatureReport (stack : Nat) (temp : Nat)
  /-- CHANNEL_TRAINING (R227): The active Winder trains a channel and commits its repair log. -/
  | channelTraining (chan : Nat) (ok : Bool)
  /-- SET_CLEAR (R233): A set clear starts, writing zeros under the current key with requests held. -/
  | setClear (set : Nat)
  /-- SET_CLEAR_END (R233): A set clear ends and CLEARING reads 0. -/
  | setClearEnd (set : Nat)
  /-- MEM_SET_CTRL_WRITE (R236): A MEM_SET_CTRL write applies WRITE_OPEN and CLEAR and changes MODE or COMMON only on an unowned idle set. -/
  | memSetCtrlWrite (set : Nat) (w : Word)
  /-- MEM_CH_TEST_ENTER (R237): Writing TEST to 1 puts an eligible channel in test state. -/
  | memChTestEnter (chan : Nat)
  /-- MEM_CH_TEST_EXIT (R237): Writing TEST to 0 clears the channel under the set key. -/
  | memChTestExit (chan : Nat)
  /-- TEST_CLEAR_END (R237): The post-test clear ends and the channel returns to its earlier state. -/
  | testClearEnd (chan : Nat)
  /-- MEM_CH_ERR_CLEAR (R235): Writing CLEAR sets CORRECTED and UNCORRECTABLE to 0. -/
  | memChErrClear (chan : Nat)
  /-- MEM_MIRROR_STAT_CLEAR (R235): Writing CLEAR sets the mirror counters to 0. -/
  | memMirrorStatClear
  /-- TGC_START (R238): START begins a traffic run in test state, or is refused. -/
  | tgcStart (chan : Nat) (w : Word)
  /-- TGC_STOP (R238): STOP ends the run after the sector in progress. -/
  | tgcStop (chan : Nat) (w : Word)
  /-- TGC_RUN_END (R238): A traffic run ends and DONE, PASS and BW are set. -/
  | tgcRunEnd (chan : Nat) (result : TgcResult)
  /-- HOST_LINK_TRAIN (R239): The PCI Express link trains to ×16 or ×8 in Flit mode or reports why not. -/
  | hostLinkTrain (width : Nat) (rate : Nat) (flit : Bool)
  /-- WAKE (R252): A write to a wake word is checked and becomes a picot to the bound engines or scheduler, or is dropped. -/
  | wake (fn : Nat) (off : Nat) (size : Nat) (write : Bool)
  /-- QUEUE_POLL (R253): The POLL_US interval expires and the queue's eyelet is read. -/
  | queuePoll (queue : Nat)
  /-- EYELET_READ_RETURN (R250): An eyelet value returns and is checked against C and the ring size. -/
  | eyeletReadReturn (who : Puller) (hm : HostView)
  /-- DESCRIPTOR_READ_RETURN (R258): A descriptor returns and is checked in order before anything is started. -/
  | descriptorReadReturn (who : Puller) (hm : HostView)
  /-- NOP (R262): The NOP command completes at once. -/
  | nop (queue : Nat)
  /-- LAUNCH (R264): LAUNCH runs GPE groups on each engine of the set with launch values. -/
  | launch (queue : Nat)
  /-- COPY (R265): COPY moves LENGTH bytes from source to destination by bulk mover. -/
  | copy (queue : Nat)
  /-- FILL (R265): FILL writes an 8-byte pattern over LENGTH bytes. -/
  | fill (queue : Nat)
  /-- REDUCE_COPY (R266): REDUCE_COPY sends LINES line reductions with one factor. -/
  | reduceCopy (queue : Nat)
  /-- FENCE_SIGNAL (R267): The FENCE_SIGNAL command signals a fence at system scope. -/
  | fenceSignal (queue : Nat)
  /-- FENCE_WAIT (R267): The FENCE_WAIT command waits at system scope until the fence reaches TARGET. -/
  | fenceWait (queue : Nat)
  /-- FLUSH (R267): The FLUSH command translates its range and flushes each physical range in turn. -/
  | flush (queue : Nat)
  /-- EVENT (R262): The EVENT command completes at once and always raises an event. -/
  | event (queue : Nat)
  /-- ENGINE_DONE_PICOT (R256): An engine tells the lead its groups ended and writes are acknowledged. -/
  | engineDonePicot (eng : Nat) (queue : Nat)
  /-- COMMAND_COMPLETE (R183): A command completes and the next command of its queue may start. -/
  | commandComplete (queue : Nat)
  /-- EVENT_RING_HEAD_REREAD (R300): Every 2 µs while an event ring is full, H is read again and a held completion may proceed. -/
  | eventRingHeadReread (ring : Nat) (hm : HostView)
  /-- WAIT_LIMIT_EXPIRY (R275): A command, fence-wait or held-completion timer expires and the context faults with FAULT_WAIT_LIMIT. -/
  | waitLimitExpiry (timer : Timer)
  /-- BAR4_ACCESS (R247): A BAR4 read or write is checked and reaches its home, or is refused and counted. -/
  | bar4Access (fn : Nat) (off : Nat) (len : Nat) (write : Option Bytes)
  /-- HOST_COMPLETION (R242): A completion for a host read or AtomicOp arrives, poisoned if the host poisoned it. -/
  | hostCompletion (txn : Nat) (lane : Nat) (data : Bytes) (poison : Bool)
  /-- HOST_READ_TIMEOUT (R242): A host read times out after 10 ms and returns poisoned sectors. -/
  | hostReadTimeout (txn : Nat)
  /-- HIF_ERR_CNT_CLEAR (R277): Writing CLEAR sets BAD_SIZE and BAR4_DENIED to 0. -/
  | hifErrCntClear
  /-- HIF_WAKE_DROP_CLEAR (R277): Writing CLEAR sets DROPPED to 0. -/
  | hifWakeDropClear
  /-- ADMQ_ENABLE (R278): Writing EN to 1 starts the admin queue, setting W and C to 0 and ERR to 0. -/
  | admqEnable (fn : Nat) (w : Word)
  /-- ADMQ_WAKE (R278): A write to QFE_FN_ADMQ_WAKE wakes the admin queue. -/
  | admqWake (fn : Nat)
  /-- ADMQ_HEAD_REREAD (R278): Every 2 µs while the admin completion ring is full, H is read again. -/
  | admqHeadReread (fn : Nat) (hm : HostView)
  /-- TDI_LOCKED_WRITE (R280): A write to a locked TDI's window, groups or hoop is ignored and moves the TDI to ERROR. -/
  | tdiLockedWrite (fn : Nat) (off : Nat) (w : Word)
  /-- CTX_CREATE (R293): CTX_CREATE allocates a context with GEN 0. -/
  | ctxCreate (fn : Nat)
  /-- CTX_DESTROY (R309): CTX_DESTROY destroys every queue, frees rings and makes objects free-pending. -/
  | ctxDestroy (fn : Nat)
  /-- CTX_QUERY (R305): CTX_QUERY writes bytes 0 to 79 of the context entry to a bus address. -/
  | ctxQuery (fn : Nat)
  /-- CTX_INVALIDATE (R293): CTX_INVALIDATE raises GEN and empties the context's translations on every resident engine. -/
  | ctxInvalidate (fn : Nat)
  /-- EVR_CREATE (R300): EVR_CREATE creates an event ring. -/
  | evrCreate (fn : Nat)
  /-- EVR_DESTROY (R305): EVR_DESTROY frees an event ring no live queue names. -/
  | evrDestroy (fn : Nat)
  /-- QUEUE_CREATE (R299): QUEUE_CREATE makes a queue live with P_SEEN and C at 0. -/
  | queueCreate (fn : Nat)
  /-- QUEUE_DESTROY (R307): QUEUE_DESTROY stops the queue's command on every bound engine and drains it. -/
  | queueDestroy (fn : Nat)
  /-- DESTROY_DRAIN_END (R307): The destroy drain ends; pins are released, the slot freed and the 0xF2 record written. -/
  | destroyDrainEnd (queue : Nat)
  /-- DESTROY_FORCE_CLEAR (R308): An engine not drained 100 µs after acceptance clears the command's resources forcibly. -/
  | destroyForceClear (queue : Nat) (eng : Nat)
  /-- MOBJ_CREATE (R295): MOBJ_CREATE checks and creates a memory object, zeroing fence objects. -/
  | mobjCreate (fn : Nat)
  /-- MOBJ_FREE (R297): MOBJ_FREE makes an object free-pending with its FREE_MARK. -/
  | mobjFree (fn : Nat)
  /-- MOBJ_FREED (R297): PIN reaches 0 and the marked LAUNCHes end; the object is freed with a 0xF1 record. -/
  | mobjFreed (ctx : Nat) (obj : Nat)
  /-- MOBJ_IMPORT (R298): MOBJ_IMPORT creates a read-only import of a shared object. -/
  | mobjImport (fn : Nat)
  /-- FENCE_ARM (R304): FENCE_ARM arms or disarms a fence's event and may clear OOO. -/
  | fenceArm (fn : Nat)
  /-- FENCE_SIGNAL_APPLY (R302): The fence's home applies a signal, releasing waits and raising the armed event. -/
  | fenceSignalApply (msg : Nat)
  /-- FENCE_WAIT_REGISTER (R303): A wait is registered at the fence's home or found satisfied. -/
  | fenceWaitRegister (msg : Nat)
  /-- FENCE_WAIT_RELEASE (R199): A wait release reaches the engine and the group acquires and resumes. -/
  | fenceWaitRelease (msg : Nat)
  /-- FENCE_VALUE_POLL (R303): With no registration free, the waiter reads VALUE every 2 µs. -/
  | fenceValuePoll (msg : Nat)
  /-- HOOP_ENABLE (R314): Writing ENABLE 1 runs the checks and starts enabling, or refuses with REASON. -/
  | hoopEnable (hoop : Nat) (w : Word)
  /-- HOOP_ENABLE_DONE (R315): The hoop's sets are owned and cleared, save slots listed, and BUSY clears. -/
  | hoopEnableDone (hoop : Nat)
  /-- HOOP_DISABLE (R316): Writing ENABLE 0 on a hoop with no contexts disables the roll, empties the pool and clears the sets. -/
  | hoopDisable (hoop : Nat) (w : Word)
  /-- HOOP_DISABLE_DONE (R316): The disable clear ends and STATE returns to 0. -/
  | hoopDisableDone (hoop : Nat)
  /-- HOOP_ENG_MAP_WRITE (R317): An engine map write takes effect or is ignored with REASON 8 for hoops not disabled. -/
  | hoopEngMapWrite (eng : Nat) (w : Word)
  /-- HOOP_FN_MAP_WRITE (R317): A function map write takes effect or is ignored with REASON 12. -/
  | hoopFnMapWrite (fn : Nat) (w : Word)
  /-- HOOP_SAVE_STAT_CLEAR (R347): Writing CLEAR sets SHORT to 0. -/
  | hoopSaveStatClear (hoop : Nat)
  /-- HOOP_PREEMPT_CLEAR (R347): Writing CLEAR sets KNOT_SAVES and FULL_SAVES to 0. -/
  | hoopPreemptClear (hoop : Nat)
  /-- SLICE_END (R323): A time slice expires and the scheduler decides. -/
  | sliceEnd (queue : Nat)
  /-- PREEMPT_PICOT_ARRIVE (R327): The preempt picot reaches a member, which parks waiting groups and starts the knot wait. -/
  | preemptPicotArrive (eng : Nat) (queue : Nat)
  /-- KNOT_WAIT_EXPIRY (R328): The knot wait runs out and the engine makes a full save. -/
  | knotWaitExpiry (eng : Nat) (queue : Nat)
  /-- SAVE_WRITES_ACKED (R327): A member's last save write is acknowledged; it frees resources and answers the scheduler. -/
  | saveWritesAcked (eng : Nat) (queue : Nat) (failed : Option Nat)
  /-- SAVE_COMPLETE (R327): Every member has answered, the save completes and the queue is unbound. -/
  | saveComplete (queue : Nat)
  /-- RESTORE (R330): A preempted command resumes on its members, restoring window, registers, motifs and filet entries. -/
  | restore (eng : Nat) (queue : Nat) (failed : Option Nat)
  /-- ROLL_ENABLE (R337): Writing EN 1 to the roll checks the entries and sets the start S. -/
  | rollEnable (hoop : Nat) (w : Word)
  /-- ROLL_DISABLE (R340): Clearing EN stops entries from coming due. -/
  | rollDisable (hoop : Nat) (w : Word)
  /-- ROLL_ENTRY_DUE (R339): A roll entry comes due and starts a held LAUNCH or counts a miss. -/
  | rollEntryDue (hoop : Nat)
  /-- ROLL_STAT_CLEAR (R347): Writing CLEAR sets MISSED and LATE to 0. -/
  | rollStatClear (hoop : Nat)
  /-- ALIGNED_LAUNCH_ARRIVE (R342): An aligned launch picot reaches a die's barrier unit, which computes its hold. -/
  | alignedLaunchArrive (launch : Nat) (die : Nat) (elapsed : Nat)
  /-- ALIGNED_LAUNCH_RELEASE (R342): The hold ends and members start at the next arithmetic-clock edge. -/
  | alignedLaunchRelease (launch : Nat) (die : Nat)
  /-- VF_FUNCTION_RESET (R344): A VF reset or removal destroys its contexts and drains its transfers. -/
  | vfFunctionReset (fn : Nat)
  /-- VF_DRAIN_END (R344): A VF's drain ends, its registers reset and a 0xF3 record is written. -/
  | vfDrainEnd (fn : Nat)
  /-- VF_DRAIN_EXPIRY (R345): The 1 ms drain expires and remaining transfers are squashed. -/
  | vfDrainExpiry (fn : Nat)
  /-- PF_RESET (R346): A PF reset resets every VF, destroys PF contexts and disables all hoops and rolls. -/
  | pfReset (vfs : Nat)
  /-- PILLOW_STEP_BUILD (R353): A step build runs phases 1 to 8 after the previous step completes. -/
  | pillowStepBuild (hoop : Nat) (hm : HostView)
  /-- PILLOW_IDLE_POLL (R366): With no step running, the pillow reads request rings every POLL_US. -/
  | pillowIdlePoll (hoop : Nat) (hm : HostView)
  /-- REPORT_RING_HEAD_REREAD (R375): A build paused on a full report ring reads H again every 2 µs. -/
  | reportRingHeadReread (hoop : Nat) (srv : Nat) (hm : HostView)
  /-- SERVER_CONTEXT_RELEASE (R376): With no step running, a destroyed server context's entries are released within 100 µs. -/
  | serverContextRelease (hoop : Nat) (srv : Nat)
  /-- PIL_ENABLE (R367): Writing PIL_CTRL EN builds the free list or is refused with REASON. -/
  | pilEnable (hoop : Nat) (w : Word)
  /-- PIL_FREE_LIST_BUILT (R367): The free list is built and BUSY clears. -/
  | pilFreeListBuilt (hoop : Nat)
  /-- PIL_SERVER_ENABLE (R349): Writing PIL_SRV_CTRL EN reads the server block and enables the server, or refuses. -/
  | pilServerEnable (hoop : Nat) (srv : Nat) (w : Word) (hm : HostView)
  /-- PIL_ENT_SEL_WRITE (R352): Writing PIL_ENT_SEL captures the selected entry into PIL_ENT_DATA. -/
  | pilEntSelWrite (w : Word)
  /-- PIL_STAT_CLEAR (R378): Writing CLEAR sets STARVED and LATE to 0. -/
  | pilStatClear (hoop : Nat)
  /-- PIL_STAT2_CLEAR (R378): Writing CLEAR sets STALLS and REP_FULL to 0. -/
  | pilStat2Clear (hoop : Nat)
  /-- DISPATCH_START (R386): The GO fence reaches L + 1 and every die reads its dispatch record and counts routes. -/
  | dispatchStart (hoop : Nat) (xch : Nat) (hm : HostView)
  /-- COUNT (R388): A COUNT arrives; with all sources in, the destination allocates slots and sends GRANTs. -/
  | count (port : Nat) (msg : ShxMsg)
  /-- GRANT (R388): A GRANT arrives and the source fills its granted slots. -/
  | grant (port : Nat) (msg : ShxMsg)
  /-- SLOT_LINE (R390): A SLOT_LINE arrives and is written to the slot, or refused. -/
  | slotLine (port : Nat) (msg : ShxMsg)
  /-- SLOT_RECORD (R390): A SLOT_RECORD arrives and is written with PORT and REMOTE set. -/
  | slotRecord (port : Nat) (msg : ShxMsg)
  /-- FILLED (R391): A FILLED arrives; with all in, the destination writes the bucket table and launches the expert queue. -/
  | filled (port : Nat) (msg : ShxMsg)
  /-- EXPERT_LAUNCH_COMPLETE (R393): The round's expert LAUNCH completes and the destination sends line reductions. -/
  | expertLaunchComplete (hoop : Nat) (xch : Nat) (die : Nat) (hm : HostView)
  /-- DONE (R394): A DONE arrives; when every route is accounted for, the source writes its result and the DONE fence is signalled. -/
  | done (port : Nat) (msg : ShxMsg)
  /-- ABORT (R397): An ABORT arrives and the partner ends the dispatch with STAT_ABORTED. -/
  | abort (port : Nat) (msg : ShxMsg)
  /-- DISPATCH_WAIT_LIMIT (R386): DONE does not reach n within the wait limit and the context faults. -/
  | dispatchWaitLimit (hoop : Nat) (xch : Nat)
  /-- EXCHANGE_ENABLE (R380): Writing SHX_X_CTRL EN reads the block, sets L and enables the exchange, or refuses. -/
  | exchangeEnable (hoop : Nat) (xch : Nat) (w : Word) (hm : HostView)
  /-- EXCHANGE_DISABLE (R397): Clearing EN disables the exchange unless a dispatch is open. -/
  | exchangeDisable (hoop : Nat) (xch : Nat) (w : Word)
  /-- SHX_MAP_WRITE (R382): A map entry write applies to dispatches counted afterwards. -/
  | shxMapWrite (index : Nat) (w : Word)
  /-- SHX_X_STAT_CLEAR (R415): Writing CLEAR sets MULTI and ABORTS to 0. -/
  | shxXStatClear (hoop : Nat) (xch : Nat)
  /-- SHX_DROP_CLEAR (R415): Writing CLEAR sets DROPPED to 0. -/
  | shxDropClear
  /-- PORT_ENABLE (R410): Setting GMP_CTRL EN starts port bring-up. -/
  | portEnable (port : Nat) (w : Word)
  /-- PORT_DISABLE (R416): Clearing EN finishes held messages and takes the port down. -/
  | portDisable (port : Nat) (w : Word)
  /-- PORT_ELECTRICAL_TRAINED (R410): Electrical training ends and control flits exchange serial numbers. -/
  | portElectricalTrained (port : Nat) (lanes : LaneScan) (flight : Nat)
  /-- SERIAL_EXCHANGE (R410): A partner serial arrives; roles are set or the port fails as cabled to itself. -/
  | serialExchange (port : Nat) (serial : Nat)
  /-- KEM_ENCAPSULATION_KEY (R410): The responder receives the ML-KEM key and returns a ciphertext. -/
  | kemEncapsulationKey (port : Nat) (key : Bytes)
  /-- KEM_CIPHERTEXT (R410): The initiator receives the ciphertext and sends its chain and signature. -/
  | kemCiphertext (port : Nat) (ct : Bytes)
  /-- IDENTITY_CHAIN_SIGNATURE (R410): The partner chain and signature arrive, are verified and keys derived, bringing the port up. -/
  | identityChainSignature (port : Nat) (verdict : ChainVerdict)
  /-- BRINGUP_TIMEOUT (R410): Key agreement does not finish in 250 ms and the port fails. -/
  | bringupTimeout (port : Nat)
  /-- PORT_RETRAIN_REQUEST (R406): Writing RETRAIN starts port retraining. -/
  | portRetrainRequest (port : Nat) (w : Word)
  /-- FLIT_RECEIVE (R405): A flit is accepted if CRC, tag and SEQ are good, otherwise discarded with NAK. -/
  | flitReceive (port : Nat) (flit : GimpFlit)
  /-- NAK_REPLAY (R405): A NAK makes the transmitter resend from the flit after ACK. -/
  | nakReplay (port : Nat) (ack : Nat)
  /-- REPLAY_TIMER_EXPIRY (R405): ACK has not advanced for 600 ns and the transmitter resends from the oldest flit. -/
  | replayTimerExpiry (port : Nat)
  /-- PORT_RETRAIN_END (R406): Retraining ends at 10 or 8 lanes or the port is declared failed. -/
  | portRetrainEnd (port : Nat) (lanes : LaneScan)
  /-- KEY_UPDATE (R409): After 2^36 flits the transmitter sends a key-update flit and ratchets the key. -/
  | keyUpdate (port : Nat)
  /-- COUNTER_RESUME (R409): After retraining a control flit announces the rounded COUNTER, refused unless larger. -/
  | counterResume (port : Nat) (counter : Nat)
  /-- SECTOR_WRITE (R412): A SECTOR_WRITE arrives, its tag is mapped and it is written or denied. -/
  | sectorWrite (port : Nat) (msg : PeerMsg)
  /-- LINE_WRITE (R412): A LINE_WRITE arrives and is written or denied. -/
  | lineWrite (port : Nat) (msg : PeerMsg)
  /-- LINE_REDUCE (R401): A LINE_REDUCE arrives and is applied as a line reduction. -/
  | lineReduce (port : Nat) (msg : PeerMsg)
  /-- GMP_FENCE_SIGNAL (R413): A FENCE_SIGNAL message arrives and the fence is signalled at its physical address. -/
  | gmpFenceSignal (port : Nat) (msg : PeerMsg)
  /-- ACK (R401): An ACK arrives and closes up to 6 messages with one status. -/
  | ack (port : Nat) (ids : List Nat) (status : Nat)
  /-- BARRIER_MESSAGE (R414): A BARRIER message arrives; with all partners in, the system barrier releases. -/
  | barrierMessage (port : Nat) (tag : Nat) (num : Nat) (queue : Nat) (inst : Nat)
  /-- PEER_FENCE_HOLD_END (R413): Earlier peer writes are acknowledged and a held fence signal is sent. -/
  | peerFenceHoldEnd (port : Nat) (id : Nat)
  /-- GMP_ERR_CLEAR (R415): Writing CLEAR sets CRC_ERR and RETRAINS to 0. -/
  | gmpErrClear (port : Nat)
  /-- GMP_SEC_ERR_CLEAR (R415): Writing CLEAR sets TAG_FAIL and BRINGUP_FAIL to 0. -/
  | gmpSecErrClear (port : Nat)
  /-- CLK_GATE_WRITE (R423): A CLK_GATE write gates or ungates blocks, refusing blocks in use. -/
  | clkGateWrite (die : Nat) (w : Word)
  /-- LEVEL_TARGET (R430): A level target arrives and a level change starts or is queued. -/
  | levelTarget (die : Nat) (target : Nat)
  /-- VOLTAGE_REACHED (R430): A voltage is deemed reached and the regulator status is read. -/
  | voltageReached (die : Nat) (regFault : Bool)
  /-- FREQUENCY_STEP (R430): A frequency step of at most 25 MHz is taken 256 cycles after the last, unless droop holds it. -/
  | frequencyStep (die : Nat)
  /-- DROOP_TRIP (R431): A droop detector trips and its quadrant's clock periods double. -/
  | droopTrip (die : Nat) (quad : Nat)
  /-- DROOP_CLEAR (R431): A detector un-trips after 64 cycles and 10 mV of recovery and the stretch ends. -/
  | droopClear (die : Nat) (quad : Nat)
  /-- RAIL_TELEMETRY (R434): Each die's Winder reads its rails and sends readings to dies 0 and 4 every 50 µs. -/
  | railTelemetry (die : Nat) (cmpW : Nat) (baseW : Nat) (temps : List Nat)
  /-- POWER_LOOP (R435): Every 50 µs the manager updates thermal limits and sends every die its target. -/
  | powerLoop (moved : List Nat)
  /-- LEVEL_WATCHDOG (R437): A die with no target for 2 ms drops to SAFE_LEVEL and sets WATCHDOG. -/
  | levelWatchdog (die : Nat)
  /-- FORCE_START (R438): A regulator alert or T_CRIT reading drives the die's engines straight to L0. -/
  | forceStart (die : Nat) (cause : ForceCause)
  /-- FORCE_END (R438): The alert high for 1 ms and sensors below T_CRIT - 10 end the force. -/
  | forceEnd (die : Nat)
  /-- PWR_DROOP_CLEAR (R443): Writing CLEAR sets EVENTS and FORCES to 0. -/
  | pwrDroopClear (die : Nat)
  /-- RAS_RECORD_RELEASE (R446): Held RAS records leave in sequence once the ring has room. -/
  | rasRecordRelease
  /-- WND_RAS_CNT_CLEAR (R464): Writing CLEAR sets ISSUED and LOST to 0. -/
  | wndRasCntClear
  /-- ENGINE_INTERNAL_ERROR (R447): An uncorrectable engine error faults every resident context and darns the engine. -/
  | engineInternalError (eng : Nat)
  /-- DARN_THRESHOLD (R448): A unit reaches its darning threshold and the Winder darns it. -/
  | darnThreshold (unit : DarnUnit)
  /-- DARN_REQUEST (R448): Writing GO in WND_DARN_REQ darns the named unit or is refused. -/
  | darnRequest (w : Word)
  /-- ENGINE_DARN_SWAP (R449): With no context resident, the engine is retired and the lowest spare takes its mapping. -/
  | engineDarnSwap (eng : Nat)
  /-- FRAY_MEASURE (R456): A fray measurement of every engine starts at boot, every PERIOD_H or on START. -/
  | frayMeasure
  /-- FRAY_MEASURE_END (R457): A measurement ends; caps are set and engines darned, retired or placed in service. -/
  | frayMeasureEnd (results : List (Nat × Option Nat))
  /-- SLICE_DARN (R450): Requests to a slice wait while it walks, recalling and writing back its lines. -/
  | sliceDarn (index : Nat)
  /-- SLICE_DARN_WALK_END (R450): The walk ends and the index is mapped to the spare or remapped. -/
  | sliceDarnWalkEnd (index : Nat)
  /-- CHANNEL_RETIRE (R451): A channel is taken out of service at once, or reported at risk. -/
  | channelRetire (chan : Nat)
  /-- WINDER_HEARTBEAT (R452): Every 100 µs the active Winder sends its state to die 4. -/
  | winderHeartbeat
  /-- WINDER_TAKEOVER (R452): After 10 missed heartbeats die 4's Winder holds die 0's in reset and takes over. -/
  | winderTakeover
  /-- WINDER_TAKEOVER_END (R452): The take-over ends within 500 µs and the mailbox is served again. -/
  | winderTakeoverEnd
  /-- HOST_CONTROLLER_SWAP (R453): The standby host controller takes over and the failed one's transactions end per R453. -/
  | hostControllerSwap
  /-- DARNING_RECORD_WAIT_EXPIRY (R455): No board record arrives in 2 s and the factory map applies. -/
  | darningRecordWaitExpiry
  /-- COMPUTE_DIE_LOST (R459): A compute die is declared lost; its contexts fault and its engines leave service. -/
  | computeDieLost (die : Nat)
  /-- BASE_DIE_LOST (R461): A base die is declared lost; routes, cache, channels, toile, port, roll and pillow react. -/
  | baseDieLost (die : Nat)
  /-- FIRMWARE_START (R473): The boot ROM verifies a slot and starts the firmware, or enters recovery. -/
  | firmwareStart
  /-- FIRMWARE_COPY_CHECK (R475): A Winder of dies 1 to 7 checks its firmware copy, running it or losing its die. -/
  | firmwareCopyCheck (die : Nat) (ok : Bool)
  /-- ENTROPY_TEST_FAIL (R479): An entropy health test fails; the source restarts or, after 16, is declared failed. -/
  | entropyTestFail (die : Nat)
  /-- SIGNATURE_COMPLETE (R483): A signing unit finishes a signature and takes the next waiting request. -/
  | signatureComplete (die : Nat)
  /-- GET_VERSION (R480): SPDM GET_VERSION is answered with version 1.2. -/
  | getVersion
  /-- GET_CAPABILITIES (R480): SPDM GET_CAPABILITIES is answered with the supported flags. -/
  | getCapabilities
  /-- NEGOTIATE_ALGORITHMS (R481): NEGOTIATE_ALGORITHMS selects SLH-DSA if offered, otherwise no asymmetric algorithm. -/
  | negotiateAlgorithms (offersSlh : Bool)
  /-- GET_DIGESTS (R481): GET_DIGESTS returns the slot 0 digest or UnsupportedRequest. -/
  | getDigests
  /-- GET_CERTIFICATE (R478): GET_CERTIFICATE returns a portion of the chain. -/
  | getCertificate (off : Nat) (len : Nat)
  /-- CHALLENGE (R481): CHALLENGE is answered with an identity signature. -/
  | challenge (nonce : Bytes)
  /-- GET_MEASUREMENTS (R482): GET_MEASUREMENTS returns the measurement blocks, signed if asked. -/
  | getMeasurements (which : Nat) (signed : Bool) (nonce : Bytes)
  /-- KEY_EXCHANGE (R480): KEY_EXCHANGE opens a secure session, up to 4. -/
  | keyExchange
  /-- HEARTBEAT (R480): An SPDM HEARTBEAT keeps a session alive. -/
  | heartbeat (session : Nat)
  /-- KEY_UPDATE_SPDM (R480): An SPDM KEY_UPDATE refreshes session keys. -/
  | keyUpdateSpdm (session : Nat)
  /-- IDE_KM (R484): IDE_KM programs a selective stream key into the host controller. -/
  | ideKm (session : Nat) (stream : Nat) (key : Bytes)
  /-- LOCK_INTERFACE (R484): TDISP LOCK_INTERFACE locks a VF TDI, refused while DEBUG is 1. -/
  | lockInterface (session : Nat) (fn : Nat)
  /-- PRESENCE_PRESS (R485): PRES_N goes low after a presence command is accepted and the 100 ms hold starts. -/
  | presencePress
  /-- PRESENCE_HOLD_END (R485): PRES_N has stayed low for 100 ms with the seal intact and the command proceeds. -/
  | presenceHoldEnd
  /-- PRESENCE_WAIT_EXPIRY (R485): No press within 10 s and the command ends with STAT_NO_PRESENCE. -/
  | presenceWaitExpiry
  /-- SEAL_CHECK (R485): Every 1 ms the seal loop is checked and a mismatch sets SEAL_BROKEN. -/
  | sealCheck (follows : Bool)
  /-- PIN_CHECK (R490): Every 10 ms the board pins are checked and new faults reported. -/
  | pinCheck (pins : Word)
  /-- MCTP_CONTROL (R491): An MCTP control message of type 0x00 is answered. -/
  | mctpControl (transport : Transport) (req : Bytes)
  /-- GET_STATUS (R494): GET_STATUS returns the status registers. -/
  | getStatus (via : Transport) (seq : Nat)
  /-- GET_EVENT (R496): GET_EVENT removes and returns the oldest event record. -/
  | getEvent (via : Transport) (seq : Nat)
  /-- SET_CEIL (R436): SET_CEIL sets CEIL_W with clamping. -/
  | setCeil (via : Transport) (seq : Nat) (watts : Nat)
  /-- GET_TELEMETRY (R494): GET_TELEMETRY returns per-die power state. -/
  | getTelemetry (via : Transport) (seq : Nat)
  /-- DARN_PUT (R455): DARN_PUT supplies a darning record, accepted at boot if its tag and serial are good. -/
  | darnPut (via : Transport) (seq : Nat) (rec : Bytes)
  /-- DARN_GET (R494): DARN_GET returns the current darning record. -/
  | darnGet (via : Transport) (seq : Nat)
  /-- FW_WRITE (R494): FW_WRITE erases and programs one sector of the slot not booted. -/
  | fwWrite (via : Transport) (seq : Nat) (off : Nat) (data : Bytes)
  /-- FW_ACTIVATE (R494): FW_ACTIVATE checks the other slot and writes FIRST, resetting in recovery. -/
  | fwActivate (via : Transport) (seq : Nat)
  /-- SVN_RAISE (R474): SVN_RAISE programs SVN fuses to raise the floor. -/
  | svnRaise (via : Transport) (seq : Nat) (floor : Nat)
  /-- KEY_REVOKE (R494): KEY_REVOKE revokes a firmware key slot. -/
  | keyRevoke (via : Transport) (seq : Nat) (slot : Nat)
  /-- SETTINGS_ADVANCE (R486): SETTINGS_ADVANCE programs a new settings generation after presence. -/
  | settingsAdvance (via : Transport) (seq : Nat) (gen : Bytes)
  /-- SVN_ROLLBACK (R474): SVN_ROLLBACK lowers the floor through a new generation after presence. -/
  | svnRollback (via : Transport) (seq : Nat) (floor : Nat)
  /-- DEBUG_UNLOCK (R487): DEBUG_UNLOCK sets DEBUG after presence. -/
  | debugUnlock (via : Transport) (seq : Nat)
  /-- ATTEST (R494): ATTEST returns the digests and nonce with an identity signature. -/
  | attest (via : Transport) (seq : Nat) (nonce : Bytes)
  /-- GET_CERT (R494): GET_CERT returns a portion of the certificate chain. -/
  | getCert (via : Transport) (seq : Nat) (off : Nat) (len : Nat)
  /-- OTP_READ (R494): OTP_READ returns 64 bytes of the array with SEED as zeros. -/
  | otpRead (via : Transport) (seq : Nat) (word : Nat)
  /-- MAILBOX_LONG_OP_END (R493): A long mailbox operation ends, its response is sent and the mailbox is free. -/
  | mailboxLongOpEnd
  /-- BYPASS (R488): The BYPASS test instruction works at any time. -/
  | bypass
  /-- IDCODE (R488): IDCODE returns part 0xD080 and the silicon revision. -/
  | idcode
  /-- SAMPLE_PRELOAD (R488): SAMPLE/PRELOAD captures or loads the boundary register at any time. -/
  | samplePreload (preload : Option Bytes)
  /-- EXTEST (R488): EXTEST drives the pins only while PWROK is low. -/
  | extest
  /-- CLAMP (R488): CLAMP takes effect only while PWROK is low. -/
  | clamp
  /-- HIGHZ (R488): HIGHZ takes effect only while PWROK is low. -/
  | highz
  /-- PAIR_HI_READ (R12): A read of a _HI register returns the captured high half once after a _LO read, and the current high half otherwise. -/
  | pairHiRead (fn : Nat) (off : Nat)
  /-- TOILE_BANK_REQUEST (R29): A toile bank serves a load or store to its bytes in arrival order, writes with byte masks, corrects or poisons words and acknowledges stores. -/
  | toileBankRequest (txn : Nat) (errs : List (Nat × CodeError))
  /-- PAGE_WALK_READ_RETURN (R291): A page-walk read returns at the engine and the walk continues, installs a translation or faults with DETAIL 3. -/
  | pageWalkReadReturn (txn : Nat)
  /-- INSTRUCTION_FETCH_RETURN (R107): An instruction line returns to the engine and is installed in L1 as a read-only line, poisoned where it met poison. -/
  | instructionFetchReturn (txn : Nat)
  /-- BULK_MOVER_RESPONSE (R170): A read reply, write acknowledgment or line-reduction answer returns to a bulk mover, exchange unit or pillow, possibly poisoned. -/
  | bulkMoverResponse (txn : Nat)
  /-- HOST_LINK_DOWN (R242): The PCI Express link leaves L0 and host-memory reads that can no longer complete return poisoned sectors. -/
  | hostLinkDown
  /-- PRESENCE_RELEASE (R485): PRES_N goes high and ends any 100 ms hold in progress, so a fresh press is needed. -/
  | presenceRelease
  /-- END_SESSION (R480): An SPDM secure session ends and frees one of the 4 session places. -/
  | endSession (session : Nat)
  /-- START_INTERFACE (R280): TDISP moves a locked virtual-function TDI to RUN. -/
  | startInterface (session : Nat) (fn : Nat)
  /-- STOP_INTERFACE (R280): The host returns a TDI from CONFIG_LOCKED, RUN or ERROR to CONFIG_UNLOCKED under TDISP, so BAR accesses are accepted again. -/
  | stopInterface (session : Nat) (fn : Nat)
  /-- MSI_X_VECTOR_UNMASK (R240): The host clears a function or vector mask and a pending MSI-X message is sent. -/
  | msiXVectorUnmask (fn : Nat) (vector : Option Nat)
  deriving DecidableEq, Repr

end Sys2Proof
end

