-- ==== Sys2Proof/Config.lean ====
section
/-!
DEFINITION. What one part fixes and what the manual leaves open. Every constant here has no body: nothing
can be proved of its value, so a claim about the model holds whatever it is.
-/
namespace Sys2Proof.Config

/-- A fresh free number: the n-th value that the manual leaves open (which way of the L1 is replaced, from
which held table entry a walk starts, how far a counter has run, a bandwidth measured). -/
opaque freeNat : Nat → Nat

/-- Of several lanes of one store that name the same place, the lane whose bytes remain, as an index among them; by the number of
the transaction and the place (R105 and R200 give the bytes to one of them). -/
opaque storeWinner : Nat → Nat → Nat

/-- Where a lane stands in the order in which a home applies the contributions of one request to the same target, by the number
of the request and the lane (R75 leaves the order to the home). -/
opaque contribOrder : Nat → Nat → Nat

/-- The number that the device hands out, as an index among the free ones, by the kind and the count of such choices (R281, R293: a context, an
event ring, a resident slot, a save slot; the manual does not say which). -/
opaque handedOut : Nat → Nat → Nat

/-- The word a compare writes where it holds and where it does not (R100 names the compare; the Axgaox
reference, which is not part of the manual, gives its encoding of true and false). -/
opaque cmpTrue : Word
opaque cmpFalse : Word

/-- The cycles that pass on the arithmetic reference between two readings of a die counter (R343: the
counters run; the manual gives no step a length). -/
opaque elapsed : Nat → Nat

/-- AES-256-XTS of one sector: the key by its number (a hoop, or 16 for the common key) and how often it has been replaced, the tweak,
and the sector (R231; the cipher is a standard outside the manual). -/
opaque cipher : Nat → Nat → Nat → Bytes → Bytes

/-- The four check symbols that the code gives for a ciphertext at a channel, a line index and a sector (R221). -/
opaque checkSymbols : Bytes → Nat → Nat → Nat → Bytes

/-- A signature by the device over a message with the identity key, the n-th with its fresh randomness (R477, R481): the
algorithms are standards outside the manual. -/
opaque sign : Nat → Bytes → Bytes

/-- The output of SHAKE256, as long as it is asked for (R409, R410, R454, R468, R472, R477), and SHA3-512 (R480 to R482): the functions
are standards outside the manual. -/
opaque shake256 : Bytes → Bytes
opaque sha3 : Bytes → Bytes

/-- SLH-DSA-SHAKE-256s verification, pure and with an empty context: the public key, the message and the signature (R473). -/
opaque slhVerify : Bytes → Bytes → Bytes → Bool

/-- SEED of the array, fused (R466); it reads as zero on every path. -/
opaque seed : Bytes

/-- Bytes that standards outside the manual give, by what they are for: an ML-KEM-1024 encapsulation key, ciphertext and shared secret
(R410), an MCTP control answer (R491), the boot ROM's image (R482), and a spoiled DIGEST (R469). -/
opaque derive : Nat → Bytes → Bytes

/-- Fresh random bytes from the entropy source (R479). -/
opaque random : Nat → Bytes

end Sys2Proof.Config
end

