-- ==== Sys2Proof/Machine/Bits.lean ====
section
/-!
DEFINITION. Bit fields of registers, signed readings, little-endian bytes, and the sparse maps of the state
(R8, R11, R17).
-/
namespace Sys2Proof.Machine

/-- The value of a field of a register. -/
def Fget (f : Field) (w : Word) : Nat := (w.toNat >>> f.lo) % 2 ^ f.len

/-- A register with one field replaced; bits of `v` above the field's width are dropped. -/
def Fset (f : Field) (v : Nat) (w : Word) : Word :=
  (w &&& ~~~(BitVec.ofNat 32 ((2 ^ f.len - 1) <<< f.lo))) ||| BitVec.ofNat 32 ((v % 2 ^ f.len) <<< f.lo)

/-- The field whose single bit reads 1. -/
def Fbit (f : Field) (w : Word) : Bool := Fget f w != 0

/-- The field's mask inside its register. -/
def Fmask (f : Field) : Word := BitVec.ofNat 32 ((2 ^ f.len - 1) <<< f.lo)

/-- A counter that stops at `top`. -/
def satAdd (top c n : Nat) : Nat := min top (c + n)

/-- Bits [hi:lo] of a number. -/
def bitsOf (hi lo v : Nat) : Nat := (v >>> lo) % 2 ^ (hi + 1 - lo)

/-- Bit `k` of a number. -/
def bitOf (k v : Nat) : Bool := v.testBit k

/-- The two's-complement reading of the low `w` bits of `v`. -/
def sInt (w v : Nat) : Int :=
  let u := v % 2 ^ w
  if u < 2 ^ (w - 1) then (u : Int) else (u : Int) - (2 ^ w : Nat)

/-- The low `w` bits of an integer, as a natural number. -/
def uNat (w : Nat) (x : Int) : Nat := (x % ((2 ^ w : Nat) : Int)).toNat

/-- A number from bytes, lowest first (R17). -/
def leNat : Bytes → Nat
  | [] => 0
  | b :: bs => b.toNat + 256 * leNat bs

/-- The `n` bytes of a number, lowest first (R17). -/
def leBytes : Nat → Nat → Bytes
  | 0, _ => []
  | n + 1, v => BitVec.ofNat 8 (v % 256) :: leBytes n (v / 256)

/-- `n` zero bytes. -/
def zeros (n : Nat) : Bytes := List.replicate n 0

/-- `n` bytes of `bs` from offset `o`, read as zero past the end. -/
def cut (bs : Bytes) (o n : Nat) : Bytes :=
  let r := (bs.drop o).take n
  r ++ zeros (n - r.length)

/-- The little-endian number at offset `o`, `n` bytes wide. -/
def numAt (bs : Bytes) (o n : Nat) : Nat := leNat (cut bs o n)

/-- The first `n` bytes of a SHAKE256 output. -/
def shake (n : Nat) (b : Bytes) : Bytes := cut (Config.shake256 b) 0 n

/-- The bytes of a label. -/
def label (t : String) : Bytes := t.toList.map (fun c => BitVec.ofNat 8 c.toNat)

/-- `bs` with the bytes `v` placed at offset `o`. -/
def putAt (bs : Bytes) (o : Nat) (v : Bytes) : Bytes :=
  bs.take o ++ v ++ bs.drop (o + v.length)

/-- A list entry replaced. -/
def setNth {α : Type} (l : List α) (i : Nat) (f : α → α) : List α := l.modify i f

/-- Where a map lists a number. -/
def SMap.get? {V : Type} (m : SMap V) (k : Nat) : Option V :=
  match m with
  | [] => none
  | (j, v) :: r => if j = k then some v else SMap.get? r k

/-- The value a map gives a number, `d` where it lists none. -/
def SMap.getD {V : Type} (m : SMap V) (k : Nat) (d : V) : V := (SMap.get? m k).getD d

/-- The map with `v` at `k`. -/
def SMap.put {V : Type} (m : SMap V) (k : Nat) (v : V) : SMap V :=
  match m with
  | [] => [(k, v)]
  | (j, u) :: r => if k < j then (k, v) :: (j, u) :: r else if k = j then (k, v) :: r else (j, u) :: SMap.put r k v

/-- The map without an entry at `k`. -/
def SMap.del {V : Type} (m : SMap V) (k : Nat) : SMap V := m.filter (fun p => p.1 != k)

/-- The map with the entry at `k`, if there is one, changed by `f`. -/
def SMap.modify {V : Type} (m : SMap V) (k : Nat) (f : V → V) : SMap V :=
  m.map (fun p => if p.1 = k then (p.1, f p.2) else p)

/-- The map with the entry at `k`, or `d` where there is none, changed by `f`. -/
def SMap.upd {V : Type} (m : SMap V) (k : Nat) (d : V) (f : V → V) : SMap V :=
  SMap.put m k (f (SMap.getD m k d))

/-- Every value changed by `f`. -/
def SMap.mapVals {V W : Type} (m : SMap V) (f : Nat → V → W) : SMap W := m.map (fun p => (p.1, f p.1 p.2))

/-- The entries that `p` keeps. -/
def SMap.keep {V : Type} (m : SMap V) (p : Nat → V → Bool) : SMap V := m.filter (fun e => p e.1 e.2)

/-- Left fold over a list, the state threaded. -/
def each {α σ : Type} (l : List α) (f : α → σ → σ) (s : σ) : σ := l.foldl (fun t a => f a t) s

/-- A member placed into a sorted list, before the first member that it does not follow. -/
def insertBy {α : Type} (before : α → α → Bool) (a : α) : List α → List α
  | [] => [a]
  | b :: r => if before a b then a :: b :: r else b :: insertBy before a r

/-- A list sorted; members of which each may stand before the other keep their order. -/
def sortBy {α : Type} (before : α → α → Bool) : List α → List α
  | [] => []
  | a :: r => insertBy before a (sortBy before r)

/-- `f` where the condition holds, nothing otherwise. -/
def doIf {σ : Type} (c : Bool) (f : σ → σ) (s : σ) : σ := if c then f s else s

end Sys2Proof.Machine
end

