-- ==== Sys2Proof/Machine/Regs.lean ====
section
/-!
DEFINITION. The register map of BAR0: the offset of every register, the place of every field, and one
row per register with its access masks and reset value, taken from the register tables of the spec
(R4, R38 to R56, R137, R181, R235, R238, R277, R278, R311, R347, R378, R415, R416, R443, R464, R497).
-/
namespace Sys2Proof.Machine.R

def hifPartId : Nat := 0x00000000
def hifLinkStat : Nat := 0x00000004
def hifWaitLimit : Nat := 0x00000008
def hifErrCnt : Nat := 0x0000000C
def hifWakeDrop : Nat := 0x00000010
def hifBar4WinLo (i : Nat) : Nat := 0x00001000 + 0x8 * i
def hifBar4WinHi (i : Nat) : Nat := 0x00001004 + 0x8 * i
def mshLinkCtrl (i : Nat) : Nat := 0x00200000 + 0x100 * i
def mshLinkStat (i : Nat) : Nat := 0x00200004 + 0x100 * i
def mshLinkErr (i : Nat) : Nat := 0x00200008 + 0x100 * i
def mshLinkDelay (i : Nat) : Nat := 0x0020000C + 0x100 * i
def mshRoute (i : Nat) : Nat := 0x00201000 + 0x40 * i
def mshTestCtrl (i : Nat) : Nat := 0x00201004 + 0x40 * i
def mshTestStat (i : Nat) : Nat := 0x00201008 + 0x40 * i
def engStat (i : Nat) : Nat := 0x01000000 + 0x40 * i
def engFreq (i : Nat) : Nat := 0x01000004 + 0x40 * i
def engFault (i : Nat) : Nat := 0x01000008 + 0x40 * i
def engFaultPcLo (i : Nat) : Nat := 0x0100000C + 0x40 * i
def engFaultPcHi (i : Nat) : Nat := 0x01000010 + 0x40 * i
def engFaultAddrLo (i : Nat) : Nat := 0x01000014 + 0x40 * i
def engFaultAddrHi (i : Nat) : Nat := 0x01000018 + 0x40 * i
def engFaultDetail (i : Nat) : Nat := 0x0100001C + 0x40 * i
def engFaultCnt (i : Nat) : Nat := 0x01000020 + 0x40 * i
def cshWinBase (i : Nat) : Nat := 0x00300000 + 0x10 * i
def cshWinLimit (i : Nat) : Nat := 0x00300004 + 0x10 * i
def cshWinCtrl (i : Nat) : Nat := 0x00300008 + 0x10 * i
def cshWinOver (i : Nat) : Nat := 0x0030000C + 0x10 * i
def cshSliceMap (i : Nat) : Nat := 0x00304000 + 0x10 * i
def cshSliceErr (i : Nat) : Nat := 0x00304004 + 0x10 * i
def cshSaddSat (i : Nat) : Nat := 0x00305000 + 0x4 * i
def cshCtrl : Nat := 0x00305100
def cshHomeTimeout : Nat := 0x00305104
def cshDeadStat : Nat := 0x00305108
def cshFlushBase : Nat := 0x00305110
def cshFlushLimit : Nat := 0x00305114
def cshFlushCtrl : Nat := 0x00305118
def memChCtrl (i : Nat) : Nat := 0x00400000 + 0x20 * i
def memChStat (i : Nat) : Nat := 0x00400004 + 0x20 * i
def memChErr (i : Nat) : Nat := 0x00400008 + 0x20 * i
def memChUeAddr (i : Nat) : Nat := 0x0040000C + 0x20 * i
def memChRepair (i : Nat) : Nat := 0x00400010 + 0x20 * i
def memSetCtrl (i : Nat) : Nat := 0x00408000 + 0x10 * i
def memSetStat (i : Nat) : Nat := 0x00408004 + 0x10 * i
def memScrubCtrl : Nat := 0x00408100
def memRepairCtrl : Nat := 0x00408104
def memMirrorStat : Nat := 0x00408108
def tgcCtrl (i : Nat) : Nat := 0x00500000 + 0x20 * i
def tgcCfg (i : Nat) : Nat := 0x00500004 + 0x20 * i
def tgcRange (i : Nat) : Nat := 0x00500008 + 0x20 * i
def tgcSeed (i : Nat) : Nat := 0x0050000C + 0x20 * i
def tgcStat (i : Nat) : Nat := 0x00500010 + 0x20 * i
def tgcErr (i : Nat) : Nat := 0x00500014 + 0x20 * i
def tgcFirst (i : Nat) : Nat := 0x00500018 + 0x20 * i
def qfeFnQgrp (i : Nat) : Nat := 0x00600000 + 0x40 * i
def qfeFnAdmqCtrl (i : Nat) : Nat := 0x00600004 + 0x40 * i
def qfeFnAdmqRingLo (i : Nat) : Nat := 0x00600008 + 0x40 * i
def qfeFnAdmqRingHi (i : Nat) : Nat := 0x0060000C + 0x40 * i
def qfeFnAdmqEyeletLo (i : Nat) : Nat := 0x00600010 + 0x40 * i
def qfeFnAdmqEyeletHi (i : Nat) : Nat := 0x00600014 + 0x40 * i
def qfeFnAdmqCplLo (i : Nat) : Nat := 0x00600018 + 0x40 * i
def qfeFnAdmqCplHi (i : Nat) : Nat := 0x0060001C + 0x40 * i
def qfeFnAdmqWake (i : Nat) : Nat := 0x00600020 + 0x40 * i
def qfeFnLimit (i : Nat) : Nat := 0x00600024 + 0x40 * i
def qfeFnAdmqHeadLo (i : Nat) : Nat := 0x00600028 + 0x40 * i
def qfeFnAdmqHeadHi (i : Nat) : Nat := 0x0060002C + 0x40 * i
def hoopCtrl (i : Nat) : Nat := 0x00700000 + 0x1000 * i
def hoopStat (i : Nat) : Nat := 0x00700004 + 0x1000 * i
def hoopWays (i : Nat) : Nat := 0x00700008 + 0x1000 * i
def hoopChsets (i : Nat) : Nat := 0x0070000C + 0x1000 * i
def hoopPil (i : Nat) : Nat := 0x00700010 + 0x1000 * i
def hoopSlice (i : Nat) : Nat := 0x00700014 + 0x1000 * i
def hoopKnotWait (i : Nat) : Nat := 0x00700018 + 0x1000 * i
def hoopSaveBaseLo (i : Nat) : Nat := 0x0070001C + 0x1000 * i
def hoopSaveBaseHi (i : Nat) : Nat := 0x00700020 + 0x1000 * i
def hoopSaveSlots (i : Nat) : Nat := 0x00700024 + 0x1000 * i
def hoopSaveStat (i : Nat) : Nat := 0x00700028 + 0x1000 * i
def hoopPreempt (i : Nat) : Nat := 0x0070002C + 0x1000 * i
def hoopEset (i j : Nat) : Nat := 0x00700100 + 0x1000 * i + 0x4 * j
def hoopEngMap (i : Nat) : Nat := 0x00710000 + 0x4 * i
def hoopFnMap (i : Nat) : Nat := 0x00712000 + 0x4 * i
def rollCtrl (i : Nat) : Nat := 0x00780000 + 0x1000 * i
def rollPeriod (i : Nat) : Nat := 0x00780004 + 0x1000 * i
def rollLead (i : Nat) : Nat := 0x00780008 + 0x1000 * i
def rollStat (i : Nat) : Nat := 0x0078000C + 0x1000 * i
def rollPos (i : Nat) : Nat := 0x00780010 + 0x1000 * i
def rollEntLo (i j : Nat) : Nat := 0x00780800 + 0x1000 * i + 0x8 * j
def rollEntHi (i j : Nat) : Nat := 0x00780804 + 0x1000 * i + 0x8 * j
def pilCtrl (i : Nat) : Nat := 0x00800000 + 0x1000 * i
def pilBudget (i : Nat) : Nat := 0x00800004 + 0x1000 * i
def pilPoolBaseLo (i : Nat) : Nat := 0x00800008 + 0x1000 * i
def pilPoolBaseHi (i : Nat) : Nat := 0x0080000C + 0x1000 * i
def pilPoolPages (i : Nat) : Nat := 0x00800010 + 0x1000 * i
def pilPoolFree (i : Nat) : Nat := 0x00800014 + 0x1000 * i
def pilReserve (i : Nat) : Nat := 0x00800018 + 0x1000 * i
def pilPoll (i : Nat) : Nat := 0x0080001C + 0x1000 * i
def pilStepLo (i : Nat) : Nat := 0x00800020 + 0x1000 * i
def pilStepHi (i : Nat) : Nat := 0x00800024 + 0x1000 * i
def pilStat (i : Nat) : Nat := 0x00800028 + 0x1000 * i
def pilStat2 (i : Nat) : Nat := 0x0080002C + 0x1000 * i
def pilSrvCtrl (i j : Nat) : Nat := 0x00800100 + 0x1000 * i + 0x40 * j
def pilSrvBlockLo (i j : Nat) : Nat := 0x00800104 + 0x1000 * i + 0x40 * j
def pilSrvBlockHi (i j : Nat) : Nat := 0x00800108 + 0x1000 * i + 0x40 * j
def pilSrvStat (i j : Nat) : Nat := 0x0080010C + 0x1000 * i + 0x40 * j
def pilEntSel : Nat := 0x00810000
def pilEntData (i : Nat) : Nat := 0x00810004 + 0x4 * i
def shxMap (i : Nat) : Nat := 0x00900000 + 0x4 * i
def shxXCtrl (i j : Nat) : Nat := 0x00908000 + 0x100 * i + 0x40 * j
def shxXBlockLo (i j : Nat) : Nat := 0x00908004 + 0x100 * i + 0x40 * j
def shxXBlockHi (i j : Nat) : Nat := 0x00908008 + 0x100 * i + 0x40 * j
def shxXMap (i j : Nat) : Nat := 0x0090800C + 0x100 * i + 0x40 * j
def shxXDomain (i j : Nat) : Nat := 0x00908010 + 0x100 * i + 0x40 * j
def shxXLast (i j : Nat) : Nat := 0x00908014 + 0x100 * i + 0x40 * j
def shxXStat (i j : Nat) : Nat := 0x00908018 + 0x100 * i + 0x40 * j
def shxMoves : Nat := 0x00909000
def shxDrop : Nat := 0x00909004
def gmpCtrl (i : Nat) : Nat := 0x00A00000 + 0x100 * i
def gmpStat (i : Nat) : Nat := 0x00A00004 + 0x100 * i
def gmpLaneStat (i : Nat) : Nat := 0x00A00008 + 0x100 * i
def gmpErr (i : Nat) : Nat := 0x00A0000C + 0x100 * i
def gmpSecErr (i : Nat) : Nat := 0x00A00010 + 0x100 * i
def gmpDelay (i : Nat) : Nat := 0x00A00014 + 0x100 * i
def gmpPeerSnLo (i : Nat) : Nat := 0x00A00018 + 0x100 * i
def gmpPeerSnHi (i : Nat) : Nat := 0x00A0001C + 0x100 * i
def gmpPeerHash (i j : Nat) : Nat := 0x00A00020 + 0x100 * i + 0x4 * j
def gmpOutTag (i : Nat) : Nat := 0x00A01000 + 0x4 * i
def gmpBdom (i : Nat) : Nat := 0x00A01040 + 0x4 * i
def gmpInMap (i j : Nat) : Nat := 0x00A02000 + 0x400 * i + 0x4 * j
def clkStat (i : Nat) : Nat := 0x00B00000 + 0x40 * i
def clkGate (i : Nat) : Nat := 0x00B00004 + 0x40 * i
def clkCountLo (i : Nat) : Nat := 0x00B00008 + 0x40 * i
def clkCountHi (i : Nat) : Nat := 0x00B0000C + 0x40 * i
def clkCfg : Nat := 0x00B00400
def pwrCtrl : Nat := 0x00C00000
def pwrCeil : Nat := 0x00C00004
def pwrTherm : Nat := 0x00C00008
def pwrPkgStat : Nat := 0x00C0000C
def pwrDieStat (i : Nat) : Nat := 0x00C00100 + 0x10 * i
def pwrDiePower (i : Nat) : Nat := 0x00C00104 + 0x10 * i
def pwrTemp (i : Nat) : Nat := 0x00C00108 + 0x10 * i
def pwrDroop (i : Nat) : Nat := 0x00C0010C + 0x10 * i
def pwrLevel (i : Nat) : Nat := 0x00C00200 + 0x4 * i
def pwrVolt (i j : Nat) : Nat := 0x00C00400 + 0x40 * i + 0x4 * j
def wndDarnCtrl : Nat := 0x00D80000
def wndDarnThresh : Nat := 0x00D80004
def wndDarnReq : Nat := 0x00D80008
def wndDarnStat : Nat := 0x00D8000C
def wndDieStat : Nat := 0x00D80010
def wndRasCnt : Nat := 0x00D80014
def wndMbxStat : Nat := 0x00D80100
def secStat : Nat := 0x00E00000
def secBoot : Nat := 0x00E00004
def secPinStat : Nat := 0x00E00008
def otpGen : Nat := 0x00F00000
def otpReadSel : Nat := 0x00F00004
def otpReadData : Nat := 0x00F00008
def engFrayCtrl : Nat := 0x01800000
def engFrayMargin (i : Nat) : Nat := 0x01801000 + 0x4 * i
def engFrayLimit (i : Nat) : Nat := 0x01803000 + 0x4 * i

end Sys2Proof.Machine.R

namespace Sys2Proof.Machine.F

def hifPartId_PART_CODE : Field := Field.mk 16 16
def hifPartId_SILICON_REV : Field := Field.mk 8 8
def hifPartId_STACK_LOG2 : Field := Field.mk 4 4
def hifPartId_VARIANT : Field := Field.mk 0 4
def hifLinkStat_RATE : Field := Field.mk 0 3
def hifLinkStat_WIDTH : Field := Field.mk 3 5
def hifLinkStat_FLIT : Field := Field.mk 8 1
def hifLinkStat_NO_FLIT : Field := Field.mk 9 1
def hifLinkStat_IDE_STREAMS : Field := Field.mk 10 4
def hifLinkStat_CTRL : Field := Field.mk 14 1
def hifWaitLimit_LIMIT_MS : Field := Field.mk 0 16
def hifErrCnt_BAD_SIZE : Field := Field.mk 0 15
def hifErrCnt_BAR4_DENIED : Field := Field.mk 15 15
def hifErrCnt_CLEAR : Field := Field.mk 31 1
def hifWakeDrop_DROPPED : Field := Field.mk 0 31
def hifWakeDrop_CLEAR : Field := Field.mk 31 1
def mshLinkCtrl_EN : Field := Field.mk 0 1
def mshLinkCtrl_RETRAIN : Field := Field.mk 1 1
def mshLinkCtrl_SWAP_THRESH : Field := Field.mk 4 4
def mshLinkStat_STATE : Field := Field.mk 0 2
def mshLinkStat_BUNDLES : Field := Field.mk 2 5
def mshLinkStat_SPARES_LO : Field := Field.mk 8 6
def mshLinkStat_SPARES_HI : Field := Field.mk 16 6
def mshLinkErr_CRC_ERR : Field := Field.mk 0 16
def mshLinkErr_REPLAY_FAIL : Field := Field.mk 16 12
def mshLinkErr_CLEAR : Field := Field.mk 31 1
def mshLinkDelay_DELAY : Field := Field.mk 0 8
def mshTestCtrl_MODE : Field := Field.mk 0 2
def mshTestCtrl_START : Field := Field.mk 2 1
def mshTestCtrl_PATTERN : Field := Field.mk 8 4
def mshTestStat_DONE : Field := Field.mk 0 1
def mshTestStat_PASS : Field := Field.mk 1 1
def mshTestStat_REFUSED : Field := Field.mk 2 1
def mshTestStat_BUNDLE : Field := Field.mk 8 5
def mshTestStat_ERRORS : Field := Field.mk 16 16
def engStat_STATE : Field := Field.mk 0 2
def engStat_CTX : Field := Field.mk 2 3
def engStat_GROUPS : Field := Field.mk 5 5
def engStat_FILET : Field := Field.mk 10 4
def engStat_HOOP : Field := Field.mk 16 4
def engStat_HOOP_VALID : Field := Field.mk 20 1
def engFreq_FUSED_MHZ : Field := Field.mk 0 11
def engFreq_CAP_MHZ : Field := Field.mk 16 11
def engFault_CODE : Field := Field.mk 0 8
def engFault_CTX_SLOT : Field := Field.mk 8 10
def engFault_GROUP : Field := Field.mk 18 4
def engFault_LANE : Field := Field.mk 22 5
def engFault_VALID : Field := Field.mk 31 1
def engFaultDetail_DETAIL : Field := Field.mk 0 16
def engFaultCnt_LOST : Field := Field.mk 0 16
def cshWinBase_BASE : Field := Field.mk 0 24
def cshWinLimit_LIMIT : Field := Field.mk 0 25
def cshWinCtrl_EN : Field := Field.mk 0 1
def cshWinCtrl_CLASS : Field := Field.mk 1 2
def cshWinCtrl_QUOTA : Field := Field.mk 3 4
def cshWinCtrl_HOMING : Field := Field.mk 7 1
def cshWinCtrl_HOME_DIE : Field := Field.mk 8 3
def cshWinCtrl_NEAR : Field := Field.mk 11 2
def cshWinCtrl_REFUSED : Field := Field.mk 30 1
def cshWinCtrl_BUSY : Field := Field.mk 31 1
def cshWinOver_OVER : Field := Field.mk 0 31
def cshWinOver_CLEAR : Field := Field.mk 31 1
def cshSliceMap_PHYS_DIE : Field := Field.mk 0 3
def cshSliceMap_PHYS_POS : Field := Field.mk 3 6
def cshSliceMap_SHARED : Field := Field.mk 9 1
def cshSliceMap_STATE : Field := Field.mk 10 2
def cshSliceErr_CORRECTED : Field := Field.mk 0 16
def cshSliceErr_POISONED : Field := Field.mk 16 12
def cshSliceErr_CLEAR : Field := Field.mk 31 1
def cshSaddSat_CLAMPED : Field := Field.mk 0 31
def cshSaddSat_CLEAR : Field := Field.mk 31 1
def cshCtrl_DEAD_MODE : Field := Field.mk 0 1
def cshHomeTimeout_TIMEOUT_US : Field := Field.mk 0 13
def cshDeadStat_LOST : Field := Field.mk 0 8
def cshDeadStat_LEDGER_LOST : Field := Field.mk 8 8
def cshDeadStat_REGIONS : Field := Field.mk 16 16
def cshFlushBase_BASE : Field := Field.mk 0 24
def cshFlushLimit_LIMIT : Field := Field.mk 0 25
def cshFlushCtrl_OP : Field := Field.mk 0 2
def cshFlushCtrl_START : Field := Field.mk 2 1
def memChCtrl_TEST : Field := Field.mk 0 1
def memChCtrl_REFUSED : Field := Field.mk 1 1
def memChStat_STATE : Field := Field.mk 0 2
def memChStat_SPARES_LEFT : Field := Field.mk 2 7
def memChStat_REFRESH_2X : Field := Field.mk 9 1
def memChErr_CORRECTED : Field := Field.mk 0 16
def memChErr_UNCORRECTABLE : Field := Field.mk 16 12
def memChErr_CLEAR : Field := Field.mk 31 1
def memChUeAddr_LINE : Field := Field.mk 0 23
def memChUeAddr_SECTOR : Field := Field.mk 23 2
def memChUeAddr_SCRUB : Field := Field.mk 25 1
def memChUeAddr_VALID : Field := Field.mk 31 1
def memChRepair_REPAIRS : Field := Field.mk 0 7
def memChRepair_REPAIR_REFUSED : Field := Field.mk 7 8
def memChRepair_LOGGED : Field := Field.mk 15 5
def memSetCtrl_MODE : Field := Field.mk 0 1
def memSetCtrl_COMMON : Field := Field.mk 1 1
def memSetCtrl_WRITE_OPEN : Field := Field.mk 2 1
def memSetCtrl_CLEAR : Field := Field.mk 3 1
def memSetStat_OWNER : Field := Field.mk 0 5
def memSetStat_CLEARING : Field := Field.mk 5 1
def memSetStat_REFUSED : Field := Field.mk 6 1
def memScrubCtrl_PERIOD_H : Field := Field.mk 0 8
def memRepairCtrl_REPAIR_EN : Field := Field.mk 0 1
def memRepairCtrl_THRESH : Field := Field.mk 4 4
def memRepairCtrl_WINDOW_H : Field := Field.mk 8 8
def memMirrorStat_REDIRECTS : Field := Field.mk 0 16
def memMirrorStat_DOUBLE : Field := Field.mk 16 8
def memMirrorStat_SINGLE : Field := Field.mk 24 7
def memMirrorStat_CLEAR : Field := Field.mk 31 1
def tgcCtrl_START : Field := Field.mk 0 1
def tgcCtrl_STOP : Field := Field.mk 1 1
def tgcCtrl_OP : Field := Field.mk 2 2
def tgcCtrl_RANDOM : Field := Field.mk 4 1
def tgcCfg_PATTERN : Field := Field.mk 0 4
def tgcCfg_ECC_BYPASS : Field := Field.mk 4 1
def tgcCfg_PASSES : Field := Field.mk 8 8
def tgcRange_ROW_FIRST : Field := Field.mk 0 16
def tgcRange_ROW_LAST : Field := Field.mk 16 16
def tgcSeed_SEED : Field := Field.mk 0 32
def tgcStat_DONE : Field := Field.mk 0 1
def tgcStat_PASS : Field := Field.mk 1 1
def tgcStat_REFUSED : Field := Field.mk 2 1
def tgcStat_BW : Field := Field.mk 16 16
def tgcErr_ERRORS : Field := Field.mk 0 14
def tgcErr_PINS : Field := Field.mk 14 18
def tgcFirst_LINE : Field := Field.mk 0 23
def tgcFirst_SECTOR : Field := Field.mk 23 2
def tgcFirst_VALID : Field := Field.mk 31 1
def qfeFnQgrp_BASE : Field := Field.mk 0 14
def qfeFnQgrp_COUNT : Field := Field.mk 16 11
def qfeFnAdmqCtrl_EN : Field := Field.mk 0 1
def qfeFnAdmqCtrl_LOG2 : Field := Field.mk 1 4
def qfeFnAdmqCtrl_CPL_LOG2 : Field := Field.mk 5 4
def qfeFnAdmqCtrl_VECTOR : Field := Field.mk 16 6
def qfeFnAdmqCtrl_ERR : Field := Field.mk 22 2
def qfeFnLimit_CTX_MAX : Field := Field.mk 0 16
def qfeFnLimit_EVR_MAX : Field := Field.mk 16 14
def hoopCtrl_ENABLE : Field := Field.mk 0 1
def hoopCtrl_MGR_DIE : Field := Field.mk 1 3
def hoopCtrl_BUSY : Field := Field.mk 4 1
def hoopCtrl_REFUSED : Field := Field.mk 5 1
def hoopCtrl_REASON : Field := Field.mk 6 4
def hoopStat_STATE : Field := Field.mk 0 2
def hoopStat_ENGINES : Field := Field.mk 2 11
def hoopStat_RT_ENGINES : Field := Field.mk 13 11
def hoopWays_WAYS : Field := Field.mk 0 14
def hoopWays_FIXED : Field := Field.mk 14 2
def hoopChsets_SETS : Field := Field.mk 0 16
def hoopPil_FIRST : Field := Field.mk 0 11
def hoopPil_COUNT : Field := Field.mk 11 12
def hoopSlice_SLICE_US : Field := Field.mk 0 17
def hoopKnotWait_KNOT_US : Field := Field.mk 0 14
def hoopSaveSlots_SLOTS : Field := Field.mk 0 16
def hoopSaveStat_FREE : Field := Field.mk 0 16
def hoopSaveStat_SHORT : Field := Field.mk 16 15
def hoopSaveStat_CLEAR : Field := Field.mk 31 1
def hoopPreempt_KNOT_SAVES : Field := Field.mk 0 16
def hoopPreempt_FULL_SAVES : Field := Field.mk 16 15
def hoopPreempt_CLEAR : Field := Field.mk 31 1
def hoopEset_DIES : Field := Field.mk 0 8
def hoopEset_QUADS : Field := Field.mk 8 4
def hoopEset_FIRST : Field := Field.mk 12 6
def hoopEset_COUNT : Field := Field.mk 18 6
def hoopEset_RT : Field := Field.mk 24 1
def hoopEset_VALID : Field := Field.mk 31 1
def hoopEngMap_HOOP : Field := Field.mk 0 4
def hoopEngMap_VALID : Field := Field.mk 4 1
def hoopEngMap_RT : Field := Field.mk 5 1
def hoopFnMap_HOOP : Field := Field.mk 0 4
def hoopFnMap_VALID : Field := Field.mk 4 1
def rollCtrl_EN : Field := Field.mk 0 1
def rollCtrl_COUNT : Field := Field.mk 1 9
def rollCtrl_REFUSED : Field := Field.mk 10 1
def rollPeriod_PERIOD : Field := Field.mk 0 32
def rollLead_LEAD : Field := Field.mk 0 16
def rollStat_MISSED : Field := Field.mk 0 15
def rollStat_LATE : Field := Field.mk 15 15
def rollStat_CLEAR : Field := Field.mk 31 1
def rollPos_INDEX : Field := Field.mk 0 8
def rollPos_PASS : Field := Field.mk 8 24
def rollEntLo_OFFSET : Field := Field.mk 0 32
def rollEntHi_QUEUE : Field := Field.mk 0 18
def rollEntHi_ESET : Field := Field.mk 18 6
def rollEntHi_VALID : Field := Field.mk 31 1
def pilCtrl_EN : Field := Field.mk 0 1
def pilCtrl_ZERO : Field := Field.mk 1 1
def pilCtrl_BUSY : Field := Field.mk 2 1
def pilCtrl_REFUSED : Field := Field.mk 3 1
def pilCtrl_REASON : Field := Field.mk 4 4
def pilCtrl_LEAD : Field := Field.mk 16 16
def pilBudget_BUDGET : Field := Field.mk 0 14
def pilBudget_CHUNK : Field := Field.mk 16 14
def pilPoolPages_PAGES : Field := Field.mk 0 26
def pilPoolFree_FREE : Field := Field.mk 0 26
def pilReserve_RESERVE : Field := Field.mk 0 26
def pilPoll_POLL_US : Field := Field.mk 0 16
def pilStat_STARVED : Field := Field.mk 0 15
def pilStat_LATE : Field := Field.mk 15 15
def pilStat_CLEAR : Field := Field.mk 31 1
def pilStat2_STALLS : Field := Field.mk 0 16
def pilStat2_REP_FULL : Field := Field.mk 16 15
def pilStat2_CLEAR : Field := Field.mk 31 1
def pilSrvCtrl_EN : Field := Field.mk 0 1
def pilSrvCtrl_REFUSED : Field := Field.mk 1 1
def pilSrvCtrl_REASON : Field := Field.mk 2 4
def pilSrvCtrl_CTX : Field := Field.mk 16 16
def pilSrvStat_LIVE : Field := Field.mk 0 15
def pilSrvStat_DEFERRED : Field := Field.mk 15 15
def pilEntSel_ENTRY : Field := Field.mk 0 11
def pilEntSel_DIE : Field := Field.mk 11 3
def pilEntData_DATA : Field := Field.mk 0 32
def shxMap_DIE : Field := Field.mk 0 3
def shxMap_REMOTE : Field := Field.mk 3 1
def shxMap_PORT : Field := Field.mk 4 3
def shxMap_BUCKET : Field := Field.mk 8 10
def shxMap_VALID : Field := Field.mk 31 1
def shxXCtrl_EN : Field := Field.mk 0 1
def shxXCtrl_REFUSED : Field := Field.mk 1 1
def shxXCtrl_REASON : Field := Field.mk 2 4
def shxXCtrl_CTX : Field := Field.mk 16 16
def shxXMap_MAP_FIRST : Field := Field.mk 0 12
def shxXMap_MAP_COUNT : Field := Field.mk 13 13
def shxXDomain_XID : Field := Field.mk 0 16
def shxXDomain_PORTS : Field := Field.mk 16 8
def shxXLast_LAST : Field := Field.mk 0 32
def shxXStat_MULTI : Field := Field.mk 0 16
def shxXStat_ABORTS : Field := Field.mk 16 15
def shxXStat_CLEAR : Field := Field.mk 31 1
def shxMoves_IN_FLIGHT : Field := Field.mk 0 17
def shxDrop_DROPPED : Field := Field.mk 0 31
def shxDrop_CLEAR : Field := Field.mk 31 1
def gmpCtrl_EN : Field := Field.mk 0 1
def gmpCtrl_RETRAIN : Field := Field.mk 1 1
def gmpCtrl_PEER_CHECK : Field := Field.mk 2 1
def gmpCtrl_BOND_EN : Field := Field.mk 3 1
def gmpCtrl_BOND_PORT : Field := Field.mk 4 3
def gmpStat_STATE : Field := Field.mk 0 3
def gmpStat_WIDTH : Field := Field.mk 3 4
def gmpStat_ROLE : Field := Field.mk 7 1
def gmpStat_BONDED : Field := Field.mk 8 1
def gmpStat_BOND_ERR : Field := Field.mk 9 1
def gmpStat_FAIL_REASON : Field := Field.mk 10 4
def gmpStat_KEY_EPOCH : Field := Field.mk 14 8
def gmpLaneStat_TX_LANES : Field := Field.mk 0 11
def gmpLaneStat_TX_SPARE : Field := Field.mk 11 4
def gmpLaneStat_RX_LANES : Field := Field.mk 15 11
def gmpLaneStat_RX_SPARE : Field := Field.mk 26 4
def gmpLaneStat_REVERSED : Field := Field.mk 30 1
def gmpErr_CRC_ERR : Field := Field.mk 0 16
def gmpErr_RETRAINS : Field := Field.mk 16 12
def gmpErr_CLEAR : Field := Field.mk 31 1
def gmpSecErr_TAG_FAIL : Field := Field.mk 0 8
def gmpSecErr_BRINGUP_FAIL : Field := Field.mk 8 8
def gmpSecErr_CLEAR : Field := Field.mk 31 1
def gmpDelay_FLIGHT : Field := Field.mk 0 8
def gmpDelay_ONE_WAY : Field := Field.mk 8 10
def gmpOutTag_TAG : Field := Field.mk 0 8
def gmpOutTag_PORTS : Field := Field.mk 8 8
def gmpBdom_PORTS : Field := Field.mk 0 8
def gmpInMap_HOOP : Field := Field.mk 0 4
def gmpInMap_VALID : Field := Field.mk 4 1
def clkStat_PLL_LOCK : Field := Field.mk 0 1
def clkStat_REF_OK : Field := Field.mk 1 1
def clkStat_ON_OSC : Field := Field.mk 2 1
def clkStat_ISOLATED : Field := Field.mk 3 1
def clkStat_SRC_FAILS : Field := Field.mk 8 8
def clkGate_TGC : Field := Field.mk 0 1
def clkGate_GMP : Field := Field.mk 1 1
def clkGate_TEST : Field := Field.mk 2 1
def clkGate_HIF_STBY : Field := Field.mk 3 1
def clkGate_REFUSED : Field := Field.mk 31 1
def clkCfg_MESH_DIV : Field := Field.mk 0 1
def pwrCtrl_LMAX : Field := Field.mk 0 4
def pwrCtrl_SAFE_LEVEL : Field := Field.mk 4 4
def pwrCtrl_DROOP_MV : Field := Field.mk 8 8
def pwrCeil_CEIL_W : Field := Field.mk 0 12
def pwrCeil_MAX_W : Field := Field.mk 16 12
def pwrTherm_T_THROTTLE : Field := Field.mk 0 8
def pwrTherm_T_CRIT : Field := Field.mk 8 8
def pwrTherm_T_STACK : Field := Field.mk 16 8
def pwrPkgStat_POWER_W : Field := Field.mk 0 12
def pwrPkgStat_CAP_UNMET : Field := Field.mk 12 1
def pwrPkgStat_WATCHDOG : Field := Field.mk 13 1
def pwrPkgStat_MGR_DIE : Field := Field.mk 14 3
def pwrDieStat_LEVEL : Field := Field.mk 0 4
def pwrDieStat_TARGET : Field := Field.mk 4 4
def pwrDieStat_THERM_LIMIT : Field := Field.mk 8 4
def pwrDieStat_DROOP : Field := Field.mk 12 1
def pwrDieStat_ALERT : Field := Field.mk 13 1
def pwrDieStat_TCRIT : Field := Field.mk 14 1
def pwrDieStat_CHANGING : Field := Field.mk 15 1
def pwrDieStat_WATCHDOG : Field := Field.mk 16 1
def pwrDiePower_CMP_W : Field := Field.mk 0 12
def pwrDiePower_BASE_W : Field := Field.mk 12 12
def pwrTemp_CMP_C : Field := Field.mk 0 8
def pwrTemp_BASE_C : Field := Field.mk 8 8
def pwrTemp_STACK0_C : Field := Field.mk 16 8
def pwrTemp_STACK1_C : Field := Field.mk 24 8
def pwrDroop_EVENTS : Field := Field.mk 0 16
def pwrDroop_FORCES : Field := Field.mk 16 15
def pwrDroop_CLEAR : Field := Field.mk 31 1
def pwrLevel_FREQ_MHZ : Field := Field.mk 0 11
def pwrVolt_MV : Field := Field.mk 0 10
def wndDarnCtrl_AUTO : Field := Field.mk 0 1
def wndDarnCtrl_REHOME : Field := Field.mk 1 1
def wndDarnCtrl_CH_AUTO : Field := Field.mk 2 1
def wndDarnThresh_ENG_CE : Field := Field.mk 0 8
def wndDarnThresh_SLICE_CE : Field := Field.mk 8 8
def wndDarnThresh_CH_UE : Field := Field.mk 16 8
def wndDarnReq_KIND : Field := Field.mk 0 2
def wndDarnReq_INDEX : Field := Field.mk 2 11
def wndDarnReq_GO : Field := Field.mk 13 1
def wndDarnReq_REFUSED : Field := Field.mk 14 1
def wndDarnStat_GENERATION : Field := Field.mk 0 16
def wndDarnStat_BUSY : Field := Field.mk 16 1
def wndDarnStat_FROM_BOARD : Field := Field.mk 17 1
def wndDarnStat_RECORD_BAD : Field := Field.mk 18 1
def wndDieStat_COMPUTE_LOST : Field := Field.mk 0 8
def wndDieStat_BASE_LOST : Field := Field.mk 8 8
def wndDieStat_WINDER : Field := Field.mk 16 3
def wndDieStat_HIF_CTRL : Field := Field.mk 19 1
def wndDieStat_STBY_WINDER_OK : Field := Field.mk 20 1
def wndDieStat_STBY_HIF_OK : Field := Field.mk 21 1
def wndRasCnt_ISSUED : Field := Field.mk 0 16
def wndRasCnt_LOST : Field := Field.mk 16 15
def wndRasCnt_CLEAR : Field := Field.mk 31 1
def wndMbxStat_BUSY : Field := Field.mk 0 1
def wndMbxStat_OP : Field := Field.mk 1 7
def wndMbxStat_LAST_OP : Field := Field.mk 8 8
def wndMbxStat_LAST_STATUS : Field := Field.mk 16 8
def wndMbxStat_EVENTS : Field := Field.mk 24 6
def wndMbxStat_EVT_LOST : Field := Field.mk 30 1
def secStat_DEBUG : Field := Field.mk 0 1
def secStat_SEAL_OK : Field := Field.mk 1 1
def secStat_SEAL_BROKEN : Field := Field.mk 2 1
def secStat_PRES : Field := Field.mk 3 1
def secStat_RNG_FAIL : Field := Field.mk 4 1
def secStat_RECOVERY : Field := Field.mk 5 1
def secBoot_SLOT : Field := Field.mk 0 1
def secBoot_KEY_SLOT : Field := Field.mk 1 1
def secBoot_SVN : Field := Field.mk 2 7
def secBoot_FLOOR : Field := Field.mk 9 7
def secBoot_STAGE : Field := Field.mk 16 3
def secPinStat_PRES_LOW : Field := Field.mk 0 1
def secPinStat_SEAL : Field := Field.mk 1 1
def secPinStat_MG_BUS : Field := Field.mk 2 1
def secPinStat_MG_SWAP : Field := Field.mk 3 1
def secPinStat_MG_ALERT : Field := Field.mk 4 1
def secPinStat_VR_ALERT : Field := Field.mk 8 8
def secPinStat_TDIODE : Field := Field.mk 16 8
def otpGen_CURRENT : Field := Field.mk 0 2
def otpGen_PROGRAMMED : Field := Field.mk 2 4
def otpGen_SPOILED : Field := Field.mk 6 4
def otpGen_SVN_COUNT : Field := Field.mk 10 7
def otpGen_REVOKED : Field := Field.mk 17 2
def otpReadSel_WORD : Field := Field.mk 0 9
def otpReadData_DATA : Field := Field.mk 0 32
def engFrayCtrl_EN : Field := Field.mk 0 1
def engFrayCtrl_START : Field := Field.mk 1 1
def engFrayCtrl_BUSY : Field := Field.mk 2 1
def engFrayCtrl_PERIOD_H : Field := Field.mk 8 8
def engFrayCtrl_GUARD_MHZ : Field := Field.mk 16 8
def engFrayMargin_MEAS_MHZ : Field := Field.mk 0 11
def engFrayMargin_CAP_MHZ : Field := Field.mk 11 11
def engFrayMargin_STALE : Field := Field.mk 30 1
def engFrayMargin_VALID : Field := Field.mk 31 1
def engFrayLimit_LIMIT_MHZ : Field := Field.mk 0 11

end Sys2Proof.Machine.F

namespace Sys2Proof.Machine

/-- The rows of the HIF block. -/
def regTableHif : List RegRow :=
  [RegRow.mk 0x00000000 0 1 0 1 0x0 0x0 0x0 0xD080000 0,
   RegRow.mk 0x00000004 0 1 0 1 0x0 0x0 0x0 0x0 0,
   RegRow.mk 0x00000008 0 1 0 1 0xFFFF 0x0 0x0 0x7D0 0,
   RegRow.mk 0x0000000C 0 1 0 1 0x0 0x0 0x0 0x0 0,
   RegRow.mk 0x00000010 0 1 0 1 0x0 0x0 0x0 0x0 0,
   RegRow.mk 0x00001000 8 128 0 1 0xFFFFFFFF 0x0 0x0 0x0 1,
   RegRow.mk 0x00001004 8 128 0 1 0x1FF 0x0 0x0 0x0 2]

/-- The rows of the MSH block. -/
def regTableMsh : List RegRow :=
  [RegRow.mk 0x00200000 256 10 0 1 0xF1 0x0 0x2 0x41 0,
   RegRow.mk 0x00200004 256 10 0 1 0x0 0x0 0x0 0x0 0,
   RegRow.mk 0x00200008 256 10 0 1 0x0 0x0 0x0 0x0 0,
   RegRow.mk 0x0020000C 256 10 0 1 0x0 0x0 0x0 0x0 0,
   RegRow.mk 0x00201000 64 8 0 1 0x0 0x0 0x0 0x0 0,
   RegRow.mk 0x00201004 64 8 0 1 0xF03 0x0 0x4 0x0 0,
   RegRow.mk 0x00201008 64 8 0 1 0x0 0x4 0x0 0x0 0]

/-- The rows of the CSH block. -/
def regTableCsh : List RegRow :=
  [RegRow.mk 0x00300000 16 1024 0 1 0xFFFFFF 0x0 0x0 0x0 0,
   RegRow.mk 0x00300004 16 1024 0 1 0x1FFFFFF 0x0 0x0 0x0 0,
   RegRow.mk 0x00300008 16 1024 0 1 0x1FFF 0x40000000 0x0 0x0 0,
   RegRow.mk 0x0030000C 16 1024 0 1 0x0 0x0 0x0 0x0 0,
   RegRow.mk 0x00304000 16 256 0 1 0x0 0x0 0x0 0x0 0,
   RegRow.mk 0x00304004 16 256 0 1 0x0 0x0 0x0 0x0 0,
   RegRow.mk 0x00305000 4 16 0 1 0x0 0x0 0x0 0x0 0,
   RegRow.mk 0x00305100 0 1 0 1 0x1 0x0 0x0 0x0 0,
   RegRow.mk 0x00305104 0 1 0 1 0x1FFF 0x0 0x0 0xC8 0,
   RegRow.mk 0x00305108 0 1 0 1 0x0 0x0 0x0 0x0 0,
   RegRow.mk 0x00305110 0 1 0 1 0xFFFFFF 0x0 0x0 0x0 0,
   RegRow.mk 0x00305114 0 1 0 1 0x1FFFFFF 0x0 0x0 0x0 0,
   RegRow.mk 0x00305118 0 1 0 1 0x3 0x0 0x4 0x0 0]

/-- The rows of the MEM block. -/
def regTableMem : List RegRow :=
  [RegRow.mk 0x00400000 32 1024 0 1 0x1 0x2 0x0 0x0 0,
   RegRow.mk 0x00400004 32 1024 0 1 0x0 0x0 0x0 0x100 0,
   RegRow.mk 0x00400008 32 1024 0 1 0x0 0x0 0x0 0x0 0,
   RegRow.mk 0x0040000C 32 1024 0 1 0x0 0x80000000 0x0 0x0 0,
   RegRow.mk 0x00400010 32 1024 0 1 0x0 0x0 0x0 0x0 0,
   RegRow.mk 0x00408000 16 16 0 1 0x7 0x0 0x8 0x0 0,
   RegRow.mk 0x00408004 16 16 0 1 0x0 0x40 0x0 0x1F 0,
   RegRow.mk 0x00408100 0 1 0 1 0xFF 0x0 0x0 0x18 0,
   RegRow.mk 0x00408104 0 1 0 1 0xFFF1 0x0 0x0 0x1881 0,
   RegRow.mk 0x00408108 0 1 0 1 0x0 0x0 0x0 0x0 0]

/-- The rows of the TGC block. -/
def regTableTgc : List RegRow :=
  [RegRow.mk 0x00500000 32 1024 0 1 0x1C 0x0 0x3 0x0 0,
   RegRow.mk 0x00500004 32 1024 0 1 0xFF1F 0x0 0x0 0x100 0,
   RegRow.mk 0x00500008 32 1024 0 1 0xFFFFFFFF 0x0 0x0 0x0 0,
   RegRow.mk 0x0050000C 32 1024 0 1 0xFFFFFFFF 0x0 0x0 0x1 0,
   RegRow.mk 0x00500010 32 1024 0 1 0x0 0x4 0x0 0x0 0,
   RegRow.mk 0x00500014 32 1024 0 1 0x0 0x0 0x0 0x0 0,
   RegRow.mk 0x00500018 32 1024 0 1 0x0 0x0 0x0 0x0 0]

/-- The rows of the QFE block. -/
def regTableQfe : List RegRow :=
  [RegRow.mk 0x00600000 64 128 0 1 0x7FF3FFF 0x0 0x0 0x0 0,
   RegRow.mk 0x00600004 64 128 0 1 0x3F01FF 0x0 0x0 0x88 0,
   RegRow.mk 0x00600008 64 128 0 1 0xFFFFFFFF 0x0 0x0 0x0 1,
   RegRow.mk 0x0060000C 64 128 0 1 0xFFFFFFFF 0x0 0x0 0x0 2,
   RegRow.mk 0x00600010 64 128 0 1 0xFFFFFFFF 0x0 0x0 0x0 1,
   RegRow.mk 0x00600014 64 128 0 1 0xFFFFFFFF 0x0 0x0 0x0 2,
   RegRow.mk 0x00600018 64 128 0 1 0xFFFFFFFF 0x0 0x0 0x0 1,
   RegRow.mk 0x0060001C 64 128 0 1 0xFFFFFFFF 0x0 0x0 0x0 2,
   RegRow.mk 0x00600020 64 128 0 1 0x0 0x0 0x0 0x0 0,
   RegRow.mk 0x00600024 64 128 0 1 0x3FFFFFFF 0x0 0x0 0x0 0,
   RegRow.mk 0x00600028 64 128 0 1 0xFFFFFFFF 0x0 0x0 0x0 1,
   RegRow.mk 0x0060002C 64 128 0 1 0xFFFFFFFF 0x0 0x0 0x0 2]

/-- The rows of the HOOP block, but its maps. -/
def regTableHoop : List RegRow :=
  [RegRow.mk 0x00700000 4096 16 0 1 0xF 0x20 0x0 0x0 0,
   RegRow.mk 0x00700004 4096 16 0 1 0x0 0x0 0x0 0x0 0,
   RegRow.mk 0x00700008 4096 16 0 1 0x3FFF 0x0 0x0 0xFFFF 0,
   RegRow.mk 0x0070000C 4096 16 0 1 0xFFFF 0x0 0x0 0x0 0,
   RegRow.mk 0x00700010 4096 16 0 1 0x7FFFFF 0x0 0x0 0x0 0,
   RegRow.mk 0x00700014 4096 16 0 1 0x1FFFF 0x0 0x0 0x7D0 0,
   RegRow.mk 0x00700018 4096 16 0 1 0x3FFF 0x0 0x0 0xC8 0,
   RegRow.mk 0x0070001C 4096 16 0 1 0xFFFFFFFF 0x0 0x0 0x0 1,
   RegRow.mk 0x00700020 4096 16 0 1 0x1FF 0x0 0x0 0x0 2,
   RegRow.mk 0x00700024 4096 16 0 1 0xFFFF 0x0 0x0 0x0 0,
   RegRow.mk 0x00700028 4096 16 0 1 0x0 0x0 0x0 0x0 0,
   RegRow.mk 0x0070002C 4096 16 0 1 0x0 0x0 0x0 0x0 0,
   RegRow.mk 0x00700100 4096 16 4 64 0x81FFFFFF 0x0 0x0 0x0 0]

/-- The rows of the maps of the HOOP block. -/
def regTableHoopMap : List RegRow :=
  [RegRow.mk 0x00710000 4 2048 0 1 0x3F 0x0 0x0 0x0 0,
   RegRow.mk 0x00712000 4 128 0 1 0x1F 0x0 0x0 0x0 0]

/-- The rows of the ROLL block. -/
def regTableRoll : List RegRow :=
  [RegRow.mk 0x00780000 4096 16 0 1 0x3FF 0x400 0x0 0x0 0,
   RegRow.mk 0x00780004 4096 16 0 1 0xFFFFFFFF 0x0 0x0 0x1312D0 0,
   RegRow.mk 0x00780008 4096 16 0 1 0xFFFF 0x0 0x0 0x400 0,
   RegRow.mk 0x0078000C 4096 16 0 1 0x0 0x0 0x0 0x0 0,
   RegRow.mk 0x00780010 4096 16 0 1 0x0 0x0 0x0 0x0 0,
   RegRow.mk 0x00780800 4096 16 8 256 0xFFFFFFFF 0x0 0x0 0x0 0,
   RegRow.mk 0x00780804 4096 16 8 256 0x80FFFFFF 0x0 0x0 0x0 0]

/-- The rows of the PIL block. -/
def regTablePil : List RegRow :=
  [RegRow.mk 0x00800000 4096 16 0 1 0xFFFF0003 0x8 0x0 0x4000000 0,
   RegRow.mk 0x00800004 4096 16 0 1 0x3FFF3FFF 0x0 0x0 0x8002000 0,
   RegRow.mk 0x00800008 4096 16 0 1 0xFFFFFFFF 0x0 0x0 0x0 1,
   RegRow.mk 0x0080000C 4096 16 0 1 0x1FF 0x0 0x0 0x0 2,
   RegRow.mk 0x00800010 4096 16 0 1 0x3FFFFFF 0x0 0x0 0x0 0,
   RegRow.mk 0x00800014 4096 16 0 1 0x0 0x0 0x0 0x0 0,
   RegRow.mk 0x00800018 4096 16 0 1 0x3FFFFFF 0x0 0x0 0x0 0,
   RegRow.mk 0x0080001C 4096 16 0 1 0xFFFF 0x0 0x0 0x32 0,
   RegRow.mk 0x00800020 4096 16 0 1 0x0 0x0 0x0 0x0 1,
   RegRow.mk 0x00800024 4096 16 0 1 0x0 0x0 0x0 0x0 2,
   RegRow.mk 0x00800028 4096 16 0 1 0x0 0x0 0x0 0x0 0,
   RegRow.mk 0x0080002C 4096 16 0 1 0x0 0x0 0x0 0x0 0,
   RegRow.mk 0x00800100 4096 16 64 4 0xFFFF0001 0x2 0x0 0x0 0,
   RegRow.mk 0x00800104 4096 16 64 4 0xFFFFFFFF 0x0 0x0 0x0 1,
   RegRow.mk 0x00800108 4096 16 64 4 0x1FFFFFF 0x0 0x0 0x0 2,
   RegRow.mk 0x0080010C 4096 16 64 4 0x0 0x0 0x0 0x0 0,
   RegRow.mk 0x00810000 0 1 0 1 0x3FFF 0x0 0x0 0x0 0,
   RegRow.mk 0x00810004 4 16 0 1 0x0 0x0 0x0 0x0 0]

/-- The rows of the SHX block. -/
def regTableShx : List RegRow :=
  [RegRow.mk 0x00900000 4 4096 0 1 0x8003FF7F 0x0 0x0 0x0 0,
   RegRow.mk 0x00908000 256 16 64 4 0xFFFF0001 0x2 0x0 0x0 0,
   RegRow.mk 0x00908004 256 16 64 4 0xFFFFFFFF 0x0 0x0 0x0 1,
   RegRow.mk 0x00908008 256 16 64 4 0x1FFFFFF 0x0 0x0 0x0 2,
   RegRow.mk 0x0090800C 256 16 64 4 0x3FFEFFF 0x0 0x0 0x0 0,
   RegRow.mk 0x00908010 256 16 64 4 0xFFFFFF 0x0 0x0 0x0 0,
   RegRow.mk 0x00908014 256 16 64 4 0x0 0x0 0x0 0x0 0,
   RegRow.mk 0x00908018 256 16 64 4 0x0 0x0 0x0 0x0 0,
   RegRow.mk 0x00909000 0 1 0 1 0x0 0x0 0x0 0x0 0,
   RegRow.mk 0x00909004 0 1 0 1 0x0 0x0 0x0 0x0 0]

/-- The rows of the GMP block. -/
def regTableGmp : List RegRow :=
  [RegRow.mk 0x00A00000 256 8 0 1 0x7D 0x0 0x2 0x0 0,
   RegRow.mk 0x00A00004 256 8 0 1 0x0 0x0 0x0 0x0 0,
   RegRow.mk 0x00A00008 256 8 0 1 0x0 0x0 0x0 0x28005000 0,
   RegRow.mk 0x00A0000C 256 8 0 1 0x0 0x0 0x0 0x0 0,
   RegRow.mk 0x00A00010 256 8 0 1 0x0 0x0 0x0 0x0 0,
   RegRow.mk 0x00A00014 256 8 0 1 0x0 0x0 0x0 0x0 0,
   RegRow.mk 0x00A00018 256 8 0 1 0x0 0x0 0x0 0x0 1,
   RegRow.mk 0x00A0001C 256 8 0 1 0x0 0x0 0x0 0x0 2,
   RegRow.mk 0x00A00020 256 8 4 8 0xFFFFFFFF 0x0 0x0 0x0 0,
   RegRow.mk 0x00A01000 4 16 0 1 0xFFFF 0x0 0x0 0x0 0,
   RegRow.mk 0x00A01040 4 16 0 1 0xFF 0x0 0x0 0x0 0,
   RegRow.mk 0x00A02000 1024 8 4 256 0x1F 0x0 0x0 0x0 0]

/-- The rows of the CLK block. -/
def regTableClk : List RegRow :=
  [RegRow.mk 0x00B00000 64 8 0 1 0x0 0x0 0x0 0x0 0,
   RegRow.mk 0x00B00004 64 8 0 1 0xF 0x80000000 0x0 0x7 0,
   RegRow.mk 0x00B00008 64 8 0 1 0x0 0x0 0x0 0x0 1,
   RegRow.mk 0x00B0000C 64 8 0 1 0x0 0x0 0x0 0x0 2,
   RegRow.mk 0x00B00400 0 1 0 1 0x0 0x0 0x0 0x0 0]

/-- The rows of the PWR block. -/
def regTablePwr : List RegRow :=
  [RegRow.mk 0x00C00000 0 1 0 1 0xFFFF 0x0 0x0 0x236B 0,
   RegRow.mk 0x00C00004 0 1 0 1 0xFFF 0x0 0x0 0x0 0,
   RegRow.mk 0x00C00008 0 1 0 1 0xFFFFFF 0x0 0x0 0x5A695F 0,
   RegRow.mk 0x00C0000C 0 1 0 1 0x0 0x0 0x0 0x0 0,
   RegRow.mk 0x00C00100 16 8 0 1 0x0 0x0 0x0 0xF00 0,
   RegRow.mk 0x00C00104 16 8 0 1 0x0 0x0 0x0 0x0 0,
   RegRow.mk 0x00C00108 16 8 0 1 0x0 0x0 0x0 0x0 0,
   RegRow.mk 0x00C0010C 16 8 0 1 0x0 0x0 0x0 0x0 0,
   RegRow.mk 0x00C00200 4 16 0 1 0x0 0x0 0x0 0x0 0,
   RegRow.mk 0x00C00400 64 8 4 16 0x0 0x0 0x0 0x0 0]

/-- The rows of the WND block. -/
def regTableWnd : List RegRow :=
  [RegRow.mk 0x00D80000 0 1 0 1 0x7 0x0 0x0 0x1 0,
   RegRow.mk 0x00D80004 0 1 0 1 0xFFFFFF 0x0 0x0 0x108040 0,
   RegRow.mk 0x00D80008 0 1 0 1 0x1FFF 0x4000 0x2000 0x0 0,
   RegRow.mk 0x00D8000C 0 1 0 1 0x0 0x40000 0x0 0x0 0,
   RegRow.mk 0x00D80010 0 1 0 1 0x0 0x0 0x0 0x0 0,
   RegRow.mk 0x00D80014 0 1 0 1 0x0 0x0 0x0 0x0 0,
   RegRow.mk 0x00D80100 0 1 0 1 0x0 0x40000000 0x0 0x0 0]

/-- The rows of the SEC and OTP blocks. -/
def regTableSec : List RegRow :=
  [RegRow.mk 0x00E00000 0 1 0 1 0x0 0x0 0x0 0x0 0,
   RegRow.mk 0x00E00004 0 1 0 1 0x0 0x0 0x0 0x0 0,
   RegRow.mk 0x00E00008 0 1 0 1 0x0 0x0 0x0 0x0 0,
   RegRow.mk 0x00F00000 0 1 0 1 0x0 0x0 0x0 0x0 0,
   RegRow.mk 0x00F00004 0 1 0 1 0x1FF 0x0 0x0 0x0 0,
   RegRow.mk 0x00F00008 0 1 0 1 0x0 0x0 0x0 0x0 0]

/-- The rows of the ENG block. -/
def regTableEng : List RegRow :=
  [RegRow.mk 0x01000000 64 2048 0 1 0x0 0x0 0x0 0x0 0,
   RegRow.mk 0x01000004 64 2048 0 1 0x0 0x0 0x0 0x0 0,
   RegRow.mk 0x01000008 64 2048 0 1 0x0 0x80000000 0x0 0x0 0,
   RegRow.mk 0x0100000C 64 2048 0 1 0x0 0x0 0x0 0x0 1,
   RegRow.mk 0x01000010 64 2048 0 1 0x0 0x0 0x0 0x0 2,
   RegRow.mk 0x01000014 64 2048 0 1 0x0 0x0 0x0 0x0 1,
   RegRow.mk 0x01000018 64 2048 0 1 0x0 0x0 0x0 0x0 2,
   RegRow.mk 0x0100001C 64 2048 0 1 0x0 0x0 0x0 0x0 0,
   RegRow.mk 0x01000020 64 2048 0 1 0x0 0x0 0x0 0x0 0]

/-- The rows of the FRAY block. -/
def regTableFray : List RegRow :=
  [RegRow.mk 0x01800000 0 1 0 1 0xFFFF01 0x0 0x2 0x321801 0,
   RegRow.mk 0x01801000 4 2048 0 1 0x0 0x0 0x0 0x0 0,
   RegRow.mk 0x01803000 4 2048 0 1 0x7FF 0x0 0x0 0x7FF 0]

/-- The rows of the block in which an offset lies. -/
def regTable (off : Nat) : List RegRow :=
  if off < 0x00800000 then
    if off < 0x00500000 then
      if off < 0x00300000 then
        if off < 0x00200000 then
          regTableHif
        else
          regTableMsh
      else
        if off < 0x00400000 then
          regTableCsh
        else
          regTableMem
    else
      if off < 0x00700000 then
        if off < 0x00600000 then
          regTableTgc
        else
          regTableQfe
      else
        if off < 0x00710000 then
          regTableHoop
        else
          if off < 0x00780000 then
            regTableHoopMap
          else
            regTableRoll
  else
    if off < 0x00C00000 then
      if off < 0x00A00000 then
        if off < 0x00900000 then
          regTablePil
        else
          regTableShx
      else
        if off < 0x00B00000 then
          regTableGmp
        else
          regTableClk
    else
      if off < 0x00E00000 then
        if off < 0x00D00000 then
          regTablePwr
        else
          regTableWnd
      else
        if off < 0x01000000 then
          regTableSec
        else
          if off < 0x01800000 then
            regTableEng
          else
            regTableFray

end Sys2Proof.Machine
end

