-- ==== Sys2Proof/Machine/State.lean ====
section
/-!
DEFINITION. The state of the block: everything that the spec gives the package, as plain data, the reasons
a step can stop, and the state after reset. Registers are held by BAR0 offset (Machine/Regs.lean names them).
-/
namespace Sys2Proof.Machine

/-! ### The ground mesh (R32 to R56) -/

/-- The four virtual channels (R34). -/
inductive Vc where
  | picot | request | response | bulk
  deriving DecidableEq, Repr

/-- The stops of a die's ground mesh (R32). -/
inductive Stop where
  | quadrant (q : Nat)
  | stack (k : Nat)
  | gimp
  | host
  | barrier
  | exchange
  deriving DecidableEq, Repr

/-- What a flit carries: a memory transaction, a message between units, or a sector's request to a channel controller or its
answer. -/
inductive Cargo where
  | txn (id : Nat)
  | msg (id : Nat)
  | ctl (id : Nat)
  deriving DecidableEq, Repr

/-- A flit in the ground mesh or on a link. `port` is the router input that holds it: 0 local, 1 west,
2 east, 3 south, 4 north. `link` names the link whose replay buffer holds the flit (R41), `slot` the slot of the link that it
took (R39, R40), `since` the order in which it came to where it is. -/
structure Flit where
  vc : Vc
  src : Nat
  dst : Nat
  stop : Stop
  die : Nat
  row : Nat
  col : Nat
  port : Nat
  link : Option Nat
  slot : Nat
  since : Nat
  detour : Bool
  poison : Bool
  seq : Nat
  cargo : Cargo
  deriving DecidableEq, Repr

/-- The mesh of the package outside its registers: flits, the order numbers of what arrives, the round-robin position of each
router output (channel 0 response, 1 request, 2 bulk, with the turns left), the sub-link served next and the slots used at each end
of a link (R39), the picot numbers sent and received (R47), the failed sendings of slot groups and the errors of bundles (R41), the
failing wires of each bundle and direction (R41, R50), and the links that are training. -/
structure Mesh where
  flits : SMap Flit
  nextFlit : Nat
  clock : Nat
  wrr : SMap (Nat × Nat)
  subTurn : SMap Nat         -- at 16 * die + link
  slots : SMap Nat           -- at 16 * die + link
  seqNo : SMap Nat
  seen : SMap (List Nat)
  groupFails : SMap Nat      -- at 64 * (2 * link + direction) + place in the replay buffer
  bundleErrs : SMap Nat
  wires : SMap Nat           -- at 32 * (2 * link + direction) + bundle
  training : List Nat
  poisoned : SMap Nat
  deriving DecidableEq, Repr

/-! ### Memory transactions -/

/-- Who issued a memory transaction. -/
inductive Issuer where
  /-- a lane access of group `g` of engine `e` -/
  | lane (e g : Nat)
  /-- the mover of engine `e`, for filet entry `k` (R119) -/
  | mover (e k : Nat)
  /-- a motif load of engine `e` into a slot of a context (R81) -/
  | motif (e ctx slot : Nat)
  /-- an instruction fetch of group `g` (R107) -/
  | fetch (e g : Nat)
  /-- a page-walk read for group `g` (R108) -/
  | walk (e g : Nat)
  /-- the bulk mover of a copy queue (R254) -/
  | bulk (queue : Nat)
  /-- a BAR4 access of a function (R247) -/
  | host (fn : Nat)
  /-- a message of a peer package, by port and message number (R412) -/
  | peer (port id : Nat)
  /-- a movement of a shuttle exchange (R389 to R396) -/
  | movement (hoop xch mv : Nat)
  /-- what an engine still has in flight of a filet operation that has completed, for the stores of group `g` (R120), or of a
  group that has ended (`g` is 16): `mover` tells whose tags it holds (R130) -/
  | past (e g : Nat) (mover : Bool)
  deriving DecidableEq, Repr

/-- Where the bytes of a transaction live (R140, R28, R290). -/
inductive Space where
  | stack | toile | host
  | peer (port : Nat)
  deriving DecidableEq, Repr

/-- What a transaction asks of its home. -/
inductive MemOp where
  | read | store
  /-- a fence signal to a partner's memory (R198) -/
  | signal
  | atomic (aop size : Nat)
  | reduce (kind g : Nat) (ef et0 et1 : Int) (ss0 ss1 : Nat)
  deriving DecidableEq, Repr

/-- One lane of an atomic request (R106, R167): its byte offset in the line, its operands, and whether it
receives a value. -/
structure LaneReq where
  lane : Nat
  off : Nat
  a : Nat
  b : Nat
  f : Nat
  ret : Bool
  deriving DecidableEq, Repr

/-- How far a transaction has come: at the crossbar, at a near slice, at its home slice, waiting behind the
line (R158), waiting for a way (R161), waiting for stack data (R147), waiting for acknowledgments (R152), on its way back through
the near slice (R154), at a toile bank, at the host controller, at a gimp port, or answered. -/
inductive Stage where
  | crossbar | near | home | queued | alloc | fill | acks | nearFill | toile | host | port | reply
  deriving DecidableEq, Repr

/-- A memory transaction: one request on one 128-byte line. -/
structure Txn where
  issuer : Issuer
  die : Nat
  quad : Nat
  hoop : Option Nat
  ctx : Option Nat
  queue : Nat                -- the queue whose command an engine issued it for
  op : MemOp
  space : Space
  addr : Nat                 -- byte address of the line
  secs : Nat                 -- bit i: sector i is named
  data : Bytes               -- 128 bytes
  mask : Nat                 -- bit i: byte i is written
  lanes : List LaneReq
  va : Nat                   -- the virtual address of byte 0 of the line
  pc : Nat                   -- the instruction or descriptor address
  insn : Nat                 -- the first transaction of the instruction, or of the access, that it is part of
  rd : Nat                   -- destination register or block of a lane load
  size : Nat                 -- SIZE code of a lane access
  offs : List (Nat × Nat)    -- lane and byte offset of each lane access
  mirrored : Bool
  acq : Bool
  noInstall : Bool
  near : Bool                -- it came through the near slice of its die (R154)
  nearDrop : Bool            -- its data is not installed in the near slice (R159)
  dead : Bool                -- the response is discarded (R133, R308)
  idx : Nat                  -- home index
  win : Option Nat           -- couching window that applies
  stage : Stage
  moving : Bool              -- a flit still carries it
  came : Nat                 -- the order in which it reached where it is
  waitAns : Bool
  waitLedger : Bool
  waitStack : Nat
  poison : Nat               -- bit i: sector i is returned poisoned
  words : Nat                -- bit i: 8-byte word i of a line of toile is returned poisoned (R31)
  status : Nat
  results : List (Nat × Nat) -- lane and returned value
  deriving DecidableEq, Repr

/-- What sent a fence signal: a unit for a queue's command, which waits for it when it drains (R307); of an instruction, the group, the
lane and the address that a fault of it names. -/
structure Sender where
  queue : Nat
  unit : Nat
  group : Nat
  lane : Nat
  pc : Nat
  deriving DecidableEq, Repr

/-- What a heartbeat of the active Winder tells the Winder of die 4 (R452): power targets, RAS sequence, GENERATION of the
darning record, routes. -/
structure Heard where
  targets : List Nat
  seq : Nat
  generation : Nat
  routes : List Word
  deriving DecidableEq, Repr

/-- Why a message is sent between units. -/
inductive MsgKind where
  /-- a near slice asks for ownership, for the store it holds (R155) -/
  | ownRequest (txn : Nat)
  /-- the home grants ownership (R155) -/
  | ownGrant (txn : Nat)
  /-- drop a shared copy (R157) -/
  | invalidate (idx line : Nat)
  /-- send back the dirty bytes and drop the copy (R157) -/
  | recall (idx line : Nat)
  /-- the answer of a near slice: the line and its sectors as (number, bytes, dirty mask, poison) -/
  | answer (idx line die : Nat) (secs : List (Nat × Bytes × Nat × Bool))
  /-- an owner has evicted its copy: the same (R157) -/
  | evicted (idx line die : Nat) (secs : List (Nat × Bytes × Nat × Bool))
  /-- dirty ledger of home die `home` (R174) -/
  | ledgerInc (home region : Nat) (txn : Option Nat)
  | ledgerDec (home region : Nat)
  | ledgerAns (txn : Nat)
  /-- a group arrives at a barrier of a launch (R195) -/
  | arrive (queue num scope engine index : Nat)
  /-- a barrier releases (R196) -/
  | release (queue num scope engine : Nat)
  /-- a fault of a context (R133), with the queue whose command faulted -/
  | fault (ctx queue engine : Nat)
  /-- a fence signal bound for the fence's home (R198, R302): the queue whose FENCE_SIGNAL command it is, and what sent it -/
  | signal (ctx addr value : Nat) (queue : Option Nat) (who : Option Sender)
  /-- a fence wait: the waiter is a group of an engine or a queue (R199, R303) -/
  | register (ctx addr target : Nat) (who : Nat × Nat)
  /-- a member of a queue's set is told to save (R327, R502) -/
  | preempt (queue engine : Nat)
  /-- a member has saved, and frees what it held (R327, R502) -/
  | saved (queue engine : Nat)
  /-- an aligned launch, to the barrier unit of a die (R341) -/
  | aligned (launch die : Nat)
  /-- a level target of the power manager, to a die's level controller (R435) -/
  | level (die target : Nat)
  /-- a heartbeat of the active Winder, to the Winder of die 4 (R452) -/
  | heartbeat (k : Heard)
  /-- a message between the exchange units of two dies (R387 to R393) -/
  | shx (m : ShxMsg)
  | fenceRelease (who : Nat × Nat)
  | poll (ctx addr target : Nat) (who : Nat × Nat)
  deriving DecidableEq, Repr

/-- A message between units of the package. -/
structure Msg where
  kind : MsgKind
  src : Nat
  dst : Nat
  frm : Stop
  stop : Stop
  arrived : Bool
  came : Nat                 -- the order in which it arrived
  lost : Bool                -- it came back unanswered, for a link had failed (R46, R54)
  poison : Bool              -- a die's mesh delivered it marked as poisoned (R37)
  deriving DecidableEq, Repr

/-! ### Engines (R88 to R138) -/

/-- One entry of a reconvergence stack (R96). -/
structure Recon where
  rpc : VAddr
  saved : Mask32
  ppc : VAddr
  pmask : Mask32
  deriving DecidableEq, Repr

/-- A parked group (R326, R327, R335): its STATE, its live registers as a mask, its tile ranges as window offset and
length, and the barrier or the fence that it waits for. -/
structure Park where
  why : Nat
  live : Nat
  ranges : List (Nat × Nat)
  arg : Nat
  va : Nat
  target : Nat
  deriving DecidableEq, Repr

/-- What a group is doing: issuing, waiting at a barrier, on a fence or in FWAIT, waiting for an acquire to
finish, parked by a preemption, or stopped. -/
inductive GState where
  | ready
  | barrier (num scope : Nat)
  | fence (addr target scope : Nat) (registered : Bool)
  | fwait (mask : Nat)
  | acquire (scope : Nat)
  | parked (p : Park)
  | stopped
  deriving DecidableEq, Repr

/-- A resident thread group (R90 to R99). -/
structure Group where
  queue : Nat
  ctx : Nat
  n : Nat                    -- registers per lane
  index : Nat                -- launch index
  pc : VAddr
  active : Mask32
  regs : SMap Word           -- register r of lane l at 32 * r + l; 0 where not listed (R92)
  stack : List Recon         -- top first
  aflags : Word
  ftr : Nat
  busy : List Nat            -- registers that an earlier instruction still has to write (R94)
  st : GState
  fenceElapsed : Nat
  krec : Option Int          -- KREC of the KNOT it last executed, while its pc - 8 is that KNOT
  deriving DecidableEq, Repr

/-- A sector of an L1 line, and its poisoned 8-byte words by mask. -/
structure L1Sector where
  data : Bytes
  poison : Nat
  deriving DecidableEq, Repr

/-- A line of an L1 (R107): physical address, the context that filled it, and its valid sectors. -/
structure L1Line where
  addr : Nat
  space : Space
  ctx : Nat
  readOnly : Bool
  secs : List (Nat × L1Sector)
  deriving DecidableEq, Repr

/-- A translation: where a virtual page maps and what it allows (R290, R292). -/
structure Leaf where
  va : Nat                   -- first byte of the page
  size : Nat                 -- bytes of the page
  space : Space
  pa : Nat
  w : Bool
  x : Bool
  mobj : Nat
  deriving DecidableEq, Repr

/-- An entry of a translation buffer (R108), with the context's GEN when it was filled (R293). -/
structure TlbEntry where
  ctx : Nat
  gen : Nat
  leaf : Leaf
  deriving DecidableEq, Repr

/-- A table entry of levels 4 to 1 held from an earlier walk (R108). -/
structure HeldEntry where
  ctx : Nat
  level : Nat                -- level of the next table
  va : Nat                   -- first address that the next table covers
  table : Nat                -- device physical address of the next table
  deriving DecidableEq, Repr

/-- A page walk in progress for a group (R108). -/
structure Walk where
  group : Nat
  ctx : Nat
  lane : Nat                 -- the lane whose address it translates
  va : Nat
  level : Nat
  kind : Nat                 -- 0 read, 1 write, 2 instruction fetch
  gen : Nat
  drop : Bool                -- deliver the result and install nothing (R293)
  deriving DecidableEq, Repr

/-- What a filet LOAD, STORE or OUT to memory still has to move of one 128-byte line, at virtual address `va`: the bytes of the
line as a mask, their values where they are written, and the tile-store places of the sectors that are read, each with its offset in
the line (R201). -/
structure Piece where
  va : Nat
  mask : Nat
  data : Bytes
  tiles : List (Nat × Nat)
  deriving DecidableEq, Repr

/-- An entry of the filet queue (R109 to R122). -/
structure FEntry where
  group : Nat
  lane : Nat                 -- the issuing lane (R109)
  queue : Nat
  ctx : Nat
  pc : VAddr
  words : List Nat
  order : Nat
  started : Bool
  flags : Word
  todo : List Piece
  page : Option Leaf
  deriving DecidableEq, Repr

/-- A tile-store window of a kernel (R126). -/
structure Win where
  queue : Nat
  base : Nat
  size : Nat
  zeroed : Bool
  deriving DecidableEq, Repr

/-- A motif slot (R80 to R84): the source address, the image once loaded, and whether a load is under way. -/
structure Motif where
  src : Nat
  image : Option Bytes
  loading : Bool
  lines : List (Nat × Bytes)
  deriving DecidableEq, Repr

/-- An engine's share of one LAUNCH (R264). -/
structure Share where
  ctx : Nat
  k : Nat
  e : Nat
  n : Nat
  gpe : Nat
  twin : Nat
  kernel : Nat
  args : Nat
  next : Nat
  last : Nat
  started : Bool
  ended : List Nat           -- launch indices of the groups that have ended
  aflags : Word
  saving : Option Nat        -- 1 knot save, 2 full save, while preemption is under way
  slot : Option Nat          -- save slot
  restore : Bool             -- the share is saved in its slot
  kept : List (Nat × Nat × VAddr)   -- saved filet entries in the order of issue, with their lanes and PCs (R330, R501)
  knots : SMap Int           -- KREC of the KNOT before a saved group's pc, by launch index
  deriving DecidableEq, Repr

/-- An engine outside its registers (R88). -/
structure Engine where
  groups : SMap Group
  shares : SMap Share        -- by queue
  l1 : List L1Line
  tlb : List TlbEntry
  held : List HeldEntry
  walks : SMap Walk          -- by transaction
  given : List (Nat × Leaf)  -- what walks that install nothing have brought: group and translation (R293)
  filet : SMap FEntry
  order : Nat
  tile : List Host.Cell      -- tile-store bytes; 0 where not listed
  tilePoison : List Nat      -- 8-byte words that are poisoned (R128)
  wins : List Win
  motifs : SMap Motif        -- at 8 * context + slot
  draining : List Nat        -- contexts whose requests drain (R133)
  picots : List (MsgKind × Nat × Stop)   -- picots that wait for one of its 4 credits, oldest first (R130)
  deriving DecidableEq, Repr

/-! ### The unified cache (R139 to R182) -/

/-- Sector states (R146). -/
inductive SecState where
  | invalid | clean | dirty | partialDirty
  deriving DecidableEq, Repr

/-- A sector held by a slice: its state, its 32 bytes, its dirty mask and its poison bit (R146). -/
structure Sector where
  st : SecState
  data : Bytes
  dirty : Nat
  poison : Bool
  deriving DecidableEq, Repr

/-- Line classes (R160). -/
inductive Class where
  | normal | stream | persist
  deriving DecidableEq, Repr

/-- What a home does when the last near copy has answered (R157). -/
inductive After where
  | none
  | owner (die txn : Nat)
  | serve (txn : Nat)
  | hold
  | evict
  deriving DecidableEq, Repr

/-- The directory of a home line (R156). -/
inductive Dir where
  | none
  | shared (mask : Nat)
  | owned (die : Nat)
  | recall (left : List Nat) (txn : Option Nat) (after : After)
  | held
  deriving DecidableEq, Repr

/-- How a slice holds a line: as its home, or as a near copy, shared or owned (R153). -/
inductive Role where
  | home | near | owned
  deriving DecidableEq, Repr

/-- A line of a slice. -/
structure Line where
  addr : Nat                 -- byte address of the line
  idx : Nat                  -- home index
  role : Role
  way : Nat
  cls : Class
  win : Option Nat
  hoop : Option Nat
  age : Nat                  -- larger is younger
  secs : List Sector
  dir : Dir
  counted : Bool             -- counted by the dirty ledger (R174)
  mirrored : Bool            -- its object is mirrored (R151)
  deriving DecidableEq, Repr

/-- A physical slice: its lines, the transactions and messages waiting in order (R158), and its error counters (R150). -/
structure Slice where
  lines : List Line
  waiting : List Waiter
  clock : Nat
  corrected : Nat
  poisoned : Nat
  deriving DecidableEq, Repr

/-- A walk over a range in progress (R163, R180). -/
inductive WalkKind where
  | flush (win : Nat)
  | demote (win : Nat)
  deriving DecidableEq, Repr

/-- The cache outside its registers. Ledgers are numbered by home die; a ledger's counts are by region. -/
structure Cache where
  slices : SMap Slice        -- at 33 * die + position
  ledgerDie : SMap Nat       -- die that holds the ledger of a home die, where it is not n XOR 4
  ledger : SMap Nat          -- at 2^20 * home die + region
  ledgerWalk : List Nat      -- dies whose walk under R176 has not ended
  winWalks : List WalkKind
  dead : List Nat            -- dies declared lost
  reclaim : List Nat         -- dies whose reclaim walk is under way (R177)
  timeoutMode : List Nat     -- lines whose near copies were called back in timeout mode (R178)
  ledgerTimed : List Nat     -- transactions that began to wait for a ledger in timeout mode (R178)
  flushing : Option (Nat × Nat × Nat)   -- OP, first byte, first byte past (R180)
  deriving DecidableEq, Repr

/-! ### Stacks, toile and controllers (R209 to R238, R28 to R31) -/

/-- Who waits for a sector from a controller. -/
inductive CtlFor where
  /-- a home slice fetches for a line (R147) -/
  | fill (slice line idx sec : Nat)
  /-- a write-back of a line of home die `home` (R148) -/
  | back (home region : Nat) (last : Bool)
  /-- one copy of a mirrored store of a transaction (R151) -/
  | mirror (txn : Nat)
  /-- a read that a primary controller redirects (R229): the request it serves -/
  | redirect (req : Nat)
  deriving DecidableEq, Repr

/-- A request queued at a channel controller: one sector (R218, R219). -/
structure CtlReq where
  chan : Nat
  sector : Nat               -- physical address / 32
  write : Bool
  data : Bytes
  mask : Nat
  poison : Bool
  mirrored : Bool
  who : CtlFor
  die : Nat                  -- where it came from: die and stop
  stop : Stop
  moving : Bool              -- a flit carries it, or its answer
  came : Nat                 -- the order in which it reached its controller
  waiting : Bool             -- it waits for a redirect
  done : Bool                -- its data, or its acceptance, is on the way back
  status : Nat               -- 0x40 where its controller's die could not be reached (R54)
  overtaken : Bool           -- a write to the sector has arrived since the read (R222, R229)
  deriving DecidableEq, Repr

/-- A channel outside its registers. -/
structure Channel where
  openRows : SMap Nat        -- bank to open row
  refreshBank : Nat
  scrub : Nat                -- next sector of the scrub pass
  hot : List (Nat × Nat × Nat)          -- bank, row, corrected errors: the 32 latest rows (R225)
  spares : SMap Nat          -- spare rows used by each bank
  remap : List (Nat × Nat)   -- repaired rows (bank, row)
  log : List (Nat × Nat)     -- repairs awaiting permanent repair (R227)
  repairing : Option (Nat × Nat)
  before : Nat               -- STATE to return to after test (R237)
  clearing : Bool
  deriving DecidableEq, Repr

/-- Sectors that the loss of a base die poisons without being listed (R175): those of the lines homed on the die when it was
lost, by home index or by the ranges of the windows that homed them there, in the regions of 2 MiB given, or in every region.
Sectors written whole since, ranges cleared since and channels cleared since carry no mark. -/
structure Spoiled where
  regions : Option (List Nat)
  idxs : List Nat
  wins : List (Nat × Nat)
  clean : List Nat
  cleared : List (Nat × Nat)
  chans : List Nat
  deriving DecidableEq, Repr

/-- The memory of the package: stack and toile bytes by device physical address (0 where not listed), the
stack sectors that carry the poison mark, and the toile words that are uncorrectable. -/
structure Memory where
  cells : List Host.Cell
  marks : List Nat           -- stack sectors (physical address / 32)
  spoiled : List Spoiled     -- and those that the loss of base dies has poisoned
  toileBad : List Nat        -- toile words (physical address / 8)
  reqs : SMap CtlReq
  nextReq : Nat
  chans : SMap Channel
  keyGen : SMap Nat          -- how often a key has been replaced: of a hoop, and 16 the common one (R232)
  toileZeroing : Bool        -- the toile is being written with zeros (R16)
  deriving DecidableEq, Repr

/-! ### Host link and queues (R239 to R280) -/

/-- A message that leaves the package: what the host, the board or a peer package sees of the device. -/
inductive Posted where
  /-- a posted write to host memory by a function -/
  | write (fn addr : Nat) (data : Bytes)
  /-- a posted write whose bytes came through the mesh poisoned (R37) -/
  | poisonedWrite (fn addr : Nat) (data : Bytes)
  /-- an MSI-X message: function and vector (R273) -/
  | msix (fn vector : Nat)
  /-- an AtomicOp: transaction, lane, address, size in bytes, operands (R241) -/
  | atomicOp (txn lane addr aop size a b : Nat)
  /-- a non-posted read of host memory by a transaction -/
  | read (txn addr : Nat)
  /-- a non-posted read of host memory for the eyelet or the ring of a queue, or of the admin queue of function `who` - 2^18 -/
  | fetch (who addr len : Nat)
  /-- the completion of a BAR read -/
  | completion (fn : Nat) (data : Bytes) (poison : Bool)
  /-- a message on a gimp port: message type, numbers and payload (R399) -/
  | gimp (port kind : Nat) (head : List Nat) (data : Bytes)
  /-- a reply of a management or security protocol: transport, code and bytes (R480, R491) -/
  | reply (via code : Nat) (data : Bytes)
  /-- a pin of the package takes a level (R442, R485, R489) -/
  | pin (name die : Nat) (level : Bool)
  /-- an AVSBus frame that sets rail 0 of a die, in mV (R430) -/
  | avs (die mv : Nat)
  deriving DecidableEq, Repr

/-- An MSI-X table entry (R240). -/
structure MsixEntry where
  addr : Nat
  data : Word
  masked : Bool
  pending : Bool
  deriving DecidableEq, Repr

/-- TDI states of TDISP (R280). -/
inductive Tdi where
  | unlocked | locked | run | error
  deriving DecidableEq, Repr

/-- An admin queue (R278): counts, the last head read, whether an eyelet read or a descriptor read is
outstanding, and the command that has been read. -/
structure AdminQ where
  p : Nat
  c : Nat
  w : Nat
  h : Nat
  eyeletOut : Bool
  descOut : Bool
  wake : Bool
  cmd : Option Bytes
  stale : Bool               -- the command was read before EN was last written to 1
  after : Nat                -- transactions numbered below were accepted before its descriptor read (R293)
  held : List Bytes          -- records waiting for room in the ring
  deriving DecidableEq, Repr

/-- The host controllers outside their registers. -/
structure HostIf where
  msix : SMap MsixEntry      -- at 2048 * function + vector
  fnMask : List Nat          -- functions whose MSI-X function mask is set
  tdi : SMap Tdi
  vfReset : List Nat         -- virtual functions being reset (R344)
  rrs : Bool                 -- configuration requests are answered with Request Retry Status (R16)
  down : Bool
  bar4Log2 : Nat             -- log2 of the bytes of the physical function's BAR4, which Resizable BAR sets (R240, R244)
  d3hot : List Nat           -- functions in D3hot (R240)
  aer : SMap Word            -- Uncorrectable Error Status of a function's Advanced Error Reporting (R240)
  adminQs : SMap AdminQ
  deriving DecidableEq, Repr

/-! ### Contexts, queues, rings and fences (R281 to R311) -/

/-- STATE of a context (R286). -/
inductive CtxState where
  | free | live | faulted | destroying | retiring
  deriving DecidableEq, Repr

/-- The fault state of a context, bytes 32 to 72 of its entry (R286, R287). -/
structure FaultRec where
  code : Nat
  detail : Nat
  engine : Nat
  group : Nat
  lane : Nat
  queue : Nat
  pc : Nat
  addr : Nat
  time : Nat
  die : Nat
  cmd : Bool                 -- it is the fault of a command of `queue` (R271)
  deriving DecidableEq, Repr

/-- A context table entry (R286) with its count of started LAUNCHes (R297) and what its destroy still owes. -/
structure Ctx where
  st : CtxState
  hoop : Nat
  fn : Nat
  gen : Nat
  root : Nat
  motBase : Nat
  motCount : Nat
  slot : Option Nat
  fault : Option FaultRec
  lost : Nat
  launches : Nat             -- LAUNCHes started
  running : List Nat         -- numbers of LAUNCHes started and not completed
  destroyCookie : Nat
  destroyTag : Nat
  forcedUnits : Nat
  quiet : Bool               -- destroyed by a function reset: no record (R344)
  deriving DecidableEq, Repr

/-- Queue kinds (R259). -/
inductive QKind where
  | compute | realTime | copy
  deriving DecidableEq, Repr

/-- STATE of a queue (R299). -/
inductive QState where
  | free | live | stopped | destroying
  deriving DecidableEq, Repr

/-- How far a queue's command has come. `ending`: it has been stopped by a fault of its context, and what it has outstanding
drains (R288). -/
inductive RunPhase where
  | held | running | completing | saving | saved | restoring | ending
  deriving DecidableEq, Repr

/-- A command of a queue: its descriptor and what it has done. -/
structure Run where
  desc : Bytes
  phase : RunPhase
  members : List Nat         -- engines of the set when it started (R319)
  answered : List Nat        -- members that have ended, or have answered a save
  aflags : Nat
  launch : Nat               -- LAUNCH number in the context (R297)
  pins : List (Nat × Nat)    -- context and object pinned (R296)
  pos : Nat                  -- bytes or lines done (COPY, FILL, REDUCE_COPY, FLUSH)
  status : Nat
  detail : Nat
  fault : Bool               -- it is the command whose fault killed the context (R271)
  elapsed : Nat              -- wait-limit time kept while saved (R329)
  slots : List (Nat × Nat)   -- engine and save slot
  frozen : Bool              -- barriers frozen (R327)
  arrivals : SMap (List Nat) -- barrier arrivals, at 8 * number + scope: launch indices
  ended : List Nat           -- launch indices of groups that have ended
  ranges : List (Nat × Nat)  -- physical ranges: those of a FLUSH not yet over, first the one it walks; or the fence of a FENCE_WAIT
  sender : Nat               -- 0 read from the ring; 1 sent by the pillow, 2 by an exchange unit
  deriving DecidableEq, Repr

/-- A queue table entry (R299) with its front end. -/
structure Queue where
  st : QState
  kind : QKind
  log2 : Nat
  ctx : Nat
  evring : Nat
  ring : Nat
  eyelet : Nat
  poll : Nat
  slot : Option Nat
  sched : Word
  pSeen : Nat
  c : Nat
  bound : Bool
  members : List Nat
  boundAt : Nat              -- order in which it was bound
  waitSince : Option Nat     -- order in which it began to wait (R322)
  sliceOver : Bool           -- its slice has ended and it waits to be unbound
  wake : Bool
  eyeletOut : Bool
  eyeletAfter : Nat          -- transactions numbered below were accepted before the eyelet read (R205)
  descOut : Bool
  run : Option Run
  last : Nat                 -- status with which its last command ended
  destroyCookie : Nat
  destroyTag : Nat
  destroyFn : Nat
  silent : Bool              -- its destroy is part of a context's destroy
  drain : List Nat           -- units that still have to drain (R307)
  forced : Nat
  latePins : List (Nat × Nat)    -- pins released when abandoned requests are answered (R308)
  abandoned : List Nat       -- those requests, by transaction or message
  ringPins : List (Nat × Nat)
  deriving DecidableEq, Repr

/-- An event ring table entry (R300) with the last head read and records held by it. -/
structure Ring where
  va : Nat
  headVa : Nat
  w : Nat
  h : Nat
  ctx : Nat
  vector : Nat
  log2 : Nat
  live : Bool
  rereading : Bool
  pins : List (Nat × Nat)
  heldEvents : List Bytes    -- records of fences that wait for room
  deriving DecidableEq, Repr

/-- A registered fence wait (R303). -/
structure FenceWait where
  slice : Nat
  addr : Nat
  target : Nat
  who : Nat × Nat            -- (0, queue) or (1, 16 * engine + group)
  deriving DecidableEq, Repr

/-- The object tables outside memory. Memory-object entries and page tables are bytes of memory. -/
structure Objects where
  ctxs : SMap Ctx
  queues : SMap Queue
  rings : SMap Ring
  waits : List FenceWait
  freeRec : SMap (Nat × Nat) -- tag and function of the admin queue of a free, at 65536 * context + object
  stamp : Nat
  deriving DecidableEq, Repr

/-! ### Hoops, rolls and aligned launches (R312 to R347) -/

/-- An aligned launch in flight (R341, R342): its hoop, the queue and the number of its LAUNCH, whether the pillow sent it, its
lead, the dies whose unit the picot has not reached, and the root counts at which the others release. -/
structure Aligned where
  hoop : Nat
  queue : Nat
  launch : Nat
  pillow : Bool
  lead : Nat
  pendingDies : List Nat
  holding : SMap Nat
  deriving DecidableEq, Repr

/-- A hoop's scheduler and roll outside the registers. -/
structure Hoop where
  freeSlots : List Nat       -- save slots on the free list
  enabling : Bool
  waitSets : List Nat        -- sets whose clear the enable or the disable awaits
  rollStart : Nat
  rollDie : Nat
  preempting : List Nat      -- queues whose members have been sent the preempt picot
  deriving DecidableEq, Repr

structure Sched where
  hoops : SMap Hoop
  aligned : SMap Aligned
  nextAligned : Nat
  deriving DecidableEq, Repr

/-! ### The pillow (R348 to R378) -/

/-- STATE of a pillow entry (R352, R353). -/
inductive EState where
  | free | waiting | prefill | decode | deferred | done
  deriving DecidableEq, Repr

/-- A pillow entry (R352) with the pages it holds in index order, its leaves, and the order of its join. -/
structure PEntry where
  seqId : Nat
  pos : Nat
  promptEnd : Nat
  maxPos : Nat
  arg : Nat
  root : Nat
  lastStep : Nat
  affinity : Nat
  st : EState
  prio : Nat
  server : Nat
  ctxSlot : Nat
  cause : Nat
  data : List Nat
  leaves : List Nat
  joinNo : Nat
  deriving DecidableEq, Repr

/-- A row of a pricking (R372). -/
structure Row where
  die : Nat
  entry : Nat
  pos : Nat
  count : Nat
  prefill : Bool
  first : Bool
  last : Bool
  deriving DecidableEq, Repr

/-- An enabled server (R348 to R351): its block, the count of its requests taken, the counts of its report ring, the
rows of its last step, whether that step's LAUNCH was sent, and whether its context has ended for it (R373). -/
structure Server where
  ctx : Nat
  block : Bytes
  reqC : Nat
  w : Nat
  h : Nat
  rows : List Row
  launched : Bool
  ended : Bool
  deriving DecidableEq, Repr

/-- A hoop's pillow. -/
structure PilHoop where
  free : List Nat            -- free pages, top first (R367)
  servers : SMap Server
  entries : SMap PEntry      -- at 2048 * die + entry number
  reports : List (Nat × Bytes)  -- reports not yet written: server and record (R375)
  paused : Bool              -- the build waits for a full report ring
  idle : Bool                -- the last build launched nothing (R366)
  joins : Nat                -- JOINs taken
  stopped : Bool             -- the free list read poisoned (R461)
  deriving DecidableEq, Repr

structure Pillow where
  hoops : SMap PilHoop
  deriving DecidableEq, Repr

/-! ### The shuttle exchange (R379 to R397) -/

/-- A member die of a domain (R383): a die of the own package (no port), or of the partner behind a port. -/
structure Peer where
  die : Nat
  port : Option Nat
  deriving DecidableEq, Repr

/-- A route of a route list that still waits for its slot (R385, R388). -/
structure Route where
  token : Nat
  g : Nat
  ef : Nat
  bucket : Nat
  dst : Peer
  deriving DecidableEq, Repr

/-- A run of slots of one bucket for one source (R388). -/
structure Grant where
  peer : Peer
  bucket : Nat
  count : Nat
  first : Nat
  deriving DecidableEq, Repr

/-- What a destination knows of the counts of one source (R387, R401): buckets with their counts, and whether the
COUNT marked LAST has come. -/
structure CountTab where
  peer : Peer
  last : Bool
  cells : List (Nat × Nat)
  deriving DecidableEq, Repr

/-- What a destination has granted a source die in a round (R389, R390): its slots, whether the GRANT marked LAST has
come, and whether the FILLED has been sent. -/
structure Fill where
  dst : Peer
  round : Nat
  slots : Nat
  closed : Bool
  sent : Bool
  deriving DecidableEq, Repr

/-- A token movement (R396): a fill of a slot at `peer`, or the combine of a slot of source `peer`. -/
structure Move where
  key : Nat                  -- 4 * hoop + exchange slot
  die : Nat
  fill : Bool
  token : Nat
  g : Nat
  ef : Nat
  peer : Peer
  slot : Nat
  round : Nat
  line : Nat                 -- lines done
  target : Nat
  port : Option Nat          -- where a reduction goes, from the slot record
  buf : Bytes                -- bytes of the line read so far
  bad : Bool                 -- they are poisoned
  ss : Nat                   -- scale words read
  hasSs : Bool
  deriving DecidableEq, Repr

/-- One die's unit in an enabled exchange. The first fields are its part as a source in the open dispatch, those from
`serving` on its part as a destination. -/
structure XDie where
  record : Bytes
  counted : Bool
  routes : List Route        -- routes not yet granted, in route-list order
  left : Nat                 -- routes not yet accounted for
  sent : Nat
  combined : Nat
  lost : Nat
  poisoned : Nat
  rounds : Nat
  wrote : Bool
  fills : List Fill
  todo : List Move           -- movements not yet started (R396)
  serving : Nat              -- dispatch that it serves as a destination
  tabs : List CountTab
  tabs2 : List CountTab      -- counts of the next dispatch (R394)
  gone : List Nat            -- partners that have aborted, or whose port has failed
  phase : Nat                -- 0 waiting for counts, 1 a round is being filled, 2 its LAUNCH runs, 3 combining
  round : Nat
  ungranted : List Grant     -- pairs of bucket and source, in order, not yet granted
  grants : List Grant        -- grants of the round
  arrived : List Nat         -- slots of the round whose record has arrived
  filled : List Peer
  doneTo : List Peer
  tally : List (Peer × Nat × Nat)    -- slots combined and lines poisoned of each source
  received : Nat             -- slots filled in the dispatch it serves
  lastReceived : Nat         -- and in the one before
  deriving DecidableEq, Repr

/-- An enabled exchange (R379): its context and block, L of R386, and the open dispatch: its STATUS so far, the partners
that it has lost; and the last dispatch counted in MULTI. -/
structure Xch where
  ctx : Nat
  block : Bytes
  last : Nat
  opened : Bool
  status : Nat
  gone : List Nat
  multiAt : Nat
  dies : SMap XDie
  deriving DecidableEq, Repr

/-- The exchange units of the package. -/
structure Shx where
  xchs : SMap Xch            -- at 4 * hoop + slot
  moves : SMap Move
  nextMove : Nat
  deriving DecidableEq, Repr

/-! ### Gimp ports (R398 to R416) -/

/-- A message in a port's transmit queue or replay buffer: MTYPE, chunks, and the fields of R400. -/
structure PMsg where
  kind : Nat
  chunks : Nat
  tag : Nat
  xid : Nat
  id : Nat
  addr : Nat
  dst : Nat
  src : Nat
  aux : Nat
  body : Bytes
  deriving DecidableEq, Repr

/-- A flit held for replay: its sequence number, how often it has been sent, its kind, its messages. -/
structure PFlit where
  seq : Nat
  sends : Nat
  fkind : Nat
  msgs : List PMsg
  deriving DecidableEq, Repr

/-- A message that its receiver has still to acknowledge end to end (R401, R407, R412): the context that sent it, the
partner address, the transaction that it carries, by its number and without its data, or the movement that waits for it, and the
message's type. -/
structure Unacked where
  id : Nat
  kind : Nat
  ctx : Option Nat
  addr : Nat
  req : Option (Nat × Txn)
  move : Option Nat
  late : Bool                -- the command that it was issued for has ended
  deriving DecidableEq, Repr

/-- A fence signal that a port holds until earlier peer writes of its context, each named by port and identifier, are
acknowledged (R413). -/
structure HeldSignal where
  id : Nat
  who : Unacked
  tag : Nat
  value : Nat
  after : List (Nat × Nat)
  deriving DecidableEq, Repr

/-- A port outside its registers. -/
structure Port where
  step : Nat                 -- bring-up step of R410 under way; 0 none
  closing : Bool             -- EN cleared, messages still held
  resuming : Bool            -- retraining has ended, COUNTER not yet announced
  secret : Bytes
  transcript : Bytes
  txKey : Bytes
  rxKey : Bytes
  txSalt : Bytes
  rxSalt : Bytes
  txCount : Nat
  rxCount : Nat
  rxLast : Nat               -- last resumed COUNTER accepted (R409)
  nextSeq : Nat
  expSeq : Nat
  nak : Bool
  replay : List PFlit
  queue : List PMsg
  credits : List Nat
  wrr : Nat × Nat
  nextId : Nat
  unacked : List Unacked
  signals : List HeldSignal
  peerCheck : Bool           -- PEER_CHECK, BOND_EN, BOND_PORT and GMP_PEER_HASH as the last bring-up took them (R416)
  bondEn : Bool
  bondPort : Nat
  peerHash : List Word
  deriving DecidableEq, Repr

/-- A system barrier under way (R414): queue, number, instance, whether BARRIER has left here, the peer stores that it waits for
(R207), and the ports whose BARRIER has come. -/
structure SysBarrier where
  queue : Nat
  num : Nat
  inst : Nat
  hoop : Nat
  ready : Bool               -- complete at device scope here
  sent : Bool
  after : List Nat
  from_ : List Nat
  deriving DecidableEq, Repr

structure Gimp where
  ports : SMap Port
  barriers : List SysBarrier
  instances : SMap Nat       -- completions of a barrier number of a queue, at 4 * queue + number
  deriving DecidableEq, Repr

/-! ### Clocks and power (R417 to R443) -/

/-- The start-up of a die's clocks (R420). -/
inductive ClkStage where
  | low          -- PWROK low
  | waiting      -- PWROK seen
  | counting     -- trimmed oscillator stable; reference edges are counted
  | acquiring    -- root PLL acquisition
  | running      -- locked, clocks released
  deriving DecidableEq, Repr

/-- A level change in progress (R430). -/
structure Change where
  level : Nat
  raise : Bool
  volt : Bool                -- the voltage frame has been sent and the voltage is not yet reached
  stepping : Bool
  deriving DecidableEq, Repr

/-- Why a die is forced to L0 (R438). -/
inductive Force where
  | alert | tcrit
  deriving DecidableEq, Repr

/-- One die's clocks and power outside the registers. -/
structure DieClk where
  stage : ClkStage
  safe : Bool                -- outputs in the safe states of R426
  counter : Nat
  freq : Nat                 -- MHz of the level clock now
  change : Option Change
  next : Option Nat          -- target that waits for the change or the force to end
  droops : List Nat          -- quadrants whose detector is tripped
  droopRef : Nat             -- level whose voltage is the detectors' reference
  forces : List Force
  tripped : Bool             -- THERMTRIP_N driven low
  temps : List Nat           -- compute, base, stack 2d, stack 2d+1
  cmpW : Nat
  baseW : Nat
  deriving DecidableEq, Repr

/-- Clocks and power of the package: the level of PWROK, whether every die waits for a recovery reset (R427), the dies,
the manager's targets, and whether its first loop is still to come (R435). -/
structure Clocks where
  pwrok : Bool
  recovering : Bool
  dies : SMap DieClk
  targets : List Nat
  firstLoop : Bool
  deriving DecidableEq, Repr

/-! ### Darning (R444 to R464) -/

/-- A darning in progress. -/
structure Darning where
  kind : Nat                 -- 0 engine, 1 slice
  unit : Nat
  spare : Option Nat
  fromReq : Bool
  deriving DecidableEq, Repr

/-- The active Winder's reliability state. -/
structure Ras where
  hold : List Bytes          -- records held for the admin ring (R446)
  seq : Nat
  darnings : List Darning
  chanUe : SMap (List Nat)   -- rows with uncorrectable reads within 24 hours
  heard : Heard
  takeover : Bool            -- a take-over is under way (R452)
  generation : Nat
  sliceSpare : SMap Nat      -- position that a die's spare serves
  spareRetired : List Nat
  sliceOut : List Nat        -- slices (33 * die + position) retired
  chanOut : List Nat
  measuring : List Nat       -- engines being measured
  recordWait : Bool          -- boot waits for a darning record (R455)
  deriving DecidableEq, Repr

/-! ### Boot, identity and the mailbox (R465 to R497) -/

/-- A settings generation of the array (R468): bytes 0 to 223, and whether its programming ended, so that its DIGEST is
good. -/
structure Gen where
  body : Bytes
  whole : Bool
  deriving DecidableEq, Repr

/-- A secure session of SPDM (R480). -/
structure Session where
  heartbeats : Nat
  epoch : Nat
  deriving DecidableEq, Repr

/-- SPDM as negotiated on the mailbox of the physical function (R480, R481). -/
structure Spdm where
  version : Bool
  caps : Bool
  algs : Bool
  slh : Bool
  sessions : SMap Session
  deriving DecidableEq, Repr

/-- A signature asked of a signing unit (R483): by a port, over SPDM, or through the mailbox. -/
structure SignReq where
  who : Nat                  -- 0 port, 1 CHALLENGE, 2 GET_MEASUREMENTS, 3 KEY_EXCHANGE, 4 ATTEST
  arg : Nat
  message : Bytes
  deriving DecidableEq, Repr

/-- A long operation of the mailbox (R493). `phase`: 0 working, 1 waiting for a press of PRES_N, 2 waiting for
the hold, 3 waiting for a signature. -/
structure LongOp where
  cmd : Nat
  via : Nat
  seq : Nat
  payload : Bytes
  phase : Nat
  status : Nat
  deriving DecidableEq, Repr

structure Security where
  factory : Bytes            -- FACTORY of the array (R466)
  fwKeys : List Bytes        -- FW_KEY0 and FW_KEY1
  revoked : Nat              -- KEY_REVOKE
  svnFuses : Nat             -- SVN_FUSES, 64 bits
  gens : SMap Gen            -- settings generations that hold a programmed bit (R468)
  current : Option Nat       -- current generation (R469)
  settings : Bytes           -- bytes 0 to 223 of the current generation; zeros where none is good
  slots : SMap (SMap Bytes)  -- sectors of 4,096 bytes of firmware slots A (0) and B (1), by offset (R471)
  first : Nat                -- FIRST of the directory
  chain : Bytes
  copies : List Nat          -- dies whose Winder still has to check its copy (R475)
  rngRow : SMap Nat          -- health-test failures in a row of a die's source (R479)
  spdm : Spdm
  waiting : List SignReq
  signing : Option SignReq
  ide : SMap (Nat × Bytes)   -- selective stream: session and key (R484)
  longOp : Option LongOp
  events : List Bytes        -- event records of the Winder (R496)
  jtag : Nat                 -- instruction of the test port: 0 BYPASS, 1 IDCODE, 2 SAMPLE, 3 EXTEST, 4 CLAMP, 5 HIGHZ
  boundary : Bytes
  dead : Bool                -- no Winder remains in service
  deriving DecidableEq, Repr

/-! ### The part, and the whole state -/

/-- What manufacture fixes in one part (R1 to R4, R131, R429, R499). -/
structure Part where
  high : Bool                -- TDX8-H; otherwise TDX8-1T
  rev : Nat                  -- SILICON_REV
  serial : Nat
  fused : SMap Nat           -- FUSED_MHZ where it is not 1,250
  volts : SMap Nat           -- rail-0 voltage of a level of a die where it is not typical, at 16 * die + level
  unassigned : List Nat      -- OPCODE values that the Axgaox reference does not assign
  deriving DecidableEq, Repr

/-- Why the model stops. -/
inductive Fault where
  /-- Raised by a frequency step that takes an engine clock above half the mesh clock of its die. R421: "When
  either limit is broken, this manual does not define the device's behaviour." Safe: the model stops where the
  device goes on in a way that is not defined. -/
  | clockRatioUndefined
  deriving DecidableEq, Repr

/-- Why the model gives a command no meaning. -/
inductive Refusal where
  /-- Raised by the dispatcher for a row of the table without a meaning. Safe. -/
  | notModelled (mnemonic : String)
  deriving DecidableEq, Repr

/-- The device: what manufacture fixes, every register, the engines and the units of the package, what has left the package, and
the commands that wait. -/
structure State where
  part : Part
  /-- registers by BAR0 offset; one that is not listed holds its reset value -/
  regs : SMap Word
  /-- holding registers of the low halves of pairs (R12) -/
  hold : SMap Word
  /-- high halves captured by a read of a low half (R12) -/
  capt : SMap Word
  mesh : Mesh
  txns : SMap Txn
  msgs : SMap Msg
  nextId : Nat
  engs : SMap Engine
  cache : Cache
  mem : Memory
  host : HostIf
  objs : Objects
  sched : Sched
  pil : Pillow
  shx : Shx
  gmp : Gimp
  clk : Clocks
  ras : Ras
  sec : Security
  /-- what has left the package, oldest first -/
  posted : List Posted
  /-- free values drawn so far -/
  free : Nat
  /-- the commands that wait, first in, first out -/
  pending : List Instr
  deriving DecidableEq, Repr

/-! ### The state after reset -/

/-- An engine that holds nothing (R88, R92). -/
def Engine.empty : Engine :=
  { groups := [], shares := [], l1 := [], tlb := [], held := [], walks := [], given := [], filet := [], order := 0, tile := [],
    tilePoison := [], wins := [], motifs := [], draining := [], picots := [] }

/-- A slice that holds nothing. -/
def Slice.empty : Slice := { lines := [], waiting := [], clock := 0, corrected := 0, poisoned := 0 }

/-- A channel after reset. -/
def Channel.empty : Channel :=
  { openRows := [], refreshBank := 0, scrub := 0, hot := [], spares := [], remap := [], log := [],
    repairing := none, before := 0, clearing := false }

def AdminQ.empty : AdminQ :=
  { p := 0, c := 0, w := 0, h := 0, eyeletOut := false, descOut := false, wake := false, cmd := none, stale := false, after := 0,
    held := [] }

def Hoop.empty : Hoop :=
  { freeSlots := [], enabling := false, waitSets := [], rollStart := 0, rollDie := 0, preempting := [] }

def PilHoop.empty : PilHoop :=
  { free := [], servers := [], entries := [], reports := [], paused := false, idle := true, joins := 0, stopped := false }

def Port.empty : Port :=
  { step := 0, closing := false, resuming := false, secret := [], transcript := [], txKey := [], rxKey := [],
    txSalt := [], rxSalt := [], txCount := 0, rxCount := 0, rxLast := 0, nextSeq := 0, expSeq := 0, nak := false,
    replay := [], queue := [], credits := [32, 512, 1024, 4096], wrr := (0, 4), nextId := 0, unacked := [],
    signals := [], peerCheck := false, bondEn := false, bondPort := 0, peerHash := [] }

/-- One die's clocks when PWROK has just risen (R420): safe states held, L0, 25 degrees at every sensor
(DESIGN CHOICE: the manual gives no temperature). -/
def DieClk.start : DieClk :=
  { stage := .waiting, safe := true, counter := 0, freq := 400, change := none, next := none, droops := [],
    droopRef := 0, forces := [], tripped := false, temps := [25, 25, 25, 25], cmpW := 0, baseW := 0 }

def Mesh.empty : Mesh :=
  { flits := [], nextFlit := 0, clock := 0, wrr := [], subTurn := [], slots := [], seqNo := [], seen := [], groupFails := [],
    bundleErrs := [], wires := [], training := [], poisoned := [] }

def Cache.empty : Cache :=
  { slices := [], ledgerDie := [], ledger := [], ledgerWalk := [], winWalks := [], dead := [], reclaim := [],
    timeoutMode := [], ledgerTimed := [], flushing := none }

def Memory.empty : Memory :=
  { cells := [], marks := [], spoiled := [], toileBad := [], reqs := [], nextReq := 0, chans := [], keyGen := [],
    toileZeroing := false }

def HostIf.empty : HostIf :=
  { msix := [], fnMask := [], tdi := [], vfReset := [], rrs := false, down := true, bar4Log2 := 34, d3hot := [], aer := [],
    adminQs := [] }

def Objects.empty : Objects :=
  { ctxs := [], queues := [], rings := [], waits := [], freeRec := [], stamp := 0 }

def Sched.empty : Sched := { hoops := [], aligned := [], nextAligned := 0 }

def Clocks.start : Clocks :=
  { pwrok := true, recovering := false, dies := (List.range 8).map (fun d => (d, DieClk.start)), targets := List.replicate 8 0,
    firstLoop := true }

def Ras.empty : Ras :=
  { hold := [], seq := 0, darnings := [], chanUe := [],
    heard := { targets := List.replicate 8 0, seq := 0, generation := 0, routes := [] }, takeover := false, generation := 0,
    sliceSpare := [], spareRetired := [], sliceOut := [], chanOut := [], measuring := [], recordWait := false }

/-- Bytes 0 to 223 of the generation that the factory programs, of the part of State.reset: FW_KEYS 1, MAX_W
2,000 W, every other field 0 (DESIGN CHOICE: the manual gives the layout and the ranges, not a part's values). -/
def factorySettings : Bytes :=
  [0x5A, 0xC3, 0, 1, 0xD0, 0x07] ++ List.replicate 218 0

def Spdm.empty : Spdm := { version := false, caps := false, algs := false, slh := false, sessions := [] }

/-- The security units of the part of State.reset: generation 0 programmed, no key revoked, no security
version fused, blank flash slots, PRES_N high. -/
def Security.start : Security :=
  { factory := List.replicate 56 0, fwKeys := [List.replicate 64 0, List.replicate 64 0], revoked := 0,
    svnFuses := 0,
    gens := [(0, { body := factorySettings, whole := true })], current := some 0,
    settings := factorySettings, slots := [], first := 0, chain := [], copies := [], rngRow := [],
    spdm := Spdm.empty, waiting := [], signing := none, ide := [], longOp := none, events := [], jtag := 1, boundary := [],
    dead := false }

/-- The part that State.reset describes: a TDX8-1T of the first silicon revision, serial number 1, every engine
fused at 1,250 MHz, typical voltages, every OPCODE value assigned (DESIGN CHOICE: fused values differ from
part to part). -/
def Part.first : Part :=
  { high := false, rev := 1, serial := 1, fused := [], volts := [], unassigned := [] }

/-- The machine when PWROK has risen: every register at its reset value (R15, R16), nothing resident, memory
with nothing listed, the clock sequencers at the first row of R420, and no command waiting. Every channel set waits for its clear
under a new common key: OWNER 31 and CLEARING 1 in MEM_SET_STAT (R16, R232, R233); the toile for its zeros. -/
def State.reset : State :=
  { part := Part.first, regs := (List.range 16).map (fun j => (0x00408004 + 0x10 * j, 63#32)), hold := [], capt := [], mesh := Mesh.empty, txns := [], msgs := [],
    nextId := 0, engs := [], cache := Cache.empty,
    mem := { Memory.empty with keyGen := [(16, 1)], toileZeroing := true },
    host := { HostIf.empty with rrs := true },
    objs := Objects.empty, sched := Sched.empty, pil := { hoops := [] },
    shx := { xchs := [], moves := [], nextMove := 0 },
    gmp := { ports := [], barriers := [], instances := [] }, clk := Clocks.start, ras := Ras.empty,
    sec := Security.start, posted := [], free := 0, pending := [] }

end Sys2Proof.Machine
end

