-- ==== Sys2Proof/Machine/Ops.lean ====
section
/-!
DEFINITION. The shared operations on the state: registers and their fields, the die counters, what leaves the
package, the bytes of memory, and the engines, slices and channels by number.
-/
namespace Sys2Proof.Machine

/-- The state with its `regs` changed by `f`. -/
def State.onRegs (f : SMap Word → SMap Word) (s : State) : State := { s with regs := f s.regs }

/-- The state with its `hold` changed by `f`. -/
def State.onHold (f : SMap Word → SMap Word) (s : State) : State := { s with hold := f s.hold }

/-- The state with its `capt` changed by `f`. -/
def State.onCapt (f : SMap Word → SMap Word) (s : State) : State := { s with capt := f s.capt }

/-- The state with its `mesh` changed by `f`. -/
def State.onMesh (f : Mesh → Mesh) (s : State) : State := { s with mesh := f s.mesh }

/-- The state with its `txns` changed by `f`. -/
def State.onTxns (f : SMap Txn → SMap Txn) (s : State) : State := { s with txns := f s.txns }

/-- The state with its `msgs` changed by `f`. -/
def State.onMsgs (f : SMap Msg → SMap Msg) (s : State) : State := { s with msgs := f s.msgs }

/-- The state with its `engs` changed by `f`. -/
def State.onEngs (f : SMap Engine → SMap Engine) (s : State) : State := { s with engs := f s.engs }

/-- The state with its `cache` changed by `f`. -/
def State.onCache (f : Cache → Cache) (s : State) : State := { s with cache := f s.cache }

/-- The state with its `mem` changed by `f`. -/
def State.onMem (f : Memory → Memory) (s : State) : State := { s with mem := f s.mem }

/-- The state with its `host` changed by `f`. -/
def State.onHost (f : HostIf → HostIf) (s : State) : State := { s with host := f s.host }

/-- The state with its `objs` changed by `f`. -/
def State.onObjs (f : Objects → Objects) (s : State) : State := { s with objs := f s.objs }

/-- The state with its `sched` changed by `f`. -/
def State.onSched (f : Sched → Sched) (s : State) : State := { s with sched := f s.sched }

/-- The state with its `pil` changed by `f`. -/
def State.onPil (f : Pillow → Pillow) (s : State) : State := { s with pil := f s.pil }

/-- The state with its `shx` changed by `f`. -/
def State.onShx (f : Shx → Shx) (s : State) : State := { s with shx := f s.shx }

/-- The state with its `gmp` changed by `f`. -/
def State.onGmp (f : Gimp → Gimp) (s : State) : State := { s with gmp := f s.gmp }

/-- The state with its `clk` changed by `f`. -/
def State.onClk (f : Clocks → Clocks) (s : State) : State := { s with clk := f s.clk }

/-- The state with its `ras` changed by `f`. -/
def State.onRas (f : Ras → Ras) (s : State) : State := { s with ras := f s.ras }

/-- The state with its `sec` changed by `f`. -/
def State.onSec (f : Security → Security) (s : State) : State := { s with sec := f s.sec }

/-- The state with its `posted` changed by `f`. -/
def State.onPosted (f : List Posted → List Posted) (s : State) : State := { s with posted := f s.posted }

/-! ### Registers (R8 to R15) -/

/-- The instance numbers of an offset in a row of the register table. -/
def RegRowHit (r : RegRow) (off : Nat) : Bool :=
  if off < r.base then false
  else
    let d := off - r.base
    let i := if r.s1 = 0 then 0 else d / r.s1
    let e := if r.s1 = 0 then d else d % r.s1
    let j := if r.s2 = 0 then 0 else e / r.s2
    let f := if r.s2 = 0 then e else e % r.s2
    decide (i < r.c1) && decide (j < r.c2) && f == 0

/-- The engine identifiers that name a slot: slots 36 to 63 name none (R7, R137). -/
def engineId (e : Nat) : Bool := decide (e < 2048) && decide (e % 64 < 36)

/-- Offsets of registers of engine positions that name no engine (R137). -/
def noEngineReg (off : Nat) : Bool :=
  if off < 0x00710000 then false
  else if off < 0x00712000 then !engineId ((off - 0x00710000) / 4)
  else if off < 0x01000000 then false
  else if off < 0x01020000 then !engineId ((off - 0x01000000) / 0x40)
  else if off < 0x01801000 then false
  else if off < 0x01803000 then !engineId ((off - 0x01801000) / 4)
  else if off < 0x01805000 then !engineId ((off - 0x01803000) / 4)
  else false

/-- The row of the register that an offset names; none where it names no register (R10). -/
def regRow (off : Nat) : Option RegRow :=
  if noEngineReg off then none else (regTable off).find? (fun r => RegRowHit r off)

/-- The frequency that level `i` gives a die, in MHz (R429). -/
def levelMhz (i : Nat) : Nat :=
  ([400, 500, 600, 700, 800, 875, 950, 1025, 1100, 1150, 1200, 1250, 1290, 1325, 1360, 1400] : List Nat).getD i 1400

/-- The typical rail-0 voltage of level `i` in mV (R429). -/
def levelMv (i : Nat) : Nat :=
  ([550, 570, 590, 610, 630, 650, 670, 690, 705, 720, 735, 750, 770, 790, 810, 830] : List Nat).getD i 830

/-- FUSED_MHZ of an engine (R131). -/
def State.fusedMhz (s : State) (e : Nat) : Nat := SMap.getD s.part.fused e 1250

/-- MAX_W of the settings in force, kept within 1,100 and 2,000 (R470). -/
def State.maxW (s : State) : Nat := max 1100 (min 2000 (numAt s.sec.settings 4 2))

/-- The row-first route of R44 from die `d` to die `k`, as EDGE_k codes it: 0 local, 1 west, 2 east, 3 south. -/
def rowFirst (d k : Nat) : Nat :=
  if d = k then 0
  else if k % 4 < d % 4 then 1
  else if d % 4 < k % 4 then 2
  else 3

/-- MSH_ROUTE_d at reset (R44). -/
def routeReset (d : Nat) : Word :=
  BitVec.ofNat 32 ((List.range 8).foldl (fun a k => a + rowFirst d k * 16 ^ k) 0)

/-- HIF_PART_ID of a part (R4). -/
def partId (p : Part) : Word :=
  BitVec.ofNat 32 (0x0D08 * 2 ^ 16 + (p.rev % 256) * 2 ^ 8 + (if p.high then 0x52 else 0x61))

/-- The reset value of a register: the table's, or the part's for the fields that manufacture, the settings
block or the darning map give (R15). -/
def State.resetReg (s : State) (off : Nat) : Word :=
  let row := match regRow off with
    | some r => r.reset
    | none => 0
  if off < 0x00300000 then
    if off = R.hifPartId then partId s.part
    else if 0x00201000 ≤ off ∧ off < 0x00201200 ∧ (off - 0x00201000) % 0x40 = 0 then routeReset ((off - 0x00201000) / 0x40)
    else row
  else if off < 0x00B00000 then
    if 0x00304000 ≤ off ∧ off < 0x00305000 ∧ (off - 0x00304000) % 0x10 = 0 then
      let i := (off - 0x00304000) / 0x10
      BitVec.ofNat 32 (i / 32 + (i % 32) * 8)
    else row
  else if off < 0x01000000 then
    if off = R.clkGate 0 then 0xF#32
    else if off = R.clkCfg then BitVec.ofNat 32 (numAt s.sec.settings 6 1 % 2)
    else if off = R.pwrCeil then BitVec.ofNat 32 (s.maxW + s.maxW * 2 ^ 16)
    else if 0x00C00200 ≤ off ∧ off < 0x00C00240 then BitVec.ofNat 32 (levelMhz ((off - 0x00C00200) / 4))
    else if 0x00C00400 ≤ off ∧ off < 0x00C00600 then
      let d := (off - 0x00C00400) / 0x40
      let i := (off - 0x00C00400) % 0x40 / 4
      BitVec.ofNat 32 (SMap.getD s.part.volts (16 * d + i) (levelMv i))
    else if off = R.wndDieStat then BitVec.ofNat 32 (2 ^ 20 + 2 ^ 21)
    else row
  else if off < 0x01020000 ∧ (off - 0x01000000) % 0x40 = 4 then
    let m := s.fusedMhz ((off - 0x01000000) / 0x40)
    BitVec.ofNat 32 (m + m * 2 ^ 16)
  else row

/-- The value that a register holds. -/
def State.rd (s : State) (off : Nat) : Word := (SMap.get? s.regs off).getD (s.resetReg off)

/-- A register takes a value. -/
def State.wr (off : Nat) (w : Word) (s : State) : State := s.onRegs (fun r => SMap.put r off w)

/-- A field of a register. -/
def State.fld (s : State) (f : Field) (off : Nat) : Nat := Fget f (s.rd off)

/-- A one-bit field of a register. -/
def State.bit (s : State) (f : Field) (off : Nat) : Bool := Fget f (s.rd off) != 0

/-- A field of a register takes a value; the register's other bits keep theirs. -/
def State.setF (f : Field) (off : Nat) (v : Nat) (s : State) : State := s.wr off (Fset f v (s.rd off))

/-- A counter field of a register is raised by `n` and stops at its largest value. -/
def State.bump (f : Field) (off n : Nat) (s : State) : State :=
  s.setF f off (satAdd (2 ^ f.len - 1) (s.fld f off) n)

/-- The 64-bit value of a register pair whose low half lies at `lo` (R12). -/
def State.rd64 (s : State) (lo : Nat) : Nat := (s.rd lo).toNat + 2 ^ 32 * (s.rd (lo + 4)).toNat

/-- A register pair takes a 64-bit value, both halves together; the holding register equals the low half
(R12). -/
def State.wr64 (lo v : Nat) (s : State) : State :=
  ((s.wr lo (BitVec.ofNat 32 v)).wr (lo + 4) (BitVec.ofNat 32 (v / 2 ^ 32))).onHold
    (fun h => SMap.put h lo (BitVec.ofNat 32 v))

/-- Every register at an offset from `a` to `b` - 1 takes its reset value, and the holding registers of its
pairs with it (R12, R15). -/
def State.resetRange (a b : Nat) (s : State) : State :=
  ((s.onRegs (fun r => r.filter (fun p => p.1 < a || b ≤ p.1))).onHold
    (fun r => r.filter (fun p => p.1 < a || b ≤ p.1))).onCapt (fun r => r.filter (fun p => p.1 < a || b ≤ p.1))

/-- The stage of the boot (R475). -/
def State.stage (s : State) : Nat := s.fld F.secBoot_STAGE R.secBoot

/-- Whether an offset lies in a register of a block whose clock is gated: the traffic generators of a die, a gimp port, or the
test logic of a die (R423). -/
def State.gated (s : State) (off : Nat) : Bool :=
  if 0x00500000 ≤ off ∧ off < 0x00508000 then !s.bit F.clkGate_TGC (R.clkGate ((off - 0x00500000) / 0x1000))
  else if 0x00A00000 ≤ off ∧ off < 0x00A00800 then !s.bit F.clkGate_GMP (R.clkGate ((off - 0x00A00000) / 0x100))
  else if 0x00A02000 ≤ off ∧ off < 0x00A04000 then !s.bit F.clkGate_GMP (R.clkGate ((off - 0x00A02000) / 0x400))
  else if 0x00201000 ≤ off ∧ off < 0x00201200 ∧ (off - 0x00201000) % 0x40 ≠ 0 then !s.bit F.clkGate_TEST (R.clkGate ((off - 0x00201000) / 0x40))
  else false

/-- Whether a register of the physical function's BAR0 answers: power is on (R19), its block is not gated (R10, R423), and in recovery it is
HIF_PART_ID or lies in the WND, SEC or OTP block (R476). -/
def State.regLive (s : State) (off : Nat) : Bool :=
  s.clk.pwrok && !s.gated off && (s.stage != 7 || off == R.hifPartId || (decide (0x00D80000 ≤ off) && decide (off < 0x00D90000)) ||
    (decide (0x00E00000 ≤ off) && decide (off < 0x01000000)))

/-- A write reaches a register only where the register answers. -/
def State.atReg (off : Nat) (f : State → State) (s : State) : State := if s.regLive off then f s else s

/-! ### Free values, die counters and what leaves the package -/

/-- A fresh free number, and the state that has drawn it. -/
def State.draw (s : State) : Nat × State := (Config.freeNat s.free, { s with free := s.free + 1 })

/-- A die's clocks. -/
def State.dieClk (s : State) (d : Nat) : DieClk := SMap.getD s.clk.dies d DieClk.start

/-- A die's clocks changed. -/
def State.onDie (d : Nat) (f : DieClk → DieClk) (s : State) : State :=
  s.onClk (fun c => { c with dies := SMap.upd c.dies d DieClk.start f })

/-- Whether the engine, mesh and stack-controller clocks of a die run: they stop in the safe states, and without power (R19, R420, R426). -/
def State.runs (s : State) (d : Nat) : Bool := s.clk.pwrok && !(s.dieClk d).safe

/-- What happens while PWROK is high; with it low the package is held in reset (R19). -/
def State.powered (f : State → State) (s : State) : State := if s.clk.pwrok then f s else s

/-- What a die does while its clocks run. -/
def State.running (d : Nat) (f : State → State) (s : State) : State := if s.runs d then f s else s

/-- Time passes: the counter of every die whose root runs advances by one free amount (R419, R343). -/
def State.passTime (s : State) : State :=
  let n := Config.elapsed s.free
  { s with
    free := s.free + 1
    clk := { s.clk with dies := s.clk.dies.map (fun p =>
      if p.2.stage = .running then (p.1, { p.2 with counter := (p.2.counter + n) % 2 ^ 64 }) else p) } }

/-- The free-running counter of a die (R419). -/
def State.count (s : State) (d : Nat) : Nat := (s.dieClk d).counter

/-- A message leaves the package. -/
def State.post (p : Posted) (s : State) : State := s.onPosted (fun l => l ++ [p])

/-! ### Units by number -/

def State.eng (s : State) (e : Nat) : Engine := SMap.getD s.engs e Engine.empty
def State.onEng (e : Nat) (f : Engine → Engine) (s : State) : State :=
  s.onEngs (fun m => SMap.upd m e Engine.empty f)
def State.grp? (s : State) (e g : Nat) : Option Group := SMap.get? (s.eng e).groups g
def State.onGrp (e g : Nat) (f : Group → Group) (s : State) : State :=
  s.onEng e (fun n => { n with groups := SMap.modify n.groups g f })
def State.slice (s : State) (p : Nat) : Slice := SMap.getD s.cache.slices p Slice.empty
def State.onSlice (p : Nat) (f : Slice → Slice) (s : State) : State :=
  s.onCache (fun c => { c with slices := SMap.upd c.slices p Slice.empty f })
def State.chan (s : State) (c : Nat) : Channel := SMap.getD s.mem.chans c Channel.empty
def State.onChan (c : Nat) (f : Channel → Channel) (s : State) : State :=
  s.onMem (fun m => { m with chans := SMap.upd m.chans c Channel.empty f })
def State.txn? (s : State) (i : Nat) : Option Txn := SMap.get? s.txns i
def State.onTxn (i : Nat) (f : Txn → Txn) (s : State) : State := s.onTxns (fun m => SMap.modify m i f)
def State.delTxn (i : Nat) (s : State) : State := s.onTxns (fun m => SMap.del m i)
def State.msg? (s : State) (i : Nat) : Option Msg := SMap.get? s.msgs i
def State.delMsg (i : Nat) (s : State) : State := s.onMsgs (fun m => SMap.del m i)
def State.ctx? (s : State) (c : Nat) : Option Ctx := SMap.get? s.objs.ctxs c
def State.onCtx (c : Nat) (f : Ctx → Ctx) (s : State) : State :=
  s.onObjs (fun o => { o with ctxs := SMap.modify o.ctxs c f })
def State.queue? (s : State) (q : Nat) : Option Queue := SMap.get? s.objs.queues q
def State.onQueue (q : Nat) (f : Queue → Queue) (s : State) : State :=
  s.onObjs (fun o => { o with queues := SMap.modify o.queues q f })
def State.onRun (q : Nat) (f : Run → Run) (s : State) : State :=
  s.onQueue q (fun u => { u with run := u.run.map f })
def State.ring? (s : State) (r : Nat) : Option Ring := SMap.get? s.objs.rings r
def State.onRing (r : Nat) (f : Ring → Ring) (s : State) : State :=
  s.onObjs (fun o => { o with rings := SMap.modify o.rings r f })
def State.hoop (s : State) (h : Nat) : Hoop := SMap.getD s.sched.hoops h Hoop.empty
def State.onHoop (h : Nat) (f : Hoop → Hoop) (s : State) : State :=
  s.onSched (fun c => { c with hoops := SMap.upd c.hoops h Hoop.empty f })
def State.adm (s : State) (f : Nat) : AdminQ := SMap.getD s.host.adminQs f AdminQ.empty
def State.onAdm (f : Nat) (g : AdminQ → AdminQ) (s : State) : State :=
  s.onHost (fun h => { h with adminQs := SMap.upd h.adminQs f AdminQ.empty g })
def State.pilH (s : State) (h : Nat) : PilHoop := SMap.getD s.pil.hoops h PilHoop.empty
def State.onPilH (h : Nat) (f : PilHoop → PilHoop) (s : State) : State :=
  s.onPil (fun p => { p with hoops := SMap.upd p.hoops h PilHoop.empty f })
def State.port (s : State) (n : Nat) : Port := SMap.getD s.gmp.ports n Port.empty
def State.onPort (n : Nat) (f : Port → Port) (s : State) : State :=
  s.onGmp (fun g => { g with ports := SMap.upd g.ports n Port.empty f })

/-! ### Addresses (R28, R140, R282, R318) -/

/-- log2 of the size of a channel set: 36 on TDX8-1T, 35 on TDX8-H (R211). -/
def State.setBits (s : State) : Nat := if s.part.high then 35 else 36

/-- The first address past stack memory (R140). -/
def State.stackEnd (s : State) : Nat := 16 * 2 ^ s.setBits

/-- Toile: first address and first address past it (R28). -/
def toileBase : Nat := 0x10000000000
def toileEnd : Nat := 0x10040000000

def isToile (pa : Nat) : Bool := decide (toileBase ≤ pa) && decide (pa < toileEnd)
def State.isStack (s : State) (pa : Nat) : Bool := decide (pa < s.stackEnd)

/-- The die whose toile holds an address (R28). -/
def toileDie (pa : Nat) : Nat := (pa - toileBase) / 0x08000000

/-- The quadrant of the toile bank that holds an address (R28). -/
def toileBank (pa : Nat) : Nat := (pa - toileBase) % 0x08000000 / 0x02000000

/-- The table regions at the top of the toile of dies 0 and 4 (R282). -/
def inTables (pa : Nat) : Bool :=
  (decide (0x10006000000 ≤ pa) && decide (pa < 0x10008000000)) ||
  (decide (0x10026000000 ≤ pa) && decide (pa < 0x10028000000))

/-- First address and length of a hoop's save pool (R318, R334). -/
def State.savePool (s : State) (h : Nat) : Nat × Nat :=
  ((s.rd64 (R.hoopSaveBaseLo h)) % 2 ^ 41 / 2 ^ 16 * 2 ^ 16, s.fld F.hoopSaveSlots_SLOTS (R.hoopSaveSlots h) * 0x108000)

/-- Whether an address lies in the protected save pool of some hoop (R318). -/
def State.inSavePool (s : State) (pa : Nat) : Bool :=
  (List.range 16).any (fun h => s.fld F.hoopStat_STATE (R.hoopStat h) != 0 &&
    decide ((s.savePool h).1 ≤ pa) && decide (pa < (s.savePool h).1 + (s.savePool h).2))

/-- Whether an address names memory that requests may reach: stack memory or toile, outside the regions of R282 and
R318. -/
def State.reachable (s : State) (pa : Nat) : Bool :=
  (s.isStack pa || isToile pa) && !inTables pa && !s.inSavePool pa

/-! ### Bytes of memory -/

/-- A byte of memory, by device physical address; 0 where not listed (R16, R233; the power-on contents are the
choice of notes/assumptions/4.md). -/
def cellAt : List Host.Cell → Nat → Byte
  | [], _ => 0
  | (b, v) :: r, a => if b = a then v else if a < b then 0 else cellAt r a

/-- Memory with one byte written; a byte of 0 is not listed. -/
def cellPut : List Host.Cell → Nat → Byte → List Host.Cell
  | [], a, v => if v = 0 then [] else [(a, v)]
  | (b, u) :: r, a, v =>
    if a < b then (if v = 0 then (b, u) :: r else (a, v) :: (b, u) :: r)
    else if a = b then (if v = 0 then r else (a, v) :: r)
    else (b, u) :: cellPut r a v

/-- The canonical form of memory: addresses strictly rising, no byte of 0 listed. -/
def Memory.wfCells : List Host.Cell → Bool
  | [] => true
  | [(_, v)] => v != 0
  | (a, v) :: (b, u) :: r => v != 0 && decide (a < b) && Memory.wfCells ((b, u) :: r)

/-- The memory of a state is in its canonical form. -/
def Memory.wf (m : Memory) : Bool := Memory.wfCells m.cells

/-- `n` bytes of a memory from address `a`. -/
def cellsAt (m : List Host.Cell) (a : Nat) : Nat → Bytes
  | 0 => []
  | n + 1 => cellAt m a :: cellsAt m (a + 1) n

/-- The bytes `bs` that the mask names, written from address `a` into cells that lie no lower: bit i names byte i. -/
def cellsWrite (m : List Host.Cell) (a : Nat) (mask : Nat) : Bytes → List Host.Cell
  | [] => m
  | b :: bs => cellsWrite (if mask % 2 = 1 then cellPut m a b else m) (a + 1) (mask / 2) bs

/-- A memory with the bytes of `bs` that the mask names written at address `a`: bit i names byte i. -/
def cellsMask (m : List Host.Cell) (a : Nat) (mask : Nat) (bs : Bytes) : List Host.Cell :=
  m.takeWhile (fun c => decide (c.1 < a)) ++ cellsWrite (m.dropWhile (fun c => decide (c.1 < a))) a mask bs

/-- A memory with the bytes `bs` at address `a`. -/
def cellsPut (m : List Host.Cell) (a : Nat) (bs : Bytes) : List Host.Cell := cellsMask m a (2 ^ bs.length - 1) bs

/-- A memory with `n` zero bytes from address `a`. -/
def cellsZero (m : List Host.Cell) (a n : Nat) : List Host.Cell :=
  m.filter (fun c => c.1 < a || a + n ≤ c.1)

/-- The bytes of `new` that the mask names in place of those of `old`. -/
def mergeBytes : Bytes → Bytes → Nat → Bytes
  | o :: os, n :: ns, m => (if m % 2 = 1 then n else o) :: mergeBytes os ns (m / 2)
  | o, _, _ => o

/-- The mask of `n` bytes from byte `o`. -/
def maskOf (o n : Nat) : Nat := (2 ^ n - 1) * 2 ^ o

/-- The mask of sector `i` within a line mask. -/
def secMask (mask i : Nat) : Nat := mask / 2 ^ (32 * i) % 2 ^ 32

/-- All 32 bytes of a sector. -/
def fullMask : Nat := 2 ^ 32 - 1

/-- A numbered member of a list of numbers, added once and kept in rising order. -/
def addNum (l : List Nat) (n : Nat) : List Nat :=
  match l with
  | [] => [n]
  | k :: r => if n < k then n :: k :: r else if n = k then k :: r else k :: addNum r n

/-- A number taken from a list. -/
def delNum (l : List Nat) (n : Nat) : List Nat := l.filter (fun k => k != n)

/-- The function's hoop, where HOOP_FN_MAP gives one. -/
def State.fnHoop (s : State) (f : Nat) : Option Nat :=
  if s.bit F.hoopFnMap_VALID (R.hoopFnMap f) then some (s.fld F.hoopFnMap_HOOP (R.hoopFnMap f)) else none

/-- The hoop that owns an engine, where HOOP_ENG_MAP gives one. -/
def State.engHoop (s : State) (e : Nat) : Option Nat :=
  if s.bit F.hoopEngMap_VALID (R.hoopEngMap e) then some (s.fld F.hoopEngMap_HOOP (R.hoopEngMap e)) else none

/-- The managing die of a hoop. -/
def State.mgrDie (s : State) (h : Nat) : Nat := (s.hoop h).rollDie

/-- Die and quadrant of an engine identifier (R7). -/
def engDie (e : Nat) : Nat := e / 256
def engQuad (e : Nat) : Nat := e % 256 / 64

/-- Every engine identifier that names a slot, in rising order (R7). -/
def allEngines : List Nat :=
  (List.range 8).flatMap (fun d => (List.range 4).flatMap (fun q =>
    (List.range 36).map (fun t => 256 * d + 64 * q + t)))

/-- The active Winder's die (R452). -/
def State.winder (s : State) : Nat := s.fld F.wndDieStat_WINDER R.wndDieStat

/-- Base dies and compute dies declared lost (R458). -/
def State.baseLost (s : State) (d : Nat) : Bool := (s.fld F.wndDieStat_BASE_LOST R.wndDieStat).testBit d
def State.computeLost (s : State) (d : Nat) : Bool := (s.fld F.wndDieStat_COMPUTE_LOST R.wndDieStat).testBit d

/-- Order numbers that have been used. -/
def State.ticks (n : Nat) (s : State) : State := s.onObjs (fun o => { o with stamp := o.stamp + n })

/-- The next order number, for ages and waits. -/
def State.tick (s : State) : Nat × State :=
  (s.objs.stamp, s.onObjs (fun o => { o with stamp := o.stamp + 1 }))

end Sys2Proof.Machine
end

