-- ==== Sys2Proof/Machine/Mem.lean ====
section
/-!
DEFINITION. Where the bytes of stack memory live: home index, set and tag, physical slice, channel and row,
mirror address, couching windows; sector states; and how a unit of the device reads and writes the newest copy
of memory (R141 to R149, R211, R215, R228).
-/
namespace Sys2Proof.Machine

/-- The home index of a stack address under hash homing (R141). -/
def homeIndex (pa : Nat) : Nat :=
  bitsOf 14 7 pa ^^^ bitsOf 22 15 pa ^^^ bitsOf 30 23 pa ^^^ bitsOf 38 31 pa ^^^ (bitsOf 39 39 pa * 32)

/-- Set and tag of a line within a slice (R142). -/
def cacheSet (pa : Nat) : Nat := bitsOf 39 15 pa % 6144
def cacheTag (pa : Nat) : Nat := homeIndex pa * 2 ^ 13 + bitsOf 39 15 pa / 6144

/-- First byte of the 128-byte line of an address. -/
def lineOf (pa : Nat) : Nat := pa / 128 * 128

/-- A place in the stacks: global channel, bank, row, slot, sector, and the channel-local line index. -/
structure Loc where
  chan : Nat
  bank : Nat
  row : Nat
  slot : Nat
  sector : Nat
  line : Nat
  deriving DecidableEq, Repr

/-- Bank, row and slot of a channel-local line index (R215). -/
def bankOf (line : Nat) : Nat := (line / 16 ^^^ line / 256) % 16

/-- `stack_location` of R215, for a set of 2^w bytes and its MODE. -/
def stackLocation (w : Nat) (mode : Bool) (pa : Nat) : Loc :=
  let j := pa / 2 ^ w
  let k := homeIndex pa % 8
  let d := if mode then bitsOf (w - 1) (w - 3) pa else homeIndex pa / 32
  let line := if mode then bitsOf (w - 4) 15 pa * 32 + bitsOf 14 10 pa
    else bitsOf (w - 1) 15 pa * 4 + bitsOf 11 10 pa
  { chan := 64 * (2 * d + k / 4) + 4 * j + k % 4, bank := bankOf line, row := line / 256, slot := line % 16,
    sector := bitsOf 6 5 pa, line := line }

/-- The channel set of a stack address (R211). -/
def State.setOf (s : State) (pa : Nat) : Nat := pa / 2 ^ s.setBits

/-- MODE of the set of a stack address (R215). -/
def State.setMode (s : State) (pa : Nat) : Bool := s.bit F.memSetCtrl_MODE (R.memSetCtrl (s.setOf pa))

/-- The place of a stack address (R215). -/
def State.locOf (s : State) (pa : Nat) : Loc := stackLocation s.setBits (s.setMode pa) pa

/-- Whether a die is in stand-alone test mode (R56). -/
def State.inTest (s : State) (d : Nat) : Bool := s.fld F.mshTestCtrl_MODE (R.mshTestCtrl d) != 0

/-- The channel that a home on die `d` uses for an address: in test mode the die's own two stacks (R56). -/
def State.chanFor (s : State) (d pa : Nat) : Nat :=
  let l := s.locOf pa
  if s.inTest d then 64 * (2 * d + l.chan / 64 % 2) + l.chan % 64 else l.chan

/-- The address of the mirror copy of a line (R228). -/
def State.mirrorOf (s : State) (pa : Nat) : Nat :=
  pa ^^^ (if s.setMode pa then 2 ^ (s.setBits - 1) else 2 ^ 22)

/-- The die behind whose base die a channel's controller sits (R210). -/
def chanDie (c : Nat) : Nat := c / 128

/-- STATE of a channel: 1 in service (R235). -/
def State.chanState (s : State) (c : Nat) : Nat := s.fld F.memChStat_STATE (R.memChStat c)

/-- The physical slice that serves a home index (R145), as 33 * die + position. -/
def State.physSlice (s : State) (idx : Nat) : Nat :=
  33 * s.fld F.cshSliceMap_PHYS_DIE (R.cshSliceMap idx) + s.fld F.cshSliceMap_PHYS_POS (R.cshSliceMap idx)

/-- The near slice of die `d` for a home index (R153). -/
def State.nearSlice (s : State) (d idx : Nat) : Nat := s.physSlice (32 * d + idx % 32)

/-- Die and quadrant of the crossbar of an index: of its physical slice's die, and of the index (R26, R27). -/
def State.idxDie (s : State) (idx : Nat) : Nat := s.fld F.cshSliceMap_PHYS_DIE (R.cshSliceMap idx)
def idxQuad (idx : Nat) : Nat := idx % 32 / 8

/-- Whether window `w` of the table covers an address. -/
def State.winCovers (s : State) (w pa : Nat) : Bool :=
  s.bit F.cshWinCtrl_EN (R.cshWinCtrl w) &&
  decide (s.fld F.cshWinBase_BASE (R.cshWinBase w) ≤ pa / 2 ^ 16) &&
  decide (pa / 2 ^ 16 < s.fld F.cshWinLimit_LIMIT (R.cshWinLimit w))

/-- The couching window of a hoop that applies to an address: the lowest-numbered that matches (R144). -/
def State.winFor (s : State) (h : Option Nat) (pa : Nat) : Option Nat :=
  match h with
  | none => none
  | some h => ((List.range 64).map (fun i => 64 * h + i)).find? (fun w => s.winCovers w pa)

/-- The home index under a window (R141, R143). -/
def State.idxFor (s : State) (win : Option Nat) (pa : Nat) : Nat :=
  match win with
  | none => homeIndex pa
  | some w =>
    if s.bit F.cshWinCtrl_HOMING (R.cshWinCtrl w) then
      32 * s.fld F.cshWinCtrl_HOME_DIE (R.cshWinCtrl w) + homeIndex pa % 32
    else homeIndex pa

/-- The home index of a request of a die under a window: in test mode the die's own slices alone serve it (R56). -/
def State.idxOn (s : State) (d : Nat) (win : Option Nat) (pa : Nat) : Nat :=
  if s.inTest d then 32 * d + homeIndex pa % 32 else s.idxFor win pa

/-- The near policy of a window: 3 is treated as 0 (R153). -/
def State.nearOf (s : State) (win : Option Nat) : Nat :=
  match win with
  | none => 0
  | some w => let n := s.fld F.cshWinCtrl_NEAR (R.cshWinCtrl w); if n = 3 then 0 else n

/-- The class that a window gives a line: 3 is treated as 0 (R160). -/
def State.classOf (s : State) (win : Option Nat) : Class :=
  match win with
  | none => .normal
  | some w =>
    let c := s.fld F.cshWinCtrl_CLASS (R.cshWinCtrl w)
    if c = 1 then .stream else if c = 2 then .persist else .normal

/-! ### Poison marks (R175, R223) -/

/-- Whether the loss of a base die has left the mark on a stack sector (R175). -/
def State.spoils (s : State) (x : Spoiled) (sector : Nat) : Bool :=
  let pa := 32 * sector
  (match x.regions with | some l => l.contains (pa / 2 ^ 21) | none => true) &&
  (x.idxs.contains (homeIndex pa) || x.wins.any (fun r => decide (r.1 ≤ pa) && decide (pa < r.2))) &&
  !x.clean.contains sector && !x.cleared.any (fun r => decide (r.1 ≤ pa) && decide (pa < r.2)) &&
  !x.chans.contains (s.locOf pa).chan

/-- Whether a stack sector carries the poison mark (R223). -/
def State.marked (s : State) (sector : Nat) : Bool :=
  s.mem.marks.contains sector || s.mem.spoiled.any (fun x => s.spoils x sector)

/-- A stack sector's poison mark set or cleared (R223). -/
def State.setMark (sector : Nat) (bad : Bool) (s : State) : State :=
  s.onMem (fun m =>
    if bad then { m with marks := addNum m.marks sector }
    else { m with
      marks := delNum m.marks sector
      spoiled := m.spoiled.map (fun x => if s.spoils x sector then { x with clean := addNum x.clean sector } else x) })

/-- A stack sector as its channel holds it: bytes, and whether it carries the poison mark. -/
def State.stackSector (s : State) (sector : Nat) : Bytes × Bool :=
  (cellsAt s.mem.cells (32 * sector) 32, s.marked sector)

/-! ### Sectors (R146 to R149) -/

/-- A sector that is not present. -/
def Sector.empty : Sector := { st := .invalid, data := zeros 32, dirty := 0, poison := false }

/-- Whether a sector holds all its 32 bytes. -/
def Sector.whole (c : Sector) : Bool := c.st = .clean || c.st = .dirty

/-- A store's bytes written into a sector (R148, R149). -/
def Sector.store (bs : Bytes) (mask : Nat) (bad : Bool) (c : Sector) : Sector :=
  if mask = 0 then c
  else if mask = fullMask then { st := .dirty, data := bs, dirty := fullMask, poison := bad }
  else
    { st := if c.whole then .dirty else .partialDirty, data := mergeBytes c.data bs mask,
      dirty := c.dirty ||| mask, poison := c.poison || bad }

/-- Fetched bytes installed in a sector: its dirty bytes stay (R147). -/
def Sector.fill (bs : Bytes) (bad : Bool) (c : Sector) : Sector :=
  match c.st with
  | .invalid => { st := .clean, data := bs, dirty := 0, poison := bad }
  | .partialDirty => { c with st := .dirty, data := mergeBytes bs c.data c.dirty, poison := c.poison || bad }
  | _ => c

/-- Dirty bytes of a near copy merged into the home's sector (R155, R157). -/
def Sector.merge (bs : Bytes) (mask : Nat) (bad : Bool) (c : Sector) : Sector := c.store bs mask bad

/-- A sector after its write-back (R180): all its bytes kept clean, or dropped where they were not all
present. -/
def Sector.cleaned (c : Sector) : Sector :=
  match c.st with
  | .dirty => { c with st := .clean, dirty := 0 }
  | .partialDirty => Sector.empty
  | _ => c

/-- A sector number of a line list, `Sector.empty` where missing. -/
def secAt (cs : List Sector) (i : Nat) : Sector := cs.getD i Sector.empty

/-- The lines that a slice holds of an address under a home index. -/
def Slice.find (sl : Slice) (addr idx : Nat) : Option Line :=
  sl.lines.find? (fun l => l.addr = addr && l.idx = idx)

/-- A line of a slice changed. -/
def Slice.modify (addr idx : Nat) (f : Line → Line) (sl : Slice) : Slice :=
  { sl with lines := sl.lines.map (fun l => if l.addr = addr && l.idx = idx then f l else l) }

/-- A line taken out of a slice. -/
def Slice.drop (addr idx : Nat) (sl : Slice) : Slice :=
  { sl with lines := sl.lines.filter (fun l => !(l.addr = addr && l.idx = idx)) }

def State.onLine (p addr idx : Nat) (f : Line → Line) (s : State) : State := s.onSlice p (Slice.modify addr idx f)
def State.dropLine (p addr idx : Nat) (s : State) : State := s.onSlice p (Slice.drop addr idx)

/-! ### The newest copy of memory, as the units of the device see it -/

/-- A sector's bytes and poison with a cached copy laid over them. -/
def overlay (role : Role) (c : Sector) (b : Bytes × Bool) : Bytes × Bool :=
  match role, c.st with
  | .home, .clean => (c.data, c.poison)
  | .home, .dirty => (c.data, c.poison)
  | .owned, .dirty => (mergeBytes b.1 c.data c.dirty, c.poison)
  | .home, .partialDirty => (mergeBytes b.1 c.data c.dirty, b.2 || c.poison)
  | .owned, .partialDirty => (mergeBytes b.1 c.data c.dirty, b.2 || c.poison)
  | _, _ => b

/-- The lines that hold an address, home lines before owned copies. -/
def State.copies (s : State) (addr : Nat) : List Line :=
  let ls := s.cache.slices.flatMap (fun p => p.2.lines.filter (fun l => l.addr = addr))
  ls.filter (fun l => l.role = .home) ++ ls.filter (fun l => l.role = .owned)

/-- A sector of stack memory as its channel would return it, queued writes included (R219): poisoned where it carries the mark or its channel
is out of service or in test (R223, R234, R237). -/
def State.chanSector (s : State) (sec : Nat) : Bytes × Bool :=
  let b := s.mem.reqs.foldl (fun b p =>
    if p.2.write && p.2.sector = sec && !p.2.done then
      (mergeBytes b.1 p.2.data p.2.mask, if p.2.mask = fullMask then p.2.poison else b.2 || p.2.poison)
    else b) (s.stackSector sec)
  (b.1, b.2 || decide (2 ≤ s.chanState (s.locOf (32 * sec)).chan))

/-- A sector of a mirrored object, or of another, as the stacks would return it: where the primary copy is bad, a good mirror copy
serves it (R229, R230). -/
def State.copySector (s : State) (mir : Bool) (sec : Nat) : Bytes × Bool :=
  let b := s.chanSector sec
  if b.2 && mir then
    let m := s.chanSector (s.mirrorOf (32 * sec) / 32)
    if m.2 then b else m
  else b

/-- The newest copy of a sector (32-byte unit `sec`) of a mirrored object or of another, and whether it is poisoned. -/
def State.newest (s : State) (mir : Bool) (sec : Nat) : Bytes × Bool :=
  if isToile (32 * sec) then
    (cellsAt s.mem.cells (32 * sec) 32, (List.range 4).any (fun i => s.mem.toileBad.contains (4 * sec + i)))
  else
    (s.copies (lineOf (32 * sec))).foldl (fun b l => overlay l.role (secAt l.secs (sec % 4)) b) (s.copySector mir sec)

/-- `n` bytes from a physical address, of a mirrored object or of another, and whether any of their sectors, or of their words in
toile, is poisoned (R31). -/
def State.peekAs (s : State) (mir : Bool) (pa n : Nat) : Bytes × Bool :=
  let k := (pa % 32 + n + 31) / 32
  let ps := (List.range k).map (fun i => s.newest mir (pa / 32 + i))
  (cut (ps.flatMap (·.1)) (pa % 32) n,
   if isToile pa then (List.range ((pa % 8 + n + 7) / 8)).any (fun i => s.mem.toileBad.contains (pa / 8 + i)) else ps.any (·.2))

/-- `n` bytes from a physical address and whether any of them is poisoned. -/
def State.peek (s : State) (pa n : Nat) : Bytes × Bool := s.peekAs false pa n

/-- A request that reaches a channel out of service, or in test, is counted (R234, R237). -/
def State.refusedAt (c : Nat) (s : State) : State := s.bump F.memChErr_UNCORRECTABLE (R.memChErr c) 1

/-- A unit's read of stack sectors that no slice holds: a channel that is out of service counts each, and one served from its mirror
copy is a redirect, or DOUBLE where both copies are bad (R229, R230, R234). -/
def State.readNote (mir : Bool) (pa n : Nat) (s : State) : State :=
  if isToile pa then s
  else each (List.range ((pa % 32 + n + 31) / 32)) (fun i s =>
    let sec := pa / 32 + i
    if (s.copies (lineOf (32 * sec))).any (fun l => (secAt l.secs (sec % 4)).whole) then s
    else
      let c := (s.locOf (32 * sec)).chan
      let b := s.chanSector sec
      let s := if 2 ≤ s.chanState c then s.refusedAt c else s
      if !mir || !b.2 then s
      else if (s.chanSector (s.mirrorOf (32 * sec) / 32)).2 then s.bump F.memMirrorStat_DOUBLE R.memMirrorStat 1
      else s.bump F.memMirrorStat_REDIRECTS R.memMirrorStat 1) s

/-- Bytes written into every copy of one sector. A write of the whole sector, or of a whole toile word, clears
its poison (R31, R149, R223); a channel out of service discards them (R234). -/
def State.pokeSector (sec mask : Nat) (bs : Bytes) (s : State) : State :=
  if mask = 0 then s
  else if isToile (32 * sec) then
    s.onMem (fun m => { m with
      cells := cellsMask m.cells (32 * sec) mask bs
      toileBad := m.toileBad.filter (fun w => !(decide (w / 4 = sec) && decide (mask / 2 ^ (8 * (w % 4)) % 256 = 255))) })
  else if !s.isStack (32 * sec) then s
  else
    let c := (s.locOf (32 * sec)).chan
    let s :=
      if 2 ≤ s.chanState c then s.refusedAt c
      else (if mask = fullMask then s.setMark sec false else s).onMem (fun m => { m with cells := cellsMask m.cells (32 * sec) mask bs })
    let s := s.onMem (fun m => { m with
      reqs := SMap.mapVals m.reqs (fun _ r =>
        if r.write && r.sector = sec then { r with data := mergeBytes r.data bs mask } else r) })
    s.onCache (fun c => { c with slices := SMap.mapVals c.slices (fun _ sl => { sl with
      lines := sl.lines.map (fun l => if l.addr = lineOf (32 * sec) then
        { l with secs := setNth l.secs (sec % 4) (fun x => if x.st = .invalid then x else
          { x with data := mergeBytes x.data bs mask, poison := if mask = fullMask then false else x.poison }) }
        else l) }) })

/-- Bytes written into the newest copy of memory at a physical address. -/
def State.poke (pa : Nat) (bs : Bytes) (s : State) : State :=
  let off := pa % 32
  let k := (off + bs.length + 31) / 32
  let all := zeros off ++ bs
  let m := maskOf off bs.length
  each (List.range k) (fun i => State.pokeSector (pa / 32 + i) (secMask m i) (cut all (32 * i) 32)) s

/-- Bytes written to both copies of a mirrored object; a sector of which one copy's channel is out of service is a write to one copy
(R151, R230). -/
def State.pokeBoth (pa : Nat) (bs : Bytes) (s : State) : State :=
  let out := fun a => decide (2 ≤ s.chanState (s.locOf a).chan)
  let lone := (List.range ((pa % 32 + bs.length + 31) / 32)).filter (fun i =>
    let a := pa / 32 * 32 + 32 * i
    out a != out (s.mirrorOf a))
  let s := if lone.isEmpty then s else s.bump F.memMirrorStat_SINGLE R.memMirrorStat lone.length
  (s.poke pa bs).poke (s.mirrorOf pa) bs

/-- A number of `n` bytes in memory. -/
def State.peekNum (s : State) (pa n : Nat) : Nat := leNat (s.peek pa n).1

end Sys2Proof.Machine
end

