-- ==== Sys2Proof/Machine/Translate.lean ====
section
/-!
DEFINITION. Page tables, memory objects and translation (R213, R289 to R298), and how a unit of the device
reaches a context's memory through them.
-/
namespace Sys2Proof.Machine

/-- What an access wants of a translation. -/
inductive Access where
  | read | store | atomic | fetch | signal | wait
  deriving DecidableEq, Repr

/-- DETAIL of FAULT_TRANSLATION and FAULT_OWNERSHIP for an access (R132, R292). -/
def Access.detail : Access → Nat
  | .read => 0 | .store => 1 | .atomic => 1 | .fetch => 2 | .signal => 1 | .wait => 0

/-- Whether the access changes memory. -/
def Access.writes : Access → Bool
  | .store => true | .atomic => true | .signal => true | _ => false

/-- A fault found: its code (R276), its DETAIL and the address recorded. -/
structure Trouble where
  code : Nat
  detail : Nat
  addr : Nat
  deriving DecidableEq, Repr

/-- The channel-set check of R213 for a hoop. -/
def State.setAllowed (s : State) (h : Nat) (pa : Nat) (write : Bool) : Bool :=
  if isToile pa then true
  else
    let j := s.setOf pa
    let o := s.fld F.memSetStat_OWNER (R.memSetStat j)
    o == h || (o == 16 && (!write || s.bit F.memSetCtrl_WRITE_OPEN (R.memSetCtrl j)))

/-- A memory-object table entry (R294). -/
structure Mobj where
  va : Nat
  size : Nat
  pin : Nat
  st : Nat
  flags : Nat
  cookie : Nat
  mark : Nat
  ownerCtx : Nat
  ownerObj : Nat
  deriving DecidableEq, Repr

def Mobj.mirrored (m : Mobj) : Bool := m.flags.testBit 0
def Mobj.sharedRo (m : Mobj) : Bool := m.flags.testBit 1
def Mobj.isImport (m : Mobj) : Bool := m.flags.testBit 2
def Mobj.fences (m : Mobj) : Bool := m.flags.testBit 3

/-- The entry that 64 bytes hold (R294). -/
def mobjOf (b : Bytes) : Mobj :=
  { va := numAt b 0 8, size := numAt b 8 8, pin := numAt b 16 4, st := numAt b 20 1, flags := numAt b 21 1,
    cookie := numAt b 24 8, mark := numAt b 32 8, ownerCtx := numAt b 40 2, ownerObj := numAt b 42 2 }

/-- The 64 bytes of an entry, its reserved bytes zero (R17, R294). -/
def Mobj.bytes (m : Mobj) : Bytes :=
  leBytes 8 m.va ++ leBytes 8 m.size ++ leBytes 4 m.pin ++ leBytes 1 m.st ++ leBytes 1 m.flags ++ zeros 2 ++
  leBytes 8 m.cookie ++ leBytes 8 m.mark ++ leBytes 2 m.ownerCtx ++ leBytes 2 m.ownerObj ++ zeros 20

/-- Entry `i` of the memory-object table of a context. -/
def State.mobj (s : State) (c : Ctx) (i : Nat) : Mobj := mobjOf (s.peek (c.motBase + 64 * i) 64).1

/-- Entry `i` of the memory-object table of a context written. -/
def State.setMobj (c : Ctx) (i : Nat) (m : Mobj) (s : State) : State := s.poke (c.motBase + 64 * i) m.bytes

/-- Whether a whole page of device memory lies in stack memory or toile, outside the regions of R282 and R318. -/
def State.pageOk (s : State) (pa size : Nat) : Bool :=
  (s.isStack pa || isToile pa) && !inTables pa &&
  !((List.range 16).any (fun h => s.fld F.hoopStat_STATE (R.hoopStat h) != 0 &&
    decide (pa < (s.savePool h).1 + (s.savePool h).2) && decide ((s.savePool h).1 < pa + size)))

/-- What one walk read finds (R108, R290, R291). -/
inductive WalkRes where
  | fault (detail : Nat)
  | table (pa : Nat)
  | leaf (l : Leaf)
  deriving DecidableEq, Repr

/-- Index of a table of a level (R289). -/
def pteIndex (lvl va : Nat) : Nat := bitsOf (20 + 9 * lvl) (12 + 9 * lvl) va

/-- The address that a walk reads at a level. -/
def pteAddr (table lvl va : Nat) : Nat := table + 8 * pteIndex lvl va

/-- What a walk makes of an entry that it has read at a level (R290, R291, R292). -/
def State.pteCheck (s : State) (lvl va kind pte : Nat) : WalkRes :=
  let addr := bitsOf 47 12 pte * 4096
  let isLeaf := lvl == 0 || (lvl == 1 && pte.testBit 1)
  if !pte.testBit 0 then .fault kind
  else if isLeaf then
    let size := if lvl = 0 then 4096 else 2 ^ 21
    let space := bitsOf 5 4 pte
    if lvl = 1 && bitsOf 20 12 pte != 0 then .fault 3
    else if space = 3 then .fault kind
    else
      let pa := if space = 1 then addr else addr % 2 ^ 41
      if space = 0 && !s.pageOk pa size then .fault kind
      else .leaf
        { va := va / size * size, size := size,
          space := if space = 1 then .host else if space = 2 then .peer (bitsOf 43 41 (addr))
            else if isToile pa then .toile else .stack,
          pa := pa, w := pte.testBit 2, x := pte.testBit 3, mobj := bitsOf 63 48 pte }
  else if pte.testBit 1 then .fault 3
  else if s.reachable addr then .table addr
  else .fault 3

/-- One walk read served at once, for the hoop of a context (R291). -/
def State.walkOne (s : State) (h lvl table va kind : Nat) : WalkRes :=
  let a := pteAddr table lvl va
  if !s.setAllowed h a false then .fault 3
  else
    let r := s.peek a 8
    if r.2 then .fault 3 else s.pteCheck lvl va kind (leNat r.1)

/-- A whole walk from a table of a level. -/
def State.walkAll (s : State) (h va kind : Nat) : Nat → Nat → Except Nat Leaf
  | 0, table =>
    match s.walkOne h 0 table va kind with
    | .fault d => .error d
    | .leaf l => .ok l
    | .table _ => .error 3
  | lvl + 1, table =>
    match s.walkOne h (lvl + 1) table va kind with
    | .fault d => .error d
    | .leaf l => .ok l
    | .table t => s.walkAll h va kind lvl t

/-- The checks of R292 on a leaf, after its first row: ownership, then permission. -/
def State.leafCheck (s : State) (c : Ctx) (a : Access) (va : Nat) (l : Leaf) : Except Trouble Mobj :=
  let m := s.mobj c l.mobj
  if !(decide (l.mobj < c.motCount) && (m.st == 1 || m.st == 2) && decide (m.va ≤ va) && decide (va < m.va + m.size)) then
    .error { code := 0x10, detail := a.detail, addr := va }
  else
    let peer := match l.space with | .peer _ => true | _ => false
    let bad := match a with
      | .fetch => !l.x || peer
      | .read => peer
      | .wait => peer
      | .atomic => peer || !l.w || m.isImport || m.fences
      | .store => !l.w || m.isImport || m.fences
      | .signal => !l.w || m.isImport
    if bad then .error { code := 1, detail := if peer && a = .atomic then 0 else a.detail, addr := va }
    else .ok m

/-- A translation in a context by a unit of the device (R289 to R292). -/
def State.translate (s : State) (c : Ctx) (a : Access) (va : Nat) : Except Trouble (Leaf × Mobj) :=
  if 2 ^ 57 ≤ va then .error { code := 1, detail := a.detail, addr := va }
  else match s.walkAll c.hoop va a.detail 4 c.root with
  | .error d => .error { code := 1, detail := d, addr := va }
  | .ok l => match s.leafCheck c a va l with
    | .error t => .error t
    | .ok m => .ok (l, m)

/-- The physical address of a virtual address on its page. -/
def Leaf.phys (l : Leaf) (va : Nat) : Nat := l.pa + (va - l.va)

/-- The mirrored attribute of an object: its own, or for an import the owner's (R292). -/
def State.isMirrored (s : State) (m : Mobj) : Bool :=
  if m.isImport then
    match s.ctx? m.ownerCtx with
    | some o => (s.mobj o m.ownerObj).mirrored
    | none => false
  else m.mirrored

/-- The pages of a range of virtual addresses: the first address of each part, and its length. -/
def pageParts (va : Nat) : Nat → Nat → List (Nat × Nat)
  | 0, _ => []
  | fuel + 1, len =>
    if len = 0 then []
    else
      let k := min len (4096 - va % 4096)
      (va, k) :: pageParts (va + k) fuel (len - k)

/-- Bytes that reads of host memory bring, as a step is told of them; 0 where it is not told, or where the read failed. -/
def hostAt (hm : HostView) (a n : Nat) : Bytes :=
  (List.range n).map (fun i => ((hm.find? (fun c => c.1 = a + i)).bind (·.2)).getD 0)

/-- Whether a read of host memory times out or comes poisoned, or the link is down (R242). -/
def State.hostBad (s : State) (hm : HostView) (a n : Nat) : Bool :=
  s.host.down || hm.any (fun c => decide (a ≤ c.1) && decide (c.1 < a + n) && c.2.isNone)

/-- Bytes at a context's virtual range, read by a unit of the device, and whether any of them is poisoned: a read of
host memory is where it fails (R242). A stack page whose set the hoop may not read is refused (R213). -/
def State.vaPeek (s : State) (c : Ctx) (hm : HostView) (va len : Nat) : Except Trouble (Bytes × Bool) :=
  (pageParts va (len / 4096 + 2) len).foldl (fun acc p => match acc with
    | .error t => .error t
    | .ok b => match s.translate c .read p.1 with
      | .error t => .error t
      | .ok (l, m) => match l.space with
        | .host => .ok (b.1 ++ hostAt hm (l.phys p.1) p.2, b.2 || s.hostBad hm (l.phys p.1) p.2)
        | _ =>
          if l.space = .stack ∧ !s.setAllowed c.hoop (l.phys p.1) false then .error { code := 0x01, detail := 0, addr := p.1 }
          else let r := s.peekAs (l.space = .stack && s.isMirrored m) (l.phys p.1) p.2; .ok (b.1 ++ r.1, b.2 || r.2)) (.ok ([], false))

/-- What a unit's read of a context's range adds to the counters of channels and mirrors (R229, R230, R234). -/
def State.vaNote (c : Ctx) (va len : Nat) (s : State) : State :=
  each (pageParts va (len / 4096 + 2) len) (fun p s =>
    match s.translate c .read p.1 with
    | .error _ => s
    | .ok (l, m) => if l.space = .stack ∧ s.setAllowed c.hoop (l.phys p.1) false then s.readNote (s.isMirrored m) (l.phys p.1) p.2 else s) s

/-- Bytes written at a physical place: into the newest copy (both copies of a mirrored object, R151), or as a
posted write of a function. A peer's memory takes none from here. -/
def State.place (fn : Nat) (l : Leaf) (mir : Bool) (va : Nat) (bs : Bytes) (s : State) : State :=
  match l.space with
  | .host => s.post (.write fn (l.phys va) bs)
  | .peer _ => s
  | .toile => s.poke (l.phys va) bs
  | .stack => if mir then s.pokeBoth (l.phys va) bs else s.poke (l.phys va) bs

/-- Bytes written at a context's virtual range by a unit of the device; nothing is written where the first byte
has no translation, or where its set takes no write of the hoop (R213). -/
def State.vaPoke (c : Ctx) (va : Nat) (bs : Bytes) (s : State) : State :=
  each (pageParts va (bs.length / 4096 + 2) bs.length) (fun p s =>
    match s.translate c .store p.1 with
    | .error _ => s
    | .ok (l, m) =>
      if l.space = .stack ∧ !s.setAllowed c.hoop (l.phys p.1) true then s
      else s.place c.fn l (s.isMirrored m) p.1 (cut bs (p.1 - va) p.2)) s

/-- The pin count of an object changed (R296). -/
def State.pin (ctx obj : Nat) (up : Bool) (s : State) : State :=
  match s.ctx? ctx with
  | none => s
  | some c =>
    let m := s.mobj c obj
    s.setMobj c obj { m with pin := if up then m.pin + 1 else m.pin - 1 }

end Sys2Proof.Machine
end

