-- ==== Sys2Proof/Machine/Tables.lean ====
section
/-!
DEFINITION. The context, queue and event-ring tables in the toile of dies 0 and 4: the entries as bytes, and when they are written and
read (R282, R283, R286, R299, R300).
-/
namespace Sys2Proof.Machine

/-! ### Entries -/

def ctxStNo : CtxState → Nat
  | .free => 0 | .live => 1 | .faulted => 2 | .destroying => 3 | .retiring => 4

def queueStNo : QState → Nat
  | .free => 0 | .live => 1 | .stopped => 2 | .destroying => 3

def qkindNo : QKind → Nat
  | .compute => 0 | .realTime => 1 | .copy => 2

/-- What an entry shows while no fault has been captured (R286). -/
def FaultRec.zero : FaultRec :=
  { code := 0, detail := 0, engine := 0, group := 0, lane := 0, queue := 0, pc := 0, addr := 0, time := 0, die := 0, cmd := false }

/-- The 128 bytes of a context table entry (R286). -/
def Ctx.bytes (c : Ctx) : Bytes :=
  let f := c.fault.getD FaultRec.zero
  leBytes 1 (ctxStNo c.st) ++ leBytes 1 (c.hoop % 16) ++ leBytes 1 c.fn ++ zeros 1 ++ leBytes 4 c.gen ++ leBytes 8 c.root ++
  leBytes 8 c.motBase ++ leBytes 2 c.motCount ++ leBytes 2 (c.slot.getD 0xFFFF) ++ zeros 4 ++ leBytes 1 f.code ++ zeros 1 ++
  leBytes 2 f.detail ++ leBytes 2 f.engine ++ leBytes 1 (f.group % 16) ++ leBytes 1 (f.lane % 32) ++
  leBytes 4 (f.queue % 2 ^ 18) ++ leBytes 4 c.lost ++ leBytes 8 f.pc ++ leBytes 8 f.addr ++ leBytes 8 f.time ++
  leBytes 1 (f.die % 8) ++ zeros 55

/-- The 64 bytes of a queue table entry (R299). -/
def Queue.bytes (u : Queue) : Bytes :=
  leBytes 1 (queueStNo u.st) ++ leBytes 1 (qkindNo u.kind) ++ leBytes 1 u.log2 ++ zeros 1 ++ leBytes 2 u.ctx ++ leBytes 2 u.evring ++
  leBytes 8 u.ring ++ leBytes 8 u.eyelet ++ leBytes 2 u.poll ++ leBytes 2 (u.slot.getD 0xFFFF) ++ leBytes 4 u.sched.toNat ++
  leBytes 8 u.pSeen ++ leBytes 8 u.c ++ zeros 16

/-- The 32 bytes of an event ring table entry (R300). -/
def Ring.bytes (r : Ring) : Bytes :=
  leBytes 8 r.va ++ leBytes 8 r.headVa ++ leBytes 8 r.w ++ leBytes 2 r.ctx ++ leBytes 2 r.vector ++ leBytes 1 r.log2 ++
  leBytes 1 (if r.live then 1 else 0) ++ zeros 2

/-! ### The two copies (R282) -/

/-- Where a byte of the tables lies in a die's toile. -/
def tableAddr (die off : Nat) : Nat := toileBase + die * 0x08000000 + 0x06000000 + off

def ctxOff (n : Nat) : Nat := 128 * n
def queueOff (q : Nat) : Nat := 0x800000 + 64 * q
def ringOff (r : Nat) : Nat := 0x1800000 + 32 * r

/-- Both copies of an entry are written, but for that of a die that is lost. -/
def State.putTable (off : Nat) (bs : Bytes) (s : State) : State :=
  each [0, 4] (fun d s => if s.baseLost d then s else s.poke (tableAddr d off) bs) s

/-- An entry is read from die 0, and from die 4 once die 0 is lost. -/
def State.tableRead (s : State) (off n : Nat) : Bytes × Bool := s.peek (tableAddr (if s.baseLost 0 then 4 else 0) off) n

/-- A context that is not resident is written to its table entry: its slot holds no copy (R283). -/
def State.saveCtx (n : Nat) (s : State) : State :=
  match s.ctx? n with
  | none => s
  | some c => if c.slot.isSome then s else s.putTable (ctxOff n) c.bytes

/-- A queue that is not resident is written to its table entry. -/
def State.saveQueue (q : Nat) (s : State) : State :=
  match s.queue? q with
  | none => s
  | some u => if u.slot.isSome then s else s.putTable (queueOff q) u.bytes

/-- The queues of a context that are not resident are written to their table entries. -/
def State.saveQueues (ctx : Nat) (s : State) : State :=
  each ((s.objs.queues.filter (fun p => p.2.ctx = ctx)).map (·.1)) State.saveQueue s

/-- An event ring, which has no resident slot, is written to its table entry. -/
def State.saveRing (r : Nat) (s : State) : State :=
  match s.ring? r with
  | none => s
  | some g => s.putTable (ringOff r) g.bytes

end Sys2Proof.Machine
end

