-- ==== Sys2Proof/Machine/Records.lean ====
section
/-!
DEFINITION. What the device reports: MSI-X messages, completion records and their rings, the admin completion
rings, RAS records, and the event records of the Winder (R269 to R273, R278, R300, R445, R446, R496).
-/
namespace Sys2Proof.Machine

/-- MSI-X vectors of a function (R240). -/
def vectorsOf (fn : Nat) : Nat := if fn = 0 then 2048 else 64

/-- An MSI-X table entry that nothing has written: masked, as the PCI Express standard resets it (PRESUMED). -/
def MsixEntry.start : MsixEntry := { addr := 0, data := 0, masked := true, pending := false }

def State.msixEntry (s : State) (fn v : Nat) : MsixEntry := SMap.getD s.host.msix (2048 * fn + v) MsixEntry.start

/-- One MSI-X message: sent, or held pending behind a mask (R240, R273). -/
def State.msix (fn v : Nat) (s : State) : State :=
  if vectorsOf fn ≤ v then s
  else if (s.msixEntry fn v).masked || s.host.fnMask.contains fn then
    s.onHost (fun h => { h with msix := SMap.upd h.msix (2048 * fn + v) MsixEntry.start (fun e => { e with pending := true }) })
  else s.post (.msix fn v)

/-- The fields of a record that its source gives (R269). -/
structure Rec where
  cookie : Nat
  tag : Nat
  queue : Nat
  status : Nat
  opcode : Nat
  aflags : Nat
  detail : Nat
  ctx : Nat
  deriving DecidableEq, Repr

/-- The 32 bytes of a record (R269). -/
def recordBytes (r : Rec) (time die : Nat) (phase : Bool) : Bytes :=
  leBytes 8 r.cookie ++ leBytes 8 time ++ leBytes 4 r.tag ++
  leBytes 4 (r.queue % 2 ^ 18 + (if phase then 2 ^ 31 else 0)) ++ leBytes 1 r.status ++ leBytes 1 r.opcode ++
  leBytes 1 (r.aflags % 32) ++ leBytes 1 (die % 8) ++ leBytes 2 r.detail ++ leBytes 2 r.ctx

/-- PHASE of record `w` of a ring of 2^log2 records: 1 on the first pass (R270). -/
def phaseOf (w log2 : Nat) : Bool := w / 2 ^ log2 % 2 == 0

/-! ### Event rings (R272, R300) -/

/-- Whether a ring has room for an ordinary record, or for a fault record (R300). -/
def Ring.room (r : Ring) (fault : Bool) : Bool :=
  if fault then decide (r.w - r.h < 2 ^ r.log2) else decide (r.w - r.h < 2 ^ r.log2 - 1)

/-- Where a ring's next record goes (R300). -/
def Ring.recVa (r : Ring) : Nat := r.va + 32 * (r.w % 2 ^ r.log2)

/-- A record written into an event ring by a unit of die `die`, and its event where one is raised. -/
def State.ringPut (ring : Nat) (rec : Rec) (die : Nat) (evt : Bool) (s : State) : State :=
  match s.ring? ring with
  | none => s
  | some r => match s.ctx? r.ctx with
    | none => s
    | some c =>
      let s := s.passTime
      let s := s.vaPoke c r.recVa (recordBytes rec (s.count die) die (phaseOf r.w r.log2))
      let s := (s.onRing ring (fun r => { r with w := r.w + 1 })).saveRing ring
      if evt then s.msix c.fn r.vector else s

/-! ### Admin completion rings (R278, R279) -/

/-- LOG2 fields of the admin queue: values outside 4 to 12 are treated as 4 (R278). -/
def admLog (v : Nat) : Nat := if 4 ≤ v ∧ v ≤ 12 then v else 4

def State.admOn (s : State) (fn : Nat) : Bool := s.bit F.qfeFnAdmqCtrl_EN (R.qfeFnAdmqCtrl fn)
def State.admCplLog (s : State) (fn : Nat) : Nat := admLog (s.fld F.qfeFnAdmqCtrl_CPL_LOG2 (R.qfeFnAdmqCtrl fn))
def State.admRoom (s : State) (fn : Nat) : Bool := decide ((s.adm fn).w - (s.adm fn).h < 2 ^ s.admCplLog fn)

/-- A record written into a function's admin completion ring. -/
def State.admPut (fn : Nat) (rec : Rec) (die : Nat) (evt : Bool) (s : State) : State :=
  let s := s.passTime
  let n := s.admCplLog fn
  let w := (s.adm fn).w
  let s := s.post (.write fn (s.rd64 (R.qfeFnAdmqCplLo fn) + 32 * (w % 2 ^ n))
    (recordBytes rec (s.count die) die (phaseOf w n)))
  let s := s.onAdm fn (fun a => { a with w := a.w + 1 })
  if evt then s.msix fn (s.fld F.qfeFnAdmqCtrl_VECTOR (R.qfeFnAdmqCtrl fn)) else s

/-- A record in the form in which it waits for room: its bytes, its die, and whether it raises an event. -/
def heldBytes (rec : Rec) (die : Nat) (evt : Bool) : Bytes :=
  recordBytes rec 0 die false ++ [if evt then 1 else 0]

/-- The record that waits in a held form, its die and whether it raises an event. -/
def heldRec (b : Bytes) : Rec × Nat × Bool :=
  ({ cookie := numAt b 0 8, tag := numAt b 16 4, queue := numAt b 20 4 % 2 ^ 18, status := numAt b 24 1,
     opcode := numAt b 25 1, aflags := numAt b 26 1, detail := numAt b 28 2, ctx := numAt b 30 2 },
   numAt b 27 1, numAt b 32 1 == 1)

/-- A record for a function's admin completion ring: written where there is room, waiting while the ring is full. After a stop a command
that was running writes its record where there is room, and it is dropped otherwise (R279); where software has cleared EN it is dropped. -/
def State.admRec (fn : Nat) (rec : Rec) (die : Nat) (evt : Bool) (s : State) : State :=
  if !s.admOn fn then
    if s.fld F.qfeFnAdmqCtrl_ERR (R.qfeFnAdmqCtrl fn) != 0 && s.admRoom fn then s.admPut fn rec die evt else s
  else if s.admRoom fn && (s.adm fn).held.isEmpty then s.admPut fn rec die evt
  else s.onAdm fn (fun a => { a with held := a.held ++ [heldBytes rec die evt] })

/-! ### Event records of the Winder (R496) -/

/-- The pins that the model names: 0 THERMTRIP_N, 1 MG_ALERT_N, 2 the safe-state wire of the package, 3 SEAL_A,
4 the test port's outputs, 5 ROOT_LOCK and safe outputs of a die. -/
def pinAlert : Nat := 1

/-- An event record of the active Winder (R496): queued, or dropped with EVT_LOST set. -/
def State.mgmt (kind die detail : Nat) (s : State) : State :=
  if s.sec.dead then s
  else if s.sec.events.length < 32 then
    let s := s.passTime
    let first := s.sec.events.isEmpty
    let s := s.onSec (fun c => { c with events := c.events ++
      [leBytes 1 kind ++ leBytes 1 die ++ leBytes 2 detail ++ zeros 4 ++ leBytes 8 (s.count die)] })
    if first then s.post (.pin pinAlert s.winder false) else s
  else s.setF F.wndMbxStat_EVT_LOST R.wndMbxStat 1

/-! ### RAS records (R445, R446) -/

/-- A RAS record: event code, class, unit, context killed (0xFFFF for none or several), die of the event. -/
def rasRec (seq code cls unit ctx : Nat) : Rec :=
  { cookie := seq, tag := code + 256 * cls, queue := 0, status := 0, opcode := 0xF4, aflags := 0, detail := unit,
    ctx := ctx }

/-- Records that the Winder holds leave in sequence order while the ring has room. -/
def State.rasDrain : Nat → State → State
  | 0, s => s
  | n + 1, s =>
    match s.ras.hold with
    | [] => s
    | b :: r =>
      if s.admOn 0 && s.admRoom 0 && (s.adm 0).held.isEmpty then
        let x := heldRec b
        State.rasDrain n (((s.onRas (fun a => { a with hold := r })).admPut 0 x.1 x.2.1 x.2.2).bump
          F.wndRasCnt_ISSUED R.wndRasCnt 1)
      else s

/-- The active Winder reports an event (R445): a record written, held, or dropped and counted; the board learns of
darned and degraded events, and of a new darning record, by an event record (R455, R496). -/
def State.ras0 (code cls unit ctx die : Nat) (s : State) : State :=
  let b := heldBytes (rasRec s.ras.seq code cls unit ctx) die true
  let s := s.onRas (fun a => { a with seq := a.seq + 1 })
  let s := if s.ras.hold.length < 64 then s.onRas (fun a => { a with hold := a.hold ++ [b] })
    else s.bump F.wndRasCnt_LOST R.wndRasCnt 1
  let s := s.rasDrain 64
  if code = 0x12 then s.mgmt 5 die 0
  else if cls = 1 ∨ cls = 4 then s.mgmt 4 die (code + 256 * cls)
  else s

/-- GENERATION of the darning record rises, announced by a record of code 0x12 (R455). -/
def State.newDarning (s : State) : State :=
  let s := s.onRas (fun a => { a with generation := a.generation + 1 })
  let s := s.setF F.wndDarnStat_GENERATION R.wndDarnStat (s.ras.generation % 2 ^ 16)
  s.ras0 0x12 1 (s.ras.generation % 2 ^ 16) 0xFFFF s.winder

end Sys2Proof.Machine
end

