-- ==== Sys2Proof/Machine/Mesh.lean ====
section
/-!
DEFINITION. The ground mesh and the die-to-die links: routes, flits, messages and transactions on their way,
link training, replay, retraining and failure, and the stand-alone test mode (R32 to R56).
-/
namespace Sys2Proof.Machine

/-! ### Links and routes (R38, R44, R45, R54) -/

/-- The link that leaves die `d` by an edge: 1 west, 2 east, 3 south (R38). -/
def linkOf (d edge : Nat) : Option Nat :=
  if edge = 1 then (if d % 4 = 0 then none else some (d / 4 * 3 + d % 4 - 1))
  else if edge = 2 then (if d % 4 = 3 then none else some (d / 4 * 3 + d % 4))
  else if edge = 3 then some (6 + d % 4)
  else none

/-- The die behind an edge of die `d`. -/
def dieBy (d edge : Nat) : Nat :=
  if edge = 1 then d - 1 else if edge = 2 then d + 1 else if edge = 3 then (d + 4) % 8 else d

/-- The two dies of a link (R38). -/
def linkEnds (l : Nat) : Nat × Nat :=
  if l < 3 then (l, l + 1) else if l < 6 then (l + 1, l + 2) else (l - 6, l - 2)

def State.linkState (s : State) (l : Nat) : Nat := s.fld F.mshLinkStat_STATE (R.mshLinkStat l)

/-- EDGE_k of MSH_ROUTE_d: bits 1:0 the edge, bit 2 the detour set, bit 3 unreachable. -/
def State.edge (s : State) (d k : Nat) : Nat := (s.rd (R.mshRoute d)).toNat / 16 ^ k % 16

/-- Whether a request from die `d` may be sent toward die `k` (R54). -/
def State.canReach (s : State) (d k : Nat) : Bool :=
  d == k || (decide (s.edge d k < 8) && (match linkOf d (s.edge d k % 4) with
    | some l => s.linkState l == 2
    | none => false))

/-- A link that routes may use: not held down, not failed, with both ends in service and out of test (R45, R51,
R56). -/
def State.linkUsable (s : State) (l : Nat) : Bool :=
  s.bit F.mshLinkCtrl_EN (R.mshLinkCtrl l) && s.linkState l != 3 &&
  !s.baseLost (linkEnds l).1 && !s.baseLost (linkEnds l).2 && !s.inTest (linkEnds l).1 && !s.inTest (linkEnds l).2

/-- Whether the row-first path from `d` to `k` uses usable links alone. -/
def State.rowFirstOk (s : State) : Nat → Nat → Nat → Bool
  | 0, d, k => d == k
  | n + 1, d, k =>
    if d = k then true
    else match linkOf d (rowFirst d k) with
      | some l => s.linkUsable l && s.rowFirstOk n (dieBy d (rowFirst d k)) k
      | none => false

/-- Dies from which `k` can be reached in `n` hops over usable links, as a bit mask. -/
def State.withinHops (s : State) (k : Nat) : Nat → Nat
  | 0 => 2 ^ k
  | n + 1 =>
    let m := s.withinHops k n
    (List.range 8).foldl (fun a d => if !m.testBit d && [1, 2, 3].any (fun e => match linkOf d e with
      | some l => s.linkUsable l && m.testBit (dieBy d e)
      | none => false) then a + 2 ^ d else a) m

/-- EDGE_k for die `d` (R44, R45): the row-first route where it is whole, else the first edge of a shortest path,
in the detour set, else unreachable. Of several shortest paths the one by the lowest edge code is taken: west, east, south
(DESIGN CHOICE: R45 names none of them). -/
def State.bestEdge (s : State) (d k : Nat) : Nat :=
  if d = k then 0
  else if s.rowFirstOk 4 d k then rowFirst d k
  else match (List.range 8).find? (fun n => (s.withinHops k n).testBit d) with
    | none => 8
    | some n => match [1, 2, 3].find? (fun e => match linkOf d e with
        | some l => s.linkUsable l && (s.withinHops k (n - 1)).testBit (dieBy d e)
        | none => false) with
      | some e => e + 4
      | none => 8

/-- The active Winder loads the routes (R45). -/
def State.recompute (s : State) : State :=
  each (List.range 8) (fun d t => t.wr (R.mshRoute d)
    (BitVec.ofNat 32 ((List.range 8).foldl (fun a k => a + s.bestEdge d k * 16 ^ k) 0))) s

/-! ### Stops and routers (R32) -/

/-- The routers of a stop. -/
def stopRouters : Stop → List (Nat × Nat)
  | .quadrant q => let r := q / 2 * 2; let c := q % 2 * 2; [(r, c), (r, c + 1), (r + 1, c), (r + 1, c + 1)]
  | .stack k => if k % 2 = 0 then [(0, 0), (0, 1)] else [(0, 2), (0, 3)]
  | .gimp => [(0, 1), (0, 2)]
  | .host => [(2, 0), (3, 0)]
  | .barrier => [(1, 1)]
  | .exchange => [(1, 2), (2, 1)]

/-- The routers of a die-to-die edge. -/
def edgeRouters (e : Nat) : List (Nat × Nat) :=
  if e = 1 then [(0, 0), (1, 0), (2, 0), (3, 0)]
  else if e = 2 then [(0, 3), (1, 3), (2, 3), (3, 3)]
  else [(3, 0), (3, 1), (3, 2), (3, 3)]

def gap (a b : Nat) : Nat := (a - b) + (b - a)
def hops (a b : Nat × Nat) : Nat := gap a.1 b.1 + gap a.2 b.2

/-- The router of `rs` nearest to one of `ts` (R32); the first of several. -/
def nearestTo (rs ts : List (Nat × Nat)) : Nat × Nat :=
  let best := fun r => ts.foldl (fun m t => min m (hops r t)) 100
  rs.foldl (fun b r => if best r < best b then r else b) (rs.headD (0, 0))

/-- Where a flit on die `d` bound for a stop of die `k` makes for. -/
def State.aims (s : State) (d k : Nat) (stop : Stop) : List (Nat × Nat) :=
  if d = k then stopRouters stop else edgeRouters (s.edge d k % 4)

/-! ### Sending -/

/-- A transaction, a message, or a request or an answer of a channel controller has reached its stop: it takes the next order
number, and carries the mark of a flit that was poisoned on its way (R37). -/
def State.deliver (c : Cargo) (bad : Bool) (s : State) : State :=
  let n := s.mesh.clock
  let s := s.onMesh (fun m => { m with clock := n + 1 })
  match c with
  | .txn i => s.onTxn i (fun t => { t with
      moving := false, came := n, poison := if bad then t.poison ||| t.secs else t.poison
      words := if bad then 0xFFFF else t.words })
  | .msg i => s.onMsgs (fun m => SMap.modify m i (fun x => { x with arrived := true, came := n, poison := x.poison || bad }))
  | .ctl i => s.onMem (fun m => { m with reqs := SMap.modify m.reqs i (fun q => { q with
      moving := false, came := if q.done then q.came else n, poison := q.poison || (bad && q.write != q.done) }) })

/-- A flit enters the mesh at the router of its stop nearest its target; within one stop nothing enters the
mesh. Picots are numbered by their source die, and a die that receives them forgets the number half the number space behind (R47;
DESIGN CHOICE: R47 does not say how long a number counts as received). Every transaction and every message is one flit (DESIGN
CHOICE: the manual gives their flits for gimp ports alone). -/
def State.sendFlit (vc : Vc) (src dst : Nat) (frm stop : Stop) (c : Cargo) (s : State) : State :=
  if src = dst ∧ frm = stop then s.deliver c false
  else
    let at_ := nearestTo (stopRouters frm) (s.aims src dst stop)
    let no := if vc = .picot then SMap.getD s.mesh.seqNo src 0 else 0
    let f : Flit := { vc := vc, src := src, dst := dst, stop := stop, die := src, row := at_.1, col := at_.2, port := 0,
                      link := none, slot := 0, since := s.mesh.clock, detour := src != dst && (s.edge src dst).testBit 2,
                      poison := false, seq := no, cargo := c }
    s.onMesh (fun m => { m with
      flits := SMap.put m.flits m.nextFlit f, nextFlit := m.nextFlit + 1, clock := m.clock + 1
      seqNo := if vc = .picot then SMap.put m.seqNo src ((no + 1) % 65536) else m.seqNo,
      seen := if vc = .picot then m.seen.map (fun p => if p.1 % 8 = src then (p.1, p.2.filter (fun x => x != (no + 32768) % 65536)) else p)
        else m.seen })

/-- A message between units is sent. -/
def State.sendMsg (vc : Vc) (kind : MsgKind) (src dst : Nat) (frm stop : Stop) (s : State) : State :=
  let i := s.nextId
  let x : Msg := { kind := kind, src := src, dst := dst, frm := frm, stop := stop, arrived := false, came := 0, lost := false,
                   poison := false }
  let s := { s with nextId := i + 1, msgs := SMap.put s.msgs i x }
  s.sendFlit vc src dst frm stop (.msg i)

/-- A transaction sets out for a stop in a stage. -/
def State.sendTxn (i : Nat) (vc : Vc) (st : Stage) (src dst : Nat) (frm stop : Stop) (s : State) : State :=
  (s.onTxn i (fun t => { t with stage := st, moving := true })).sendFlit vc src dst frm stop (.txn i)

/-- A new transaction, at the crossbar of its issuer. -/
def State.addTxn (t : Txn) (s : State) : Nat × State :=
  (s.nextId, { s with nextId := s.nextId + 1, txns := SMap.put s.txns s.nextId t })

/-- A transaction is answered at its issuer with a status. -/
def State.answerNow (i st : Nat) (s : State) : State :=
  s.onTxn i (fun t => { t with stage := .reply, moving := false, status := st })

/-- Whether a transaction is one of a bulk mover of a queue's command. -/
def Issuer.isBulk : Issuer → Bool
  | .bulk _ => true
  | _ => false

/-- The mesh stop at which the issuer of a transaction sits. -/
def Txn.stop (t : Txn) : Stop :=
  match t.issuer with
  | .host _ => .host
  | .peer _ _ => .gimp
  | .movement _ _ _ => .exchange
  | .bulk _ => .exchange
  | _ => .quadrant t.quad

/-- An answer leaves a stop for the issuer. -/
def State.replyTxn (i d : Nat) (frm : Stop) (s : State) : State :=
  match s.txn? i with
  | none => s
  | some t => s.sendTxn i .response .reply d t.die frm t.stop

/-- What a flit carried is lost. A transaction is answered with STAT_LINK_FAILED, and so is a fence's signal or wait. A request
for ownership, or its grant, answers the store that waits for it with STAT_LINK_FAILED. A request to a controller, or its answer,
comes back with STAT_LINK_FAILED. An evicted copy comes back to its slice, which sends it again (DESIGN CHOICE: R46 gives no
operation to answer it to). Any other message is gone (R46, R54). -/
def State.loseCargo (c : Cargo) (s : State) : State :=
  match c with
  | .txn i => s.answerNow i 0x40
  | .ctl r => s.onMem (fun m => { m with reqs := SMap.modify m.reqs r (fun q => { q with moving := false, done := true, status := 0x40 }) })
  | .msg m =>
    match s.msg? m with
    | none => s
    | some x => match x.kind with
      | .signal .. => s.onMsgs (fun l => SMap.modify l m (fun x => { x with arrived := true, lost := true }))
      | .register .. => s.onMsgs (fun l => SMap.modify l m (fun x => { x with arrived := true, lost := true }))
      | .poll .. => s.onMsgs (fun l => SMap.modify l m (fun x => { x with arrived := true, lost := true }))
      | .shx _ => s.onMsgs (fun l => SMap.modify l m (fun x => { x with arrived := true, lost := true }))
      | .ownRequest i => ((s.delMsg m).onTxn i (fun t => { t with waitAns := false })).answerNow i 0x40
      | .ownGrant i => ((s.delMsg m).onTxn i (fun t => { t with waitAns := false })).answerNow i 0x40
      | .evicted .. => if s.canReach x.src x.dst then s.sendFlit .response x.src x.dst x.frm x.stop (.msg m) else s.delMsg m
      | _ => s.delMsg m

/-! ### A flit's next move (R33 to R36) -/

/-- What a flit does next: leave at its stop, move to a router input, enter a link's replay buffer, arrive across a
link, or nothing, for its die is unreachable. -/
inductive Hop where
  | leave
  | router (row col port : Nat)
  | enter (link : Nat)
  | arrive (die row col port : Nat)
  | nowhere
  deriving DecidableEq, Repr

/-- The move along the row first, then along the column (R33). -/
def stepToward (r c tr tc : Nat) : Hop :=
  if c < tc then .router r (c + 1) 1
  else if tc < c then .router r (c - 1) 2
  else if r < tr then .router (r + 1) c 4
  else .router (r - 1) c 3

/-- The far end of a link: the die, router and input at which a flit of an edge router arrives (R32, R38). -/
def farSeat (l d row col : Nat) : Nat × Nat × Nat × Nat :=
  let far := if (linkEnds l).1 = d then (linkEnds l).2 else (linkEnds l).1
  if 6 ≤ l then (far, 3, col, 3) else if (linkEnds l).1 = d then (far, row, 0, 1) else (far, row, 3, 2)

def State.hopOf (s : State) (f : Flit) : Hop :=
  match f.link with
  | some l => let x := farSeat l f.die f.row f.col; .arrive x.1 x.2.1 x.2.2.1 x.2.2.2
  | none =>
    let t := nearestTo (s.aims f.die f.dst f.stop) [(f.row, f.col)]
    if f.die != f.dst && !s.canReach f.die f.dst then .nowhere
    else if (f.row, f.col) = t then
      if f.die = f.dst then .leave
      else match linkOf f.die (s.edge f.die f.dst % 4) with
        | some l => .enter l
        | none => .nowhere
    else stepToward f.row f.col t.1 t.2

/-- Flits that a router input holds per channel, and in the detour set (R34). -/
def vcRoom (v : Vc) (detour : Bool) : Nat :=
  if detour then 2 else match v with | .picot => 2 | .request => 12 | .response => 12 | .bulk => 24

/-- The router input whose room a flit takes: the one that holds it, or, on a link, the one that it is sent to. -/
def Flit.seat (f : Flit) : Nat × Nat × Nat × Nat :=
  match f.link with
  | none => (f.die, f.row, f.col, f.port)
  | some l => farSeat l f.die f.row f.col

/-- A flit on its next hop: in the detour set from the first hop that its die's route marks so, to its last (R45). -/
def State.onRoute (s : State) (f : Flit) : Flit :=
  { f with detour := f.detour || (f.die != f.dst && (s.edge f.die f.dst).testBit 2) }

/-- Whether the sender holds a credit for a flit's channel at a router input (R34). -/
def State.roomAt (s : State) (f : Flit) (seat : Nat × Nat × Nat × Nat) : Bool :=
  decide ((s.mesh.flits.filter (fun x => x.2.seat == seat && x.2.vc = f.vc && x.2.detour == f.detour)).length < vcRoom f.vc f.detour)

/-- Whether a home slice has all its 64 places for waiting requests taken (R158). -/
def State.sliceFull (s : State) (p : Nat) : Bool := decide (64 ≤ (s.slice p).waiting.length)

/-- Entries of a controller that its reads, or its writes, take (R218). -/
def State.entries (s : State) (c : Nat) (write : Bool) : Nat :=
  (s.mem.reqs.filter (fun p => p.2.chan = c && p.2.write == write && !p.2.moving && !p.2.done)).length

/-- Whether a flit's stop takes it: a home slice that is full takes nothing of the request and bulk channels (R158), and a
controller with 64 entries of a kind no more of it (R218). -/
def State.takes (s : State) (f : Flit) : Bool :=
  match f.cargo with
  | .txn i => match s.txn? i with
    | some t => !(t.stage == .home && (f.vc == .request || f.vc == .bulk) && s.sliceFull (s.physSlice t.idx))
    | none => true
  | .msg m => match s.msg? m with
    | some x => match x.kind with
      | .ownRequest i => !(s.txn? i).any (fun t => s.sliceFull (s.physSlice t.idx))
      | _ => true
    | none => true
  | .ctl r => match SMap.get? s.mem.reqs r with
    | some q => q.done || decide (s.entries q.chan q.write < 64)
    | none => true

/-- Whether a flit can make its next move: its stop takes it, the sender holds a credit for its channel at the next input, or
the link that it is on is up and not retraining (R34, R41). A flit enters a link only on a credit of its far input. -/
def State.hasCredit (s : State) (f : Flit) : Bool :=
  match s.hopOf f with
  | .leave => s.takes f
  | .nowhere => true
  | .router r c p => s.roomAt (s.onRoute f) (f.die, r, c, p)
  | .enter l => s.linkState l == 2 && !s.mesh.training.contains l && s.roomAt (s.onRoute f) (farSeat l f.die f.row f.col)
  | .arrive _ _ _ _ => s.linkState (f.link.getD 0) == 2 && !s.mesh.training.contains (f.link.getD 0)

/-- The output that a flit wants: 0 its stop, 1 to 4 a neighbour's input, 5 and up a link. -/
def Hop.out : Hop → Nat
  | .leave => 0
  | .router _ _ p => p
  | .enter l => 5 + l
  | .arrive _ _ _ _ => 20
  | .nowhere => 30

/-- The flits at one router output, or at the link of a die-to-die edge, that could move now. -/
def State.rivals (s : State) (f : Flit) : List Flit :=
  let h := s.hopOf f
  let edge := match h with | .enter _ => true | _ => false
  (s.mesh.flits.map (·.2)).filter (fun x => x.link = none && x.die = f.die && (edge || (x.row = f.row && x.col = f.col)) &&
    (s.hopOf x).out == h.out && s.hasCredit x)

def vcNo : Vc → Nat
  | .response => 0 | .request => 1 | .bulk => 2 | .picot => 3
def wrrTurns : Nat → Nat
  | 0 => 4 | 1 => 3 | _ => 1

/-- The round-robin of R36: the channel served next and the turns it has left, among the channels ready. -/
def wrrNext (cur : Nat × Nat) (ready : Nat → Bool) : Nat × Nat :=
  if cur.2 != 0 && ready cur.1 then cur
  else match [1, 2, 3].find? (fun k => ready ((cur.1 + k) % 3)) with
    | some k => ((cur.1 + k) % 3, wrrTurns ((cur.1 + k) % 3))
    | none => cur

def outKey (f : Flit) (o : Nat) : Nat := 1024 * f.die + 32 * (4 * f.row + f.col) + o

/-- The sub-link of a flit at an edge: its router's place along the edge, by row on the west and east edges, by column on the
south one (R32). -/
def subOf (l : Nat) (f : Flit) : Nat := if 6 ≤ l then f.col else f.row

/-- The sub-link that takes a slot of a link: the next in turn among those with a flit waiting (R39). -/
def nextSub (l turn : Nat) (fs : List Flit) : Nat :=
  (([0, 1, 2, 3].map (fun k => (turn + k) % 4)).find? (fun k => fs.any (fun x => subOf l x = k))).getD 0

/-- The flits among which the arbiter of an output chooses: picots alone while one waits (R35), and at a link those of the
sub-link whose turn it is (R39). -/
def State.field (s : State) (f : Flit) : List Flit :=
  let rs := s.rivals f
  let ps := rs.filter (fun x => x.vc = .picot)
  let rs := if ps.isEmpty then rs else ps
  match s.hopOf f with
  | .enter l =>
    let k := nextSub l (SMap.getD s.mesh.subTurn (16 * f.die + l) 0) rs
    rs.filter (fun x => subOf l x = k)
  | _ => rs

/-- The channel that the round-robin of an output serves next, among the flits of its field. -/
def State.turnOf (s : State) (f : Flit) : Nat × Nat :=
  wrrNext (SMap.getD s.mesh.wrr (outKey f (s.hopOf f).out) (0, 4)) (fun c => (s.field f).any (fun x => vcNo x.vc = c))

/-- Whether the arbiter of the output sends this flit now: it lies in the field, and is a picot or of the channel whose turn has come
(R35, R36, R39). A flit on a link has had its slot. -/
def State.granted (s : State) (f : Flit) : Bool :=
  f.link.isSome || ((s.field f).contains f && (f.vc = .picot || (s.turnOf f).1 == vcNo f.vc))

/-- A turn of the round-robins is used. -/
def State.useTurn (f : Flit) (s : State) : State :=
  if f.link.isSome then s
  else
    let k := s.turnOf f
    let o := outKey f (s.hopOf f).out
    let h := s.hopOf f
    s.onMesh (fun m => { m with
      wrr := if f.vc = .picot then m.wrr else SMap.put m.wrr o (k.1, k.2 - 1)
      subTurn := match h with | .enter l => SMap.put m.subTurn (16 * f.die + l) ((subOf l f + 1) % 4) | _ => m.subTurn })

/-- A flit leaves the mesh at its stop; a picot whose number the die has already received is discarded (R47). -/
def State.leaveMesh (i : Nat) (f : Flit) (s : State) : State :=
  let s := s.onMesh (fun m => { m with flits := SMap.del m.flits i })
  let key := 8 * f.dst + f.src
  let got := SMap.getD s.mesh.seen key []
  if f.vc = .picot && f.src != f.dst && got.contains f.seq then
    match f.cargo with
    | .msg m => if (s.msg? m).any (fun x => !x.arrived) then s.delMsg m else s
    | _ => s
  else
    let s := if f.vc = .picot && f.src != f.dst then
        s.onMesh (fun m => { m with seen := SMap.put m.seen key (f.seq :: got) }) else s
    s.deliver f.cargo f.poison

/-- The direction of a link in which a flit of a die travels: 0 from the lower-numbered die. -/
def dirOf (l d : Nat) : Nat := if (linkEnds l).1 = d then 0 else 1

/-- The place in a replay buffer of the slot group of a slot: groups of 19 slots, 64 of them (R40, R41). -/
def groupPlace (slot : Nat) : Nat := slot / 19 % 64

/-- A flit makes its move. -/
def State.moveFlit (i : Nat) (f : Flit) (s : State) : State :=
  let put := fun (g : Flit) (t : State) => t.onMesh (fun m => { m with
    flits := SMap.put m.flits i { g with since := m.clock }, clock := m.clock + 1 })
  let g := s.onRoute f
  match s.hopOf f with
  | .leave => s.leaveMesh i f
  | .router r c p => put { g with row := r, col := c, port := p } s
  | .enter l =>
    let n := SMap.getD s.mesh.slots (16 * f.die + l) 0
    put { g with link := some l, slot := n } (s.onMesh (fun m => { m with slots := SMap.put m.slots (16 * f.die + l) (n + 1) }))
  | .arrive d r c p =>
    let l := f.link.getD 0
    put { f with die := d, row := r, col := c, port := p, link := none } (s.onMesh (fun m => { m with
      groupFails := SMap.del m.groupFails (64 * (2 * l + dirOf l f.die) + groupPlace f.slot) }))
  | .nowhere => if f.vc = .picot then s else (s.onMesh (fun m => { m with flits := SMap.del m.flits i })).loseCargo f.cargo

/-- Whether no flit that came earlier waits before this one at the same place: on a link any flit of the same direction, at a
router input one of its channel and destination. -/
def State.isHead (s : State) (f : Flit) : Bool :=
  !(s.mesh.flits.any (fun p => decide (p.2.since < f.since) && p.2.link = f.link && p.2.die = f.die &&
    (f.link.isSome || (p.2.row = f.row && p.2.col = f.col && p.2.port = f.port && p.2.vc = f.vc && p.2.detour == f.detour &&
      p.2.dst = f.dst))))

/-- MESH_FLIT_FORWARD: a flit crosses a router or a link on credit. Of an uncorrectable error the flit is marked
poisoned, and the Winder counts and reports it (R33 to R37). -/
def meshFlitForward (i : Nat) (err : CodeError) (s : State) : State :=
  match SMap.get? s.mesh.flits i with
  | none => s
  | some f =>
    if s.hasCredit f && s.granted f && s.isHead f then
      let s := s.useTurn f
      if err = .double ∧ f.link = none then
        let s := s.onMesh (fun m => { m with poisoned := SMap.upd m.poisoned f.die 0 (· + 1) })
        (s.moveFlit i { f with poison := true }).ras0 0x08 2 f.die 0xFFFF f.die
      else s.moveFlit i f
    else s

/-! ### Link training and failure (R41 to R48, R51, R52) -/

def trainOn (l : Nat) (s : State) : State := s.onMesh (fun m => { m with training := addNum m.training l })
def trainOff (l : Nat) (s : State) : State := s.onMesh (fun m => { m with training := delNum m.training l })

/-- Counts kept for a link's replay are dropped. -/
def clearReplay (l : Nat) (s : State) : State :=
  s.onMesh (fun m => { m with
    groupFails := SMap.keep m.groupFails (fun k _ => k / 128 != l)
    bundleErrs := SMap.keep m.bundleErrs (fun k _ => k / 32 != l) })

/-- A link is declared failed: held flits but picots are answered with STAT_LINK_FAILED, held picots are sent again
over the detour, and the event is reported (R42, R46, R47). -/
def State.linkFailed (l : Nat) (s : State) : State :=
  let s := ((s.setF F.mshLinkStat_STATE (R.mshLinkStat l) 3).setF F.mshLinkCtrl_RETRAIN (R.mshLinkCtrl l) 0)
  let s := clearReplay l (trainOff l s)
  let held := s.mesh.flits.filter (fun p => p.2.link = some l)
  let s := each held (fun p t =>
    if p.2.vc = .picot then t.onMesh (fun m => { m with flits := SMap.modify m.flits p.1 (fun f => { f with link := none, detour := true }) })
    else (t.onMesh (fun m => { m with flits := SMap.del m.flits p.1 })).loseCargo p.2.cargo) s
  s.ras0 0x0A 4 l 0xFFFF (linkEnds l).1

/-! ### Wires (R39, R41, R50) -/

/-- Failing wires of a bundle in a direction: the first two have been swapped for its spares. -/
def State.wiresOut (s : State) (l dir b : Nat) : Nat := SMap.getD s.mesh.wires (32 * (2 * l + dir) + b) 0

/-- Whether a bundle is disabled: a wire of it failed with no spare left, in either direction (DEDUCED: BUNDLES counts a bundle
once for both). -/
def State.bundleOff (s : State) (l b : Nat) : Bool := decide (2 < s.wiresOut l 0 b) || decide (2 < s.wiresOut l 1 b)

/-- The bundles of a link that are active, and the spare wires in use in a direction. -/
def State.bundlesOn (s : State) (l : Nat) : Nat := ((List.range 25).filter (fun b => !s.bundleOff l b)).length
def State.sparesIn (s : State) (l dir : Nat) : Nat := (List.range 25).foldl (fun a b => a + min 2 (s.wiresOut l dir b)) 0

/-- A wire of a bundle has failed: swapped for a spare of its bundle, or, with none left, the bundle is disabled (R41). -/
def State.wireFails (l dir b : Nat) (s : State) : State :=
  if decide (25 ≤ b) || s.bundleOff l b then s
  else s.onMesh (fun m => { m with wires := SMap.upd m.wires (32 * (2 * l + dir) + b) 0 (· + 1) })

/-- A scan's failing wires are swapped or their bundles disabled, and BUNDLES and the spare counts follow (R41, R52). -/
def State.putScan (l : Nat) (c : LinkScan) (s : State) : State :=
  let s := each c.hi (fun b s => s.wireFails l 1 b) (each c.lo (fun b s => s.wireFails l 0 b) s)
  ((s.setF F.mshLinkStat_BUNDLES (R.mshLinkStat l) (s.bundlesOn l)).setF F.mshLinkStat_SPARES_LO (R.mshLinkStat l)
    (s.sparesIn l 0)).setF F.mshLinkStat_SPARES_HI (R.mshLinkStat l) (s.sparesIn l 1)

/-- LINK_ENABLE: EN set; the link trains. STATE 3 stays until it has trained (R52). -/
def linkEnable (l : Nat) (w : Word) (s : State) : State :=
  let s' := s.setF F.mshLinkCtrl_SWAP_THRESH (R.mshLinkCtrl l) (Fget F.mshLinkCtrl_SWAP_THRESH w)
  if decide (10 ≤ l) || !Fbit F.mshLinkCtrl_EN w then s
  else if s.bit F.mshLinkCtrl_EN (R.mshLinkCtrl l) then s'
  else
    let s' := trainOn l (s'.setF F.mshLinkCtrl_EN (R.mshLinkCtrl l) 1)
    if s.linkState l = 3 then s' else s'.setF F.mshLinkStat_STATE (R.mshLinkStat l) 1

def execLinkEnable (link : Nat) (w : Word) (s : State) : Host.Outcome State Fault Refusal :=
  .next (s.atReg (R.mshLinkCtrl link) (fun s => linkEnable link w s))

/-- LINK_DISABLE: the flits in the replay buffers are finished, at far inputs that have kept room for them, the routes change, and
the link goes down (R51). -/
def linkDisable (l : Nat) (w : Word) (s : State) : State :=
  if decide (10 ≤ l) || Fbit F.mshLinkCtrl_EN w || !s.bit F.mshLinkCtrl_EN (R.mshLinkCtrl l) then s
  else
    let s := ((s.setF F.mshLinkCtrl_EN (R.mshLinkCtrl l) 0).setF F.mshLinkCtrl_SWAP_THRESH (R.mshLinkCtrl l)
      (Fget F.mshLinkCtrl_SWAP_THRESH w)).setF F.mshLinkCtrl_RETRAIN (R.mshLinkCtrl l) 0
    let s := clearReplay l (trainOff l s)
    let held := sortBy (fun a b => decide (a.2.since < b.2.since)) (s.mesh.flits.filter (fun p => p.2.link = some l))
    let s := each held (fun p t => t.moveFlit p.1 p.2) s
    let s := s.recompute
    if s.linkState l = 3 then s else s.setF F.mshLinkStat_STATE (R.mshLinkStat l) 0

def execLinkDisable (link : Nat) (w : Word) (s : State) : Host.Outcome State Fault Refusal :=
  .next (s.atReg (R.mshLinkCtrl link) (fun s => linkDisable link w s))

/-- A link that is up starts to retrain (R41). -/
def retrainStart (l : Nat) (s : State) : State :=
  if s.linkState l = 2 then clearReplay l (trainOn l (s.setF F.mshLinkCtrl_RETRAIN (R.mshLinkCtrl l) 1)) else s

/-- LINK_RETRAIN_REQUEST: a write of 1 to RETRAIN. -/
def linkRetrainRequest (l : Nat) (w : Word) (s : State) : State :=
  if decide (10 ≤ l) || !Fbit F.mshLinkCtrl_RETRAIN w then s
  else retrainStart l (s.setF F.mshLinkCtrl_SWAP_THRESH (R.mshLinkCtrl l) (Fget F.mshLinkCtrl_SWAP_THRESH w))

def execLinkRetrainRequest (link : Nat) (w : Word) (s : State) : Host.Outcome State Fault Refusal :=
  .next (s.atReg (R.mshLinkCtrl link) (fun s => linkRetrainRequest link w s))

/-- MSH_LINK_ERR_CLEAR: both counters take 0 (R53). -/
def mshLinkErrClear (l : Nat) (s : State) : State := if l < 10 then s.wr (R.mshLinkErr l) 0 else s

def execMshLinkErrClear (link : Nat) (s : State) : Host.Outcome State Fault Refusal :=
  .next (s.atReg (R.mshLinkErr link) (fun s => mshLinkErrClear link s))

/-- LINK_TRAINED: the link is up, with its width, spares and delay measured (R43, R48). -/
def linkTrained (l delay : Nat) (c : LinkScan) (s : State) : State :=
  if decide (l < 10) && s.bit F.mshLinkCtrl_EN (R.mshLinkCtrl l) && s.linkState l != 2 &&
     (s.linkState l != 3 || s.mesh.training.contains l) && decide (20 ≤ (s.putScan l c).bundlesOn l) &&
     decide (48 ≤ delay) && decide (delay ≤ 56) && !s.inTest (linkEnds l).1 && !s.inTest (linkEnds l).2 then
    trainOff l (((s.putScan l c).setF F.mshLinkDelay_DELAY (R.mshLinkDelay l) delay).setF F.mshLinkStat_STATE (R.mshLinkStat l) 2)
  else s

def execLinkTrained (link delay : Nat) (scan : LinkScan) (s : State) : Host.Outcome State Fault Refusal :=
  .next (linkTrained link delay scan s)

/-- LINK_TRAIN_TIMEOUT: a link that is not up within 500 µs is declared failed (R48). -/
def linkTrainTimeout (l : Nat) (s : State) : State :=
  if decide (l < 10) && s.bit F.mshLinkCtrl_EN (R.mshLinkCtrl l) && s.linkState l != 2 &&
     (s.linkState l != 3 || s.mesh.training.contains l) then s.linkFailed l else s

def execLinkTrainTimeout (link : Nat) (s : State) : Host.Outcome State Fault Refusal := .next (s.powered (linkTrainTimeout link))

/-- LINK_CRC_ERROR_REPLAY: a CRC error on a slot group, by direction and place in the replay buffer, is counted and the group
replayed; `again` tells that the same group had failed before. At its fourth failure the link retrains (R41). -/
def linkCrcErrorReplay (l : Nat) (low : Bool) (g b : Nat) (again : Bool) (s : State) : State :=
  if decide (10 ≤ l) || decide (64 ≤ g) || decide (25 ≤ b) || s.linkState l != 2 || s.mesh.training.contains l then s
  else
    let key := 64 * (2 * l + if low then 0 else 1) + g
    let s := s.bump F.mshLinkErr_CRC_ERR (R.mshLinkErr l) 1
    let s := s.onMesh (fun m => { m with
      groupFails := SMap.put m.groupFails key (if again then SMap.getD m.groupFails key 0 + 1 else 1)
      bundleErrs := SMap.upd m.bundleErrs (32 * l + b) 0 (· + 1) })
    if SMap.getD s.mesh.groupFails key 0 < 4 then s
    else retrainStart l (s.bump F.mshLinkErr_REPLAY_FAIL (R.mshLinkErr l) 1)

def execLinkCrcErrorReplay (link : Nat) (low : Bool) (group bundle : Nat) (again : Bool) (s : State) : Host.Outcome State Fault Refusal :=
  .next (linkCrcErrorReplay link low group bundle again s)

/-- BUNDLE_ERROR_THRESHOLD: a bundle has taken SWAP_THRESH CRC errors within 1 ms (R41). -/
def bundleErrorThreshold (l b : Nat) (s : State) : State :=
  let t := s.fld F.mshLinkCtrl_SWAP_THRESH (R.mshLinkCtrl l)
  if decide (l < 10) && t != 0 && decide (t ≤ SMap.getD s.mesh.bundleErrs (32 * l + b) 0) && decide (b < 25) then
    retrainStart l s else s

def execBundleErrorThreshold (link bundle : Nat) (s : State) : Host.Outcome State Fault Refusal :=
  .next (bundleErrorThreshold link bundle s)

/-- LINK_RETRAIN_END: 20 bundles or more return the link to service, fewer fail it (R42). -/
def linkRetrainEnd (l : Nat) (c : LinkScan) (s : State) : State :=
  if decide (l < 10) && s.mesh.training.contains l && s.linkState l == 2 then
    if (s.putScan l c).bundlesOn l < 20 then (s.putScan l c).linkFailed l
    else
      let narrower := decide ((s.putScan l c).bundlesOn l < s.bundlesOn l)
      let s := clearReplay l (trainOff l ((s.putScan l c).setF F.mshLinkCtrl_RETRAIN (R.mshLinkCtrl l) 0))
      if narrower then s.ras0 0x09 4 l 0xFFFF (linkEnds l).1 else s
  else s

def execLinkRetrainEnd (link : Nat) (scan : LinkScan) (s : State) : Host.Outcome State Fault Refusal :=
  .next (linkRetrainEnd link scan s)

/-- ROUTE_RECOMPUTE: the active Winder loads the routes that avoid every failed link (R45). -/
def execRouteRecompute (s : State) : Host.Outcome State Fault Refusal := .next (s.powered State.recompute)

/-! ### Stand-alone test mode (R55, R56) -/

/-- The links that end at a die. -/
def linksOf (d : Nat) : List Nat := [1, 2, 3].filterMap (fun e => linkOf d e)

/-- MSH_TEST_MODE_WRITE: MODE changes only while debug is unlocked and every link of the die has EN and STATE 0;
PATTERN is plain. -/
def mshTestModeWrite (d : Nat) (w : Word) (s : State) : State :=
  if 8 ≤ d then s
  else
    let s := s.setF F.mshTestCtrl_PATTERN (R.mshTestCtrl d) (Fget F.mshTestCtrl_PATTERN w)
    let m := Fget F.mshTestCtrl_MODE w
    if m = 3 ∨ m = s.fld F.mshTestCtrl_MODE (R.mshTestCtrl d) then s
    else if s.bit F.secStat_DEBUG R.secStat &&
        (linksOf d).all (fun l => !s.bit F.mshLinkCtrl_EN (R.mshLinkCtrl l) && s.linkState l == 0) then
      s.setF F.mshTestCtrl_MODE (R.mshTestCtrl d) m
    else s.setF F.mshTestStat_REFUSED (R.mshTestStat d) 1

def execMshTestModeWrite (die : Nat) (w : Word) (s : State) : Host.Outcome State Fault Refusal :=
  .next (s.atReg (R.mshTestCtrl die) (fun s => mshTestModeWrite die w s))

/-- MSH_TEST_START: the pattern starts on every edge stop of a die in test mode; DONE, PASS, BUNDLE and ERRORS are cleared then, and
while MODE is 0 a START of 1 has no effect (DESIGN CHOICE: the manual says when DONE is set, and speaks of patterns in test mode alone). -/
def mshTestStart (d : Nat) (w : Word) (s : State) : State :=
  if decide (8 ≤ d) || !Fbit F.mshTestCtrl_START w then s
  else
    let s := s.setF F.mshTestCtrl_PATTERN (R.mshTestCtrl d) (Fget F.mshTestCtrl_PATTERN w)
    if s.inTest d && !s.bit F.mshTestCtrl_START (R.mshTestCtrl d) then
      (s.setF F.mshTestCtrl_START (R.mshTestCtrl d) 1).wr (R.mshTestStat d)
        (s.rd (R.mshTestStat d) &&& Fmask F.mshTestStat_REFUSED)
    else s

def execMshTestStart (die : Nat) (w : Word) (s : State) : Host.Outcome State Fault Refusal :=
  .next (s.atReg (R.mshTestCtrl die) (fun s => mshTestStart die w s))

/-- MSH_TEST_PATTERN_END: the pattern has run on every bundle; DONE is set (R56). BUNDLE reads 0 where no bundle saw an error (DESIGN
CHOICE). -/
def mshTestPatternEnd (d errors bundle : Nat) (s : State) : State :=
  if decide (d < 8) && s.bit F.mshTestCtrl_START (R.mshTestCtrl d) then
    let s := (s.setF F.mshTestCtrl_START (R.mshTestCtrl d) 0).setF F.mshTestStat_DONE (R.mshTestStat d) 1
    let s := (s.setF F.mshTestStat_PASS (R.mshTestStat d) (if errors = 0 then 1 else 0)).setF
      F.mshTestStat_ERRORS (R.mshTestStat d) (min errors 0xFFFF)
    s.setF F.mshTestStat_BUNDLE (R.mshTestStat d) (if errors = 0 then 0 else bundle)
  else s

def execMshTestPatternEnd (die errors bundle : Nat) (s : State) : Host.Outcome State Fault Refusal :=
  .next (mshTestPatternEnd die errors bundle s)

end Sys2Proof.Machine
end

