-- ==== Sys2Proof/Machine/Schedule.lean ====
section
/-!
DEFINITION. Queues, their commands and the hoop scheduler: engine sets, binding and unbinding, the start of a
preemption, reads of eyelets and descriptors, and the end of a command (R249 to R257, R268 to R272, R296,
R319 to R327).
-/
namespace Sys2Proof.Machine

/-! ### Fields of a descriptor and of SCHED (R261, R320) -/

def descOp (d : Bytes) : Nat := numAt d 0 1
def descCpl (d : Bytes) : Bool := (numAt d 1 1).testBit 0
def descEvt (d : Bytes) : Bool := (numAt d 1 1).testBit 1
def Queue.eset (q : Queue) : Nat := bitsOf 5 0 q.sched.toNat
def Queue.prio (q : Queue) : Nat := bitsOf 7 6 q.sched.toNat
def Queue.mover (q : Queue) : Nat := bitsOf 2 0 q.sched.toNat

/-- A run that has just been decoded. -/
def Run.start (d : Bytes) (members : List Nat) (pins : List (Nat × Nat)) : Run :=
  { desc := d, phase := .running, members := members, answered := [], aflags := 0, launch := 0, pins := pins, pos := 0,
    status := 0, detail := 0, fault := false, elapsed := 0, slots := [], frozen := false, arrivals := [], ended := [],
    ranges := [], sender := 0 }

def Queue.hasRun (q : Queue) (p : RunPhase) : Bool := match q.run with | some r => r.phase = p | none => false

/-! ### Engine sets (R319) -/

/-- Whether an engine is a member of engine set `n` of hoop `h`. -/
def State.isMember (s : State) (h n e : Nat) : Bool :=
  let w := s.rd (R.hoopEset h n)
  let m := s.rd (R.hoopEngMap e)
  (Fget F.hoopEset_DIES w).testBit (engDie e) && (Fget F.hoopEset_QUADS w).testBit (engQuad e) &&
  decide (Fget F.hoopEset_FIRST w ≤ e % 64) && decide (e % 64 < Fget F.hoopEset_FIRST w + Fget F.hoopEset_COUNT w) &&
  Fget F.hoopEngMap_HOOP m == h && Fbit F.hoopEngMap_VALID m && Fbit F.hoopEngMap_RT m == Fbit F.hoopEset_RT w &&
  s.fld F.engStat_STATE (R.engStat e) == 1

/-- The members of an engine set in rising order. -/
def State.members (s : State) (h n : Nat) : List Nat := allEngines.filter (fun e => s.isMember h n e)

/-- The hoop of a queue: that of its context's function (R281, R312). -/
def State.queueHoop (s : State) (q : Queue) : Option Nat := (s.ctx? q.ctx).map (·.hoop)

/-- The die that acts for a queue: its lead engine's, its bulk mover's, or the managing die. -/
def State.queueDie (s : State) (q : Queue) : Nat :=
  if q.kind = .copy then q.mover
  else match q.members with
    | e :: _ => engDie e
    | [] => match s.queueHoop q with | some h => s.mgrDie h | none => 0

/-! ### Binding (R283, R321) -/

/-- The queues bound to an engine. -/
def State.boundOn (s : State) (e : Nat) : List (Nat × Queue) :=
  s.objs.queues.filter (fun p => p.2.bound && p.2.kind != .copy && p.2.members.contains e)

/-- The contexts that an engine holds: of its bound queues, and those whose requests still drain. -/
def State.ctxsOn (s : State) (e : Nat) : List Nat :=
  (s.boundOn e).foldl (fun a p => addNum a p.2.ctx) (s.eng e).draining

/-- The lowest number below `n` that a list lacks. -/
def freeNum (n : Nat) (l : List Nat) : Option Nat := (List.range n).find? (fun i => !l.contains i)

/-- One of a list of numbers, by the `k`-th free choice of the objects (kind 0) or of the engines (kind 1). -/
def pickOne (kind k : Nat) (l : List Nat) : Option Nat :=
  match l with
  | [] => none
  | [x] => some x
  | x :: r => some ((x :: r).getD (Config.handedOut kind k % (x :: r).length) x)

/-- `n` numbers of a list, one after the other. -/
def pickMany (kind k : Nat) : Nat → List Nat → List Nat
  | 0, _ => []
  | n + 1, l =>
    match pickOne kind k l with
    | none => []
    | some x => x :: pickMany kind (k + 1) n (l.erase x)

/-- A number below `n` that a list lacks, which one the manual does not say. -/
def pickNum (kind k n : Nat) (l : List Nat) : Option Nat := pickOne kind k ((List.range n).filter (fun i => !l.contains i))

def State.freeQSlot (s : State) : Option Nat := freeNum 4096 (s.objs.queues.filterMap (·.2.slot))
def State.freeCSlot (s : State) : Option Nat := pickNum 0 s.objs.stamp 1024 (s.objs.ctxs.filterMap (·.2.slot))

/-- The entries of a roll that take part, below a COUNT, in order (R336). -/
def State.rollParts (s : State) (h count : Nat) : List Nat :=
  (List.range (min count 256)).filter (fun i => s.bit F.rollEntHi_VALID (R.rollEntHi h i))

/-- The engine set that the entries of a hoop's enabled roll name for a real-time queue (R320, R337). -/
def State.rollSet (s : State) (h q : Nat) : Option Nat :=
  if !s.bit F.rollCtrl_EN (R.rollCtrl h) then none
  else ((s.rollParts h (s.fld F.rollCtrl_COUNT (R.rollCtrl h))).find? (fun i => s.fld F.rollEntHi_QUEUE (R.rollEntHi h i) == q)).map
    (fun i => s.fld F.rollEntHi_ESET (R.rollEntHi h i))

/-- The engines of a queue's set as they stand (R319): a compute queue names its set in SCHED, a real-time queue's entries name it. -/
def State.setNow (s : State) (q : Nat) (u : Queue) : List Nat :=
  match u.kind, s.queueHoop u with
  | .compute, some h => s.members h u.eset
  | .realTime, some h => ((s.rollSet h q).map (s.members h)).getD []
  | _, _ => []

/-- The engines that a queue would run on: those of its saved command, else the members of its set. -/
def State.wants (s : State) (q : Nat) (u : Queue) : List Nat :=
  match u.run with
  | some r => if r.phase = .held then s.setNow q u else r.members
  | none => s.setNow q u

/-- Whether an engine is being darned (R449). -/
def State.darningEngine (s : State) (e : Nat) : Bool := s.ras.darnings.any (fun d => d.kind = 0 && d.unit = e)

/-- Whether an engine has room for a queue (R254, R321): it is in service and not being darned (R449). -/
def State.engFits (s : State) (q : Queue) (e : Nat) : Bool :=
  s.fld F.engStat_STATE (R.engStat e) == 1 && !s.darningEngine e && decide ((s.boundOn e).length < 4) && ((s.ctxsOn e).contains q.ctx || decide ((s.ctxsOn e).length < 4))

/-- Whether a compute queue waits to be bound (R321). -/
def State.waits (s : State) (q : Queue) : Bool :=
  q.kind == .compute && q.st == .live && !q.bound && (s.ctx? q.ctx).any (fun c => c.st = .live) &&
  (decide (q.c < q.pSeen) || q.hasRun .saved || q.hasRun .held)

/-- Whether the resident slots that binding a queue takes are there (R283, R321). -/
def State.slotsFree (s : State) (q : Queue) : Bool :=
  (q.slot.isSome || s.freeQSlot.isSome) && ((s.ctx? q.ctx).any (fun c => c.slot.isSome) || s.freeCSlot.isSome)

/-- Whether a waiting queue can be bound now. -/
def State.canBind (s : State) (q : Nat) (u : Queue) : Bool :=
  let ms := s.wants q u
  !ms.isEmpty && ms.all (s.engFits u) && s.slotsFree u

/-- A command takes the members of its queue's set as it starts: the queue is bound to them all. It waits where one that has come
into service has no room for the queue (R254, R319). -/
def State.takeSet (q : Nat) (s : State) : Option State :=
  match s.queue? q with
  | none => none
  | some u =>
    let ms := s.setNow q u
    if (u.kind = .copy ∨ !ms.isEmpty) ∧ ms.all (fun e => u.members.contains e || s.engFits u e) then
      some ((s.onQueue q (fun u => { u with members := ms })).onRun q (fun r => { r with members := ms }))
    else none

/-- Whether a queue takes its LAUNCHes from a unit: it is the step queue of an enabled server, or an expert queue of an
enabled exchange (R350, R391). -/
def State.external (s : State) (q : Nat) : Bool :=
  s.pil.hoops.any (fun h => h.2.servers.any (fun p => numAt p.2.block 24 4 % 2 ^ 18 == q)) ||
  s.shx.xchs.any (fun x => (List.range 8).any (fun d => numAt x.2.block (80 + 4 * d) 4 % 2 ^ 18 == q))

/-- Whether a context serves the pillow or an exchange, and so keeps its resident slot (R348, R379). -/
def State.serves (s : State) (c : Nat) : Bool :=
  s.pil.hoops.any (fun h => h.2.servers.any (fun p => p.2.ctx == c)) || s.shx.xchs.any (fun x => x.2.ctx == c)

/-- A read of a queue's eyelet or ring: where it lies in host memory, the read leaves the package. -/
def State.askHost (q c va len : Nat) (s : State) : State :=
  match s.ctx? c with
  | none => s
  | some x => match s.translate x .read va with
    | .ok (l, _) => if l.space = .host then s.post (.fetch q (l.phys va) len) else s
    | .error _ => s

/-- A read of a queue's eyelet is under way. -/
def State.readEyelet (q : Nat) (s : State) : State :=
  match s.queue? q with
  | none => s
  | some u => if u.eyeletOut || s.external q then s else
      (s.onQueue q (fun u => { u with eyeletOut := true, wake := false, eyeletAfter := s.nextId })).askHost q u.ctx u.eyelet 8

/-- What the front end of a bound queue does next: reads the next descriptor that its last eyelet covers, or the
eyelet after a wake (R249 to R252, R257). -/
def State.pull (q : Nat) (s : State) : State :=
  match s.queue? q with
  | none => s
  | some u =>
    if !u.bound || u.st != .live || u.run.isSome || u.descOut || s.external q || !(s.ctx? u.ctx).any (fun c => c.st = .live) then s
    else if u.c < u.pSeen then
      (s.onQueue q (fun u => { u with descOut := true })).askHost q u.ctx (u.ring + 64 * (u.c % 2 ^ u.log2)) 64
    else if u.wake then s.readEyelet q
    else s

/-- A message to the home of a fence (R198, R199): the slice that the windows of the context's hoop give its
address, from the die of the waiter. -/
def State.fenceMsg (kind : MsgKind) (hoop : Option Nat) (src pa : Nat) (frm : Stop) (s : State) : State :=
  let idx := s.idxOn src (s.winFor hoop pa) pa
  s.sendMsg .request kind src (s.idxDie idx) frm (.quadrant (idxQuad idx))

/-- A fence wait is withdrawn: its registration, and every message of it that is on its way, is removed (R303). -/
def State.unregister (who : Nat × Nat) (s : State) : State :=
  let s := (s.onObjs (fun o => { o with waits := o.waits.filter (fun w => w.who != who) })).onMsgs (fun m => m.filter (fun p =>
    match p.2.kind with
    | .register _ _ _ w => w != who
    | .poll _ _ _ w => w != who
    | .fenceRelease w => w != who
    | _ => true))
  s.onCache (fun c => { c with slices := SMap.mapVals c.slices (fun _ x => { x with
    waiting := x.waiting.filter (fun w => match w with | .msg m => (s.msg? m).isSome | .txn _ => true) }) })

/-! ### The start of a LAUNCH (R264, R341, R374, R391) -/

/-- GPE of a LAUNCH (R263). -/
def gpeOf (d : Bytes) : Nat := numAt d 33 1

/-- A LAUNCH that has taken its members takes its number in its context (R297). -/
def State.beginLaunch (q ctx : Nat) (s : State) : State :=
  let n := (s.ctx? ctx).elim 0 (·.launches) + 1
  (s.onCtx ctx (fun c => { c with launches := n, running := addNum c.running n })).onRun q (fun r => { r with
    phase := .running, launch := n })

/-- Member `k` of `n` takes its share of a LAUNCH (R264). -/
def shareOf (ctx k n : Nat) (d : Bytes) : Share :=
  { ctx := ctx, k := k, e := n, n := numAt d 32 1 + 1, gpe := gpeOf d, twin := numAt d 34 1, kernel := numAt d 16 8,
    args := numAt d 24 8, next := k * gpeOf d, last := k * gpeOf d + gpeOf d - 1, started := false, ended := [], aflags := 0,
    saving := none, slot := none, restore := false, kept := [], knots := [] }

/-- The shares of a LAUNCH on those of its members that `ok` admits, engines in rising order (R264, R319). -/
def State.openShares (q ctx : Nat) (d : Bytes) (ok : Nat → Bool) (s : State) : State :=
  match (s.queue? q).bind (·.run) with
  | none => s
  | some r => each (List.range r.members.length) (fun k t =>
      let e := r.members.getD k 0
      if ok e then t.onEng e (fun n => { n with shares := SMap.put n.shares q (shareOf ctx k r.members.length d) }) else t) s

/-- A LAUNCH starts on all its members at once (R264). -/
def State.openLaunch (q ctx : Nat) (d : Bytes) (s : State) : State := (s.beginLaunch q ctx).openShares q ctx d (fun _ => true)

/-- A held LAUNCH starts as an aligned launch: its members are taken, and the picot leaves for every die that holds
some (R341). -/
def State.alignedLaunch (h q lead : Nat) (pillow : Bool) (s : State) : State :=
  match s.queue? q, s.takeSet q with
  | some u, some s =>
    let s := s.beginLaunch q u.ctx
    let r := (s.queue? q).bind (·.run)
    let dies := (((r.map (·.members)).getD []).map engDie).eraseDups
    let i := s.sched.nextAligned
    let s := s.onSched (fun c => { c with
      aligned := SMap.put c.aligned i
        { hoop := h, queue := q, launch := (r.map (·.launch)).getD 0, pillow := pillow, lead := lead, pendingDies := dies, holding := [] }
      nextAligned := i + 1 })
    each dies (fun d t => t.sendMsg .picot (.aligned i d) (t.mgrDie h) d .barrier .barrier) s
  | _, _ => s

/-- A LAUNCH that a unit has sent starts on its bound queue: the pillow's as an aligned launch, an exchange's at once. -/
def State.fireUnit (q : Nat) (s : State) : State :=
  match s.queue? q with
  | none => s
  | some u => match u.run, s.queueHoop u with
    | some r, some h =>
      if r.sender = 1 then s.alignedLaunch h q (s.fld F.pilCtrl_LEAD (R.pilCtrl h)) true
      else match s.takeSet q with
        | some s => s.openLaunch q u.ctx r.desc
        | none => s
    | _, _ => s

/-- The engines drop the lines and translations that they hold for a context whose slot is freed (R293). -/
def State.purge (ctx : Nat) (s : State) : State :=
  s.onEngs (fun m => SMap.mapVals m (fun _ n => { n with
    l1 := n.l1.filter (fun l => l.ctx != ctx), tlb := n.tlb.filter (fun t => t.ctx != ctx)
    held := n.held.filter (fun t => t.ctx != ctx) }))

/-- Every engine's motif slots of a context are empty. -/
def State.dropMotifs (ctx : Nat) (s : State) : State :=
  s.onEngs (fun m => SMap.mapVals m (fun _ n => { n with motifs := n.motifs.filter (fun p => p.1 / 8 != ctx) }))

/-- The motif slots that an engine still holds of contexts that have left it are empty once the images of 4 contexts, its resident
ones among them, fill its motif store (R80, R88; DESIGN CHOICE: the manual keeps a slot loaded across kernels, and does not say what
becomes of the slots of a context that is no longer resident). -/
def State.motifRoom (e : Nat) (s : State) : State :=
  let here := s.ctxsOn e
  let all := (s.eng e).motifs.foldl (fun a p => addNum a (p.1 / 8)) here
  if all.length ≤ 4 then s
  else s.onEng e (fun n => { n with motifs := n.motifs.filter (fun p => here.contains (p.1 / 8)) })

/-- A queue is bound: resident slots are taken, and it starts where it left off (R283, R321, R329). -/
def State.bind (q : Nat) (s : State) : State :=
  match s.queue? q with
  | none => s
  | some u =>
    let ms := s.wants q u
    let slot := u.slot.orElse (fun _ => s.freeQSlot)
    let cslot := ((s.ctx? u.ctx).bind (·.slot)).orElse (fun _ => s.freeCSlot)
    let k := s.tick
    let s := k.2
    let s := s.onCtx u.ctx (fun c => { c with slot := cslot })
    let s := s.onQueue q (fun u => { u with bound := true, members := ms, slot := slot, boundAt := k.1,
                                            waitSince := none, sliceOver := false })
    let s := each ms State.motifRoom s
    match u.run with
    | none => s.pull q
    | some r =>
      if r.phase = .held then s.fireUnit q
      else if descOp r.desc = 7 then
        let pa := (r.ranges.headD (0, 0)).1
        (s.onRun q (fun r => { r with phase := .running })).fenceMsg (.register u.ctx pa (numAt r.desc 24 8) (0, q))
          ((s.ctx? u.ctx).map (·.hoop)) (engDie (ms.headD 0)) pa (.quadrant (engQuad (ms.headD 0)))
      else s.onRun q (fun r => { r with
        phase := .restoring, answered := r.members.filter (fun e => (SMap.get? (s.eng e).shares q).isNone) })

/-- A context's slot is freed, and its entry written back, where none of its queues is bound or holds a saved command (R283, R324). -/
def State.freeCtxSlot (ctx : Nat) (s : State) : State :=
  if s.objs.queues.any (fun p => p.2.ctx = ctx && (p.2.bound || p.2.run.isSome)) || s.serves ctx then s
  else ((s.onCtx ctx (fun c => { c with slot := none })).saveCtx ctx).purge ctx

/-- A queue is unbound, and its entry written back; a saved command keeps its slots (R283, R324). -/
def State.unbind (q : Nat) (s : State) : State :=
  match s.queue? q with
  | none => s
  | some u =>
    let k := s.tick
    let s := k.2.onQueue q (fun u => { u with bound := false, sliceOver := false, members := []
                                              slot := if u.run.isSome then u.slot else none })
    (s.onQueue q (fun u => { u with waitSince := if s.waits u then some k.1 else none })).saveQueue q |>.freeCtxSlot u.ctx

/-- A command that has been decoded and not started leaves nothing but its pins (R271). -/
def State.dropHeld (q : Nat) (s : State) : State :=
  match (s.queue? q).bind (·.run) with
  | none => s
  | some r => (each r.pins (fun p t => t.pin p.1 p.2 false) s).onQueue q (fun u => { u with run := none })

/-- The members of a queue's LAUNCH that have no share left: they have ended. -/
def State.endedMembers (s : State) (q : Nat) (r : Run) : List Nat :=
  r.members.filter (fun e => (SMap.get? (s.eng e).shares q).isNone)

/-- Barriers of system scope that wait for partners lose their count too; their instance is kept for the next arrival
(R327, R414). -/
def State.freezeSystem (q : Nat) (s : State) : State :=
  s.onGmp (fun g => { g with
    instances := SMap.mapVals g.instances (fun k n =>
      if k / 4 = q && g.barriers.any (fun b => b.queue = q && b.num = k % 4 && b.ready) then n - 1 else n)
    barriers := g.barriers.map (fun b => if b.queue = q then { b with ready := false } else b) })

/-- A preemption of a running LAUNCH starts: one save slot for each member, the barriers frozen and their counts
dropped, the preempt picot sent from the scheduler's stop; with too few free slots it is skipped and counted (R321, R327, R502). -/
def State.preempt (q : Nat) (s : State) : State :=
  match s.queue? q with
  | none => s
  | some u => match u.run, s.queueHoop u with
    | some r, some h =>
      let free := (s.hoop h).freeSlots
      if free.length < r.members.length then s.bump F.hoopSaveStat_SHORT (R.hoopSaveStat h) 1
      else
        let took := pickMany 0 s.objs.stamp r.members.length free
        let s := (s.ticks r.members.length).onHoop h (fun x => { x with
          freeSlots := free.filter (fun i => !took.contains i), preempting := addNum x.preempting q })
        let s := (s.onRun q (fun r => { r with phase := .saving, answered := s.endedMembers q r, frozen := true, arrivals := []
                                               slots := r.members.zip took })).freezeSystem q
        each r.members (fun e t => t.sendMsg .picot (.preempt q e) (t.mgrDie h) (engDie e) .barrier (.quadrant (engQuad e))) s
    | _, _ => s

/-- The scheduler unbinds a queue in the way that its running command asks for (R324). -/
def State.startUnbind (q : Nat) (s : State) : State :=
  match s.queue? q with
  | none => s
  | some u =>
    if !u.bound then s
    else match u.run with
    | none => s.unbind q
    | some r =>
      if r.phase = .held then (s.dropHeld q).unbind q
      else if r.phase = .running ∧ descOp r.desc = 2 then s.preempt q
      else if r.phase = .running ∧ descOp r.desc = 7 then
        ((s.unregister (0, q)).onRun q (fun r => { r with phase := .saved })).unbind q
      else if r.phase = .saving ∨ r.phase = .restoring then s
      else s.onQueue q (fun u => { u with sliceOver := true })

/-- The bound queue that gives way on a blocking engine: of those all of which are lower in PRIO, the lowest, and of equals the one
bound last (R322, rule 3; DEDUCED: an engine that a queue of equal or higher PRIO fills too does not block by lower ones alone). -/
def State.victim (s : State) (e prio : Nat) : Option Nat :=
  let on := s.boundOn e
  if on.isEmpty || !(on.all (fun p => p.2.kind == .compute && decide (p.2.prio < prio))) then none
  else on.foldl (fun b p => match b with
    | none => some p.1
    | some i => match s.queue? i with
      | none => some p.1
      | some v => if p.2.prio < v.prio ∨ (p.2.prio = v.prio ∧ v.boundAt < p.2.boundAt) then some p.1 else b) none

/-- The waiting queues of a hoop in the order of R322. -/
def State.waitingQueues (s : State) (h : Nat) : List Nat :=
  let before := fun (a b : Nat × Queue) => decide (b.2.prio < a.2.prio) ||
    (a.2.prio == b.2.prio && decide (a.2.waitSince.getD 0 ≤ b.2.waitSince.getD 0))
  (sortBy before (s.objs.queues.filter (fun p => s.waits p.2 && s.queueHoop p.2 == some h))).map (·.1)

/-- Rule 2 of R322 for the waiting queues in order: each binds if it can. `held` are engines that earlier queues wait for, each with
the PRIO of the queue. -/
def State.bindLoop : List Nat → List (Nat × Nat) → State → State
  | [], _, s => s
  | q :: qs, held, s =>
    match s.queue? q with
    | none => State.bindLoop qs held s
    | some u =>
      let ms := s.wants q u
      if s.canBind q u && !(ms.any (fun e => held.any (fun p => p.1 = e && decide (u.prio < p.2)))) then
        State.bindLoop qs held (s.bind q)
      else State.bindLoop qs (held ++ ms.map (fun e => (e, u.prio))) s

/-- Rule 3 of R322 for the queues that still wait, in order: one that bound queues of lower PRIO alone block has the lowest of them
unbound on each engine that blocks it, and binds where that has made room at once. -/
def State.pushLoop : List Nat → State → State
  | [], s => s
  | q :: qs, s =>
    match s.queue? q with
    | none => State.pushLoop qs s
    | some u =>
      let ms := s.wants q u
      let vs := (ms.filter (fun e => !s.engFits u e)).map (fun e => s.victim e u.prio)
      if !ms.isEmpty && !vs.isEmpty && s.slotsFree u && vs.all (·.isSome) && !ms.any s.darningEngine then
        let s := each (vs.filterMap id).eraseDups (fun v t => t.startUnbind v) s
        State.pushLoop qs (if s.canBind q u then s.bind q else s)
      else State.pushLoop qs s

/-- Copy queues, and the real-time queues of an enabled roll, that found no resident slot when they were to be bound are bound once
slots are free (R283, R325) and no darning of a member is under way (R449). -/
def State.bindLate (s : State) : State :=
  each (s.objs.queues.map (·.1)) (fun q s => match s.queue? q with
    | none => s
    | some u =>
      if u.kind != .compute && u.st == .live && !u.bound && (s.ctx? u.ctx).any (fun c => c.st = .live) &&
         (u.kind == .copy || !(s.setNow q u).isEmpty) && !(s.setNow q u).any s.darningEngine && s.slotsFree u then s.bind q else s) s

/-- The hoop scheduler decides (R322). -/
def State.reschedule (h : Nat) (s : State) : State :=
  let s := if s.fld F.hoopStat_STATE (R.hoopStat h) = 2 then
      let s := s.bindLoop (s.waitingQueues h) []
      s.pushLoop (s.waitingQueues h)
    else s
  s.bindLate

/-- The scheduler of a queue's hoop decides. -/
def State.decideFor (q : Nat) (s : State) : State :=
  match (s.queue? q).bind s.queueHoop with
  | some h => s.reschedule h
  | none => s

/-! ### The end of a command (R249, R269 to R272, R296) -/

/-- The save slots of a command return to its hoop's free list. -/
def State.freeSlots (q : Nat) (s : State) : State :=
  match s.queue? q with
  | none => s
  | some u => match u.run, s.queueHoop u with
    | some r, some h =>
      (s.onHoop h (fun x => { x with freeSlots := r.slots.foldl (fun a p => addNum a p.2) x.freeSlots
                                     preempting := delNum x.preempting q })).onRun q (fun r => { r with slots := [] })
    | _, _ => s

/-- The record of a command with a status (R269). -/
def runRec (q : Nat) (u : Queue) (r : Run) (status detail : Nat) : Rec :=
  { cookie := numAt r.desc 8 8, tag := numAt r.desc 4 4, queue := q, status := status, opcode := descOp r.desc,
    aflags := r.aflags, detail := detail, ctx := u.ctx }

/-- What ports have taken for a queue's command and not yet seen acknowledged outlasts the command (R206). -/
def State.acksLate (q : Nat) (s : State) : State :=
  let late := fun (u : Unacked) => if u.req.any (fun x => x.2.queue = q || x.2.issuer == .bulk q) then { u with late := true } else u
  s.onGmp (fun g => { g with ports := SMap.mapVals g.ports (fun _ p => { p with
    unacked := p.unacked.map late
    signals := p.signals.map (fun h => { h with who := late h.who }) }) })

/-- A command leaves its queue: pins and save slots are released, its LAUNCH is no longer running, the consumer count
covers its descriptor (R296, R297); a LAUNCH that a unit sent has no descriptor in the ring. -/
def State.dropRun (q : Nat) (s : State) : State :=
  match s.queue? q with
  | none => s
  | some u => match u.run with
    | none => s
    | some r =>
      let s := ((s.freeSlots q).unregister (0, q)).onMsgs (fun m => SMap.mapVals m (fun _ x => match x.kind with
        | .signal c a v (some k) w => if k = q then { x with kind := .signal c a v none w } else x
        | _ => x))
      let s := each r.pins (fun p t => t.pin p.1 p.2 false) (s.acksLate q)
      let s := if descOp r.desc = 2 then s.onCtx u.ctx (fun c => { c with running := delNum c.running r.launch }) else s
      if r.sender ≠ 0 then s.onQueue q (fun u => { u with run := none })
      else s.onQueue q (fun u => { u with run := none, c := u.c + 1 })

/-- What follows the end of a command: a queue whose slice had ended is unbound, the scheduler decides, and the next
descriptor is read (R322, R324). -/
def State.afterEnd (q : Nat) (s : State) : State :=
  let s := if (s.queue? q).any (fun u => u.sliceOver && u.run.isNone && u.bound) then s.unbind q else s
  (s.decideFor q).pull q

end Sys2Proof.Machine
end

