-- ==== Sys2Proof/Machine/Ports.lean ====
section
/-!
DEFINITION. The sending side of the gimp ports, and the exchanges as every unit sees them: partners and bonded pairs,
channels, credits and the transmit queue, and the stop of an exchange (R383, R397, R399 to R403, R405, R411).
-/
namespace Sys2Proof.Machine

/-! ### Ports and partners (R411) -/

def State.gmpState (s : State) (p : Nat) : Nat := s.fld F.gmpStat_STATE (R.gmpStat p)
def State.gmpUp (s : State) (p : Nat) : Bool := s.gmpState p == 3

/-- A port that carries nothing; what its last bring-up took of GMP_CTRL stays (R416). -/
def Port.down (q : Port) : Port :=
  { Port.empty with nextId := q.nextId, peerCheck := q.peerCheck, bondEn := q.bondEn, bondPort := q.bondPort, peerHash := q.peerHash }

/-- The other port of a bonded pair, as its bring-up took BOND_PORT. -/
def State.bondOf (s : State) (p : Nat) : Option Nat :=
  if s.bit F.gmpStat_BONDED (R.gmpStat p) then some (s.port p).bondPort else none

/-- The port that names the partner behind a port: the lower one of a bonded pair (R388). -/
def State.partner (s : State) (p : Nat) : Nat := match s.bondOf p with | some q => min p q | none => p

/-- Whether the partner behind a port can be reached: the port, or the other of its pair, is up. -/
def State.partnerUp (s : State) (p : Nat) : Bool := s.gmpUp p || (s.bondOf p).any s.gmpUp

/-- The partners that a set of ports names, in rising order, a bonded pair once. -/
def State.partnersOf (s : State) (ports : Nat) : List Nat :=
  (((List.range 8).filter (fun p => ports.testBit p)).map s.partner).foldl addNum []

/-- The port on which a message for a partner goes: the one that its address picks, or the lower one where it has none;
the other while that one is not up (R407, R411). -/
def State.portFor (s : State) (p : Nat) (addr : Option Nat) : Nat :=
  match s.bondOf p with
  | none => p
  | some q =>
    let lo := min p q
    let hi := max p q
    let want := match addr with
      | none => lo
      | some a => if a.testBit 7 == a.testBit 15 then lo else hi
    if s.gmpUp want then want else if want = lo then hi else lo

/-! ### Messages (R400, R401) -/

/-- The channel of a message type: 0 picot, 1 request, 2 response, 3 bulk. -/
def mtypeChan (k : Nat) : Nat :=
  if k = 6 ∨ k = 13 then 0 else if k = 4 then 1 else if k = 5 ∨ k = 7 ∨ k = 8 ∨ k = 11 ∨ k = 12 then 2 else 3

/-- The chunks of a message: of fixed length by its type, else as its body needs after the header. -/
def mtypeChunks (k body : Nat) : Nat :=
  if k = 1 then 2 else if k = 2 ∨ k = 3 ∨ k = 9 then 5 else if k = 7 ∨ k = 8 then max 1 ((16 + body + 31) / 32) else 1

/-! ### Sending (R399, R403, R405) -/

/-- The place of a channel in the weighted round-robin of R36: response, request, bulk. -/
def chanTurn (c : Nat) : Nat := if c = 2 then 0 else if c = 1 then 1 else 2

/-- The first message of each channel that has the credits it needs. -/
def Port.ready (p : Port) (c : Nat) : Option PMsg :=
  (p.queue.find? (fun m => mtypeChan m.kind = c)).filter (fun m => decide (m.chunks ≤ p.credits.getD c 0))

/-- The message that the next flit takes, with the round-robin after it: a picot first, then the turn of R36. -/
def Port.next (p : Port) : Option (PMsg × (Nat × Nat)) :=
  match p.ready 0 with
  | some m => some (m, p.wrr)
  | none =>
    let k := wrrNext p.wrr (fun t => (p.ready (if t = 0 then 2 else if t = 1 then 1 else 3)).isSome)
    match p.ready (if k.1 = 0 then 2 else if k.1 = 1 then 1 else 3) with
    | some m => some (m, (k.1, k.2 - 1))
    | none => none

/-- The messages that a flit takes in `room` chunks, each with its credits; a message never spans two flits, and the first that does
not fit closes the flit (R399, R400, R403; DESIGN CHOICE: the manual does not say whether a later message may fill what is left). -/
def Port.fill : Nat → Nat → Port → List PMsg × Port
  | 0, _, p => ([], p)
  | n + 1, room, p =>
    match p.next with
    | none => ([], p)
    | some (m, k) =>
      if room < m.chunks then ([], p)
      else
        let r := Port.fill n (room - m.chunks) { p with
          wrr := k, queue := p.queue.erase m, credits := setNth p.credits (mtypeChan m.kind) (fun c => c - m.chunks) }
        (m :: r.1, r.2)

/-- What a flit carries leaves the package: its messages, or the kind of a flit that has none. -/
def State.postFlit (p kind : Nat) (ms : List PMsg) (s : State) : State :=
  if kind = 0 then each ms (fun m t => t.post (.gimp p m.kind [m.tag, m.xid, m.id, m.addr, m.dst, m.src, m.aux] m.body)) s
  else s.post (.gimp p (0x200 + kind) [] [])

/-- A flit leaves a port: it takes a sequence number, is counted under the key and held for replay (R399, R405, R408). -/
def State.sendPFlit (p kind : Nat) (ms : List PMsg) (s : State) : State :=
  let q := s.port p
  (s.onPort p (fun x => { x with
    nextSeq := (q.nextSeq + 1) % 4096, txCount := (q.txCount + 1) % 2 ^ 64
    replay := x.replay ++ [{ seq := q.nextSeq, sends := 1, fkind := kind, msgs := ms }] })).postFlit p kind ms

/-- Whether a port carries flits now: up, not retraining, its COUNTER announced, and room in the replay buffer. -/
def State.portFlows (s : State) (p : Nat) : Bool :=
  s.gmpUp p && !s.bit F.gmpCtrl_RETRAIN (R.gmpCtrl p) && !(s.port p).resuming && decide ((s.port p).replay.length < 256)

/-- Messages leave a port's transmit queue, in flits of seven chunks, while it flows and credits last (R399, R403). -/
def State.portPump (p : Nat) : Nat → State → State
  | 0, s => s
  | n + 1, s =>
    if !s.portFlows p then s
    else
      let r := (s.port p).fill 7 7
      if r.1.isEmpty then s else State.portPump p n ((s.onPort p (fun _ => r.2)).sendPFlit p 0 r.1)

/-- A message joins a port's transmit queue; one that is acknowledged end to end is remembered until its ACK (R401). -/
def State.portSend (p : Nat) (m : PMsg) (who : Option Unacked) (s : State) : State :=
  let i := (s.port p).nextId
  let s := s.onPort p (fun x => { x with
    nextId := (i + 1) % 2 ^ 32
    queue := x.queue ++ [{ m with id := i, chunks := mtypeChunks m.kind m.body.length }]
    unacked := match who with | some u => x.unacked ++ [{ u with id := i }] | none => x.unacked })
  s.portPump p ((s.port p).queue.length + 1)

/-- The tag of a hoop's messages (R383, R412). -/
def State.hoopTag (s : State) (h : Nat) : Nat := s.fld F.gmpOutTag_TAG (R.gmpOutTag h)

/-! ### Exchanges (R379 to R383) -/

def State.xch? (s : State) (key : Nat) : Option Xch := SMap.get? s.shx.xchs key
def State.onXch (key : Nat) (f : Xch → Xch) (s : State) : State :=
  s.onShx (fun x => { x with xchs := SMap.modify x.xchs key f })
def State.onXDie (key d : Nat) (f : XDie → XDie) (s : State) : State :=
  s.onXch key (fun x => { x with dies := SMap.modify x.dies d f })
def State.xdie? (s : State) (key d : Nat) : Option XDie := (s.xch? key).bind (fun x => SMap.get? x.dies d)

def State.xchXid (s : State) (key : Nat) : Nat := s.fld F.shxXDomain_XID (R.shxXDomain (key / 4) (key % 4))
def State.xchPorts (s : State) (key : Nat) : Nat := s.fld F.shxXDomain_PORTS (R.shxXDomain (key / 4) (key % 4))
/-- The partners of an exchange. -/
def State.xchPartners (s : State) (key : Nat) : List Nat := s.partnersOf (s.xchPorts key)

/-- A message of an exchange to a partner (R383, R400). -/
def State.xchMsg (s : State) (key kind addr dst src aux : Nat) (body : Bytes) : PMsg :=
  { kind := kind, chunks := 0, tag := s.hoopTag (key / 4), xid := s.xchXid key, id := 0, addr := addr, dst := dst, src := src,
    aux := aux, body := body }

/-- An exchange stops: its movements end, what they asked of memory is discarded, its messages between units are gone,
every partner is sent ABORT, and EN reads 0 (R397, R415). -/
def State.xchStop (key : Nat) (s : State) : State :=
  match s.xch? key with
  | none => s
  | some x =>
    let s := each (s.xchPartners key) (fun p t =>
      t.portSend (t.portFor p none) (t.xchMsg key 0x0D (x.last % 2 ^ 40) 0 0 0x41 []) none) s
    let s := s.onTxns (fun m => SMap.mapVals m (fun _ t => match t.issuer with
      | .movement h k _ => if 4 * h + k = key then { t with dead := true } else t
      | _ => t))
    let s := s.onMsgs (fun l => SMap.keep l (fun _ x => match x.kind with | .shx m => 4 * m.hoop + m.xch != key | _ => true))
    let s := s.onShx (fun y => { y with
      xchs := SMap.del y.xchs key, moves := SMap.keep y.moves (fun _ v => v.key != key) })
    (s.setF F.shxXCtrl_EN (R.shxXCtrl (key / 4) (key % 4)) 0).freeCtxSlot x.ctx

/-- The exchange that a context serves stops, for the context has left STATE 1 (R397, R415). -/
def State.ctxLeaves (c : Nat) (s : State) : State :=
  each ((s.shx.xchs.filter (fun p => p.2.ctx = c)).map (·.1)) State.xchStop s

end Sys2Proof.Machine
end

