-- ==== Sys2Proof/Machine/Faults.lean ====
section
/-!
DEFINITION. Taking a fault: the syndrome of an engine, the fault state of a context, the stop and the teardown of
a context on its engines, and the end of its commands (R132 to R136, R271, R287, R288).
-/
namespace Sys2Proof.Machine

/-- The first row of a fault table entry: a code, a DETAIL and an address. -/
def trouble (code detail addr : Nat) : Trouble := { code := code, detail := detail, addr := addr }

/-- The engine that issued a transaction, where an engine did. -/
def Issuer.engine : Issuer → Option Nat
  | .lane e _ => some e
  | .mover e _ => some e
  | .motif e _ _ => some e
  | .fetch e _ => some e
  | .walk e _ => some e
  | .past e _ _ => some e
  | _ => none

/-- What tells that a picot comes from an engine (R130). -/
def MsgKind.picotOf : MsgKind → Option Nat
  | .arrive _ _ _ e _ => some e
  | .fault _ _ e => some e
  | .saved _ e => some e
  | _ => none

/-- Picots of an engine that hold one of its 4 credits: they have not arrived (R130). -/
def State.picotsOut (s : State) (e : Nat) : Nat :=
  (s.msgs.filter (fun p => p.2.kind.picotOf == some e && !p.2.arrived)).length

/-- Whether an engine has a picot credit free, and no picot that waits for one. -/
def State.picotFree (s : State) (e : Nat) : Bool := decide (s.picotsOut e < 4) && (s.eng e).picots.isEmpty

/-- An engine sends a picot on one of its reserved credits, or holds it until one is free (R35, R130). -/
def State.enginePicot (e : Nat) (kind : MsgKind) (dst : Nat) (stop : Stop) (s : State) : State :=
  if s.picotFree e then s.sendMsg .picot kind (engDie e) dst (.quadrant (engQuad e)) stop
  else s.onEng e (fun n => { n with picots := n.picots ++ [(kind, dst, stop)] })

/-- Held picots of an engine leave while it has credits. -/
def State.picotsGo (e : Nat) : Nat → State → State
  | 0, s => s
  | n + 1, s => match (s.eng e).picots with
    | [] => s
    | p :: ps => if 4 ≤ s.picotsOut e then s
      else State.picotsGo e n ((s.onEng e (fun n => { n with picots := ps })).sendMsg .picot p.1 (engDie e) p.2.1 (.quadrant (engQuad e)) p.2.2)

/-- Held picots of every engine leave while it has credits. -/
def State.picotsAll (s : State) : State :=
  each ((s.engs.filter (fun p => !p.2.picots.isEmpty)).map (·.1)) (fun e s => s.picotsGo e (s.eng e).picots.length) s

/-- The syndrome registers of an engine take a fault, or count it as lost while VALID is 1 (R135, R138). -/
def State.syndrome (e slot g lane code detail pc addr : Nat) (s : State) : State :=
  if s.bit F.engFault_VALID (R.engFault e) then s.bump F.engFaultCnt_LOST (R.engFaultCnt e) 1
  else
    let w := Fset F.engFault_CODE code (Fset F.engFault_CTX_SLOT slot (Fset F.engFault_GROUP g
      (Fset F.engFault_LANE lane (Fset F.engFault_VALID 1 0))))
    (((s.wr (R.engFault e) w).wr64 (R.engFaultPcLo e) (pc % 2 ^ 57)).wr64 (R.engFaultAddrLo e) addr).setF
      F.engFaultDetail_DETAIL (R.engFaultDetail e) detail

/-- A fault reaches a context's slot: the first is captured and the context's queues stop, a later one is counted
(R287, R288). A fault that finds the context in destruction is captured without ending it (R310). -/
def State.capture (c : Nat) (f : FaultRec) (s : State) : State :=
  match s.ctx? c with
  | none => s
  | some x =>
    if x.fault.isSome then (s.onCtx c (fun x => { x with lost := satAdd 0xFFFFFFFF x.lost 1 })).saveCtx c
    else
      let s := (s.onCtx c (fun x => { x with fault := some f, st := if x.st = .live then .faulted else x.st })).saveCtx c
      if x.st = .live then
        ((s.onObjs (fun o => { o with queues := SMap.mapVals o.queues (fun _ q =>
          if q.ctx = c && q.st == .live then { q with st := .stopped } else q) })).saveQueues c).ctxLeaves c
      else s

/-- The groups of one context, or of one queue, on an engine stop: their unstarted filet operations are removed with
their FTR bits, the running ones finish, their fence waits are withdrawn, and the responses to their requests will be discarded (R133,
R136, R303). -/
def State.stopOn (e : Nat) (mine : Nat → Nat → Bool) (s : State) : State :=
  let gs := (s.eng e).groups.filter (fun p => mine p.2.ctx p.2.queue)
  let s := s.onEng e (fun n => { n with
    groups := SMap.mapVals n.groups (fun _ g => if mine g.ctx g.queue then
      { g with st := .stopped, ftr := 0 } else g)
    filet := n.filet.filter (fun p => !mine p.2.ctx p.2.queue || p.2.started)
    walks := SMap.mapVals n.walks (fun _ w => if gs.any (fun p => p.1 = w.group) then { w with drop := true } else w) })
  let s := each gs (fun p t => t.unregister (1, 16 * e + p.1)) s
  s.onTxns (fun m => SMap.mapVals m (fun _ t =>
    if t.issuer.engine == some e && t.ctx.any (fun c => mine c t.queue) then { t with dead := true } else t))

/-- A context stops on an engine and its requests drain (R133). -/
def State.stopCtx (e c : Nat) (s : State) : State :=
  (s.stopOn e (fun x _ => x == c)).onEng e (fun n => { n with draining := addNum n.draining c })

/-- Whether an engine holds anything of a context. -/
def Engine.holdsCtx (n : Engine) (c : Nat) : Bool :=
  n.groups.any (fun p => p.2.ctx = c) || n.shares.any (fun p => p.2.ctx = c) || n.filet.any (fun p => p.2.ctx = c)

/-- Whether a forced clear has abandoned a request (R308). -/
def State.givenUp (s : State) (i q : Nat) : Bool := (s.queue? q).any (fun u => u.abandoned.contains i)

/-- Whether a context's requests and running filet operations on an engine have ended. -/
def State.drained (s : State) (e c : Nat) : Bool :=
  !(s.txns.any (fun p => p.2.issuer.engine == some e && p.2.ctx == some c && !s.givenUp p.1 p.2.queue)) &&
  !((s.eng e).filet.any (fun p => p.2.ctx = c))

/-- A context's rows, windows, motif slots, L1 lines and translation entries on an engine are freed (R133). -/
def State.freeCtxOn (e c : Nat) (s : State) : State :=
  s.onEng e (fun n => { n with
    groups := n.groups.filter (fun p => p.2.ctx != c)
    wins := n.wins.filter (fun w => !(n.shares.any (fun p => p.1 = w.queue && p.2.ctx = c)))
    shares := n.shares.filter (fun p => p.2.ctx != c)
    motifs := n.motifs.filter (fun p => p.1 / 8 != c)
    l1 := n.l1.filter (fun l => l.ctx != c), tlb := n.tlb.filter (fun t => t.ctx != c)
    held := n.held.filter (fun t => t.ctx != c)
    draining := delNum n.draining c })

/-- The number of a die's bulk movers among the units that hold a command. -/
def moverUnit (die : Nat) : Nat := 2048 + die

/-- Fence signals of a queue's command that a unit has sent and that are not yet applied. -/
def State.signalsOut (s : State) (q unit : Nat) : List Nat :=
  (s.msgs.filter (fun p => match p.2.kind with | .signal _ _ _ _ (some w) => w.queue == q && w.unit == unit | _ => false)).map (·.1)

/-- The requests of a queue's command that a unit has outstanding; those that a forced clear has abandoned are not among them
(R307, R308). -/
def State.cmdTxns (s : State) (q unit : Nat) : List Nat :=
  ((s.txns.filter (fun p => match p.2.issuer with
    | .bulk k => k == q && decide (2048 ≤ unit)
    | i => i.engine == some unit && p.2.queue == q)).map (·.1) ++ s.signalsOut q unit).filter (fun i => !s.givenUp i q)

/-- The unit whose front end sends for a queue: its lead engine, or the bulk mover of a copy queue. -/
def Queue.leadUnit (u : Queue) : Nat := if u.kind = .copy then moverUnit u.mover else u.members.headD 0

/-- The units that hold something of a queue's command: engines, and the bulk mover of a copy queue. -/
def State.unitsOf (s : State) (q : Nat) (u : Queue) : List Nat :=
  let es := (s.engs.filter (fun p => p.2.groups.any (fun g => g.2.queue = q) || p.2.filet.any (fun f => f.2.queue = q) ||
    p.2.shares.any (fun h => h.1 = q) || !(s.cmdTxns q p.1).isEmpty)).map (·.1)
  if u.run.isSome && (u.kind == .copy || !(s.signalsOut q u.leadUnit).isEmpty) then addNum es u.leadUnit else es

/-- Whether a unit has ended all that it has outstanding for a queue's command (R307, step 2). -/
def State.unitDrained (s : State) (q unit : Nat) : Bool :=
  (s.cmdTxns q unit).isEmpty && !((s.eng unit).filet.any (fun p => p.2.queue = q))

/-- A started command of a faulted context stops: it ends, with the fault if it was its own, else aborted, once what it has
outstanding has drained (R208, R271, R288). One that has not started leaves nothing. -/
def State.stopRun (q : Nat) (f : Option FaultRec) (s : State) : State :=
  match s.queue? q with
  | none => s
  | some u => match u.run with
    | none => s
    | some r =>
      if r.phase = .held then s.dropHeld q
      else if r.phase = .ending then s
      else
        let own := f.filter (fun f => f.cmd && f.queue = q)
        let units := s.unitsOf q u
        let s := (s.onQueue q (fun u => { u with
          drain := if u.st = .destroying then u.drain else units, forced := if u.st = .destroying then u.forced else 0 })).onRun q (fun r => { r with
          phase := .ending, status := (own.map (·.code)).getD 0x41, detail := (own.map (·.detail)).getD 0, fault := own.isSome })
        (s.unregister (0, q)).onTxns (fun m => SMap.mapVals m (fun _ t => if t.issuer == .bulk q then { t with dead := true } else t))

/-- The teardown of a faulted context: it stops on every engine that holds anything of it, and its started commands stop
(R133, R271, R288). -/
def State.teardown (c : Nat) (s : State) : State :=
  match s.ctx? c with
  | none => s
  | some x =>
    let s := each ((s.engs.filter (fun p => p.2.holdsCtx c)).map (·.1)) (fun e t => t.stopCtx e c) s
    each ((s.objs.queues.filter (fun p => p.2.ctx = c && p.2.run.isSome)).map (·.1)) (fun q t => t.stopRun q x.fault) s

/-- A fault found outside the engines, by a bulk mover, an exchange unit or the pillow (F_ENGINE 0xFFFF, R286), of a command of a
queue, or of none. -/
def State.unitFault (c queue die : Nat) (cmd : Bool) (t : Trouble) (pc : Nat) (s : State) : State :=
  let s := s.passTime
  (s.capture c { code := t.code, detail := t.detail, engine := 0xFFFF, group := 0, lane := 0, queue := queue, pc := pc,
                 addr := t.addr, time := s.count die, die := die, cmd := cmd }).teardown c

/-- Why a unit's write at a context's virtual range is refused, of the first page that refuses it (R213, R292). -/
def State.vaRefuse (s : State) (c : Ctx) (va n : Nat) : Option Trouble :=
  (pageParts va (n / 4096 + 2) n).findSome? (fun p => match s.translate c .store p.1 with
    | .error t => some t
    | .ok (l, _) => if l.space = .stack ∧ !s.setAllowed c.hoop (l.phys p.1) true then some (trouble 0x01 1 p.1) else none)

/-- Bytes that a unit of a die writes at a context's virtual range; a write that is refused faults the context, in no command's
name (R213, R292). -/
def State.unitPut (c die va : Nat) (bs : Bytes) (s : State) : State :=
  match s.ctx? c with
  | none => s
  | some x => match s.vaRefuse x va bs.length with
    | some t => s.unitFault c 0 die false t va
    | none => s.vaPoke x va bs

/-- A record written into an event ring, unless the ring's page refuses it (R213, R292). -/
def State.ringWrite (ring : Nat) (rec : Rec) (die : Nat) (evt : Bool) (s : State) : State :=
  match s.ring? ring with
  | none => s
  | some r => match s.ctx? r.ctx with
    | none => s
    | some c => match s.vaRefuse c r.recVa 32 with
      | some t => s.unitFault r.ctx 0 die false t r.recVa
      | none => s.ringPut ring rec die evt

/-- A record of a fence, which waits where only the last slot is free (R272, R273, R302). -/
def State.ringFence (ring : Nat) (rec : Rec) (die : Nat) (s : State) : State :=
  match s.ring? ring with
  | none => s
  | some r =>
    if !r.live then s
    else if r.room false && r.heldEvents.isEmpty then s.ringWrite ring rec die true
    else s.onRing ring (fun r => { r with
      heldEvents := r.heldEvents ++ [leBytes 8 rec.cookie ++ leBytes 2 rec.ctx ++ leBytes 1 die]
      rereading := true })

/-- A fault that the front ends of a queue find, of its command or of none: the lead engine captures the syndrome, or the bulk mover
does (R255). -/
def State.frontFaultOf (q : Nat) (cmd : Bool) (t : Trouble) (pc : Nat) (s : State) : State :=
  match s.queue? q with
  | none => s
  | some u =>
    if u.kind = .copy then s.unitFault u.ctx q u.mover cmd t pc
    else match u.members with
    | [] => s.unitFault u.ctx q (s.queueDie u) cmd t pc
    | e :: _ =>
      let s := s.passTime
      let slot := ((s.ctx? u.ctx).bind (·.slot)).getD 0
      let s := s.syndrome e slot 0 0 t.code t.detail pc t.addr
      (s.capture u.ctx { code := t.code, detail := t.detail, engine := e, group := 0, lane := 0, queue := q, pc := pc,
                         addr := t.addr, time := s.count (engDie e), die := engDie e, cmd := cmd }).teardown u.ctx

/-- A fault of a queue's command. -/
def State.frontFault (q : Nat) (t : Trouble) (pc : Nat) (s : State) : State := s.frontFaultOf q true t pc

/-- A fault on an engine for a context and a queue, of the command that the queue runs or of none: the syndrome is captured in the engine and in the context, the
context stops on the engine, and a fault picot leaves for the front end that launched the kernel (R133). -/
def State.engineFaultOf (e g lane ctx queue : Nat) (cmd : Bool) (t : Trouble) (pc : Nat) (s : State) : State :=
  let s := s.passTime
  let slot := ((s.ctx? ctx).bind (·.slot)).getD 0
  let s := s.syndrome e slot g lane t.code t.detail pc t.addr
  let s := s.capture ctx { code := t.code, detail := t.detail, engine := e, group := g, lane := lane, queue := queue,
                           pc := pc, addr := t.addr, time := s.count (engDie e), die := engDie e, cmd := cmd }
  let s := s.stopCtx e ctx
  let lead := (((s.queue? queue).map (·.members)).getD []).headD e
  s.enginePicot e (.fault ctx queue e) (engDie lead) (.quadrant (engQuad lead))

/-- A fault on an engine of the command that a queue runs. -/
def State.engineFault (e g lane ctx queue : Nat) (t : Trouble) (pc : Nat) (s : State) : State :=
  s.engineFaultOf e g lane ctx queue true t pc

/-- A group of an engine faults (R133). -/
def State.groupFault (e g lane : Nat) (t : Trouble) (pc : Nat) (s : State) : State :=
  match s.grp? e g with
  | none => s
  | some u => s.engineFault e g lane u.ctx u.queue t pc

/-- FAULT_DRAIN_END: the drain of a context on an engine has ended, and what it held is freed (R133). -/
def faultDrainEnd (e c : Nat) (s : State) : State :=
  if (s.eng e).draining.contains c && s.drained e c then s.freeCtxOn e c else s

def execFaultDrainEnd (eng ctx : Nat) (s : State) : Host.Outcome State Fault Refusal := .next (faultDrainEnd eng ctx s)

/-- ENG_FAULT_CLEAR: VALID is cleared by a written 1, and LOST with it (R137, R138). -/
def engFaultClear (e : Nat) (s : State) : State :=
  if engineId e then (s.setF F.engFault_VALID (R.engFault e) 0).setF F.engFaultCnt_LOST (R.engFaultCnt e) 0 else s

def execEngFaultClear (eng : Nat) (s : State) : Host.Outcome State Fault Refusal :=
  .next (s.atReg (R.engFault eng) (fun s => engFaultClear eng s))

end Sys2Proof.Machine
end

