-- ==== Sys2Proof/Machine/Engine.lean ====
section
/-!
DEFINITION. What every instruction of an engine passes through: the group's registers, its translation and
instruction fetch, the decode checks on the opcode and on register numbers, the scoreboard, and the end of a group
(R90 to R99, R103 to R108, R195, R499).
-/
namespace Sys2Proof.Machine

/-! ### Registers and lanes (R91, R93) -/

/-- The lanes of a mask, in rising order. -/
def lanesOf (m : Mask32) : List Nat := (List.range 32).filter (fun l => m.toNat.testBit l)

/-- A register of a lane; 255 reads 0 (R91). -/
def Group.reg (u : Group) (r lane : Nat) : Word := if r = 255 then 0 else SMap.getD u.regs (32 * r + lane) 0

/-- A register of a lane written; a write to 255 is discarded (R91). -/
def Group.setReg (r lane : Nat) (w : Word) (u : Group) : Group :=
  if r = 255 then u else { u with regs := SMap.put u.regs (32 * r + lane) w }

/-- A source of a lane. -/
def Group.src (u : Group) (x : Src) (lane : Nat) : Word :=
  match x with | .reg r => u.reg r lane | .imm w => w

/-- The register that a source names. -/
def srcRegs : Src → List Nat
  | .reg r => [r]
  | .imm _ => []

/-- A register written in every active lane (R93). -/
def Group.setAll (r : Nat) (f : Nat → Word) (u : Group) : Group :=
  (lanesOf u.active).foldl (fun v l => v.setReg r l (f l)) u

/-- The group goes on to its next instruction. -/
def Group.step (u : Group) : Group := { u with pc := u.pc + 8, krec := none }

/-- The `k` registers of a block. -/
def blockRegs (b k : Nat) : List Nat := (List.range k).map (fun i => b + i)

/-! ### Translation and instruction fetch (R107, R108) -/

/-- The translation buffer's entry for an address of a context. -/
def Engine.tlbFind (n : Engine) (c va : Nat) : Option Leaf :=
  (n.tlb.find? (fun t => t.ctx = c && decide (t.leaf.va ≤ va) && decide (va < t.leaf.va + t.leaf.size))).map (·.leaf)

/-- What a page gives an access: a leaf and its object, a fault, or a miss that waits for a walk. -/
inductive PageRes where
  | ok (l : Leaf) (m : Mobj)
  | trouble (t : Trouble)
  | miss
  deriving DecidableEq, Repr

/-- What a walk that installs nothing has brought a group for an address (R293). -/
def Engine.givenFor (n : Engine) (g va : Nat) : Option Leaf :=
  (n.given.find? (fun p => p.1 = g && decide (p.2.va ≤ va) && decide (va < p.2.va + p.2.size))).map (·.2)

/-- The translation of an address for a group: what a walk has delivered to it, or the translation buffer's. -/
def State.page (s : State) (e g c : Nat) (a : Access) (va : Nat) : PageRes :=
  match s.ctx? c with
  | none => .miss
  | some x =>
    if 2 ^ 57 ≤ va then .trouble { code := 1, detail := a.detail, addr := va }
    else match ((s.eng e).givenFor g va).orElse (fun _ => (s.eng e).tlbFind c va) with
      | none => .miss
      | some l => match s.leafCheck x a va l with
        | .error t => .trouble t
        | .ok m => .ok l m

/-- A request of an engine, bare. -/
def Txn.blank (is : Issuer) (die quad : Nat) (hoop ctx : Option Nat) (op : MemOp) (sp : Space) (addr : Nat) : Txn :=
  { issuer := is, die := die, quad := quad, hoop := hoop, ctx := ctx, queue := 0, op := op, space := sp, addr := addr, secs := 0,
    data := [], mask := 0, lanes := [], va := 0, pc := 0, insn := 0, rd := 255, size := 0, offs := [], mirrored := false,
    acq := false, noInstall := false, near := false, nearDrop := false, dead := false, idx := 0, win := none, stage := .crossbar,
    moving := false, came := 0, waitAns := false, waitLedger := false, waitStack := 0, poison := 0, words := 0, status := 0,
    results := [] }

/-- A read of a walk is sent (R108): one sector, past the L1 and the near copies. -/
def State.walkRead (e g : Nat) (w : Walk) (table : Nat) (s : State) : State :=
  let a := pteAddr table w.level w.va
  let t := Txn.blank (.walk e g) (engDie e) (engQuad e) ((s.ctx? w.ctx).map (·.hoop)) (some w.ctx) .read
    (if isToile a then .toile else .stack) (lineOf a)
  let r := s.addTxn { t with secs := 2 ^ (a % 128 / 32), va := w.va, noInstall := true, rd := a % 128,
                             queue := (s.grp? e g).elim 0 (·.queue) }
  r.2.onEng e (fun n => { n with walks := SMap.put n.walks r.1 w })

/-- A walk starts for a group that has none, for the address of a lane: at the root, or at an entry held from an earlier walk, as
a free value chooses (R108). -/
def State.startWalk (e g c lane va kind : Nat) (s : State) : State :=
  match s.ctx? c with
  | none => s
  | some x =>
    if (s.eng e).walks.any (fun p => p.2.group = g) then s
    else
      let hs := (s.eng e).held.filter (fun h => h.ctx = c && va / 2 ^ (21 + 9 * h.level) == h.va / 2 ^ (21 + 9 * h.level))
      let d := s.draw
      match hs[d.1 % (hs.length + 1)]? with
      | some h => d.2.walkRead e g { group := g, ctx := c, lane := lane, va := va, level := h.level, kind := kind, gen := x.gen, drop := false } h.table
      | none => d.2.walkRead e g { group := g, ctx := c, lane := lane, va := va, level := 4, kind := kind, gen := x.gen, drop := false } x.root

/-- The L1 line of a context that holds an address. -/
def Engine.l1Find (n : Engine) (c : Nat) (sp : Space) (addr : Nat) : Option L1Line :=
  n.l1.find? (fun l => l.addr = addr && l.ctx = c && l.space = sp)

/-- A sector of an L1 line. -/
def L1Line.sec (l : L1Line) (i : Nat) : Option L1Sector := (l.secs.find? (fun p => p.1 = i)).map (·.2)

/-- An instruction fetch is sent for a group that has none under way. -/
def State.startFetch (e g c : Nat) (l : Leaf) (mir : Bool) (pc : Nat) (s : State) : State :=
  if s.txns.any (fun p => p.2.issuer == .fetch e g) then s
  else
    let a := l.phys pc
    let t := Txn.blank (.fetch e g) (engDie e) (engQuad e) ((s.ctx? c).map (·.hoop)) (some c) .read l.space (lineOf a)
    (s.addTxn { t with secs := 2 ^ (a % 128 / 32), va := lineOf pc, pc := pc, mirrored := mir, queue := (s.grp? e g).elim 0 (·.queue) }).2

/-- Whether every register of a list is available (R94). -/
def Group.free (u : Group) (rs : List Nat) : Bool := rs.all (fun r => r = 255 || !u.busy.contains r)

/-- The registers that an instruction names are registers of the group (R91, R103). -/
def Group.owns (u : Group) (rs : List Nat) : Bool := rs.all (fun r => r = 255 || decide (r < u.n))

/-- A register block: a multiple of `k` with its `len` registers inside the group's (R103). -/
def Group.ownsBlock (u : Group) (b k len : Nat) : Bool := b % k == 0 && decide (b + len ≤ u.n)

/-- Whether the opcode table of the part assigns an OPCODE value (R499). -/
def State.opcodeOk (s : State) (opc : Nat) : Bool := decide (opc < 1024) && !s.part.unassigned.contains opc

/-- The lowest active lane of a group, which names a fault that is every lane's (R135). -/
def Group.lane0 (u : Group) : Nat := ((List.range 32).find? (fun l => u.active.toNat.testBit l)).getD 0

/-- A fault of an instruction of a group as a whole: the lowest-numbered of its lanes is recorded (R135). -/
def State.insnFault (e g code detail addr : Nat) (s : State) : State :=
  match s.grp? e g with
  | none => s
  | some u => s.groupFault e g u.lane0 { code := code, detail := detail, addr := addr } u.pc.toNat

/-- What walks have delivered to a group without installing it is gone: it served the instruction that waited (R293). -/
def Engine.spend (g : Nat) (n : Engine) : Engine := { n with given := n.given.filter (fun p => p.1 != g) }

/-- A group goes to an address that an instruction names. -/
def State.goes (e g : Nat) (v : Group) (s : State) : State := (s.onGrp e g (fun _ => v)).onEng e (Engine.spend g)

/-- An instruction that has issued keeps nothing of what walks delivered to it. -/
def State.spent (e g : Nat) (pc : VAddr) (s : State) : State :=
  if (s.eng e).given.isEmpty || (s.grp? e g).any (fun v => v.pc == pc && v.st == .ready) then s else s.onEng e (Engine.spend g)

/-- An instruction of a group issues: its line is in the L1, its opcode is assigned, its registers are the group's and
available; then `k` is what it does. Where something is missing it is requested and the group waits; where a check
fails the group faults (R93 to R95, R103, R104, R107, R132). -/
def State.issue (e g opc : Nat) (rs : List Nat) (k : Group → State → State) (s : State) : State :=
  match s.grp? e g with
  | none => s
  | some u =>
    if u.st != .ready || (s.eng e).draining.contains u.ctx || !s.runs (engDie e) then s
    else
      let pc := u.pc.toNat
      match s.page e g u.ctx .fetch pc with
      | .miss => s.startWalk e g u.ctx u.lane0 pc 2
      | .trouble t => s.groupFault e g u.lane0 t pc
      | .ok l m =>
        match ((s.eng e).l1Find u.ctx l.space (lineOf (l.phys pc))).bind (fun x => x.sec (l.phys pc % 128 / 32)) with
        | none => s.startFetch e g u.ctx l (s.isMirrored m) pc
        | some c =>
          if c.poison.testBit (pc % 32 / 8) then s.insnFault e g 0x09 6 (if l.space = .toile then pc / 8 * 8 else pc / 32 * 32)
          else if !s.opcodeOk opc then s.insnFault e g 0x05 1 pc
          else if !u.owns rs then s.insnFault e g 0x05 2 pc
          else if !u.free rs then s
          else (k u s).spent e g u.pc

/-! ### The L1 (R107) -/

/-- The L1 line that makes room in a full set, as a free value chooses. -/
def evictL1 (ls : List L1Line) (addr pick : Nat) : List L1Line :=
  let mine := ls.filter (fun l => l.addr / 128 % 128 = addr / 128 % 128)
  if mine.length < 16 then ls
  else match mine[pick % mine.length]? with
    | some v => ls.filter (fun l => l != v)
    | none => ls

/-- Sectors installed in the L1 for a context. -/
def State.l1Install (e c : Nat) (sp : Space) (addr : Nat) (ro : Bool) (secs : List (Nat × L1Sector)) (s : State) : State :=
  match (s.eng e).l1Find c sp addr with
  | some _ => s.onEng e (fun n => { n with l1 := n.l1.map (fun l =>
      if l.addr = addr && l.ctx = c && l.space = sp then
        { l with secs := secs ++ l.secs.filter (fun p => !(secs.any (fun q => q.1 = p.1))) } else l) })
  | none =>
    let d := s.draw
    d.2.onEng e (fun n => { n with
      l1 := evictL1 n.l1 addr d.1 ++ [{ addr := addr, space := sp, ctx := c, readOnly := ro, secs := secs }] })

/-- The 8-byte words of a sector that a byte mask names whole. -/
def wholeWords (m : Nat) : Nat := ((List.range 4).filter (fun w => m / 2 ^ (8 * w) % 256 = 255)).foldl (fun a w => a + 2 ^ w) 0

/-- A store's bytes update every line of the sector that the L1 holds (R107); a word written whole is no longer poisoned, and in
stack memory a sector written whole (R31, R149). `mask` names bytes of the line. -/
def State.l1Update (e : Nat) (sp : Space) (addr : Nat) (data : Bytes) (mask : Nat) (s : State) : State :=
  s.onEng e (fun n => { n with l1 := n.l1.map (fun l =>
    if l.addr = addr && l.space = sp then
      { l with secs := l.secs.map (fun p =>
          let m := secMask mask p.1
          let clean := if sp = .toile then wholeWords m else if m = fullMask then 15 else 0
          (p.1, { data := mergeBytes p.2.data (cut data (32 * p.1) 32) m, poison := p.2.poison &&& (15 ^^^ clean) })) } else l) })

/-- Fills in flight for an engine of sectors that a store or an atomic of the engine names will not be installed: their bytes may
be older (R185). -/
def State.noFill (e : Nat) (sp : Space) (addr secs : Nat) (s : State) : State :=
  s.onTxns (fun m => SMap.mapVals m (fun _ t =>
    if t.op == .read && t.space = sp && t.addr = addr && t.secs &&& secs != 0 &&
       (match t.issuer with | .lane d _ => d == e | .fetch d _ => d == e | _ => false) then { t with noInstall := true } else t))

/-- A context's L1 lines on an engine are invalidated, and fills in flight for it will not be installed (R184, R188). -/
def State.l1Invalidate (e c : Nat) (s : State) : State :=
  (s.onEng e (fun n => { n with l1 := n.l1.filter (fun l => l.ctx != c) })).onTxns (fun m => SMap.mapVals m (fun _ t =>
    if t.ctx == some c && (match t.issuer with | .lane d _ => d == e | .fetch d _ => d == e | _ => false) then
      { t with noInstall := true } else t))

/-! ### Barriers (R194 to R196) -/

/-- The share of a queue's LAUNCH on an engine. -/
def State.share? (s : State) (e q : Nat) : Option Share := SMap.get? (s.eng e).shares q

/-- The launch indices of the groups that take part in a barrier of a scope, as seen from engine `e` (R194, R264). -/
def participants (r : Run) (gpe scope e : Nat) : List Nat :=
  (List.range r.members.length).flatMap (fun k =>
    let m := r.members.getD k 0
    if (scope = 1 && m != e) || (scope = 2 && engDie m != engDie e) then []
    else (List.range gpe).map (fun i => k * gpe + i))

/-- The releases of a complete barrier leave for the engines of the scope (R196). -/
def State.barrierDone (q num scope e : Nat) (r : Run) (s : State) : State :=
  let ms := r.members.filter (fun m => !((scope = 1 && m != e) || (scope = 2 && engDie m != engDie e)))
  let root := if scope = 1 then engDie e else if scope = 2 then engDie e else 0
  each ms (fun m t => t.sendMsg .picot (.release q num scope m) root (engDie m)
    (if scope = 1 then .quadrant (engQuad e) else .barrier) (.quadrant (engQuad m))) s

/-- Whether the arrivals of a barrier, with the groups that have ended, are all its participants' (R195). -/
def barrierFull (r : Run) (num scope e : Nat) : Bool :=
  let got := SMap.getD r.arrivals (8 * num + scope) []
  !got.isEmpty &&
  (participants r (gpeOf r.desc) scope e).all (fun i => got.contains i || r.ended.contains i) &&
  (participants r (gpeOf r.desc) scope e).any (fun i => got.contains i)

/-- The partners that join a hoop's system barriers (R414). -/
def State.barrierPartners (s : State) (h : Nat) : List Nat := s.partnersOf (s.fld F.gmpBdom_PORTS (R.gmpBdom h))

/-- A system barrier that is complete here releases once it holds BARRIER from every partner (R414). -/
def State.sysRelease (q num inst : Nat) (s : State) : State :=
  match s.gmp.barriers.find? (fun b => b.queue = q && b.num = num && b.inst = inst), (s.queue? q).bind (·.run) with
  | some b, some r =>
    if b.ready && b.sent && (s.barrierPartners b.hoop).all (fun p => b.from_.contains p) then
      (s.onGmp (fun g => { g with barriers := g.barriers.erase b })).barrierDone q num 4 0 r
    else s
  | _, _ => s

/-- Peer stores of a context that no partner has acknowledged end to end: on their way to a port, or sent by one (R401). -/
def State.peerStores (s : State) (c : Nat) : List Nat :=
  (s.txns.filter (fun p => p.2.ctx == some c && p.2.op == .store && p.2.stage != .reply && (match p.2.space with | .peer _ => true | _ => false))).map (·.1) ++
  s.gmp.ports.flatMap (fun p => p.2.unacked.filterMap (fun u => if u.ctx == some c && decide (u.kind ≤ 2) then u.req.map (·.1) else none))

/-- BARRIER of a system barrier leaves for every partner, once the peer stores that came before it are acknowledged: with that it
orders them (R207, R414; DEDUCED: R414 does not say when it leaves, R207 that a system barrier orders). -/
def State.sysSend (q num inst : Nat) (s : State) : State :=
  match s.gmp.barriers.find? (fun b => b.queue = q && b.num = num && b.inst = inst) with
  | none => s
  | some b =>
    let out := (((s.queue? q).map (·.ctx)).map s.peerStores).getD []
    if !b.ready || b.sent || b.after.any (fun i => out.contains i) then s
    else
      let s := s.onGmp (fun g => { g with barriers := g.barriers.map (fun x => if x == b then { b with sent := true, after := [] } else x) })
      let m : PMsg := { kind := 6, chunks := 1, tag := s.hoopTag b.hoop, xid := 0, id := 0, addr := 0, dst := 0, src := 0, aux := num
                        body := leBytes 4 q ++ leBytes 8 inst }
      (each (s.barrierPartners b.hoop) (fun p t => t.portSend (t.portFor p none) m none) s).sysRelease q num inst

/-- A system barrier is complete at device scope (R414). -/
def State.sysComplete (q num : Nat) (s : State) : State :=
  let k := SMap.getD s.gmp.instances (4 * q + num) 0
  let h := (((s.queue? q).bind s.queueHoop)).getD 0
  let after := (((s.queue? q).map (·.ctx)).map s.peerStores).getD []
  let b : SysBarrier := { queue := q, num := num, inst := k, hoop := h, ready := true, sent := false, after := after, from_ := [] }
  let s := s.onGmp (fun g => { g with
    instances := SMap.put g.instances (4 * q + num) (k + 1)
    barriers := if g.barriers.any (fun x => x.queue = q && x.num = num && x.inst = k) then
        g.barriers.map (fun x => if x.queue = q && x.num = num && x.inst = k then { b with from_ := x.from_ } else x)
      else g.barriers ++ [b] })
  s.sysSend q num k

/-- System barriers whose BARRIER waits for peer stores are looked at again (R207). -/
def State.sysSendAll (s : State) : State :=
  each (s.gmp.barriers.filter (fun b => b.ready && !b.sent)) (fun b s => s.sysSend b.queue b.num b.inst) s

/-- A barrier of a launch completes where its last participant has arrived; one of system scope then goes on to the
partners (R195, R414). -/
def State.barrierCheck (q num scope e : Nat) (s : State) : State :=
  match (s.queue? q).bind (·.run) with
  | none => s
  | some r =>
    if r.frozen || !barrierFull r num scope e then s
    else
      let ps := participants r (gpeOf r.desc) scope e
      let rest := (SMap.getD r.arrivals (8 * num + scope) []).filter (fun i => !ps.contains i)
      let s := s.onRun q (fun r => { r with arrivals := SMap.put r.arrivals (8 * num + scope) rest })
      if scope = 4 then s.sysComplete q num else s.barrierDone q num scope e r

/-- Every barrier of a launch is looked at again, for a group has ended (R195). -/
def State.barrierSweep (q e : Nat) (s : State) : State :=
  each (List.range 4) (fun num t => each [1, 2, 3, 4] (fun sc t => t.barrierCheck q num sc e) t) s

/-- What a group that has ended still has in flight keeps the tags of its engine alone (R130, R189). -/
def State.pastGroup (e g : Nat) (s : State) : State :=
  s.onTxns (fun m => SMap.mapVals m (fun _ t => match t.issuer with
    | .lane d h => if d = e ∧ h = g then { t with issuer := .past e 16 false } else t
    | .past d h b => if d = e ∧ h = g then { t with issuer := .past e 16 b } else t
    | _ => t))

/-- A group ends: its flags join its launch's, its index counts as arrived, its rows are free (R79, R99, R195). -/
def State.endGroup (e g : Nat) (s : State) : State :=
  match s.grp? e g with
  | none => s
  | some u =>
    let s := (s.pastGroup e g).onEng e (fun n => { n with
      groups := SMap.del n.groups g
      shares := SMap.modify n.shares u.queue (fun h => { h with ended := addNum h.ended u.index, aflags := h.aflags ||| u.aflags }) })
    (s.onRun u.queue (fun r => { r with ended := addNum r.ended u.index })).barrierSweep u.queue e

end Sys2Proof.Machine
end

