-- ==== Sys2Proof/Machine/Flags.lean ====
section
/-!
DEFINITION. The arithmetic of the device and the flags it sets: exact shifts with rounding, saturation, the
filet's accumulation, the scale finder, fixed narrowing, the scaled adds of the cache, and motif tables
(R57 to R87).
-/
namespace Sys2Proof.Machine

/-- `round_half_even` of the quotient `n / d`, `d` positive (R67). -/
def rhe (n : Int) (d : Nat) : Int :=
  let f := n / (d : Int)
  let r := n % (d : Int)
  if 2 * r > d ∨ (2 * r = d ∧ f % 2 = 1) then f + 1 else f

/-- `shift_round` of R67: p times 2^s, rounded half to even where s is negative. -/
def shiftRound (p s : Int) : Int :=
  if 0 ≤ s then p * (2 ^ s.toNat : Nat) else rhe p (2 ^ (-s).toNat)

/-- `sat` of R67: a clamp to `bits` bits of two's complement, and whether it clamped. -/
def satBits (x : Int) (bits : Nat) : Int × Bool :=
  let hi : Int := (2 ^ (bits - 1) : Nat) - 1
  let lo : Int := - (2 ^ (bits - 1) : Nat)
  if x < lo then (lo, true) else if x > hi then (hi, true) else (x, false)

/-- The quotient of two positive numbers rounded up. -/
def ceilDiv (n d : Nat) : Nat := (n + d - 1) / d

/-- Bit positions of AFLAGS (R78). -/
inductive AFlag where
  | accSat | packClamp | narrowSat | motifInSat | motifOutSat
  deriving DecidableEq, Repr

/-- The bit of AFLAGS that a flag sets (R78). -/
def AFlag.mask : AFlag → Word
  | .accSat => 1 | .packClamp => 2 | .narrowSat => 4 | .motifInSat => 8 | .motifOutSat => 16

/-- AFLAGS with a flag set where the condition holds; bits are sticky (R78). -/
def setFlag (c : Bool) (f : AFlag) (w : Word) : Word := if c then w ||| f.mask else w

/-- A scale word: signed exponent and multiplier (R59). -/
def scaleE (w : Nat) : Int := sInt 8 (w / 256)
def scaleM (w : Nat) : Nat := w % 256

/-- The scale word of an exponent and a multiplier (R59). -/
def scaleWord (e : Int) (m : Nat) : Nat := uNat 8 e * 256 + m % 256

/-- Bits per element of a scaled format code (R57, R62). -/
def fmtBits : Nat → Nat
  | 0 => 2 | 1 => 4 | 2 => 8 | 3 => 16 | _ => 0

/-- `qmax` of a scaled format code (R57). -/
def fmtQmax : Nat → Nat
  | 0 => 1 | 1 => 7 | 2 => 127 | 3 => 32767 | _ => 0

/-- Bytes of one block of 32 elements (R57). -/
def blockBytes (fmt : Nat) : Nat := 4 * fmtBits fmt

/-- Element `t` of a block held as a little-endian number (R58). -/
def blockElem (fmt t block : Nat) : Int :=
  sInt (fmtBits fmt) (block / 2 ^ (fmtBits fmt * t))

/-- The block of a list of 32 elements, as a number (R58). -/
def blockOf (fmt : Nat) : List Int → Nat
  | [] => 0
  | q :: r => uNat (fmtBits fmt) q + 2 ^ fmtBits fmt * blockOf fmt r

/-- The format pairs the filet accepts (R66). -/
def pairAllowed (a b : Nat) : Bool :=
  (a = 2 && b = 2) || (a = 2 && b = 1) || (a = 1 && b = 2) || (a = 1 && b = 1) ||
  (a = 2 && b = 0) || (a = 0 && b = 2) || (a = 3 && b = 3)

/-- One K block of one output element: both scale words and the exact sum of products (R67). -/
structure KBlock where
  sw : Nat
  sx : Nat
  dot : Int
  deriving DecidableEq, Repr

/-- An accumulator: its value and its SAT bit. -/
structure Acc where
  val : Int
  sat : Bool
  deriving DecidableEq, Repr

/-- One step of R67. -/
def accStep (anchor : Int) (a : Acc) (k : KBlock) : Acc :=
  if scaleM k.sw = 0 ∨ scaleM k.sx = 0 then a
  else
    let p := k.dot * ((scaleM k.sw * scaleM k.sx : Nat) : Int)
    let c := satBits (shiftRound p (scaleE k.sw + scaleE k.sx - anchor)) 48
    let t := satBits (a.val + c.1) 48
    { val := t.1, sat := a.sat || c.2 || t.2 }

/-- The sequence of R67 over the K blocks in ascending order. -/
def accumulate (anchor : Int) (a : Acc) (ks : List KBlock) : Acc := ks.foldl (accStep anchor) a

/-- The largest exponent among the blocks whose multiplier is not 0 (R71). -/
def maxExp (ws : List Nat) : Option Int :=
  ws.foldl (fun m w => if scaleM w = 0 then m
    else match m with
      | none => some (scaleE w)
      | some e => some (max e (scaleE w))) none

/-- The AUTO anchor of R71: H is 16 for S16 by S16 and 0 otherwise. -/
def autoAnchor (fw fx : Nat) (ws xs : List Nat) : Int :=
  match maxExp ws, maxExp xs with
  | some a, some b => a + b + (if fw = 3 ∧ fx = 3 then 16 else 0)
  | _, _ => 0

/-- A packed block: exponent, multiplier, elements, and whether e passed 127. -/
structure Packed where
  e : Int
  m : Nat
  q : List Int
  clamp : Bool
  deriving DecidableEq, Repr

/-- The largest magnitude of a list of integers. -/
def maxAbs (vs : List Int) : Nat := vs.foldl (fun m v => max m v.natAbs) 0

/-- The integer k of R72 as k + 15, found among -15 to 48. -/
def scaleK15 (qmax mx : Nat) : Nat :=
  ((List.range 64).find? (fun j => 128 * qmax * 2 ^ j ≤ mx * 2 ^ 15 ∧ mx * 2 ^ 15 < 256 * qmax * 2 ^ j)).getD 0

/-- A quotient v times 2^a over d times 2^e, rounded half to even. -/
def rheShift (v a : Int) (d : Nat) (e : Int) : Int :=
  if 0 ≤ a - e then rhe (v * (2 ^ (a - e).toNat : Nat)) d else rhe v (d * 2 ^ (e - a).toNat)

/-- The clamp of R72 to the format's bits and then to the range of qmax. -/
def clampQ (fmt : Nat) (q : Int) : Int :=
  let x := (satBits q (fmtBits fmt)).1
  max (-(fmtQmax fmt : Int)) (min (fmtQmax fmt : Int) x)

/-- The scale finder (R72). -/
def scaleFind (fmt : Nat) (a : Int) (vs : List Int) : Packed :=
  let qm := fmtQmax fmt
  let mx := maxAbs vs
  if mx = 0 then { e := 0, m := 0, q := vs.map (fun _ => 0), clamp := false }
  else
    let j := scaleK15 qm mx
    let m0 := ceilDiv (mx * 2 ^ 15) (qm * 2 ^ j)
    let m1 := if m0 = 256 then 128 else m0
    let k : Int := (j : Int) - 15 + (if m0 = 256 then 1 else 0)
    let e0 := a + k
    let fin : Int × Nat × Bool :=
      if e0 > 127 then (127, 255, true)
      else if e0 < -128 then
        (-128, (if 0 ≤ a + 128 then ceilDiv (mx * 2 ^ (a + 128).toNat) qm
                else ceilDiv mx (qm * 2 ^ (-(a + 128)).toNat)), false)
      else (e0, m1, false)
    { e := fin.1, m := fin.2.1, clamp := fin.2.2,
      q := vs.map (fun v => clampQ fmt (rheShift v a fin.2.1 fin.1)) }

/-- Fixed narrowing to S16 with exponent `e` (R74): the elements and whether any was clamped. -/
def narrow (e a : Int) (vs : List Int) : List Int × Bool :=
  (vs.map (fun v => (satBits (shiftRound v (a - e)) 16).1),
   vs.any (fun v => (satBits (shiftRound v (a - e)) 16).2))

/-- An A48 slot: value, anchor and SAT (R64). -/
structure Slot where
  val : Int
  anchor : Int
  sat : Bool
  deriving DecidableEq, Repr

/-- The slot that a 64-bit word holds (R64). -/
def slotOf (w : Nat) : Slot :=
  { val := sInt 48 w, anchor := sInt 10 (w / 2 ^ 48), sat := w.testBit 58 }

/-- The 64-bit word of a slot; bits 63 to 59 are written as zero (R64, R17). -/
def slotWord (s : Slot) : Nat :=
  uNat 48 s.val + 2 ^ 48 * uNat 10 s.anchor + (if s.sat then 2 ^ 58 else 0)

/-- Whether an integer fits 48 bits. -/
def fits48 (x : Int) : Bool := decide (-(2 ^ 47 : Int) ≤ x) && decide (x ≤ 2 ^ 47 - 1)

/-- The smallest n of R75 with t / 2^n in range, among 1 to 2,000. -/
def reanchorN (t : Int) : Nat :=
  (((List.range 2000).map (· + 1)).find? (fun n => fits48 (rhe t (2 ^ n)))).getD 1

/-- One contribution: its source value, its source exponent, and whether its source block is a zero block. -/
structure Contribution where
  v : Int
  a : Int
  zero : Bool
  deriving DecidableEq, Repr

/-- A contribution applied to an A48 slot (R75, R77). -/
def saddA48 (c : Contribution) (g : Nat) (ef : Int) (t : Slot) : Slot :=
  if g = 0 ∨ c.zero then t
  else
    let x := t.val + shiftRound (c.v * (g : Int)) (c.a + ef - t.anchor)
    if fits48 x then { t with val := x }
    else
      let n := reanchorN x
      if t.anchor + n ≤ 511 then { t with val := rhe x (2 ^ n), anchor := t.anchor + n }
      else { val := (satBits (rhe x (2 ^ (511 - t.anchor).toNat)) 48).1, anchor := 511, sat := true }

/-- A contribution applied to an S16 element with target exponent `et` (R76, R77): the element and whether
it was clamped. -/
def saddS16 (c : Contribution) (g : Nat) (ef et : Int) (q : Int) : Int × Bool :=
  if g = 0 ∨ c.zero then (q, false)
  else satBits (q + shiftRound (c.v * (g : Int)) (c.a + ef - et)) 16

/-- The contribution of an A48 slot. -/
def contribA48 (w : Nat) : Contribution :=
  { v := (slotOf w).val, a := (slotOf w).anchor, zero := false }

/-- The contribution of an S16 element under its block's scale word. -/
def contribS16 (q sw : Nat) : Contribution :=
  { v := sInt 16 q * (scaleM sw : Int), a := scaleE sw, zero := scaleM sw = 0 }

/-- Whether a contribution leaves its target as it is: its factor is 0, or its source block is a zero block (R77). -/
def Contribution.idle (c : Contribution) (g : Nat) : Bool := g = 0 || c.zero

/-- The word of an A48 target after a contribution; one that is idle leaves every bit of it (R75, R77). -/
def a48Word (c : Contribution) (g : Nat) (ef : Int) (old : Nat) : Nat :=
  if c.idle g then old else slotWord (saddA48 c g ef (slotOf old))

/-- The fields of a motif table image (R85). -/
def motifVersion (img : Bytes) : Nat := numAt img 0 1
def motifIexp (img : Bytes) : Int := sInt 8 (numAt img 1 1)
def motifOexp (img : Bytes) : Nat := numAt img 2 1
def motifOshift (img : Bytes) : Nat := numAt img 3 1 % 32
def motifCoef (img : Bytes) (c s : Nat) : Int := sInt 24 (numAt img (16 + 12 * s + 3 * c) 3)

/-- A motif evaluation of one lane (R86): the result register and the two flags. -/
def motifEval (img : Bytes) (x : Word) : Word × Bool × Bool :=
  let q := sInt 16 x.toNat
  let sw := x.toNat / 65536
  let inp := satBits (shiftRound (q * (scaleM sw : Int)) (scaleE sw - motifIexp img)) 16
  let u := (inp.1 + 32768).toNat
  let s := u / 1024
  let t : Int := ((u % 1024 : Nat) : Int)
  let y0 := motifCoef img 3 s
  let y1 := shiftRound (y0 * t) (-10) + motifCoef img 2 s
  let y2 := shiftRound (y1 * t) (-10) + motifCoef img 1 s
  let y3 := shiftRound (y2 * t) (-10) + motifCoef img 0 s
  let out := satBits (shiftRound y3 (-(motifOshift img : Int))) 16
  (BitVec.ofNat 32 (uNat 16 out.1 + 65536 * (motifOexp img * 256 + 1)), inp.2, out.2)

end Sys2Proof.Machine
end

