-- ==== Sys2Proof/Machine/Lanes.lean ====
section
/-!
DEFINITION. The instructions of the lanes that stay inside the engine: integer operations, lane exchange, branches
and joins, special reads, flags and traps; and the returns of page walks and instruction fetches (R63, R96 to R104,
R107, R108, R132).
-/
namespace Sys2Proof.Machine

/-! ### Integer operations (R63, R100) -/

/-- A comparison of two words (R100). -/
def cmpHolds (c : Cmp) (a b : Word) : Bool :=
  match c with
  | .eq => a == b
  | .ne => a != b
  | .lts => a.slt b
  | .ges => !a.slt b
  | .ltu => decide (a.toNat < b.toNat)
  | .geu => !decide (a.toNat < b.toNat)

/-- The result of an I32 simple operation: the low 32 bits; a shift uses bits 4:0 of its amount (R63). `c` is the
register that a select tests. -/
def i32Op (op : I32Op) (a b c : Word) : Word :=
  match op with
  | .add => a + b
  | .sub => a - b
  | .and => a &&& b
  | .or => a ||| b
  | .xor => a ^^^ b
  | .not => ~~~a
  | .shl => a <<< (b.toNat % 32)
  | .shr => a >>> (b.toNat % 32)
  | .sar => a.sshiftRight (b.toNat % 32)
  | .cmp k => if cmpHolds k a b then Config.cmpTrue else Config.cmpFalse
  | .sel _ => if c != 0 then a else b
  | .mov => a

/-- The register that a select tests. -/
def selReg : I32Op → List Nat
  | .sel r => [r]
  | _ => []

/-- I32_SIMPLE: an operation on all active lanes (R63, R93, R100). -/
def i32Simple (e g opc : Nat) (op : I32Op) (rd : Nat) (a b : Src) (s : State) : State :=
  s.issue e g opc (rd :: (selReg op) ++ srcRegs a ++ srcRegs b) (fun u t => t.onGrp e g (fun _ =>
    (u.setAll rd (fun l => i32Op op (u.src a l) (u.src b l) (u.reg ((selReg op).headD 255) l))).step))

def execI32Simple (eng grp opc : Nat) (op : I32Op) (rd : Nat) (a b : Src) (s : State) : Host.Outcome State Fault Refusal :=
  .next (i32Simple eng grp opc op rd a b s)

/-- I32_MULTIPLY: the low 32 bits of a product, or of a product and a sum (R63). -/
def i32Multiply (e g opc rd : Nat) (a b : Src) (c : Option Src) (s : State) : State :=
  let cr := match c with | some x => srcRegs x | none => []
  s.issue e g opc (rd :: srcRegs a ++ srcRegs b ++ cr) (fun u t => t.onGrp e g (fun _ =>
    (u.setAll rd (fun l => u.src a l * u.src b l + (match c with | some x => u.src x l | none => 0))).step))

def execI32Multiply (eng grp opc rd : Nat) (a b : Src) (c : Option Src) (s : State) : Host.Outcome State Fault Refusal :=
  .next (i32Multiply eng grp opc rd a b c s)

/-- What a lane exchange gives a lane (R93, R100): a shuffle reads the lane that the lane's own second source names, a
broadcast the lane that the lowest active lane's names; a ballot has the bit of every active lane whose source is not 0,
a vote says whether any or all of them are. DESIGN CHOICE, for R100 gives the names of these operations alone: a lane index is taken
modulo 32, the lowest active lane gives a broadcast's, and a vote writes the words of a compare. -/
def laneOp (u : Group) (op : LaneOp) (ra : Nat) (b : Src) (l : Nat) : Word :=
  let act := lanesOf u.active
  let yes := act.filter (fun k => u.reg ra k != 0)
  match op with
  | .shuffle => u.reg ra ((u.src b l).toNat % 32)
  | .broadcast => u.reg ra ((u.src b (act.headD 0)).toNat % 32)
  | .ballot => BitVec.ofNat 32 (yes.foldl (fun a k => a + 2 ^ k) 0)
  | .voteAny => if yes.isEmpty then Config.cmpFalse else Config.cmpTrue
  | .voteAll => if yes.length = act.length then Config.cmpTrue else Config.cmpFalse

/-- LANE_EXCHANGE. -/
def laneExchange (e g opc : Nat) (op : LaneOp) (rd ra : Nat) (b : Src) (s : State) : State :=
  s.issue e g opc (rd :: ra :: srcRegs b) (fun u t => t.onGrp e g (fun _ => (u.setAll rd (laneOp u op ra b)).step))

def execLaneExchange (eng grp opc : Nat) (op : LaneOp) (rd ra : Nat) (b : Src) (s : State) :
    Host.Outcome State Fault Refusal := .next (laneExchange eng grp opc op rd ra b s)

/-! ### Divergence and reconvergence (R96 to R99) -/

/-- A conditional branch on a group whose stack has room (R96). -/
def Group.branch (u : Group) (cond : Mask32) (t rpc : VAddr) : Group :=
  let tk := u.active &&& cond
  let f := u.active &&& ~~~cond
  let u' := { u with krec := none }
  if f = 0 then { u' with pc := t }
  else if tk = 0 then { u' with pc := u.pc + 8 }
  else match u.stack with
    | top :: r =>
      if top.rpc = rpc ∧ top.ppc = u.pc + 8 then
        { u' with stack := { top with pmask := top.pmask ||| f } :: r, active := tk, pc := t }
      else { u' with stack := { rpc := rpc, saved := u.active, ppc := u.pc + 8, pmask := f } :: u.stack, active := tk, pc := t }
    | [] => { u' with stack := [{ rpc := rpc, saved := u.active, ppc := u.pc + 8, pmask := f }], active := tk, pc := t }

/-- CONDITIONAL_BRANCH: a target that is not a multiple of 8 faults, and so does a push onto 32 entries (R98, R132). The target is
checked whether or not a lane takes the branch, and the reconvergence address is not (DESIGN CHOICE: R132 names a branch target
alone, and does not say when it is checked). -/
def conditionalBranch (e g opc : Nat) (cond : Mask32) (target rpc : VAddr) (s : State) : State :=
  s.issue e g opc [] (fun u t =>
    if target.toNat % 8 ≠ 0 then t.insnFault e g 0x04 0xFF target.toNat
    else
      let v := u.branch cond target rpc
      if 32 < v.stack.length then t.insnFault e g 0x08 0 u.pc.toNat
      else t.goes e g v)

def execConditionalBranch (eng grp opc : Nat) (cond : Mask32) (target rpc : VAddr) (s : State) :
    Host.Outcome State Fault Refusal := .next (conditionalBranch eng grp opc cond target rpc s)

/-- A JOIN (R97). -/
def Group.join (u : Group) : Group :=
  match u.stack with
  | [] => u.step
  | top :: r =>
    if top.rpc ≠ u.pc then u.step
    else if top.pmask ≠ 0 ∧ top.ppc ≠ u.pc then
      { u with active := top.pmask, pc := top.ppc, stack := { top with pmask := 0 } :: r, krec := none }
    else { u with active := top.saved, stack := r, pc := u.pc + 8, krec := none }

/-- A group whose active mask has become empty: with its stack empty it ends, once the registers that it has asked for are written,
else it goes on at the reconvergence address of the top entry (R99). -/
def State.whenEmpty (e g : Nat) (v : Group) (s : State) : State :=
  match v.stack with
  | [] => if v.busy.isEmpty then s.endGroup e g else s
  | top :: _ => s.onGrp e g (fun _ => { v with pc := top.rpc })

/-- JOIN. One that restores a mask of which no lane is left leaves the active mask empty (R97, R99). -/
def join (e g opc : Nat) (s : State) : State :=
  s.issue e g opc [] (fun u t =>
    let v := u.join
    if v.active = 0 ∧ u.stack.length ≠ v.stack.length then t.whenEmpty e g v else t.onGrp e g (fun _ => v))

def execJoin (eng grp opc : Nat) (s : State) : Host.Outcome State Fault Refusal := .next (join eng grp opc s)

/-- The group after its active lanes have ended: they leave every mask (R99). -/
def Group.exit (u : Group) : Group :=
  let keep := ~~~u.active
  { u with active := 0, stack := u.stack.map (fun r => { r with saved := r.saved &&& keep, pmask := r.pmask &&& keep }), krec := none }

/-- JUMP. A target that is not a multiple of 8 faults (R132). -/
def jump (e g opc : Nat) (target : VAddr) (s : State) : State :=
  s.issue e g opc [] (fun u t =>
    if target.toNat % 8 ≠ 0 then t.insnFault e g 0x04 0xFF target.toNat
    else t.goes e g { u with pc := target, krec := none })

def execJump (eng grp opc : Nat) (target : VAddr) (s : State) : Host.Outcome State Fault Refusal :=
  .next (jump eng grp opc target s)

/-! ### Special reads, flags, traps (R100, R102) -/

/-- What a special read delivers to a lane. -/
def special (w : Special) (e g cnt : Nat) (u : Group) (l : Nat) : Word :=
  match w with
  | .lane => BitVec.ofNat 32 l
  | .slot => BitVec.ofNat 32 g
  | .engine => BitVec.ofNat 32 e
  | .counterLo => BitVec.ofNat 32 cnt
  | .counterHi => BitVec.ofNat 32 (cnt / 2 ^ 32)
  | .ftr => BitVec.ofNat 32 u.ftr
  | .aflags => u.aflags

/-- SPECIAL_READ: the counter is that of the engine's die, read after time has passed (R100, R419). -/
def specialRead (e g opc : Nat) (w : Special) (rd : Nat) (s : State) : State :=
  s.issue e g opc [rd] (fun u t =>
    let t := t.passTime
    t.onGrp e g (fun _ => (u.setAll rd (special w e g (t.count (engDie e)) u)).step))

def execSpecialRead (eng grp opc : Nat) (what : Special) (rd : Nat) (s : State) : Host.Outcome State Fault Refusal :=
  .next (specialRead eng grp opc what rd s)

/-- AFLAGS_CLEAR: the named flags are cleared; the mask has 5 bits (R100, R103). -/
def aflagsClear (e g opc mask : Nat) (s : State) : State :=
  s.issue e g opc [] (fun u t => t.onGrp e g (fun _ =>
    { u.step with aflags := u.aflags &&& ~~~(BitVec.ofNat 32 (mask % 32)) }))

def execAflagsClear (eng grp opc mask : Nat) (s : State) : Host.Outcome State Fault Refusal :=
  .next (aflagsClear eng grp opc mask s)

/-- TRAP: the context faults with FAULT_TRAP and the 16-bit code (R132). -/
def trap (e g opc code : Nat) (s : State) : State :=
  s.issue e g opc [] (fun u t => t.insnFault e g 0x0F (code % 65536) u.pc.toNat)

def execTrap (eng grp opc code : Nat) (s : State) : Host.Outcome State Fault Refusal := .next (trap eng grp opc code s)

/-! ### Page walks and instruction fetches -/

/-- The die that a transaction was bound for. -/
def State.boundFor (s : State) (t : Txn) : Nat :=
  match t.space with
  | .stack => s.idxDie t.idx
  | .toile => toileDie t.addr
  | .host => 0
  | .peer p => p

/-- The poisoned words among the four of sector `k` of an answer: a word of toile, or every word of a sector (R31, R37). -/
def Txn.badWords (t : Txn) (k : Nat) : Nat :=
  if !t.secs.testBit k then 0
  else if t.space = .toile then t.words / 2 ^ (4 * k) % 16
  else if t.poison.testBit k then 15 else 0

/-- The first poisoned place that bytes of an answer meet, as an offset in its line: a word of toile, or a sector (R132). -/
def Txn.badAt (t : Txn) (off len : Nat) : Option Nat :=
  ((List.range 16).find? (fun w => decide (8 * w < off + len) && decide (off < 8 * w + 8) && (t.badWords (w / 4)).testBit (w % 4))).map
    (fun w => if t.space = .toile then 8 * w else w / 4 * 32)

/-- The translation buffer with an entry more; of a full one a free value drops an entry (R108). -/
def tlbInstall (ts : List TlbEntry) (t : TlbEntry) (pick : Nat) : List TlbEntry :=
  if ts.length < 1024 then t :: ts else t :: ts.eraseIdx (pick % ts.length)

/-- What a walk read brings its group: the next read, a translation, or a fault. A walk that is to install nothing delivers its
result to the group alone (R108, R291, R293). -/
def State.walkGot (e g : Nat) (w : Walk) (r : WalkRes) (s : State) : State :=
  match r with
  | .fault d => (match s.grp? e g with
      | some u => s.groupFault e g w.lane (trouble 1 d w.va) u.pc.toNat
      | none => s)
  | .table t =>
    let s := if w.drop then s else s.onEng e (fun n => { n with
      held := n.held ++ [{ ctx := w.ctx, level := w.level - 1, va := w.va / 2 ^ (12 + 9 * w.level) * 2 ^ (12 + 9 * w.level), table := t }] })
    s.walkRead e g { w with level := w.level - 1 } t
  | .leaf l =>
    if w.drop then s.onEng e (fun n => { n with given := n.given ++ [(g, l)] })
    else
      let d := s.draw
      d.2.onEng e (fun n => { n with tlb := tlbInstall n.tlb { ctx := w.ctx, gen := w.gen, leaf := l } d.1 })

/-- PAGE_WALK_READ_RETURN: a walk read refused under R213, lost or poisoned faults with DETAIL 3, else the walk goes on
(R108, R291). -/
def pageWalkReadReturn (i : Nat) (s : State) : State :=
  match s.txn? i with
  | none => s
  | some t => match t.issuer with
    | .walk e g =>
      if t.stage != .reply || t.moving then s
      else match SMap.get? (s.eng e).walks i with
        | none => s.delTxn i
        | some w =>
          let s := (s.delTxn i).onEng e (fun n => { n with walks := SMap.del n.walks i })
          if t.dead then s
          else if t.status = 0x40 then
            match s.grp? e g with
            | some u => s.groupFault e g w.lane (trouble 0x0D (s.boundFor t) t.addr) u.pc.toNat
            | none => s
          else if t.status ≠ 0 ∨ (t.badAt t.rd 8).isSome then s.walkGot e g w (.fault 3)
          else s.walkGot e g w (s.pteCheck w.level w.va w.kind (numAt t.data t.rd 8))
    | _ => s

def execPageWalkReadReturn (txn : Nat) (s : State) : Host.Outcome State Fault Refusal := .next (pageWalkReadReturn txn s)

/-- The sectors that a reply brings for the L1. -/
def replySecs (t : Txn) : List (Nat × L1Sector) :=
  ((List.range 4).filter (fun k => t.secs.testBit k)).map (fun k =>
    (k, { data := cut t.data (32 * k) 32, poison := t.badWords k }))

/-- INSTRUCTION_FETCH_RETURN: the sector is installed as a read-only line; poison faults nothing until an instruction
would issue from it (R107, R132, R213). -/
def instructionFetchReturn (i : Nat) (s : State) : State :=
  match s.txn? i with
  | none => s
  | some t => match t.issuer with
    | .fetch e g =>
      if t.stage != .reply || t.moving then s
      else
        let s := s.delTxn i
        if t.dead then s
        else if t.status = 0x40 then s.insnFault e g 0x0D (s.boundFor t) t.pc
        else if t.status ≠ 0 then s.insnFault e g 1 2 t.pc
        else if t.noInstall then s
        else s.l1Install e (t.ctx.getD 0) t.space t.addr true (replySecs t)
    | _ => s

def execInstructionFetchReturn (txn : Nat) (s : State) : Host.Outcome State Fault Refusal :=
  .next (instructionFetchReturn txn s)

end Sys2Proof.Machine
end

