-- ==== Sys2Proof/Machine/Access.lean ====
section
/-!
DEFINITION. Loads, stores and atomics of the lanes, motif instructions, and acquire and release: what leaves the engine
and what a reply brings back (R80 to R86, R103 to R107, R130, R165 to R168, R185 to R191).
-/
namespace Sys2Proof.Machine

/-! ### Requests in flight (R130, R185) -/

/-- The number of bits set in a small number. -/
def popcount (n : Nat) : Nat := ((List.range 64).filter (fun i => n.testBit i)).length

/-- The group of an engine that a transaction's access came from. -/
def Txn.isLane (t : Txn) (e g : Nat) : Bool := t.issuer == .lane e g

/-- Whether a transaction is an atomic request. -/
def Txn.isAtomic (t : Txn) : Bool := match t.op with | .atomic _ _ => true | _ => false

def Txn.isStore (t : Txn) : Bool := t.op == .store

/-- The group for which an engine issued a lane access, or what is left of a filet operation's stores. -/
def Issuer.group : Issuer → Option (Nat × Nat)
  | .lane e g => some (e, g)
  | .past e g _ => some (e, g)
  | _ => none

/-- Whether an issuer holds tags of the lanes of an engine, and of its mover (R130). -/
def Issuer.laneTag (e : Nat) : Issuer → Bool
  | .lane d _ => d == e
  | .past d _ b => d == e && !b
  | _ => false
def Issuer.moverTag (e : Nat) : Issuer → Bool
  | .mover d _ => d == e
  | .past d _ b => d == e && b
  | _ => false

/-- The sector tags that a request holds (R130). -/
def Txn.tags (t : Txn) : Nat := match t.op with | .read => popcount t.secs | .store => popcount t.secs | _ => 0

/-- Sector requests that an engine, one of its groups, or its mover has in flight (R130). -/
def State.sectorsOut (s : State) (e : Nat) : Nat :=
  s.txns.foldl (fun a p => if p.2.issuer.laneTag e || p.2.issuer.moverTag e then a + p.2.tags else a) 0
def State.groupSectorsOut (s : State) (e g : Nat) : Nat :=
  s.txns.foldl (fun a p => if p.2.isLane e g then a + p.2.tags else a) 0
def State.moverSectorsOut (s : State) (e : Nat) : Nat :=
  s.txns.foldl (fun a p => if p.2.issuer.moverTag e then a + p.2.tags else a) 0
def State.atomicsOut (s : State) (e : Nat) : Nat :=
  (s.txns.filter (fun p => p.2.isAtomic && p.2.issuer.engine == some e)).length
def State.groupAtomicsOut (s : State) (e g : Nat) : Nat :=
  (s.txns.filter (fun p => p.2.isAtomic && p.2.isLane e g)).length

/-- Whether a store or an atomic of the engine to a sector has left and is not yet acknowledged (R185). -/
def State.storeOut (s : State) (e : Nat) (sp : Space) (line sec : Nat) : Bool :=
  s.txns.any (fun p => p.2.issuer.engine == some e && (p.2.isStore || p.2.isAtomic) && p.2.space = sp && p.2.addr = line &&
    p.2.secs.testBit sec)

/-- Whether a group has a load or an atomic in flight. -/
def State.readsOut (s : State) (e g : Nat) : Bool :=
  s.txns.any (fun p => p.2.isLane e g && (p.2.op == .read || p.2.isAtomic))

/-- Whether a store or an atomic of a group, or a write of a filet operation of it that has completed, is in flight to a place
that `ok` names (R120, R189). -/
def State.writesTo (s : State) (e g : Nat) (ok : Space → Bool) : Bool :=
  s.txns.any (fun p => p.2.issuer.group == some (e, g) && (p.2.isStore || p.2.isAtomic) && ok p.2.space)

def Space.isPeer : Space → Bool
  | .peer _ => true
  | _ => false

/-- Writes of a group that a release at a scope waits for: those to the package, and at system scope those to the host (R189). -/
def State.writesOut (s : State) (e g scope : Nat) : Bool :=
  s.writesTo e g (fun sp => match sp with | .peer _ => false | .host => decide (4 ≤ scope) | _ => true)

/-! ### Acquire and release (R188, R189) -/

/-- Whether a release at a scope need wait no longer (R189). -/
def State.releaseDone (s : State) (e g scope : Nat) : Bool := decide (scope < 2) || !s.writesOut e g scope

/-- An acquire that has begun ends once no load or atomic of the group is outstanding: at die scope and wider the
context's L1 lines are dropped (R188). -/
def State.acquireTry (e g : Nat) (s : State) : State :=
  match s.grp? e g with
  | none => s
  | some u => match u.st with
    | .acquire sc =>
      if s.readsOut e g then s
      else (if 2 ≤ sc then s.l1Invalidate e u.ctx else s).onGrp e g (fun v => { v with st := .ready })
    | _ => s

/-- A wait of a group ends with the acquire of its scope; it goes on behind the wait instruction (R195, R199). -/
def State.resume (e g scope : Nat) (s : State) : State :=
  (s.onGrp e g (fun u => { u.step with st := .acquire scope, fenceElapsed := 0 })).acquireTry e g

/-! ### Lane addresses (R104, R105) -/

/-- What the translation of the active lanes gives: every lane's leaf, object and address; a fault of a lane; or a
lane whose page is not in the translation buffer. -/
inductive LanesRes where
  | ok (l : List (Nat × Leaf × Mobj × Nat))
  | trouble (lane : Nat) (t : Trouble)
  | miss (lane va : Nat)
  deriving DecidableEq, Repr

/-- Alignment and translation of every active lane, lowest lane first. -/
def State.laneAddrs (s : State) (e g c size : Nat) (a : Access) (addrs : List VAddr) : List Nat → LanesRes
  | [] => .ok []
  | k :: ks =>
    let va := (addrs.getD k 0).toNat
    if va % 2 ^ size ≠ 0 then .trouble k (trouble 0x04 0xFF va)
    else match s.page e g c a va with
      | .miss => .miss k va
      | .trouble t => .trouble k t
      | .ok l m => match s.laneAddrs e g c size a addrs ks with
        | .ok r => .ok ((k, l, m, l.phys va) :: r)
        | x => x

/-- The distinct lines, or sectors, that lanes name: space, line address, sector. -/
def sectorsOf (ls : List (Nat × Leaf × Mobj × Nat)) : List (Space × Nat × Nat) :=
  (ls.map (fun x => (x.2.1.space, lineOf x.2.2.2, x.2.2.2 % 128 / 32))).eraseDups

/-- The registers that an access of a SIZE fills or reads: one, a pair, or a block of four. Of a pair the lower-numbered register holds
the low word, and the pair is checked as two register numbers (DESIGN CHOICE: R105 gives the block of 16 bytes alone). -/
def sizeRegs (r size : Nat) : List Nat := if size = 3 then (if r = 255 then [255] else [r, r + 1]) else if size = 4 then blockRegs r 4 else [r]

/-- DETAIL of a SIZE, register or block that the decode refuses; 0 where it is good (R103). -/
def sizeBad (u : Group) (r size : Nat) : Nat :=
  if 5 ≤ size then 4
  else if size = 4 then (if u.ownsBlock r 4 4 then 0 else 3)
  else if u.owns (sizeRegs r size) then 0 else 2

/-- A loaded value placed in a lane's registers: zero-extended below four bytes (R105). -/
def Group.loaded (r size lane : Nat) (b : Bytes) (u : Group) : Group :=
  if size ≤ 2 then u.setReg r lane (BitVec.ofNat 32 (leNat b))
  else (List.range (2 ^ size / 4)).foldl (fun v i =>
    v.setReg (if r = 255 then 255 else r + i) lane (BitVec.ofNat 32 (numAt b (4 * i) 4))) u

/-- The bytes that a lane stores (R105). -/
def Group.stored (u : Group) (r size lane : Nat) : Bytes :=
  if size ≤ 2 then leBytes (2 ^ size) (u.reg r lane).toNat
  else (List.range (2 ^ size / 4)).flatMap (fun i => leBytes 4 (u.reg (if r = 255 then 255 else r + i) lane).toNat)

/-- Deliver the lanes' values that lie in a sector's data. -/
def Group.deliver (rd size : Nat) (offs : List (Nat × Nat)) (line : Bytes) (u : Group) : Group :=
  offs.foldl (fun v p => v.loaded rd size p.1 (cut line p.2 (2 ^ size))) u

/-- The sector that the L1 of an engine holds for a context. -/
def State.l1Sector (s : State) (e c : Nat) (x : Space × Nat × Nat) : Option L1Sector :=
  ((s.eng e).l1Find c x.1 x.2.1).bind (fun l => l.sec x.2.2)

/-- The lowest lane to which the L1 would deliver poisoned bytes, with the address of the sector, or in toile of the word (R132). -/
def State.l1Bad (s : State) (e c size : Nat) (ls : List (Nat × Leaf × Mobj × Nat)) : Option (Nat × Nat) :=
  ls.findSome? (fun y =>
    let pa := y.2.2.2
    let va := y.2.1.va + (pa - y.2.1.pa)
    match s.l1Sector e c (y.2.1.space, lineOf pa, pa % 128 / 32) with
    | none => none
    | some b => ((List.range 4).find? (fun w => decide (8 * w < pa % 32 + 2 ^ size) && decide (pa % 32 < 8 * w + 8) && b.poison.testBit w)).map
        (fun w => (y.1, va - pa % 32 + if y.2.1.space = .toile then 8 * w else 0)))

/-- One sector of a load: served by the L1 where it may and the sector is there, else requested. -/
def State.loadSector (e g size : Nat) (acq past : Bool) (rd : Nat) (ls : List (Nat × Leaf × Mobj × Nat))
    (x : Space × Nat × Nat) (s : State) : State :=
  match s.grp? e g with
  | none => s
  | some u =>
    let mine := ls.filter (fun y => y.2.1.space = x.1 && lineOf y.2.2.2 = x.2.1 && y.2.2.2 % 128 / 32 = x.2.2)
    let offs := mine.map (fun y => (y.1, y.2.2.2 % 128))
    let va := match mine with | y :: _ => y.2.1.va + (x.2.1 - y.2.1.pa) | [] => 0
    match if past then none else s.l1Sector e u.ctx x with
    | some c => s.onGrp e g (fun v => v.deliver rd size offs (zeros (32 * x.2.2) ++ c.data))
    | none =>
      let t := Txn.blank (.lane e g) (engDie e) (engQuad e) ((s.ctx? u.ctx).map (·.hoop)) (some u.ctx) .read x.1 x.2.1
      let s := (s.addTxn { t with secs := 2 ^ x.2.2, va := va, pc := u.pc.toNat - 8, rd := rd, size := size, offs := offs,
                                  acq := acq, noInstall := past, queue := u.queue,
                                  mirrored := mine.any (fun y => s.isMirrored y.2.2.1) }).2
      s.onGrp e g (fun v => { v with busy := (sizeRegs rd size).foldl addNum v.busy })

/-- LOAD (R105, R107, R185, R187, R188). A poisoned sector of the L1 faults before anything is written or sent (R104). -/
def load (e g opc size : Nat) (acq : Bool) (scope rd : Nat) (addrs : List VAddr) (s : State) : State :=
  s.issue e g opc [] (fun u t =>
    let pc := u.pc.toNat
    let past := acq && decide (2 ≤ scope)
    if sizeBad u rd size ≠ 0 then t.insnFault e g 0x05 (sizeBad u rd size) pc
    else if acq && decide (4 < scope) then t.insnFault e g 0x05 4 pc
    else if !u.free (sizeRegs rd size) then t
    else match t.laneAddrs e g u.ctx size .read addrs (lanesOf u.active) with
      | .trouble k f => t.groupFault e g k f pc
      | .miss k va => t.startWalk e g u.ctx k va 0
      | .ok ls =>
        let xs := sectorsOf ls
        let out := (if past then xs else xs.filter (fun x => (t.l1Sector e u.ctx x).isNone)).length
        if xs.any (fun x => t.storeOut e x.1 x.2.1 x.2.2) then t
        else if decide (256 < t.sectorsOut e + out) || decide (128 < t.groupSectorsOut e g + out) then t
        else match if past then none else t.l1Bad e u.ctx size ls with
        | some b => t.groupFault e g b.1 (trouble 0x09 0 b.2) pc
        | none =>
          let t := t.onGrp e g Group.step
          let t := each xs (fun x t => t.loadSector e g size acq past rd ls x) t
          if acq then (t.onGrp e g (fun v => if v.st = .ready then { v with st := .acquire scope } else v)).acquireTry e g
          else t)

def execLoad (eng grp opc size : Nat) (acq : Bool) (scope rd : Nat) (addrs : List VAddr) (s : State) :
    Host.Outcome State Fault Refusal := .next (load eng grp opc size acq scope rd addrs s)

/-- The lane whose bytes remain at place `o` of a line: the only one that stores there, or of several a free one. -/
def storeLane (i o : Nat) (mine : List (Nat × Leaf × Mobj × Nat)) : Nat :=
  match (mine.filter (fun z => z.2.2.2 % 128 = o)).map (·.1) with
  | [] => 0
  | [l] => l
  | l :: r => (l :: r).getD (Config.storeWinner i o % (l :: r).length) l

/-- The bytes that lanes store into one line by transaction `i`, and their mask. A store of 16 bytes is two of 8, each the bytes of
one lane (R200). -/
def lineStore (i : Nat) (u : Group) (rs size : Nat) (mine : List (Nat × Leaf × Mobj × Nat)) : Bytes × Nat :=
  mine.foldl (fun a y =>
    let o := y.2.2.2 % 128
    let b := if size = 4 then cut (u.stored rs 4 (storeLane i o mine)) 0 8 ++ cut (u.stored rs 4 (storeLane (i + 2 ^ 64) o mine)) 8 8
      else u.stored rs size (storeLane i o mine)
    (putAt a.1 o b, a.2 ||| maskOf o (2 ^ size))) (zeros 128, 0)

/-- One sector of a store leaves the engine; a line that the L1 holds is updated (R105, R107). -/
def State.storeSector (e g size rs : Nat) (u : Group) (ls : List (Nat × Leaf × Mobj × Nat)) (x : Space × Nat × Nat)
    (s : State) : State :=
  let mine := ls.filter (fun y => y.2.1.space = x.1 && lineOf y.2.2.2 = x.2.1 && y.2.2.2 % 128 / 32 = x.2.2)
  let d := lineStore s.nextId u rs size mine
  let va := match mine with | y :: _ => y.2.1.va + (x.2.1 - y.2.1.pa) | [] => 0
  let mir := mine.any (fun y => s.isMirrored y.2.2.1)
  let t := Txn.blank (.lane e g) (engDie e) (engQuad e) ((s.ctx? u.ctx).map (·.hoop)) (some u.ctx) .store x.1 x.2.1
  (((s.noFill e x.1 x.2.1 (2 ^ x.2.2)).addTxn { t with
    secs := 2 ^ x.2.2, va := va, pc := u.pc.toNat, data := d.1, mask := d.2, mirrored := mir, queue := u.queue,
    offs := mine.map (fun y => (y.1, y.2.2.2 % 128)) }).2).l1Update e x.1 x.2.1 d.1 d.2

/-- STORE (R105, R107, R187, R189). -/
def store (e g opc size : Nat) (rel : Bool) (scope rs : Nat) (addrs : List VAddr) (s : State) : State :=
  s.issue e g opc [] (fun u t =>
    let pc := u.pc.toNat
    if sizeBad u rs size ≠ 0 then t.insnFault e g 0x05 (sizeBad u rs size) pc
    else if rel && decide (4 < scope) then t.insnFault e g 0x05 4 pc
    else if !u.free (sizeRegs rs size) || (rel && !t.releaseDone e g scope) then t
    else match t.laneAddrs e g u.ctx size .store addrs (lanesOf u.active) with
      | .trouble k f => t.groupFault e g k f pc
      | .miss k va => t.startWalk e g u.ctx k va 1
      | .ok ls =>
        let xs := sectorsOf ls
        if decide (256 < t.sectorsOut e + xs.length) || decide (128 < t.groupSectorsOut e g + xs.length) then t
        else each xs (fun x t => t.storeSector e g size rs u ls x) (t.onGrp e g Group.step))

def execStore (eng grp opc size : Nat) (rel : Bool) (scope rs : Nat) (addrs : List VAddr) (s : State) :
    Host.Outcome State Fault Refusal := .next (store eng grp opc size rel scope rs addrs s)

/-! ### Atomics (R106, R165 to R168, R187) -/

/-- The SIZE codes that an AOP takes (R103). -/
def aopSizeOk (aop size : Nat) : Bool :=
  match aop with
  | 0 => size == 2 | 1 => size == 2 | 2 => size == 2
  | 3 => size == 2 || size == 3
  | 4 => size == 2 || size == 3
  | 5 => size == 1 | 6 => size == 3
  | _ => false

/-- A register, or a pair of them, as a number. -/
def Group.wide (u : Group) (r size lane : Nat) : Nat :=
  if size = 3 then (u.reg r lane).toNat + 2 ^ 32 * (u.reg (if r = 255 then 255 else r + 1) lane).toNat
  else (u.reg r lane).toNat

/-- The registers that an atomic reads and writes, but for the second of an A48 source. -/
def aopRegs (aop size rd rs rt : Nat) : List Nat :=
  let one := fun r => sizeRegs r (if size = 3 then 3 else 2)
  match aop with
  | 4 => one rd ++ one rs ++ one rt
  | 5 => [rs, rt]
  | 6 => [rs, rt]
  | _ => one rd ++ one rs

/-- The second register of the A48 source of a SADD_A48, which is read where the FACTOR word of an active lane names an A48 source
(R167, R168). -/
def Group.a48Source (u : Group) (aop rs rt : Nat) : List Nat :=
  if aop = 6 ∧ rs ≠ 255 ∧ (lanesOf u.active).any (fun l => !(u.reg rt l).toNat.testBit 24) then [rs + 1] else []

/-- What a lane sends with its atomic (R167): CAS the compare value, then the new value; SADD its source and the FACTOR
word. A lane whose destination is register 255 receives nothing. -/
def laneReq (u : Group) (aop size rd rs rt lane off : Nat) : LaneReq :=
  let f := (u.reg rt lane).toNat
  { lane := lane, off := off,
    a := if aop = 6 && !f.testBit 24 then u.wide rs 3 lane else if aop = 5 || aop = 6 then (u.reg rs lane).toNat else u.wide rs size lane,
    b := if aop = 4 then u.wide rt size lane else 0,
    f := if aop = 5 || aop = 6 then f else 0,
    ret := decide (aop < 5) && rd != 255 }

/-- One request of an atomic leaves the engine, of the instruction whose first request is transaction `n`; its L1 copy of the line is dropped (R106, R185). -/
def State.atomicLine (e g aop size rd rs rt : Nat) (u : Group) (ls : List (Nat × Leaf × Mobj × Nat)) (x : Space × Nat)
    (n : Nat) (s : State) : State :=
  let mine := ls.filter (fun y => y.2.1.space = x.1 && lineOf y.2.2.2 = x.2)
  let reqs := mine.map (fun y => laneReq u aop size rd rs rt y.1 (y.2.2.2 % 128))
  let va := match mine with | y :: _ => y.2.1.va + (x.2 - y.2.1.pa) | [] => 0
  let t := Txn.blank (.lane e g) (engDie e) (engQuad e) ((s.ctx? u.ctx).map (·.hoop)) (some u.ctx) (.atomic aop size) x.1 x.2
  let s := (s.addTxn { t with
    secs := reqs.foldl (fun a r => a ||| 2 ^ (r.off / 32)) 0, va := va, pc := u.pc.toNat, insn := n, rd := rd, size := size, lanes := reqs,
    queue := u.queue,
    mirrored := mine.any (fun y => s.isMirrored y.2.2.1) }).2
  let s := (s.noFill e x.1 x.2 15).onEng e (fun n => { n with l1 := n.l1.filter (fun l => !(l.addr = x.2 && l.space = x.1)) })
  if reqs.any (·.ret) then s.onGrp e g (fun v => { v with busy := (sizeRegs rd (if size = 3 then 3 else 2)).foldl addNum v.busy }) else s

/-- ATOMIC: toile has none, and host memory takes ADD, XCHG and CAS alone (R30, R165, R241). -/
def atomic (e g opc aop size order scope rd rs rt : Nat) (addrs : List VAddr) (s : State) : State :=
  s.issue e g opc [] (fun u t =>
    let pc := u.pc.toNat
    let regs := aopRegs aop size rd rs rt
    if 6 < aop ∨ 4 < size ∨ (order ≠ 0 ∧ 4 < scope) then t.insnFault e g 0x05 4 pc
    else if !aopSizeOk aop size then t.insnFault e g 0x05 4 pc
    else if !u.owns regs then t.insnFault e g 0x05 2 pc
    else if !u.free regs then t
    else if !u.owns (u.a48Source aop rs rt) then t.insnFault e g 0x05 2 pc
    else if !u.free (u.a48Source aop rs rt) || (decide (2 ≤ order) && !t.releaseDone e g scope) then t
    else match t.laneAddrs e g u.ctx size .atomic addrs (lanesOf u.active) with
      | .trouble k f => t.groupFault e g k f pc
      | .miss k va => t.startWalk e g u.ctx k va 1
      | .ok ls =>
        match ls.find? (fun y => y.2.1.space = .toile || (y.2.1.space = .host && (aop = 1 || aop = 2 || aop = 5 || aop = 6))) with
        | some y => t.groupFault e g y.1 (trouble 0x0A 0 y.2.2.2) pc
        | none =>
          let xs := (ls.map (fun y => (y.2.1.space, lineOf y.2.2.2))).eraseDups
          if decide (64 < t.atomicsOut e + xs.length) || decide (32 < t.groupAtomicsOut e g + xs.length) then t
          else
            let n := t.nextId
            let t := each xs (fun x t => t.atomicLine e g aop size rd rs rt u ls x n) (t.onGrp e g Group.step)
            if order % 2 = 1 then (t.onGrp e g (fun v => { v with st := .acquire scope })).acquireTry e g else t)

def execAtomic (eng grp opc aop size order scope rd rs rt : Nat) (addrs : List VAddr) (s : State) :
    Host.Outcome State Fault Refusal := .next (atomic eng grp opc aop size order scope rd rs rt addrs s)

/-! ### What replies bring (R132, R213) -/

/-- The fault that the status of an answer stands for: a refusal of R213, a partner's refusal, a lost link, a failed
port, a lost posted write (R132, R407, R412, R453). -/
def State.statusTrouble (s : State) (t : Txn) : Option Trouble :=
  let wr := t.op != .read
  if t.status = 0 then none
  else if t.status = 0x40 then some (trouble 0x0D (s.boundFor t) t.va)
  else if t.status = 0x45 then some (trouble 0x0D (0x100 + s.boundFor t) t.va)
  else if t.status = 0x47 then some (trouble 0x0D 0x200 t.va)
  else if t.status = 0x49 then some (trouble 1 1 t.addr)
  else some (trouble 1 (if wr then 1 else 0) t.va)

/-- The first poisoned sector of an answer. -/
def Txn.badSector (t : Txn) : Option Nat := (List.range 4).find? (fun k => t.secs.testBit k && t.poison.testBit k)

/-- A group's registers become available when no request in flight will still write them (R94). -/
def State.settle (e g : Nat) (s : State) : State :=
  let outs := (s.txns.filter (fun p => p.2.isLane e g && (p.2.op == .read || p.2.lanes.any (·.ret)))).flatMap (fun p => sizeRegs p.2.rd (if p.2.isAtomic then (if p.2.size = 3 then 3 else 2) else p.2.size))
  (s.onGrp e g (fun u => { u with busy := u.busy.filter (fun r => outs.contains r) })).acquireTry e g

/-- A fault that the answer to a lane's request, or to a completed filet operation's, brings, of its context and the command that it
was issued for. -/
def State.txnFault (e g lane : Nat) (t : Txn) (f : Trouble) (s : State) : State :=
  s.engineFault e (g % 16) lane (t.ctx.getD 0) t.queue f t.pc

/-- The lowest lane of a load that poisoned bytes reach, and their place in the line. -/
def Txn.badLane (t : Txn) : Option (Nat × Nat) :=
  t.offs.findSome? (fun p => (t.badAt p.2 (2 ^ t.size)).map (fun a => (p.1, a)))

/-- A lane load's sector has come back. -/
def State.laneLoadGot (i e g : Nat) (t : Txn) (s : State) : State :=
  let s := s.delTxn i
  if t.dead then s
  else match s.statusTrouble t with
  | some f => s.txnFault e g ((t.offs.headD (0, 0)).1) t f
  | none => match if g = 16 then none else t.badLane with
    | some b => s.txnFault e g b.1 t (trouble 0x09 0 (t.va + b.2))
    | none =>
      let s := s.onGrp e g (fun v => v.deliver t.rd t.size t.offs t.data)
      (if t.noInstall then s else s.l1Install e (t.ctx.getD 0) t.space t.addr false (replySecs t)).settle e g

/-- A store of the lanes, or of a completed filet operation, has been acknowledged: its tag is free (R130, R185). -/
def State.laneStoreGot (i e g : Nat) (t : Txn) (s : State) : State :=
  let s := s.delTxn i
  if t.dead then s
  else match s.statusTrouble t with
  | some f => s.txnFault e g ((t.offs.headD (0, 0)).1) t f
  | none => s

/-- ATOMIC_REPLY: each lane that takes a value receives its own; poison faults with DETAIL 4 (R106, R173). -/
def atomicReply (i : Nat) (s : State) : State :=
  match s.txn? i with
  | none => s
  | some t => match t.issuer.group with
    | some (e, g) =>
      if t.stage != .reply || t.moving || !t.isAtomic then s
      else
        let s := s.delTxn i
        if t.dead then s
        else match s.statusTrouble t with
        | some f => s.txnFault e g ((t.lanes.map (·.lane)).headD 0) t f
        | none =>
          if t.poison ≠ 0 then s.txnFault e g ((t.lanes.map (·.lane)).headD 0) t
            (trouble 0x09 4 (t.va + 32 * (t.badSector.getD 0)))
          else
            let sz := if t.size = 3 then 3 else 2
            (s.onGrp e g (fun v => t.results.foldl (fun v p => v.loaded t.rd sz p.1 (leBytes (2 ^ sz) p.2)) v)).settle e g
    | none => s

def execAtomicReply (txn : Nat) (s : State) : Host.Outcome State Fault Refusal := .next (atomicReply txn s)

/-! ### ACQUIRE and RELEASE -/

/-- ACQUIRE (R188). -/
def acquire (e g opc scope : Nat) (s : State) : State :=
  s.issue e g opc [] (fun u t =>
    if 4 < scope then t.insnFault e g 0x05 4 u.pc.toNat
    else t.resume e g scope)

def execAcquire (eng grp opc scope : Nat) (s : State) : Host.Outcome State Fault Refusal := .next (acquire eng grp opc scope s)

/-- RELEASE: the group goes on once the release need wait no longer (R189). -/
def release (e g opc scope : Nat) (s : State) : State :=
  s.issue e g opc [] (fun u t =>
    if 4 < scope then t.insnFault e g 0x05 4 u.pc.toNat
    else if t.releaseDone e g scope then t.onGrp e g Group.step else t)

def execRelease (eng grp opc scope : Nat) (s : State) : Host.Outcome State Fault Refusal := .next (release eng grp opc scope s)

/-! ### Motif slots (R80 to R86) -/

def motifKey (c slot : Nat) : Nat := 8 * c + slot % 8

/-- MOTIF_EVALUATE: every active lane evaluates the slot's table; an empty slot faults, and a slot that is being loaded
is waited for (R81, R82, R86). -/
def motifEvaluate (e g opc slot rd ra : Nat) (s : State) : State :=
  s.issue e g opc [rd, ra] (fun u t =>
    match SMap.get? (t.eng e).motifs (motifKey u.ctx slot) with
    | none => t.insnFault e g 0x0B (slot % 8) u.pc.toNat
    | some m =>
      if m.loading then t
      else match m.image with
        | none => t.insnFault e g 0x0B (slot % 8) u.pc.toNat
        | some img =>
          let rs := (lanesOf u.active).map (fun l => (l, motifEval img (u.reg ra l)))
          let v := rs.foldl (fun v p => v.setReg rd p.1 p.2.1) u
          t.onGrp e g (fun _ => { v.step with
            aflags := setFlag (rs.any (·.2.2.2)) .motifOutSat (setFlag (rs.any (·.2.2.1)) .motifInSat u.aflags) }))

def execMotifEvaluate (eng grp opc slot rd ra : Nat) (s : State) : Host.Outcome State Fault Refusal :=
  .next (motifEvaluate eng grp opc slot rd ra s)

/-- Whether a load of a slot is in flight, be it dropped: an engine has one for each slot (R130). -/
def State.motifBusy (s : State) (e c slot : Nat) : Bool := s.txns.any (fun p => p.2.issuer == .motif e c (slot % 8))

/-- MOTIF_LOAD: the image of 784 bytes is checked as one extent, and its seven lines are requested together (R81, R83,
R100, R130, R132). -/
def motifLoad (e g opc slot : Nat) (va : VAddr) (s : State) : State :=
  s.issue e g opc [] (fun u t =>
    let a := va.toNat
    let pc := u.pc.toNat
    let key := motifKey u.ctx slot
    if a % 256 ≠ 0 then t.insnFault e g 0x0C 0 a
    else if t.motifBusy e u.ctx slot then t
    else match t.page e g u.ctx .read a, t.page e g u.ctx .read (a + 783) with
      | .trouble f, _ => t.groupFault e g u.lane0 f pc
      | .miss, _ => t.startWalk e g u.ctx u.lane0 a 0
      | .ok l m, r =>
        if m.va + m.size < a + 784 then t.insnFault e g 0x02 0 a
        else match r with
          | .trouble f => t.groupFault e g u.lane0 f pc
          | .miss => t.startWalk e g u.ctx u.lane0 (a + 783) 0
          | .ok l2 _ =>
            let t := (t.onGrp e g Group.step).onEng e (fun n => { n with
              motifs := SMap.upd n.motifs key { src := a, image := none, loading := false, lines := [] }
                (fun x => { x with src := a, loading := true, lines := [] }) })
            each (List.range 7) (fun i t =>
              let v := a + 128 * i
              let lf := if l.va ≤ v ∧ v < l.va + l.size then l else l2
              let x := Txn.blank (.motif e u.ctx (slot % 8)) (engDie e) (engQuad e) ((t.ctx? u.ctx).map (·.hoop)) (some u.ctx)
                .read lf.space (lf.phys v)
              (t.addTxn { x with secs := if i = 6 then 1 else 15, va := v, pc := pc, rd := g, size := i, offs := [(u.lane0, 0)],
                                 queue := u.queue, noInstall := true, mirrored := t.isMirrored m }).2) t)

def execMotifLoad (eng grp opc slot : Nat) (va : VAddr) (s : State) : Host.Outcome State Fault Refusal :=
  .next (motifLoad eng grp opc slot va s)

/-- MOTIF_LOAD_COMPLETE: all seven lines have returned; a poisoned line or a VERSION other than 1 faults, else the slot
holds the image (R83, R84, R100, R132). What a dropped load has brought is discarded, and a later load of the slot goes on (R80). -/
def motifLoadComplete (e c slot : Nat) (s : State) : State :=
  let s := s.onTxns (fun m => m.filter (fun p => !(p.2.issuer == .motif e c (slot % 8) && p.2.dead && p.2.stage == .reply && !p.2.moving)))
  let ts := s.txns.filter (fun p => p.2.issuer == .motif e c (slot % 8) && !p.2.dead)
  if ts.length < 7 || ts.any (fun p => p.2.stage != .reply || p.2.moving) then s
  else
    let s := s.onTxns (fun m => m.filter (fun p => !(p.2.issuer == .motif e c (slot % 8) && !p.2.dead)))
    let line := fun i => ((ts.find? (fun p => p.2.size = i)).map (fun p => cut p.2.data 0 128)).getD (zeros 128)
    let img := ((List.range 7).flatMap line).take 784
    let t0 := (ts.head?.map (·.2)).getD (Txn.blank (.motif e c slot) 0 0 none none .read .stack 0)
    let fail := fun (f : Trouble) (s : State) => s.engineFault e t0.rd (t0.offs.headD (0, 0)).1 c t0.queue f t0.pc
    let s := s.onEng e (fun n => { n with motifs := SMap.modify n.motifs (motifKey c slot) (fun x => { x with loading := false }) })
    match (ts.filterMap (fun p => s.statusTrouble p.2)).head? with
    | some f => fail f s
    | none =>
      match ts.findSome? (fun p => (p.2.badAt 0 (if p.2.size = 6 then 16 else 128)).map (fun a => p.2.va + a)) with
      | some a => fail (trouble 0x09 3 a) s
      | none =>
        if motifVersion img ≠ 1 then fail (trouble 0x0C 1 (t0.va / 256 * 256)) s
        else s.onEng e (fun n => { n with motifs := SMap.modify n.motifs (motifKey c slot) (fun x => { x with image := some img }) })

def execMotifLoadComplete (eng ctx slot : Nat) (s : State) : Host.Outcome State Fault Refusal :=
  .next (motifLoadComplete eng ctx slot s)

/-- MOTIF_CLEAR: the slot is empty; a load under way is dropped (R80). -/
def motifClear (e g opc slot : Nat) (s : State) : State :=
  s.issue e g opc [] (fun u t =>
    ((t.onGrp e g Group.step).onEng e (fun n => { n with motifs := SMap.del n.motifs (motifKey u.ctx slot) })).onTxns
      (fun m => SMap.mapVals m (fun _ x => if x.issuer == .motif e u.ctx (slot % 8) then { x with dead := true } else x)))

def execMotifClear (eng grp opc slot : Nat) (s : State) : Host.Outcome State Fault Refusal := .next (motifClear eng grp opc slot s)

end Sys2Proof.Machine
end

