-- ==== Sys2Proof/Machine/Operands.lean ====
section
/-!
DEFINITION. The operand forms of the filet: the words of its operations, the checks of their decode, the ranges of the
tile store that they read and write, and the bytes of the accumulator tile (R62, R66, R109 to R115, R129, R500).
-/
namespace Sys2Proof.Machine

/-- A range of bytes. -/
structure Range where
  lo : Nat
  len : Nat
  deriving DecidableEq, Repr

def Range.meets (a b : Range) : Bool :=
  decide (0 < a.len) && decide (0 < b.len) && decide (a.lo < b.lo + b.len) && decide (b.lo < a.lo + a.len)

def meetAny (as bs : List Range) : Bool := as.any (fun a => bs.any (fun b => a.meets b))

/-- Word `i` of an operation. -/
def fw (ws : List Nat) (i : Nat) : Nat := ws.getD i 0

/-- KIND: 1 MMA, 2 OUT, 3 LOAD, 4 STORE (R109). -/
def fKind (ws : List Nat) : Nat := fw ws 0 % 16

/-! MMA (R110, R111) -/
def mmaClear (ws : List Nat) : Bool := (fw ws 0).testBit 4
def mmaAuto (ws : List Nat) : Bool := (fw ws 0).testBit 5
def mmaAnchor (ws : List Nat) : Int := sInt 10 (bitsOf 15 6 (fw ws 0))
def mmaFmtW (ws : List Nat) : Nat := bitsOf 18 16 (fw ws 0)
def mmaFmtX (ws : List Nat) : Nat := bitsOf 21 19 (fw ws 0)
def mmaKblk (ws : List Nat) : Nat := bitsOf 31 22 (fw ws 0)

/-- A tile-store offset field. -/
def off20 (ws : List Nat) (i : Nat) : Nat := fw ws i % 2 ^ 20

/-- Bytes from one line of a data plane to the next, and of a scale plane (R111). -/
def dataPitch (kblk fmt : Nat) : Nat := (kblk * blockBytes fmt + 63) / 64 * 64
def scalePitch (kblk : Nat) : Nat := (2 * kblk + 15) / 16 * 16

/-- The extents of the operands of an MMA, in word order: W data, W scales, X data, X scales. Each ends with the last block or scale
word of its last line, without that line's padding to the pitch (DESIGN CHOICE: R111 gives the places of the lines and does not say
where an extent ends). -/
def mmaOperands (ws : List Nat) : List Range :=
  let k := mmaKblk ws
  [ { lo := off20 ws 1, len := 31 * dataPitch k (mmaFmtW ws) + k * blockBytes (mmaFmtW ws) },
    { lo := off20 ws 2, len := 31 * scalePitch k + 2 * k },
    { lo := off20 ws 3, len := 31 * dataPitch k (mmaFmtX ws) + k * blockBytes (mmaFmtX ws) },
    { lo := off20 ws 4, len := 31 * scalePitch k + 2 * k } ]

def mmaAcc (ws : List Nat) : Range := { lo := off20 ws 5, len := 8192 }

/-- The first of a list of checks that fails. -/
def firstBad (cs : List (Bool × Trouble)) : Option Trouble := (cs.find? (·.1)).map (·.2)

def bad (c : Bool) (code detail addr : Nat) : Bool × Trouble := (c, { code := code, detail := detail, addr := addr })

/-- An offset that is not a multiple, by word (R111). -/
def offBad (ws : List Nat) (i m : Nat) : Bool × Trouble := bad (off20 ws i % m != 0) 0x04 i (off20 ws i)

/-- An extent past the window, by word. -/
def winBad (size i : Nat) (r : Range) : Bool × Trouble := bad (decide (size < r.lo + r.len)) 0x03 i r.lo

/-- The decode of an MMA (R111, R500). -/
def mmaCheck (size pc : Nat) (ws : List Nat) : Option Trouble :=
  let ops := mmaOperands ws
  firstBad
    ([bad (!pairAllowed (mmaFmtW ws) (mmaFmtX ws)) 0x06 0 pc,
      bad (mmaKblk ws == 0 || mmaKblk ws == 1023) 0x05 5 pc,
      offBad ws 1 64, offBad ws 2 16, offBad ws 3 64, offBad ws 4 16, offBad ws 5 8192] ++
     (List.range 4).map (fun i => winBad size (i + 1) (ops.getD i { lo := 0, len := 0 })) ++
     [winBad size 5 (mmaAcc ws), bad (meetAny [mmaAcc ws] ops) 0x05 7 pc])

/-! OUT (R112, R113) -/
def outMode (ws : List Nat) : Nat := bitsOf 6 4 (fw ws 0)
def outMem (ws : List Nat) : Bool := (fw ws 0).testBit 7
def outFmt (ws : List Nat) : Nat := bitsOf 10 8 (fw ws 0)
def outNexp (ws : List Nat) : Int := sInt 8 (bitsOf 18 11 (fw ws 0))

/-- A 57-bit virtual address in two words. -/
def va57 (ws : List Nat) (i : Nat) : Nat := fw ws i % 2 ^ 32 + 2 ^ 32 * (fw ws (i + 1) % 2 ^ 25)
def outDpitch (ws : List Nat) : Nat := fw ws 6 % 2 ^ 24
def outSpitch (ws : List Nat) : Nat := fw ws 7 % 2 ^ 24

/-- Bytes of one output line, and the unit that its address is a multiple of. -/
def outLine (ws : List Nat) : Nat := if outMode ws = 0 then 256 else blockBytes (outFmt ws)
def outUnit (ws : List Nat) : Nat := if outMode ws = 0 then 8 else blockBytes (outFmt ws)

def outFmtOk (ws : List Nat) : Bool :=
  if outMode ws = 0 then outFmt ws == 4
  else if outMode ws ≤ 2 then decide (outFmt ws ≤ 2)
  else outFmt ws == 3

/-- The decode of an OUT, but for its memory extents (R113, R500). -/
def outCheck (size pc : Nat) (ws : List Nat) : Option Trouble :=
  let scaled := outMode ws != 0
  firstBad
    [bad (decide (5 ≤ outMode ws)) 0x05 4 pc,
     bad (!outFmtOk ws) 0x06 0 pc,
     bad (outMem ws && decide (outDpitch ws < outLine ws)) 0x05 6 pc,
     bad (outMem ws && scaled && decide (outSpitch ws < 2)) 0x05 6 pc,
     offBad ws 1 8192,
     bad (!outMem ws && off20 ws 2 % 64 != 0) 0x04 2 (off20 ws 2),
     bad (!outMem ws && scaled && off20 ws 3 % 16 != 0) 0x04 3 (off20 ws 3),
     bad (outMem ws && va57 ws 2 % outUnit ws != 0) 0x04 2 (va57 ws 2),
     bad (outMem ws && outDpitch ws % outUnit ws != 0) 0x04 6 (outDpitch ws),
     bad (outMem ws && scaled && va57 ws 4 % 2 != 0) 0x04 4 (va57 ws 4),
     bad (outMem ws && scaled && outSpitch ws % 2 != 0) 0x04 7 (outSpitch ws),
     winBad size 1 { lo := off20 ws 1, len := 8192 },
     bad (!outMem ws && decide (size < off20 ws 2 + 32 * outLine ws)) 0x03 2 (off20 ws 2),
     bad (!outMem ws && scaled && decide (size < off20 ws 3 + 64)) 0x03 3 (off20 ws 3)]

/-! LOAD and STORE (R114, R115) -/
def mvRows (ws : List Nat) : Nat := bitsOf 15 8 (fw ws 0)
def mvLen (ws : List Nat) : Nat := bitsOf 31 16 (fw ws 0)
def mvMpitch (ws : List Nat) : Nat := fw ws 4 % 2 ^ 32
def mvTpitch (ws : List Nat) : Nat := off20 ws 5

/-- The decode of a LOAD or a STORE, but for its memory extent (R115, R500). -/
def mvCheck (size pc : Nat) (ws : List Nat) : Option Trouble :=
  firstBad
    [bad (mvRows ws == 0 || mvRows ws == 255 || mvLen ws == 0) 0x05 5 pc,
     bad (mvLen ws % 32 != 0) 0x05 11 pc,
     bad (off20 ws 1 % 32 != 0) 0x04 1 (off20 ws 1),
     bad (va57 ws 2 % 32 != 0) 0x04 2 (va57 ws 2),
     bad (mvMpitch ws % 32 != 0) 0x04 4 (mvMpitch ws),
     bad (mvTpitch ws % 32 != 0) 0x04 5 (mvTpitch ws),
     bad (fKind ws == 4 && decide (mvMpitch ws < mvLen ws)) 0x05 6 pc,
     bad (fKind ws == 3 && decide (mvTpitch ws < mvLen ws)) 0x05 6 pc,
     winBad size 1 { lo := off20 ws 1, len := (mvRows ws - 1) * mvTpitch ws + mvLen ws }]

/-- The decode of an operation, but for memory (R109, R500). -/
def filetCheck (size pc : Nat) (ws : List Nat) : Option Trouble :=
  match fKind ws with
  | 1 => mmaCheck size pc ws
  | 2 => outCheck size pc ws
  | 3 => mvCheck size pc ws
  | 4 => mvCheck size pc ws
  | _ => some { code := 0x05, detail := 4, addr := pc }

/-- The memory extents of an operation: the word that names it, its first byte, its length, and whether it is
written. -/
def filetExtents (ws : List Nat) : List (Nat × Nat × Nat × Bool) :=
  match fKind ws with
  | 2 => if !outMem ws then []
    else [(2, va57 ws 2, 31 * outDpitch ws + outLine ws, true)] ++
      (if outMode ws = 0 then [] else [(4, va57 ws 4, 31 * outSpitch ws + 2, true)])
  | 3 => [(2, va57 ws 2, (mvRows ws - 1) * mvMpitch ws + mvLen ws, false)]
  | 4 => [(2, va57 ws 2, (mvRows ws - 1) * mvMpitch ws + mvLen ws, true)]
  | _ => []

/-- The rows of a LOAD or STORE in the tile store. -/
def mvTileRows (ws : List Nat) : List Range :=
  (List.range (mvRows ws)).map (fun r => { lo := off20 ws 1 + r * mvTpitch ws, len := mvLen ws })

/-- The window ranges that an operation reads, and those that it writes (R119). -/
def filetReads (ws : List Nat) : List Range :=
  match fKind ws with
  | 1 => mmaOperands ws ++ (if mmaClear ws then [] else [mmaAcc ws])
  | 2 => [{ lo := off20 ws 1, len := 8192 }]
  | 4 => mvTileRows ws
  | _ => []

def filetWrites (ws : List Nat) : List Range :=
  match fKind ws with
  | 1 => [mmaAcc ws]
  | 2 => if outMem ws then [] else [{ lo := off20 ws 2, len := 32 * outLine ws }] ++
      (if outMode ws = 0 then [] else [{ lo := off20 ws 3, len := 64 }])
  | 3 => mvTileRows ws
  | _ => []

/-- Whether two operations of one tile store, each with the base of its window, may not be under way together (R119). -/
def conflicts (ba : Nat) (a : List Nat) (bb : Nat) (b : List Nat) : Bool :=
  let sh := fun (base : Nat) (rs : List Range) => rs.map (fun r => { r with lo := base + r.lo })
  meetAny (sh ba (filetWrites a)) (sh bb (filetReads b ++ filetWrites b)) ||
  meetAny (sh ba (filetReads a)) (sh bb (filetWrites b))

/-! ### The accumulator tile (R129) -/

/-- An accumulator tile as bytes: values, SAT bits, anchor word. -/
def accVal (t : Bytes) (i j : Nat) : Int := sInt 48 (numAt t (6 * (32 * i + j)) 6)
def accSat (t : Bytes) (i j : Nat) : Bool := (numAt t (6144 + (32 * i + j) / 8) 1).testBit ((32 * i + j) % 8)
def accAnchor (t : Bytes) : Int := sInt 10 (numAt t 6272 2 % 1024)
def accTileSat (t : Bytes) : Bool := (numAt t 6272 2).testBit 15

/-- Eight bits as a byte, lowest first. -/
def byteOf (bs : List Bool) : Byte := BitVec.ofNat 8 (((List.range 8).filter (fun i => bs.getD i false)).foldl (fun a i => a + 2 ^ i) 0)

/-- The 6,274 bytes that the filet writes of a tile. -/
def accBytes (vals : List Acc) (anchor : Int) (sat : Bool) : Bytes :=
  vals.flatMap (fun a => leBytes 6 (uNat 48 a.val)) ++
  (List.range 128).map (fun k => byteOf (((vals.drop (8 * k)).take 8).map (·.sat))) ++
  leBytes 2 (uNat 10 anchor + (if sat then 2 ^ 15 else 0))

/-- The scale words of one line of a plane, and the blocks, of a tile store read as bytes from the window base. -/
def lineScales (plane : Bytes) (i kblk : Nat) : List Nat :=
  (List.range kblk).map (fun kb => numAt plane (i * scalePitch kblk + 2 * kb) 2)
def lineBlock (plane : Bytes) (i kb kblk fmt : Nat) : Nat :=
  numAt plane (i * dataPitch kblk fmt + kb * blockBytes fmt) (blockBytes fmt)

/-- The exact sum of products of one K block (R67). -/
def dot32 (fa a fb b : Nat) : Int :=
  (List.range 32).foldl (fun acc t => acc + blockElem fa t a * blockElem fb t b) 0

/-- The result of an MMA: the tile's new bytes and whether any step saturated (R67 to R71). `pw`, `sw`, `px`, `sx` are
the planes and `t` the accumulator tile before. -/
def mmaResult (ws : List Nat) (pw sw px sx t : Bytes) : Bytes × Bool :=
  let k := mmaKblk ws
  let a : Int := if !mmaClear ws then accAnchor t
    else if mmaAuto ws then autoAnchor (mmaFmtW ws) (mmaFmtX ws)
      ((List.range 32).flatMap (fun i => lineScales sw i k)) ((List.range 32).flatMap (fun j => lineScales sx j k))
    else mmaAnchor ws
  let el := fun (i j : Nat) =>
    let ks := (List.range k).map (fun kb =>
      { sw := numAt sw (i * scalePitch k + 2 * kb) 2, sx := numAt sx (j * scalePitch k + 2 * kb) 2,
        dot := dot32 (mmaFmtW ws) (lineBlock pw i kb k (mmaFmtW ws)) (mmaFmtX ws) (lineBlock px j kb k (mmaFmtX ws)) : KBlock })
    accumulate a { val := if mmaClear ws then 0 else accVal t i j, sat := false } ks
  let res := (List.range 32).flatMap (fun i => (List.range 32).map (fun j => (i, j, el i j)))
  let hit := res.any (fun x => x.2.2.sat)
  let vals := res.map (fun x => { x.2.2 with sat := x.2.2.sat || (!mmaClear ws && accSat t x.1 x.2.1) })
  (accBytes vals a (hit || (!mmaClear ws && accTileSat t)), hit)

/-- One output line of an OUT: its bytes, its scale word, and the flags it sets (R64, R72, R74, R113). -/
def outLineOf (ws : List Nat) (t : Bytes) (i : Nat) : Bytes × Nat × Bool × Bool :=
  let a := accAnchor t
  let vs := fun (col : Bool) => (List.range 32).map (fun j => if col then accVal t j i else accVal t i j)
  match outMode ws with
  | 0 => ((List.range 32).flatMap (fun j => leBytes 8 (slotWord { val := accVal t i j, anchor := a, sat := accSat t i j })), 0, false, false)
  | 1 => let p := scaleFind (outFmt ws) a (vs false)
    (leBytes (blockBytes (outFmt ws)) (blockOf (outFmt ws) p.q), scaleWord p.e p.m, p.clamp, false)
  | 2 => let p := scaleFind (outFmt ws) a (vs true)
    (leBytes (blockBytes (outFmt ws)) (blockOf (outFmt ws) p.q), scaleWord p.e p.m, p.clamp, false)
  | m => let p := narrow (outNexp ws) a (vs (m == 4))
    (leBytes 64 (blockOf 3 p.1), scaleWord (outNexp ws) 1, false, p.2)

end Sys2Proof.Machine
end

