-- ==== Sys2Proof/Machine/Park.lean ====
section
/-!
DEFINITION. Parking: the windows of kernels, knot records, and how a group of a command that is being preempted parks (R126, R326,
R327, R332).
-/
namespace Sys2Proof.Machine

def Engine.winOf (n : Engine) (q : Nat) : Option Win := n.wins.find? (fun w => w.queue = q)

/-- Base and size of a kernel's window; an empty one where it has none. -/
def Engine.winBS (n : Engine) (q : Nat) : Nat × Nat := match n.winOf q with | some w => (w.base, w.size) | none => (0, 0)

/-- The bytes of a knot record as the instruction path of a group's engine reads them: a sector that its L1 holds for the context,
else what the record's home would answer; a sector in host memory that the L1 does not hold is a free value (R326). -/
def State.knotBytes (s : State) (e c : Nat) (l : Leaf) (va : Nat) : Bytes × Bool :=
  let pa := l.phys va
  let one := fun (i : Nat) => match ((s.eng e).l1Find c l.space (lineOf pa)).bind (fun x => x.sec (pa % 128 / 32 + i)) with
    | some x => (x.data, x.poison != 0)
    | none => match l.space with
      | .host => (leBytes 32 (Config.freeNat (s.free + i)), false)
      | _ => s.peek (pa + 32 * i) 32
  ((one 0).1 ++ (one 1).1, (one 0).2 || (one 1).2)

/-- A knot record: its LIVE mask and its used ranges. -/
def knotOf (b : Bytes) : Nat × List (Nat × Nat) :=
  (numAt b 0 32, ((List.range 4).map (fun k => (numAt b (32 + 8 * k) 4, numAt b (36 + 8 * k) 4))).filter (fun r => r.2 != 0))

/-- Whether every range of a record is aligned and lies in a window. -/
def rangesOk (size : Nat) (rs : List (Nat × Nat)) : Bool :=
  rs.all (fun r => r.1 % 64 == 0 && r.2 % 64 == 0 && decide (r.1 + r.2 ≤ size))

/-- STATE, barrier, fence address and target of a group as its record will show them (R335). -/
def parkWhy (u : Group) : Nat × Nat × Nat × Nat :=
  match u.st with
  | .barrier num scope => (2, num + 4 * scope, 0, 0)
  | .fence a t _ _ => (3, 0, a, t)
  | .fwait _ => (4, 0, 0, 0)
  | _ => (1, 0, 0, 0)

/-- A group takes its parked form. -/
def State.setPark (e g : Nat) (live : Nat) (ranges : List (Nat × Nat)) (why : Nat × Nat × Nat × Nat) (s : State) : State :=
  (s.unregister (1, 16 * e + g)).onGrp e g (fun u => { u with
    st := .parked { why := why.1, live := live % 2 ^ u.n, ranges := ranges, arg := why.2.1, va := why.2.2.1, target := why.2.2.2 } })

/-- A group parks: with the record of the KNOT that it has passed, or with every register and the whole window
(R327, step 3). A record that cannot be used faults the context (R332). -/
def State.parkGroup (e g : Nat) (s : State) : State :=
  match s.grp? e g with
  | none => s
  | some u =>
    let size := ((s.eng e).winBS u.queue).2
    match u.krec with
    | none => s.setPark e g (2 ^ u.n - 1) (if size = 0 then [] else [(0, size)]) (parkWhy u)
    | some k =>
      let rec_ := uNat 57 (((u.pc - 8).toNat / 64 * 64 : Nat) + 64 * k)
      match s.ctx? u.ctx with
      | none => s
      | some c => match s.translate c .fetch rec_ with
        | .error _ => s.groupFault e g u.lane0 (trouble 0x12 1 rec_) u.pc.toNat
        | .ok (l, _) =>
          let b := s.knotBytes e u.ctx l rec_
          let s := { s with free := s.free + 2 }
          if b.2 ∨ (l.space = .stack ∧ !s.setAllowed c.hoop (l.phys rec_) false) then
            s.groupFault e g u.lane0 (trouble 0x12 1 rec_) u.pc.toNat
          else
            let k := knotOf b.1
            if rangesOk size k.2 then s.setPark e g k.1 k.2 (parkWhy u)
            else s.groupFault e g u.lane0 (trouble 0x12 2 rec_) u.pc.toNat

/-- A group that begins to wait while its command is being preempted parks at once (R327, step 3); `go` is what its wait asks for
otherwise. -/
def State.waitOrPark (e g : Nat) (st : GState) (go : State → State) (s : State) : State :=
  match s.grp? e g with
  | none => s
  | some u =>
    let s := s.onGrp e g (fun v => { v with st := st })
    if (s.share? e u.queue).any (fun h => h.saving.isSome) then s.parkGroup e g else go s

end Sys2Proof.Machine
end

