-- ==== Sys2Proof/Machine/Filet.lean ====
section
/-!
DEFINITION. The filet and the tile store: issue and tokens, the starts and the completion of operations, the mover's
requests and their answers, and the fragment instructions (R109 to R128).
-/
namespace Sys2Proof.Machine

/-! ### The tile store (R126 to R128) -/

def Engine.tileAt (n : Engine) (a len : Nat) : Bytes := cellsAt n.tile a len

/-- Bytes written into the tile store; a word written whole is no longer poisoned (R128). -/
def Engine.tilePut (a : Nat) (bs : Bytes) (n : Engine) : Engine :=
  { n with tile := cellsPut n.tile a bs
           tilePoison := n.tilePoison.filter (fun w => !(decide (a ≤ 8 * w) && decide (8 * w + 8 ≤ a + bs.length))) }

/-- Words of the tile store in which a read finds a code error: a single-bit one is corrected and written back, one that cannot be
corrected poisons its word (R128). -/
def Engine.tileErrs (errs : List (Nat × CodeError)) (n : Engine) : Engine :=
  { n with tilePoison := (errs.filter (fun x => x.2 = .double && decide (x.1 < 98304))).foldl (fun l x => addNum l x.1) n.tilePoison }

/-- The first poisoned word of a range of the tile store. -/
def Engine.tileBad (n : Engine) (r : Range) : Option Nat :=
  n.tilePoison.find? (fun w => r.meets { lo := 8 * w, len := 8 })

/-! ### Issue (R109, R116, R117) -/

/-- What the first byte of a memory extent gives: nothing wrong, a fault, or a miss. -/
def State.extentCheck (s : State) (e g c : Nat) (x : Nat × Nat × Nat × Bool) : PageRes :=
  match s.page e g c (if x.2.2.2 then .store else .read) x.2.1 with
  | .ok l m => if m.va + m.size < x.2.1 + x.2.2.1 then .trouble { code := 0x02, detail := x.1, addr := x.2.1 } else .ok l m
  | r => r

/-- The first extent that is not good. -/
def State.extentsBad (s : State) (e g c : Nat) : List (Nat × Nat × Nat × Bool) → Option (Nat × PageRes)
  | [] => none
  | x :: xs => match s.extentCheck e g c x with
    | .ok _ _ => s.extentsBad e g c xs
    | r => some (x.2.1, r)

/-- Bit `k` of the token register is set (R116). -/
def Group.setFtr (k : Nat) (u : Group) : Group := { u with ftr := u.ftr ||| 2 ^ k }

/-- FILET: an entry is taken, the FTR bit set, and the token written in every active lane; the operation's words are
those of the lowest-numbered active lane, and its decode is checked before any byte moves (R109, R111, R116, R117). -/
def filet (e g opc vb rd : Nat) (s : State) : State :=
  s.issue e g opc [rd] (fun u t =>
    let pc := u.pc.toNat
    let lane := u.lane0
    if !u.ownsBlock vb 8 8 then t.insnFault e g 0x05 3 pc
    else if !u.free (blockRegs vb 8) then t
    else
      let n := t.eng e
      match freeNum 8 (n.filet.map (·.1)) with
      | none => t
      | some k =>
        if 4 ≤ (n.filet.filter (fun p => p.2.group = g && u.ftr.testBit p.1)).length then t
        else
          let ws := (List.range 8).map (fun i => (u.reg (vb + i) lane).toNat)
          match filetCheck (n.winBS u.queue).2 pc ws with
          | some f => t.groupFault e g lane f pc
          | none => match t.extentsBad e g u.ctx (filetExtents ws) with
            | some (_, .trouble f) => t.groupFault e g lane f pc
            | some (va, .miss) => t.startWalk e g u.ctx lane va 0
            | _ =>
              let en : FEntry := { group := g, lane := lane, queue := u.queue, ctx := u.ctx, pc := u.pc, words := ws, order := n.order,
                                   started := false, flags := 0, todo := [], page := none }
              let t := t.onEng e (fun n => { n with filet := SMap.put n.filet k en, order := n.order + 1 })
              t.onGrp e g (fun v => ((v.setAll rd (fun _ => BitVec.ofNat 32 (2 ^ k))).step).setFtr k))
def execFilet (eng grp opc vb rd : Nat) (s : State) : Host.Outcome State Fault Refusal := .next (filet eng grp opc vb rd s)

/-- FWAIT: the group goes on once FTR AND the mask reads 0 (R118). A mask in a register is that of the lowest active lane (DESIGN
CHOICE: R118 does not say which lane's). -/
def fwait (e g opc : Nat) (m : Src) (s : State) : State :=
  s.issue e g opc (srcRegs m) (fun u t =>
    let mask := (u.src m u.lane0).toNat % 256
    if u.ftr &&& mask = 0 then t.onGrp e g Group.step
    else t.waitOrPark e g (.fwait mask) id)

def execFwait (eng grp opc : Nat) (mask : Src) (s : State) : Host.Outcome State Fault Refusal := .next (fwait eng grp opc mask s)

/-! ### Starts (R119, R122) -/

def isArith (ws : List Nat) : Bool := fKind ws == 1 || fKind ws == 2

/-- Whether an entry may start: it is the next of its pipe, and no earlier incomplete operation conflicts (R119). -/
def Engine.mayStart (n : Engine) (k : Nat) (f : FEntry) : Bool :=
  !f.started &&
  n.filet.all (fun p => p.1 = k || decide (f.order ≤ p.2.order) ||
    (!(isArith p.2.words == isArith f.words && !p.2.started) &&
     !conflicts (n.winBS p.2.queue).1 p.2.words (n.winBS f.queue).1 f.words))

def State.entry? (s : State) (e k : Nat) : Option FEntry := SMap.get? (s.eng e).filet k
def State.onEntry (e k : Nat) (f : FEntry → FEntry) (s : State) : State :=
  s.onEng e (fun n => { n with filet := SMap.modify n.filet k f })

/-- A fault of an operation: its context faults at the FILET that issued it, and its entry is given up; what it has outstanding
drains without it (R133, R134, R501). -/
def State.entryFault (e k : Nat) (t : Trouble) (s : State) : State :=
  match s.entry? e k with
  | none => s
  | some f =>
    ((s.engineFault e f.group f.lane f.ctx f.queue t f.pc.toNat).onEng e (fun n => { n with filet := SMap.del n.filet k })).onTxns
      (fun m => SMap.mapVals m (fun _ t => if t.issuer == .mover e k then { t with issuer := .past e 16 true, dead := true } else t))

/-- The poisoned word that an operation would read. -/
def Engine.readBad (n : Engine) (f : FEntry) : Option Nat :=
  ((filetReads f.words).filterMap (fun r => n.tileBad { r with lo := (n.winBS f.queue).1 + r.lo })).head?

/-- An operation of a KIND starts: `go` is what it does. A poisoned word that it reads faults its context (R128); `errs` are the code
errors that its reads find. -/
def State.startOp (e k kind : Nat) (errs : List (Nat × CodeError)) (go : FEntry → State → State) (s : State) : State :=
  match s.entry? e k with
  | none => s
  | some f =>
    if fKind f.words != kind || !(s.eng e).mayStart k f || !s.runs (engDie e) then s
    else
    let s := if kind = 3 then s else s.onEng e (Engine.tileErrs errs)
    match (s.eng e).readBad f with
    | some w => s.entryFault e k (trouble 0x09 2 (8 * w - ((s.eng e).winBS f.queue).1))
    | none => go f (s.onEntry e k (fun f => { f with started := true }))

/-- Bytes of an entry's window. -/
def State.winAt (s : State) (e : Nat) (f : FEntry) (r : Range) : Bytes :=
  (s.eng e).tileAt (((s.eng e).winBS f.queue).1 + r.lo) r.len

/-- MMA_START: the accumulator tile takes the result of R67 to R71. -/
def mmaStart (e k : Nat) (errs : List (Nat × CodeError)) (s : State) : State :=
  s.startOp e k 1 errs (fun f s =>
    let ops := mmaOperands f.words
    let at_ := fun i => s.winAt e f (ops.getD i { lo := 0, len := 0 })
    let r := mmaResult f.words (at_ 0) (at_ 1) (at_ 2) (at_ 3) (s.winAt e f (mmaAcc f.words))
    (s.onEng e (Engine.tilePut (((s.eng e).winBS f.queue).1 + (mmaAcc f.words).lo) r.1)).onEntry e k
      (fun f => { f with flags := setFlag r.2 .accSat f.flags }))

def execMmaStart (eng entry : Nat) (errs : List (Nat × CodeError)) (s : State) : Host.Outcome State Fault Refusal :=
  .next (mmaStart eng entry errs s)

/-- The parts of a run of bytes that lie in one sector each: where they go, or come from, in memory and in the tile store. -/
def lineParts (va tile : Nat) : Nat → Bytes → List Piece
  | 0, _ => []
  | fuel + 1, bs =>
    if bs.isEmpty then []
    else
      let k := min bs.length (32 - va % 32)
      let o := va % 128
      { va := lineOf va, mask := maskOf o k, data := zeros o ++ bs.take k ++ zeros (128 - o - k), tiles := [(tile, o)] } ::
        lineParts (va + k) (tile + k) fuel (bs.drop k)

def partsOf (va tile : Nat) (bs : Bytes) : List Piece := lineParts va tile (bs.length / 32 + 2) bs

/-- A part joins the first request of its line that names none of its bytes, or is a request of its own. -/
def joinPiece (p : Piece) : List Piece → List Piece
  | [] => [p]
  | x :: xs =>
    if x.va = p.va ∧ x.mask &&& p.mask = 0 then
      { x with mask := x.mask ||| p.mask, data := mergeBytes x.data p.data p.mask, tiles := x.tiles ++ p.tiles } :: xs
    else x :: joinPiece p xs

/-- The parts that an operation moves, line by line: those that name all four sectors of a line are one line group, be they of one
row or of several (R201). -/
def lineGroups (ps : List Piece) : List Piece := ps.foldl (fun l p => joinPiece p l) []

/-- OUT_START: the tile leaves as an A48 image, as packed blocks or as narrowed blocks, to the tile store or, line by
line, to memory (R64, R72 to R74, R112, R113). -/
def outStart (e k : Nat) (errs : List (Nat × CodeError)) (s : State) : State :=
  s.startOp e k 2 errs (fun f s =>
    let ws := f.words
    let t := s.winAt e f { lo := off20 ws 1, len := 8192 }
    let ls := (List.range 32).map (outLineOf ws t)
    let b := ((s.eng e).winBS f.queue).1
    let fl := fun (w : Word) => setFlag (ls.any (·.2.2.2)) .narrowSat (setFlag (ls.any (·.2.2.1)) .packClamp w)
    let s := s.onEntry e k (fun f => { f with flags := fl f.flags })
    if outMem ws then
      let data := (List.range 32).flatMap (fun i => partsOf (va57 ws 2 + i * outDpitch ws) 0 ((ls.getD i ([], 0, false, false)).1))
      let scales := if outMode ws = 0 then [] else (List.range 32).flatMap (fun i =>
        partsOf (va57 ws 4 + i * outSpitch ws) 0 (leBytes 2 (ls.getD i ([], 0, false, false)).2.1))
      s.onEntry e k (fun f => { f with todo := lineGroups (data ++ scales) })
    else
      let s := s.onEng e (Engine.tilePut (b + off20 ws 2) (ls.flatMap (·.1)))
      if outMode ws = 0 then s
      else s.onEng e (Engine.tilePut (b + off20 ws 3) (ls.flatMap (fun l => leBytes 2 l.2.1))))

def execOutStart (eng entry : Nat) (errs : List (Nat × CodeError)) (s : State) : Host.Outcome State Fault Refusal :=
  .next (outStart eng entry errs s)

/-- FILET_LOAD_START: the rows to be read (R114, R115). -/
def filetLoadStart (e k : Nat) (s : State) : State :=
  s.startOp e k 3 [] (fun f s =>
    let ws := f.words
    let b := ((s.eng e).winBS f.queue).1
    s.onEntry e k (fun f => { f with todo := lineGroups ((List.range (mvRows ws)).flatMap (fun r =>
      partsOf (va57 ws 2 + r * mvMpitch ws) (b + off20 ws 1 + r * mvTpitch ws) (zeros (mvLen ws)))) }))

def execFiletLoadStart (eng entry : Nat) (s : State) : Host.Outcome State Fault Refusal := .next (filetLoadStart eng entry s)

/-- FILET_STORE_START: the rows to be written, with their bytes (R114, R115). -/
def filetStoreStart (e k : Nat) (errs : List (Nat × CodeError)) (s : State) : State :=
  s.startOp e k 4 errs (fun f s =>
    let ws := f.words
    s.onEntry e k (fun f => { f with todo := lineGroups ((List.range (mvRows ws)).flatMap (fun r =>
      partsOf (va57 ws 2 + r * mvMpitch ws) 0 (s.winAt e f { lo := off20 ws 1 + r * mvTpitch ws, len := mvLen ws }))) }))

def execFiletStoreStart (eng entry : Nat) (errs : List (Nat × CodeError)) (s : State) : Host.Outcome State Fault Refusal :=
  .next (filetStoreStart eng entry errs s)

/-! ### The mover (R115, R121, R130, R201) -/

/-- The sectors of a line that a byte mask names. -/
def maskSecs (m : Nat) : Nat := (List.range 4).foldl (fun a i => if secMask m i = 0 then a else a + 2 ^ i) 0

/-- The sectors of a line that bytes from an offset touch, as a mask. -/
def secsFor (off len : Nat) : Nat := maskSecs (maskOf off len)

/-- One piece of an operation leaves the engine as one request on its line. -/
def State.moverSend (e k : Nat) (f : FEntry) (l : Leaf) (mir : Bool) (p : Piece) (s : State) : State :=
  let ld := fKind f.words == 3
  let t := Txn.blank (.mover e k) (engDie e) (engQuad e) ((s.ctx? f.ctx).map (·.hoop)) (some f.ctx)
    (if ld then .read else .store) l.space (lineOf (l.phys p.va))
  (s.addTxn { t with
    secs := maskSecs p.mask, va := p.va, pc := f.pc.toNat, rd := f.group, size := f.lane, noInstall := true, queue := f.queue,
    offs := if ld then p.tiles else [(f.lane, 0)], mirrored := mir, data := if ld then [] else p.data, mask := if ld then 0 else p.mask }).2

/-- The pieces at the head of an operation's list that lie on one page and may leave now: tags are free, and no store
or atomic of the engine to a sector of a LOAD is unacknowledged (R121, R130). -/
def State.sendPieces (e k : Nat) (f : FEntry) (l : Leaf) (mir : Bool) : List Piece → State → State
  | [], s => s.onEntry e k (fun f => { f with todo := [] })
  | p :: ps, s =>
    let m := maskSecs p.mask
    if decide (p.va < l.va) || decide (l.va + l.size ≤ p.va) ||
       (fKind f.words == 3 && (List.range 4).any (fun i => m.testBit i && s.storeOut e l.space (lineOf (l.phys p.va)) i)) ||
       decide (256 < s.sectorsOut e + popcount m) || decide (128 < s.moverSectorsOut e + popcount m) then
      s.onEntry e k (fun f => { f with todo := p :: ps })
    else State.sendPieces e k f l mir ps (s.moverSend e k f l mir p)

/-- The address of the first byte that a piece moves. -/
def Piece.first (p : Piece) : Nat := p.va + ((List.range 128).find? (fun i => p.mask.testBit i)).getD 0

/-- FILET_PAGE_TRANSLATE: the operation reaches a page: its translation, or the fault, and then the requests that lie on
it (R115). -/
def filetPageTranslate (e k : Nat) (s : State) : State :=
  match s.entry? e k with
  | none => s
  | some f => match f.todo with
    | [] => s
    | p :: ps =>
      if !f.started then s
      else match s.ctx? f.ctx with
      | none => s
      | some c => match s.translate c (if fKind f.words = 3 then .read else .store) p.first with
        | .error t => s.entryFault e k { t with addr := p.first }
        | .ok (l, m) => (s.onEntry e k (fun f => { f with page := some l })).sendPieces e k f l (s.isMirrored m) (p :: ps)

def execFiletPageTranslate (eng entry : Nat) (s : State) : Host.Outcome State Fault Refusal :=
  .next (filetPageTranslate eng entry s)

/-- A sector group of a filet LOAD has come back (R120, R132). -/
def State.moverGot (i e k : Nat) (t : Txn) (s : State) : State :=
  let s := s.delTxn i
  if t.dead then s
  else match s.statusTrouble t with
  | some f => s.entryFault e k f
  | none => match t.badAt 0 128 with
    | some b => s.entryFault e k (trouble 0x09 1 (t.va + b))
    | none => s.onEng e (fun n => t.offs.foldl (fun n o => n.tilePut o.1 (cut t.data o.2 32)) n)

/-- LOAD_RETURN: a sector request of a lane load or of a filet LOAD has been answered (R105, R107, R122, R132). -/
def loadReturn (i : Nat) (s : State) : State :=
  match s.txn? i with
  | none => s
  | some t =>
    if t.stage != .reply || t.moving || t.op != .read then s
    else match t.issuer with
    | .lane e g => s.laneLoadGot i e g t
    | .past e g _ => s.laneLoadGot i e g t
    | .mover e k => s.moverGot i e k t
    | _ => s

def execLoadReturn (txn : Nat) (s : State) : Host.Outcome State Fault Refusal := .next (loadReturn txn s)

/-- STORE_ACK_RETURN: a store of a lane, or of a filet STORE or OUT, has been acknowledged (R130, R152). -/
def storeAckReturn (i : Nat) (s : State) : State :=
  match s.txn? i with
  | none => s
  | some t =>
    if t.stage != .reply || t.moving || (!t.isStore && t.op != .signal) then s
    else match t.issuer with
    | .lane e g => s.laneStoreGot i e g t
    | .past e g _ => s.laneStoreGot i e g t
    | .mover e k =>
      let s := s.delTxn i
      if t.dead then s
      else match s.statusTrouble t with
      | some f => s.entryFault e k f
      | none => s
    | _ => s

def execStoreAckReturn (txn : Nat) (s : State) : Host.Outcome State Fault Refusal := .next (storeAckReturn txn s)

/-- FILET_COMPLETE: an operation whose last write has been accepted, or whose last read has been used, leaves the queue; its FTR bit
clears, its flags join the group's, and a group whose FWAIT is satisfied goes on. Its writes that are not yet acknowledged count as
stores of the group (R78, R102, R118, R120). The flags of an operation whose group has ended join the launch's (R79). -/
def filetComplete (e k : Nat) (s : State) : State :=
  match s.entry? e k with
  | none => s
  | some f =>
    if !f.started || !f.todo.isEmpty || s.txns.any (fun p => p.2.issuer == .mover e k && p.2.op == .read) then s
    else
      let here := (s.grp? e f.group).any (fun u => u.queue == f.queue && u.ftr.testBit k)
      let s := (s.onEng e (fun n => { n with filet := SMap.del n.filet k })).onTxns (fun m => SMap.mapVals m (fun _ t =>
        if t.issuer == .mover e k then { t with issuer := .past e (if here then f.group else 16) true } else t))
      if !here then s.onEng e (fun n => { n with
        shares := SMap.modify n.shares f.queue (fun h => { h with aflags := h.aflags ||| f.flags }) })
      else s.onGrp e f.group (fun u =>
        let u := { u with ftr := u.ftr - 2 ^ k, aflags := u.aflags ||| f.flags }
        match u.st with
        | .fwait m => if u.ftr &&& m = 0 then { u.step with st := .ready } else u
        | _ => u)

def execFiletComplete (eng entry : Nat) (s : State) : Host.Outcome State Fault Refusal := .next (filetComplete eng entry s)

/-! ### Fragment instructions (R123 to R125) -/

/-- A fragment instruction of all 32 lanes on the tile store: its checks, its waits, then `go` with the absolute
addresses of the lanes. -/
def State.frag (e g opc rb base stride : Nat) (write : Bool) (go : Group → (Nat → Nat) → State → State) (s : State) : State :=
  s.issue e g opc [] (fun u t =>
    let pc := u.pc.toNat
    let n := t.eng e
    let w := n.winBS u.queue
    let r : Range := { lo := base, len := 31 * stride + 16 }
    let abs : Range := { r with lo := w.1 + base }
    let sh := fun (q : Nat) (rs : List Range) => rs.map (fun r => { r with lo := (n.winBS q).1 + r.lo })
    if !u.ownsBlock rb 4 4 then t.insnFault e g 0x05 3 pc
    else if u.active ≠ 0xFFFFFFFF#32 then t.insnFault e g 0x07 (u.active.toNat % 65536) pc
    else if base % 16 ≠ 0 then t.insnFault e g 0x04 0xFF base
    else if stride % 16 ≠ 0 ∨ stride < 16 then t.insnFault e g 0x04 0xFF stride
    else if w.2 < r.lo + r.len then t.insnFault e g 0x03 0xFF base
    else if !u.free (blockRegs rb 4) then t
    else if n.filet.any (fun p => meetAny [abs] (sh p.2.queue (filetWrites p.2.words ++ (if write then filetReads p.2.words else [])))) then t
    else go u (fun l => w.1 + base + l * stride) t)

/-- The four registers of a lane from 16 bytes; `errs` are the code errors that the read finds (R128). -/
def State.fragLoad (e g opc rb base stride : Nat) (errs : List (Nat × CodeError)) (s : State) : State :=
  s.frag e g opc rb base stride false (fun u at_ t =>
    let t := t.onEng e (Engine.tileErrs errs)
    let n := t.eng e
    match (List.range 32).findSome? (fun l => (n.tileBad { lo := at_ l, len := 16 }).map (fun w => (l, w))) with
    | some (l, w) => t.groupFault e g l (trouble 0x09 2 (8 * w - (n.winBS u.queue).1)) u.pc.toNat
    | none =>
      t.onGrp e g (fun _ => ((List.range 32).foldl (fun v l => v.loaded rb 4 l (n.tileAt (at_ l) 16)) u).step))

/-- The lanes' 16 bytes written in lane order, so that of overlapping lanes the highest remains (R123). -/
def State.fragStore (e g opc rb base stride : Nat) (s : State) : State :=
  s.frag e g opc rb base stride true (fun u at_ t =>
    (each (List.range 32) (fun l t => t.onEng e (Engine.tilePut (at_ l) (u.stored rb 4 l))) t).onGrp e g Group.step)

def execFragLoad (eng grp opc rb base : Nat) (errs : List (Nat × CodeError)) (s : State) : Host.Outcome State Fault Refusal :=
  .next (s.fragLoad eng grp opc rb base 16 errs)
def execFragLoadS (eng grp opc rb base stride : Nat) (errs : List (Nat × CodeError)) (s : State) : Host.Outcome State Fault Refusal :=
  .next (s.fragLoad eng grp opc rb base stride errs)
def execFragStore (eng grp opc rb base : Nat) (s : State) : Host.Outcome State Fault Refusal :=
  .next (s.fragStore eng grp opc rb base 16)
def execFragStoreS (eng grp opc rb base stride : Nat) (s : State) : Host.Outcome State Fault Refusal :=
  .next (s.fragStore eng grp opc rb base stride)

end Sys2Proof.Machine
end

