-- ==== Sys2Proof/Machine/Home.lean ====
section
/-!
DEFINITION. A home slice at work: which way takes a line, what is written back, the directory and the messages to near
copies, the dirty ledger, and how a read, a store, a mirrored store, an atomic and a line reduction are served
(R146 to R149, R151, R152, R154 to R162, R166 to R174).
-/
namespace Sys2Proof.Machine

/-! ### Requests to controllers, answers to issuers -/

/-- The stop of a channel's controller (R210). -/
def ctlStop (c : Nat) : Stop := .stack (c / 64)

/-- A request sets out over the mesh for its channel controller (R32, R210); to a die that cannot be reached it is answered at once
with STAT_LINK_FAILED (R54). -/
def State.ask (r : CtlReq) (s : State) : State :=
  let n := s.mem.nextReq
  let put := fun (q : CtlReq) => s.onMem (fun m => { m with reqs := SMap.put m.reqs n q, nextReq := n + 1 })
  if s.canReach r.die (chanDie r.chan) then
    (put { r with moving := true }).sendFlit .request r.die (chanDie r.chan) r.stop (ctlStop r.chan) (.ctl n)
  else put { r with done := true, status := 0x40 }

/-- A controller's answer, or its acceptance, sets out for the slice that asked (R220). -/
def State.ctlReply (r : Nat) (q : CtlReq) (s : State) : State :=
  (s.onMem (fun m => { m with reqs := SMap.put m.reqs r { q with done := true, waiting := false, moving := true } })).sendFlit
    .response (chanDie q.chan) q.die (ctlStop q.chan) q.stop (.ctl r)

/-- A request for one sector, as a unit at a stop of die `d` sends it. -/
def State.sectorReq (s : State) (d : Nat) (stop : Stop) (sec : Nat) (who : CtlFor) : CtlReq :=
  { chan := s.chanFor d (32 * sec), sector := sec, write := false, data := [], mask := 0, poison := false,
    mirrored := false, who := who, die := d, stop := stop, moving := false, came := 0, waiting := false, done := false,
    overtaken := false, status := 0 }

/-- The stop of a slice that serves a home index (R26). -/
def idxStop (idx : Nat) : Stop := .quadrant (idxQuad idx)

/-- The channel on which a transaction travels to its home: bulk for the movers, the exchange units and line
reductions, else request (DESIGN CHOICE: R34 and R170 name the channel of line reductions alone). -/
def Txn.vc (t : Txn) : Vc :=
  match t.op, t.issuer with
  | .reduce .., _ => .bulk
  | _, .mover _ _ => .bulk
  | _, .bulk _ => .bulk
  | _, .movement _ _ _ => .bulk
  | _, _ => .request

/-- Whether a transaction names a line of a home index. -/
def Txn.onLine (t : Txn) (addr idx : Nat) : Bool := t.space = .stack && t.addr = addr && t.idx = idx

/-- Whether a transaction changes its line in place at the home alone: an atomic or a reduction. -/
def Txn.isRmw (t : Txn) : Bool := match t.op with | .atomic _ _ => true | .reduce .. => true | _ => false

/-- Whether it counts among the reductions of a slice (R171). -/
def Txn.isReduction (t : Txn) : Bool :=
  match t.op with | .atomic a _ => decide (5 ≤ a) | .reduce .. => true | _ => false

/-! ### Lines and ways (R160 to R162) -/

/-- A line allocated with no sectors present. -/
def Line.fresh (addr idx : Nat) (role : Role) (win hoop : Option Nat) (way : Nat) (cls : Class) (age : Nat) : Line :=
  { addr := addr, idx := idx, role := role, way := way, cls := cls, win := win, hoop := hoop, age := age,
    secs := List.replicate 4 Sector.empty, dir := .none, counted := false, mirrored := false }

/-- The age of a line placed at a time of its slice: a normal line as the youngest, a stream line as the oldest (R161;
larger is younger). -/
def ageOf (c : Class) (clock : Nat) : Nat := if c = .stream then 2 ^ 64 - clock else 2 ^ 64 + clock

/-- The way mask of a hoop with bits 14 and 15 set (R160); a request of no hoop may use every way (DESIGN CHOICE). -/
def State.wayMask (s : State) (h : Option Nat) : Nat :=
  match h with | none => 2 ^ 16 - 1 | some h => s.fld F.hoopWays_WAYS (R.hoopWays h) + 2 ^ 14 + 2 ^ 15

/-- Whether a line still waits for stack data or for a way at its home. -/
def State.linePending (s : State) (addr idx : Nat) : Bool :=
  s.txns.any (fun p => p.2.onLine addr idx && (p.2.stage == .fill || p.2.stage == .alloc))

/-- A line in RECALL or HELD, or waiting for its own data, is no victim (R161). -/
def State.locked (s : State) (l : Line) : Bool :=
  (match l.dir with | .recall _ _ _ => true | .held => true | _ => false) || s.linePending l.addr l.idx

/-- The oldest of some lines. -/
def oldest (ls : List Line) : Option Line :=
  ls.foldl (fun b l => match b with | none => some l | some m => if l.age < m.age then some l else b) none

/-- The way that R161 chooses among some ways of a set, and the line that must leave it. -/
def State.pickWay (s : State) (set : List Line) (ws : List Nat) : Option (Nat × Option Line) :=
  match ws.find? (fun w => !set.any (fun l => l.way = w)) with
  | some w => some (w, none)
  | none =>
    let ls := set.filter (fun l => ws.contains l.way && l.cls != .persist && !s.locked l)
    match oldest (ls.filter (fun l => l.cls == .stream)) with
    | some l => some (l.way, some l)
    | none => (oldest (ls.filter (fun l => l.cls == .normal))).map (fun l => (l.way, some l))

/-- Where a line may be placed: nowhere yet, or a way, its class, the line to leave, and whether a persist request is
served as normal (R162). -/
inductive Room where
  | no
  | way (w : Nat) (cls : Class) (victim : Option Line) (ovr : Bool)
  deriving DecidableEq, Repr

/-- Persist lines of a window in a set, and whether its QUOTA is reached (R162). -/
def State.quotaFull (s : State) (set : List Line) (win : Option Nat) : Bool :=
  match win with
  | none => true
  | some w => decide (min 14 (s.fld F.cshWinCtrl_QUOTA (R.cshWinCtrl w)) ≤
      (set.filter (fun l => l.cls == .persist && l.win == some w)).length)

def State.setLines (s : State) (p addr : Nat) : List Line :=
  (s.slice p).lines.filter (fun l => cacheSet l.addr = cacheSet addr)

def State.roomFor (s : State) (p addr : Nat) (win hoop : Option Nat) : Room :=
  let set := s.setLines p addr
  let ws := (List.range 16).filter (fun w => (s.wayMask hoop).testBit w)
  let cls := s.classOf win
  if cls = .persist then
    match if s.quotaFull set win then none else s.pickWay set (ws.filter (fun w => decide (w < 14))) with
    | some (w, v) => .way w .persist v false
    | none => match s.pickWay set ws with
      | some (w, v) => .way w .normal v true
      | none => .no
  else match s.pickWay set ws with
    | some (w, v) => .way w cls v false
    | none => .no

/-- A line is placed in a way. -/
def State.newLine (p addr idx : Nat) (role : Role) (win hoop : Option Nat) (w : Nat) (cls : Class) (ovr : Bool) (s : State) : State :=
  let s := s.onSlice p (fun x => { x with
    lines := x.lines ++ [Line.fresh addr idx role win hoop w cls (ageOf cls x.clock)], clock := x.clock + 1 })
  match win with
  | some k => if ovr then s.bump F.cshWinOver_OVER (R.cshWinOver k) 1 else s
  | none => s

/-- A hit: a normal line becomes the youngest; a persist request promotes a normal line of its own window (R161,
R162). -/
def State.touch (p addr idx : Nat) (win : Option Nat) (s : State) : State :=
  let full := s.quotaFull (s.setLines p addr) win
  let up := decide (s.classOf win = .persist)
  (s.onLine p addr idx (fun l =>
    if l.cls = .normal then
      { l with age := 2 ^ 64 + (s.slice p).clock, cls := if up && l.win == win && !full && decide (l.way < 14) then .persist else .normal }
    else l)).onSlice p (fun x => { x with clock := x.clock + 1 })

/-! ### The dirty ledger (R174, R176) -/

/-- The ledger die of a home die. -/
def State.ledgerOf (s : State) (n : Nat) : Nat := SMap.getD s.cache.ledgerDie n ((n + 4) % 8)

/-- Whether a home die's increments are answered: its ledger die has not been lost. -/
def State.ledgerUp (s : State) (n : Nat) : Bool := !s.baseLost (s.ledgerOf n)

/-- An increment or a decrement leaves a home. The spec names no mesh stop of a ledger: quadrant 0 (DESIGN CHOICE). -/
def State.ledgerInc (n addr : Nat) (txn : Option Nat) (s : State) : State :=
  if s.ledgerUp n then s.sendMsg .response (.ledgerInc n (addr / 2 ^ 21) txn) n (s.ledgerOf n) (.quadrant 0) (.quadrant 0) else s
def State.ledgerDec (n region : Nat) (s : State) : State :=
  if s.ledgerUp n then s.sendMsg .response (.ledgerDec n region) n (s.ledgerOf n) (.quadrant 0) (.quadrant 0) else s

def Line.isDirty (l : Line) : Bool := l.secs.any (fun c => c.dirty != 0)

/-- Whether a line is, or is about to be, OWNED. -/
def Line.ownedDir (l : Line) : Bool :=
  match l.dir with | .owned _ => true | .recall _ _ (.owner _ _) => true | _ => false

/-- A sector whose newest bytes may be lost: poisoned, and dirty, so that a write-back carries the mark; of a mirrored line, which is
never dirty, it is poisoned alone (R151). -/
def Sector.lose (mir : Bool) (c : Sector) : Sector :=
  if mir then { st := .clean, data := c.data, dirty := 0, poison := true }
  else { st := .dirty, data := c.data, dirty := fullMask, poison := true }

/-- Every sector of a line is lost. -/
def Line.lose (l : Line) : Line := { l with secs := l.secs.map (Sector.lose l.mirrored) }

/-- Whether the walk of a home die to a new ledger is under way (R176). -/
def State.ledgerWalking (s : State) (n : Nat) : Bool := s.cache.ledgerWalk.contains n

/-- A home line that has come to be dirty or OWNED is counted; the transaction, where one waits for it, waits for the
ledger's answer. While the home's walk to a new ledger goes on, the walk itself counts the line (R176). In timeout mode a lost ledger
counts as timed out at once, so that the line is poisoned (R178). -/
def State.count1 (p addr idx : Nat) (txn : Option Nat) (s : State) : State :=
  match (s.slice p).find addr idx with
  | none => s
  | some l =>
    if l.counted || !(l.isDirty || l.ownedDir) then s
    else
      let n := p / 33
      let s := s.onLine p addr idx (fun l => { l with counted := true })
      if s.ledgerWalking n then s
      else
        let timed := s.bit F.cshCtrl_DEAD_MODE R.cshCtrl
        let s := s.ledgerInc n addr txn
        match txn with
        | some i =>
          if s.ledgerUp n then
            (s.onTxn i (fun t => { t with waitLedger := true })).onCache (fun c => { c with
              ledgerTimed := if timed then addNum c.ledgerTimed i else c.ledgerTimed })
          else if timed then s.onLine p addr idx Line.lose
          else s
        | none => s

/-- A home line that is neither dirty nor OWNED any more is counted no more. -/
def State.uncount (p addr idx : Nat) (s : State) : State :=
  match (s.slice p).find addr idx with
  | none => s
  | some l =>
    if !l.counted || l.isDirty || l.ownedDir then s
    else
      let s := s.onLine p addr idx (fun l => { l with counted := false })
      if s.ledgerWalking (p / 33) then s else s.ledgerDec (p / 33) (addr / 2 ^ 21)

/-! ### Write-backs (R148, R174) -/

/-- The dirty sectors of a line as (number, bytes, mask, poison). -/
def Line.dirtySecs (l : Line) : List (Nat × Bytes × Nat × Bool) :=
  (List.range 4).filterMap (fun k => let c := secAt l.secs k
    if c.dirty = 0 then none else some (k, c.data, c.dirty, c.poison))

/-- Each dirty sector is written back from a slice's stop as one masked access; the last one lowers the ledger's count where the
line was counted (R148, R174). Bytes bound for a die that cannot be reached are lost with it (R54). -/
def State.writeBack (d : Nat) (stop : Stop) (addr : Nat) (secs : List (Nat × Bytes × Nat × Bool)) (counted : Bool) (s : State) : State :=
  let counted := counted && !s.ledgerWalking d
  let reach := fun (k : Nat) => s.canReach d (chanDie (s.chanFor d (addr + 32 * k)))
  let secs := secs.filter (fun x => reach x.1)
  if secs.isEmpty then (if counted then s.ledgerDec d (addr / 2 ^ 21) else s)
  else each secs (fun x s =>
    s.ask { s.sectorReq d stop (addr / 32 + x.1) (.back d (addr / 2 ^ 21) (counted && (secs.getLast?.map (·.1)) == some x.1)) with
            write := true, data := x.2.1, mask := x.2.2.1, poison := x.2.2.2 }) s

/-! ### Calling near copies back (R157, R177, R178) -/

/-- The near copies of a directory: sharers by die, an owner as 8 + its die. -/
def Dir.copies : Dir → List Nat
  | .shared m => (List.range 8).filter (fun d => m.testBit d)
  | .owned d => [8 + d]
  | _ => []

def lineKey (addr idx : Nat) : Nat := addr / 128 * 256 + idx

/-- A transaction is acknowledged when the last event that it waits for has happened (R152). -/
def State.ackTry (i : Nat) (s : State) : State :=
  match s.txn? i with
  | none => s
  | some t =>
    if t.stage == .acks && !t.waitAns && !t.waitLedger && t.waitStack == 0 then
      s.replyTxn i (s.physSlice t.idx / 33) (idxStop t.idx)
    else s

/-- A transaction or a message waits at a slice, first or last. -/
def State.lineUp (w : Waiter) (p : Nat) (front : Bool) (s : State) : State :=
  s.onSlice p (fun x => { x with
    waiting := if front then w :: x.waiting.filter (fun j => j != w) else x.waiting.filter (fun j => j != w) ++ [w] })

/-- A transaction waits at its slice, first or last. -/
def State.enqueue (i p : Nat) (front : Bool) (s : State) : State :=
  (s.onTxn i (fun t => { t with stage := .queued })).lineUp (.txn i) p front

/-- Ownership is granted once the ledger has answered (R155, R174). -/
def State.grantTry (p addr idx : Nat) (s : State) : State :=
  match (s.slice p).find addr idx with
  | none => s
  | some l => match l.dir with
    | .recall [] _ (.owner d j) =>
      if (s.txn? j).any (fun t => t.waitLedger) || s.ledgerWalking (p / 33) then s
      else (s.onLine p addr idx (fun l => { l with dir := .owned d })).sendMsg .response (.ownGrant j) (p / 33) d (idxStop idx) (idxStop idx)
    | _ => s

/-- A line leaves the home: what is dirty is written back. -/
def State.dropHome (p : Nat) (l : Line) (s : State) : State :=
  (s.writeBack (p / 33) (idxStop l.idx) l.addr l.dirtySecs l.counted).dropLine p l.addr l.idx

/-- The last near copy has answered: the transaction that called them back goes on (R157). -/
def State.recallDone (p addr idx : Nat) (s : State) : State :=
  match (s.slice p).find addr idx with
  | none => s
  | some l => match l.dir with
    | .recall [] txn after =>
      let s := s.onCache (fun c => { c with timeoutMode := delNum c.timeoutMode (lineKey addr idx) })
      match after with
      | .none =>
        let s := s.onLine p addr idx (fun l => { l with dir := .none })
        (match txn with
         | some i => (s.onTxn i (fun t => { t with waitAns := false })).ackTry i
         | none => s).uncount p addr idx
      | .serve i => ((s.onLine p addr idx (fun l => { l with dir := .none })).uncount p addr idx).enqueue i p true
      | .hold => match txn with
        | some i => ((s.onLine p addr idx (fun l => { l with dir := .held })).uncount p addr idx).enqueue i p true
        | none => s.onLine p addr idx (fun l => { l with dir := .none })
      | .evict => s.dropHome p l
      | .owner _ j => (s.count1 p addr idx (some j)).grantTry p addr idx
    | _ => s

/-- A near copy will not answer: it leaves the directory, and the sectors that may be newer there are lost; in timeout
mode every sector is (R177, R178). -/
def State.silent (p addr idx k : Nat) (s : State) : State :=
  let all := s.cache.timeoutMode.contains (lineKey addr idx)
  let s := s.onLine p addr idx (fun l => { l with
    secs := if all || decide (8 ≤ k) then l.secs.map (Sector.lose l.mirrored) else l.secs
    dir := match l.dir with | .recall left t a => .recall (left.filter (fun x => x != k)) t a | d => d })
  s.count1 p addr idx none

/-- The near copies of a line are called back: sharers are told to drop theirs, an owner to send its dirty bytes; of a
die already declared lost no answer is awaited (R157, R177, R178). -/
def State.callBack (p addr idx : Nat) (ks : List Nat) (txn : Option Nat) (after : After) (s : State) : State :=
  let s := s.onLine p addr idx (fun l => { l with dir := .recall ks txn after })
  let s := if s.bit F.cshCtrl_DEAD_MODE R.cshCtrl then
      s.onCache (fun c => { c with timeoutMode := addNum c.timeoutMode (lineKey addr idx) }) else s
  let s := each ks (fun k s =>
    if s.baseLost (k % 8) then s.silent p addr idx k
    else s.sendMsg .response (if k < 8 then .invalidate idx addr else .recall idx addr) (p / 33) (k % 8) (idxStop idx) (idxStop idx)) s
  s.recallDone p addr idx

/-- The dirty bytes of an owner's copy go over the bytes that a home has answered with (R154). -/
def Txn.over (t : Txn) (l : Line) : Txn :=
  { t with
    data := (List.range 4).flatMap (fun k => mergeBytes (cut t.data (32 * k) 32) (secAt l.secs k).data (secAt l.secs k).dirty)
    poison := (List.range 4).foldl (fun a k =>
      if t.secs.testBit k && (secAt l.secs k).dirty != 0 && (secAt l.secs k).poison then a ||| 2 ^ k else a) t.poison }

/-- A near copy leaves its slice while reads of its line are on the way: their answers are not installed (R159), and one that the home
has already given carries the owner's bytes. -/
def State.copyLeaves (p addr idx : Nat) (s : State) : State :=
  let l := ((s.slice p).find addr idx).getD (Line.fresh addr idx .near none none 0 .normal 0)
  { s with txns := s.txns.map (fun x => (x.1,
      if x.2.near && x.2.onLine addr idx && x.2.die = p / 33 && x.2.stage != .crossbar && x.2.stage != .near && x.2.stage != .reply then
        { (if x.2.stage = .nearFill then x.2.over l else x.2) with nearDrop := true }
      else x.2)) }

/-- A line makes room: a shared copy is dropped, an owned one goes to its home, a home line without near copies is
written back. -/
def State.vacate (p : Nat) (l : Line) (s : State) : State :=
  match l.role with
  | .near => s.dropLine p l.addr l.idx
  | .owned => ((s.copyLeaves p l.addr l.idx).dropLine p l.addr l.idx).sendMsg .response (.evicted l.idx l.addr (p / 33) l.dirtySecs) (p / 33) (s.idxDie l.idx)
      (idxStop l.idx) (idxStop l.idx)
  | .home => s.dropHome p l

/-- Room for a line: whether it is in place now, or must wait for a way (R161). -/
def State.makeRoom (p addr idx : Nat) (role : Role) (win hoop : Option Nat) (s : State) : Bool × State :=
  match s.roomFor p addr win hoop with
  | .no => (false, s)
  | .way w cls none ovr => (true, s.newLine p addr idx role win hoop w cls ovr)
  | .way w cls (some v) ovr =>
    if v.role = .home && !v.dir.copies.isEmpty then (false, s.callBack p v.addr v.idx v.dir.copies none .evict)
    else (true, (s.vacate p v).newLine p addr idx role win hoop w cls ovr)

/-! ### Serving (R147, R148, R151, R154, R157, R166 to R173) -/

/-- A transaction is served on its line, allocated where it is absent; without a way it waits (R161). -/
def State.withLine (i : Nat) (t : Txn) (k : Line → State → State) (s : State) : State :=
  let p := s.physSlice t.idx
  let r := match (s.slice p).find t.addr t.idx with
    | some _ => (true, s.touch p t.addr t.idx t.win)
    | none =>
      let r := s.makeRoom p t.addr t.idx .home t.win t.hoop
      (r.1, if t.mirrored then r.2.onLine p t.addr t.idx (fun l => { l with mirrored := true }) else r.2)
  if r.1 then
    match (r.2.slice p).find t.addr t.idx with
    | some l => k l r.2
    | none => r.2
  else r.2.onTxn i (fun t => { t with stage := .alloc })

/-- The sectors of a line that a transaction names and that the line does not hold whole. -/
def Line.needs (l : Line) (secs : Nat) : List Nat :=
  (List.range 4).filter (fun k => secs.testBit k && !(secAt l.secs k).whole)

/-- The missing sectors are fetched, and the transaction waits for them (R147). -/
def State.fetchSecs (i p : Nat) (t : Txn) (need : List Nat) (s : State) : State :=
  let s := each need (fun k s =>
    s.ask { s.sectorReq (p / 33) (idxStop t.idx) (t.addr / 32 + k) (.fill p t.addr t.idx k) with mirrored := t.mirrored }) s
  s.onTxn i (fun t => { t with stage := .fill, waitStack := need.length })

/-- Sectors come to a near slice with a read's reply: merged into a copy that is there, else installed as a shared one where a
way is free at once, and not at all where the copy has been called back meanwhile (R154, R155, R159). -/
def State.nearInstall (i : Nat) (t : Txn) (s : State) : State :=
  let q := s.nearSlice t.die t.idx
  let put := fun (s : State) => s.onLine q t.addr t.idx (fun l => { l with
    secs := (List.range 4).map (fun k => if t.secs.testBit k then (secAt l.secs k).fill (cut t.data (32 * k) 32) (t.poison.testBit k)
      else secAt l.secs k) })
  match (s.slice q).find t.addr t.idx with
  | some _ =>
    if t.nearDrop then s
    else
      let s := put (s.touch q t.addr t.idx t.win)
      match (s.slice q).find t.addr t.idx with
      | none => s
      | some l => s.onTxn i (fun t => { t with data := l.secs.flatMap (fun c => c.data)
                                               poison := (List.range 4).foldl (fun a k =>
          if t.secs.testBit k && (secAt l.secs k).poison then a + 2 ^ k else a) 0 })
  | none =>
    if t.nearDrop then s
    else match s.roomFor q t.addr t.win t.hoop with
      | .no => s
      | .way _ _ (some v) _ =>
        if v.role = .home && !v.dir.copies.isEmpty then s
        else put (s.makeRoom q t.addr t.idx .near t.win t.hoop).2
      | .way _ _ none _ => put (s.makeRoom q t.addr t.idx .near t.win t.hoop).2

/-- A read whose sectors are all present is answered; a near slice that asked is recorded, and its answer goes there (R154, R157). -/
def State.finishRead (i : Nat) (s : State) : State :=
  match s.txn? i with
  | none => s
  | some t =>
    let p := s.physSlice t.idx
    match (s.slice p).find t.addr t.idx with
    | none => s
    | some l =>
      let own := match l.dir with | .owned _ => true | _ => false
      let s := if t.near && !own then s.onLine p t.addr t.idx (fun l => { l with
          dir := match l.dir with | .shared m => .shared (m ||| 2 ^ t.die) | _ => .shared (2 ^ t.die) }) else s
      let bad := (List.range 4).foldl (fun a k => if t.secs.testBit k && (secAt l.secs k).poison then a ||| 2 ^ k else a) t.poison
      let s := s.onTxn i (fun t => { t with data := l.secs.flatMap (fun c => c.data), poison := bad })
      if t.near then s.sendTxn i .response .nearFill (p / 33) t.die (idxStop t.idx) (idxStop t.idx)
      else s.replyTxn i (p / 33) (idxStop t.idx)

/-- A read at its home. -/
def State.serveRead (i : Nat) (t : Txn) (s : State) : State :=
  s.withLine i t (fun l s =>
    let p := s.physSlice t.idx
    let mine := t.near && l.dir == .owned t.die
    match l.dir.copies.filter (fun k => decide (8 ≤ k)), mine with
    | k :: _, false => (s.onTxn i (fun t => { t with stage := .queued })).callBack p t.addr t.idx [k] none (.serve i)
    | _, _ =>
      let need := l.needs t.secs
      if need.isEmpty then s.finishRead i else s.fetchSecs i p t need)

/-- A store's bytes go into a line (R148, R149). -/
def Line.store (t : Txn) (l : Line) : Line :=
  { l with secs := (List.range 4).map (fun k => if t.secs.testBit k then
      (secAt l.secs k).store (cut t.data (32 * k) 32) (secMask t.mask k) (t.poison.testBit k) else secAt l.secs k) }

/-- A store of no byte to a held line's copies: the bytes both copies take, where nothing becomes dirty (R151). -/
def Sector.through (bs : Bytes) (mask : Nat) (bad : Bool) (c : Sector) : Sector :=
  if mask = fullMask then { st := .clean, data := bs, dirty := 0, poison := bad }
  else if c.whole then { c with data := mergeBytes c.data bs mask, poison := c.poison || (bad && mask != 0) }
  else c

/-- The writes of a mirrored line go to both stack copies, or to the surviving one (R151, R229, R230); a copy whose die cannot be
reached fails the store (R54). -/
def State.mirrorWrites (i p : Nat) (t : Txn) (parts : List (Nat × Bytes × Nat × Bool)) (s : State) : State :=
  let d := p / 33
  let sec := fun k => t.addr / 32 + k
  let sec2 := fun k => s.mirrorOf (t.addr + 32 * k) / 32
  let out := fun n => decide (s.chanState (s.chanFor d (32 * n)) = 3)
  let one := fun (n : Nat) (x : Nat × Bytes × Nat × Bool) (s : State) =>
    if s.canReach d (chanDie (s.chanFor d (32 * n))) then
      (s.ask { s.sectorReq d (idxStop t.idx) n (.mirror i) with
        write := true, data := x.2.1, mask := x.2.2.1, poison := x.2.2.2, mirrored := true }).onTxn i
        (fun t => { t with waitStack := t.waitStack + 1 })
    else s.onTxn i (fun t => { t with status := 0x40 })
  each parts (fun x s =>
    if out (sec x.1) && !out (sec2 x.1) then (one (sec2 x.1) x s).bump F.memMirrorStat_SINGLE R.memMirrorStat 1
    else if !out (sec x.1) && out (sec2 x.1) then (one (sec x.1) x s).bump F.memMirrorStat_SINGLE R.memMirrorStat 1
    else one (sec2 x.1) x (one (sec x.1) x s)) s

/-- A store at its home: an owner is called back first, sharers are invalidated, and the acknowledgment waits for them
and for the ledger (R148, R152, R157, R174). -/
def State.serveStore (i : Nat) (t : Txn) (s : State) : State :=
  s.withLine i t (fun l s =>
    let p := s.physSlice t.idx
    match l.dir.copies.filter (fun k => decide (8 ≤ k)) with
    | k :: _ => (s.onTxn i (fun t => { t with stage := .queued })).callBack p t.addr t.idx [k] none (.serve i)
    | [] =>
      if !t.mirrored && !l.counted && t.mask != 0 && s.ledgerWalking (p / 33) then s.enqueue i p true
      else
        let ks := l.dir.copies
        let s := s.onTxn i (fun t => { t with stage := .acks, waitAns := !ks.isEmpty, poison := 0 })
        let s :=
          if t.mirrored then
            let s := s.onLine p t.addr t.idx (fun l => { l with secs := (List.range 4).map (fun k => if t.secs.testBit k then
              (secAt l.secs k).through (cut t.data (32 * k) 32) (secMask t.mask k) (t.poison.testBit k) else secAt l.secs k) })
            s.mirrorWrites i p t (((List.range 4).filter (fun k => t.secs.testBit k)).map (fun k =>
              (k, cut t.data (32 * k) 32, secMask t.mask k, t.poison.testBit k)))
          else (s.onLine p t.addr t.idx (Line.store t)).count1 p t.addr t.idx (some i)
        let s := if ks.isEmpty then s else s.callBack p t.addr t.idx ks (some i) .none
        s.ackTry i)

/-- A signed comparison of two 32-bit words. -/
def minWord (a b : Nat) : Nat := if sInt 32 a ≤ sInt 32 b then a else b
def maxWord (a b : Nat) : Nat := if sInt 32 a ≤ sInt 32 b then b else a

/-- What an atomic does to a line, lane after lane: the bytes, the mask of bytes written, the old values of the lanes,
and the S16 elements clamped (R106, R167, R168, R172). -/
structure RmwRes where
  line : Bytes
  mask : Nat
  old : List (Nat × Nat)
  sats : Nat
  deriving DecidableEq, Repr

/-- One lane of an atomic applied. A compare that fails, and a contribution that R77 sets aside, write nothing. -/
def laneApply (aop size : Nat) (a : RmwRes) (r : LaneReq) : RmwRes :=
  let n := 2 ^ size
  let old := numAt a.line r.off n
  let ef := sInt 8 (r.f / 2 ^ 16)
  let c16 := contribS16 (r.a % 65536) (r.a / 65536 % 65536)
  let c48 := if r.f.testBit 24 then c16 else contribA48 r.a
  let g := r.f % 65536
  let s16 := saddS16 c16 g ef (sInt 8 (r.f / 2 ^ 24)) (sInt 16 old)
  let new : Option Nat :=
    match aop with
    | 0 => some ((old + r.a) % 2 ^ 32)
    | 1 => some (minWord old (r.a % 2 ^ 32))
    | 2 => some (maxWord old (r.a % 2 ^ 32))
    | 3 => some r.a
    | 4 => if old = r.a % 2 ^ (8 * n) then some r.b else none
    | 5 => if c16.idle g then none else some (uNat 16 s16.1)
    | _ => if c48.idle g then none else some (a48Word c48 g ef old)
  { line := match new with | some w => putAt a.line r.off (leBytes n w) | none => a.line
    mask := match new with | some _ => a.mask ||| maskOf r.off n | none => a.mask
    old := if r.ret then a.old ++ [(r.lane, old)] else a.old
    sats := a.sats + (if aop = 5 && s16.2 then 1 else 0) }

/-- What a line reduction does to a line (R170); positions whose contribution is idle are not written (R77). -/
def reduceApply (kind g : Nat) (ef et0 et1 : Int) (ss0 ss1 : Nat) (pay line : Bytes) : RmwRes :=
  if kind = 0 then
    { line := (List.range 16).flatMap (fun k => leBytes 8 (a48Word (contribA48 (numAt pay (8 * k) 8)) g ef (numAt line (8 * k) 8)))
      mask := if g = 0 then 0 else 2 ^ 128 - 1, old := [], sats := 0 }
  else
    let xs := (List.range 64).map (fun k =>
      saddS16 (contribS16 (numAt pay (2 * k) 2) (if k < 32 then ss0 else ss1)) g ef (if k < 32 then et0 else et1) (sInt 16 (numAt line (2 * k) 2)))
    let live := fun (ss : Nat) => g != 0 && scaleM ss != 0
    { line := xs.flatMap (fun x => leBytes 2 (uNat 16 x.1))
      mask := (if live ss0 then 2 ^ 64 - 1 else 0) + (if live ss1 then (2 ^ 64 - 1) * 2 ^ 64 else 0), old := []
      sats := (xs.filter (·.2)).length }

/-- The lanes of request `i` in the order in which the home applies them: rising (R106), but contributions to a target that several
lanes name come in an order of the home's (R75). -/
def contribOrder (i aop : Nat) (ls : List LaneReq) : List LaneReq :=
  if aop < 5 ∨ (ls.map (·.off)).Nodup then ls
  else sortBy (fun a b => decide (Config.contribOrder i a.lane < Config.contribOrder i b.lane)) ls

/-- What transaction `i` does to the bytes of its line. -/
def Txn.rmw (i : Nat) (t : Txn) (line : Bytes) : RmwRes :=
  match t.op with
  | .atomic aop size => (contribOrder i aop t.lanes).foldl (laneApply aop size) { line := line, mask := 0, old := [], sats := 0 }
  | .reduce kind g ef et0 et1 ss0 ss1 => reduceApply kind g ef et0 et1 ss0 ss1 t.data line
  | _ => { line := line, mask := 0, old := [], sats := 0 }

/-- Whether what waits at a slice waits for a line: a transaction on it, a request for its ownership, or a fence's signal or wait, whose
address is physical (R158). -/
def State.waitsFor (s : State) (addr idx : Nat) (w : Waiter) : Bool :=
  match w with
  | .txn i => (s.txn? i).any (fun t => t.onLine addr idx)
  | .msg m => match s.msg? m with
    | none => false
    | some x => match x.kind with
      | .ownRequest i => (s.txn? i).any (fun t => t.onLine addr idx)
      | .signal _ a _ _ _ => lineOf a = addr
      | .register _ a _ _ => lineOf a = addr
      | _ => false

/-- What waits first for a line. -/
def State.firstWaiting (s : State) (p addr idx : Nat) : Option Waiter :=
  (s.slice p).waiting.find? (s.waitsFor addr idx)

/-- The hold of a line ends: HELD stays where the next request that waits is an atomic or a reduction (R166). -/
def State.endHold (p addr idx : Nat) (s : State) : State :=
  let more := match s.firstWaiting p addr idx with
    | some (.txn j) => (s.txn? j).any Txn.isRmw
    | _ => false
  s.onLine p addr idx (fun l => { l with dir := if more then .held else .none })

/-- An atomic or a reduction is applied on its HELD line; where it names a poisoned sector the line stays as it is and
the answer is poison (R166 to R173). -/
def State.applyRmw (i : Nat) (s : State) : State :=
  match s.txn? i with
  | none => s
  | some t =>
    let p := s.physSlice t.idx
    match (s.slice p).find t.addr t.idx with
    | none => s
    | some l =>
      let bad := (List.range 4).foldl (fun a k => if t.secs.testBit k && ((secAt l.secs k).poison || t.poison.testBit k) then a + 2 ^ k else a) 0
      if bad ≠ 0 then
        ((s.onTxn i (fun t => { t with stage := .acks, poison := bad })).endHold p t.addr t.idx).ackTry i
      else
        let r := t.rmw i (l.secs.flatMap (fun c => c.data))
        let s := match t.hoop with
          | some h => if r.sats = 0 then s else s.bump F.cshSaddSat_CLAMPED (R.cshSaddSat h) r.sats
          | none => s
        let s := s.onTxn i (fun t => { t with stage := .acks, results := r.old })
        let s :=
          if t.mirrored then
            let s := s.onLine p t.addr t.idx (fun l => { l with secs := (List.range 4).map (fun k =>
              (secAt l.secs k).through (cut r.line (32 * k) 32) (secMask r.mask k) false) })
            (s.endHold p t.addr t.idx).mirrorWrites i p t (((List.range 4).filter (fun k => secMask r.mask k != 0)).map (fun k =>
              (k, cut r.line (32 * k) 32, secMask r.mask k, false)))
          else
            let s := s.onLine p t.addr t.idx (fun l => { l with secs := (List.range 4).map (fun k =>
              (secAt l.secs k).store (cut r.line (32 * k) 32) (secMask r.mask k) false) })
            (s.endHold p t.addr t.idx).count1 p t.addr t.idx (some i)
        s.ackTry i

/-- An atomic or a reduction at its home: the line is brought to HELD with every sector that it needs (R166). -/
def State.serveRmw (i : Nat) (t : Txn) (s : State) : State :=
  s.withLine i t (fun l s =>
    let p := s.physSlice t.idx
    if !l.dir.copies.isEmpty then
      (s.onTxn i (fun t => { t with stage := .queued })).callBack p t.addr t.idx l.dir.copies (some i) .hold
    else if !t.mirrored && !l.counted && s.ledgerWalking (p / 33) then s.enqueue i p true
    else
      let s := s.onLine p t.addr t.idx (fun l => { l with dir := .held })
      let need := l.needs t.secs
      if need.isEmpty then s.applyRmw i else s.fetchSecs i p t need)

/-- A transaction is served on a line that is free for it. -/
def State.serveTxn (i : Nat) (s : State) : State :=
  match s.txn? i with
  | none => s
  | some t => match t.op with
    | .read => s.serveRead i t
    | .store => s.serveStore i t
    | .atomic _ _ => s.serveRmw i t
    | .reduce .. => s.serveRmw i t
    | .signal => s

/-- Whether a line cannot be served now: in RECALL, in HELD for any but the atomic or reduction that continues it, while
it waits for its own data, or while an evicted copy is on its way home (R158, R166). -/
def State.lineBusy (s : State) (addr idx : Nat) (rmw : Bool) : Bool :=
  s.linePending addr idx ||
  s.msgs.any (fun m => match m.2.kind with | .evicted i a _ _ => i = idx && a = addr | _ => false) ||
  (match (s.slice (s.physSlice idx)).find addr idx with
   | none => false
   | some l => match l.dir with
     | .recall _ _ _ => true
     | .held => !rmw
     | _ => false)

/-- Reductions that a slice holds, from acceptance to their result (R171). -/
def State.reductionsAt (s : State) (p : Nat) : Nat :=
  (s.txns.filter (fun x => x.2.isReduction && x.2.space == .stack && s.physSlice x.2.idx == p &&
    (x.2.stage == .queued || x.2.stage == .fill || x.2.stage == .alloc))).length

/-- Whether an earlier arrival for the same line has not yet been taken by the slice (R158). -/
def State.cameFirst (s : State) (p addr idx came : Nat) : Bool :=
  s.txns.any (fun x => x.2.stage == .home && !x.2.moving && x.2.onLine addr idx && decide (x.2.came < came)) ||
  s.msgs.any (fun x => x.2.arrived && !x.2.lost && decide (x.2.came < came) && s.waitsFor addr idx (.msg x.1) &&
    !(s.slice p).waiting.contains (.msg x.1))

/-- What the code of a slice finds on an access: one bit in error is corrected, two poison the sector; CSH_SLICE_ERR counts both, and
stops at its largest values (R149, R150, R181). -/
def State.sliceError (p addr idx : Nat) (err : SliceError) (s : State) : State :=
  match (s.slice p).find addr idx with
  | none => s
  | some l => match err with
    | .none => s
    | .single k => if decide (k < 4) && (secAt l.secs k).st != .invalid then
        s.onSlice p (fun x => { x with corrected := satAdd 0xFFFF x.corrected 1 }) else s
    | .double k => if decide (k < 4) && (secAt l.secs k).st != .invalid then
        (s.onSlice p (fun x => { x with poisoned := satAdd 0xFFF x.poisoned 1 })).onLine p addr idx (fun l => { l with
          secs := setNth l.secs k (fun c => { c with poison := true }) }) else s

/-- A transaction reaches its home slice: it is served, or waits behind those that came before it for its line, of which a slice
keeps 64 (R158, R171). -/
def State.atHome (i : Nat) (err : SliceError) (ok : Txn → Bool) (s : State) : State :=
  match s.txn? i with
  | none => s
  | some t =>
    let p := s.physSlice t.idx
    if t.stage != .home || t.moving || !ok t || !s.runs (p / 33) || s.cameFirst p t.addr t.idx t.came then s
    else if t.isReduction && decide (128 ≤ s.reductionsAt p) then s
    else if s.lineBusy t.addr t.idx false || (s.firstWaiting p t.addr t.idx).isSome then
      (if s.sliceFull p then s else s.enqueue i p false)
    else (s.sliceError p t.addr t.idx err).serveTxn i

/-- The first that waits for a line leaves the slice's list, once the line is free for it (R158). -/
def State.takeFirst (w : Waiter) (p addr idx : Nat) (rmw : Bool) (s : State) : Option State :=
  if s.firstWaiting p addr idx == some w && !s.lineBusy addr idx rmw then
    some (s.onSlice p (fun x => { x with waiting := x.waiting.filter (fun j => j != w) }))
  else none

/-- The first transaction that waits for a line is served, once the line is free for it (R158). -/
def State.serveFirst (i : Nat) (err : SliceError) (s : State) : State :=
  match s.txn? i with
  | none => s
  | some t =>
    let p := s.physSlice t.idx
    if t.stage != .queued then s
    else match s.takeFirst (.txn i) p t.addr t.idx t.isRmw with
      | some s => ((s.onTxn i (fun t => { t with stage := .home })).sliceError p t.addr t.idx err).serveTxn i
      | none => s

end Sys2Proof.Machine
end

