-- ==== Sys2Proof/Machine/Cache.lean ====
section
/-!
DEFINITION. The unified cache: the quadrant crossbar, the near slices, the events of a home slice, the dirty ledger,
dead dies, couching windows and flushes, and the toile banks (R29 to R31, R139 to R182, R213).
-/
namespace Sys2Proof.Machine

/-! ### The crossbar (R26, R54, R144, R213) -/

/-- A transaction sets out for its home slice. -/
def State.toHome (i : Nat) (t : Txn) (frm : Stop) (s : State) : State :=
  let win := s.winFor t.hoop t.addr
  let idx := s.idxOn t.die win t.addr
  (s.onTxn i (fun t => { t with idx := idx, win := win })).sendTxn i t.vc .home t.die (s.idxDie idx) frm (idxStop idx)

/-- Whether requests to a range under a window that is still being written wait (R163): a window of the hoop is BUSY and
covers the address by its bounds. -/
def State.winBusy (s : State) (h : Option Nat) (pa : Nat) : Bool :=
  match h with
  | none => false
  | some h => (List.range 64).any (fun i => let w := 64 * h + i
      s.bit F.cshWinCtrl_BUSY (R.cshWinCtrl w) && decide (s.fld F.cshWinBase_BASE (R.cshWinBase w) ≤ pa / 2 ^ 16) &&
      decide (pa / 2 ^ 16 < s.fld F.cshWinLimit_LIMIT (R.cshWinLimit w)))

/-- Whether an index waits at the crossbars while its slice is being darned (R450); a slice that serves two indices (R145) holds
up both. -/
def State.darningSlice (s : State) (idx : Nat) : Bool :=
  s.ras.darnings.any (fun d => d.kind = 1 && s.physSlice d.unit == s.physSlice idx)

/-- Whether the near policy of a window sends a request to the near slice of its own die (R153, R155). -/
def State.goesNear (s : State) (t : Txn) (win : Option Nat) (idx : Nat) : Bool :=
  let n := s.nearOf win
  let mine := match t.issuer with | .lane _ _ => true | .fetch _ _ => true | .mover _ _ => true | .past _ _ _ => true | _ => false
  mine && !s.inTest t.die && s.nearSlice t.die idx != s.physSlice idx &&
  (match t.op with
   | .read => decide (1 ≤ n)
   | .store => n == 2 && !t.mirrored
   | _ => false)

/-- A stack request: its channel set is checked (a BAR4 access by the host controller, under R214), then it goes to the
near slice or to the home. -/
def State.crossStack (i : Nat) (t : Txn) (s : State) : State :=
  let wr := match t.op with | .read => false | _ => true
  let ok := s.isStack t.addr && !s.inSavePool t.addr &&
    (match t.issuer with
     | .host _ => true
     | _ => (match t.hoop with | some h => s.setAllowed h t.addr wr | none => false))
  if !ok then s.answerNow i 1
  else if s.bit F.memSetStat_CLEARING (R.memSetStat (s.setOf t.addr)) || s.winBusy t.hoop t.addr then s
  else
    let win := s.winFor t.hoop t.addr
    let idx := s.idxOn t.die win t.addr
    if s.darningSlice idx then s
    else if s.fld F.cshSliceMap_STATE (R.cshSliceMap idx) = 3 || !s.canReach t.die (s.idxDie idx) then
      (s.onTxn i (fun t => { t with idx := idx, win := win })).answerNow i 0x40
    else if s.goesNear t win idx then
      (s.onTxn i (fun t => { t with idx := idx, win := win, near := true })).sendTxn i t.vc .near t.die t.die t.stop (idxStop idx)
    else s.toHome i t t.stop

/-- CROSSBAR_REQUEST (R144, R213, R54, R241, R412): a request leaves for its home. Requests of one engine to one line
leave in order. -/
def crossbarRequest (i : Nat) (s : State) : State :=
  match s.txn? i with
  | none => s
  | some t =>
    if t.stage != .crossbar || !s.runs t.die ||
       s.txns.any (fun p => decide (p.1 < i) && p.2.stage == .crossbar && p.2.issuer.engine == t.issuer.engine &&
         t.issuer.engine.isSome && p.2.space == t.space && p.2.addr == t.addr) then s
    else match t.space with
    | .stack => s.crossStack i t
    | .toile =>
      if inTables t.addr || s.inSavePool t.addr then s.answerNow i 1
      else if s.mem.toileZeroing then s
      else if s.baseLost (toileDie t.addr) then (s.onTxn i (fun t => { t with poison := t.secs })).answerNow i 0
      else if !s.canReach t.die (toileDie t.addr) then s.answerNow i 0x40
      else s.sendTxn i t.vc .toile t.die (toileDie t.addr) t.stop (.quadrant (toileBank t.addr))
    | .host => if s.canReach t.die 0 then s.sendTxn i t.vc .host t.die 0 t.stop .host else s.answerNow i 0x40
    | .peer p =>
      match t.hoop with
      | none => s.answerNow i 1
      | some h =>
        if !(s.fld F.gmpOutTag_PORTS (R.gmpOutTag h)).testBit p then s.answerNow i 1
        else if s.fld F.gmpStat_STATE (R.gmpStat p) ≠ 3 then s.answerNow i 0x45
        else if !s.canReach t.die p then s.answerNow i 0x40
        else s.sendTxn i t.vc .port t.die p t.stop .gimp

def execCrossbarRequest (txn : Nat) (s : State) : Host.Outcome State Fault Refusal := .next (crossbarRequest txn s)

/-! ### Toile banks (R28 to R31) -/

/-- The 8-byte words of a line's named sectors. -/
def Txn.wordsNamed (t : Txn) : List Nat := (List.range 16).filter (fun w => t.secs.testBit (w / 4))

/-- Words of a line in which the bank's code finds an uncorrectable error: those that a load reads, and those that a store writes only
in part. An error of one bit is corrected, and leaves nothing behind (R31). -/
def Txn.wordErrs (t : Txn) (errs : List (Nat × CodeError)) : List Nat :=
  t.wordsNamed.filter (fun w => errs.contains (w, .double) &&
    (t.op == .read || (t.mask / 2 ^ (8 * w) % 256 != 0 && t.mask / 2 ^ (8 * w) % 256 != 255)))

/-- Words of a line of toile become uncorrectable. -/
def State.toileSpoil (addr : Nat) (ws : List Nat) (s : State) : State :=
  s.onMem (fun m => { m with toileBad := ws.foldl (fun l w => addNum l (addr / 8 + w)) m.toileBad })

/-- TOILE_BANK_REQUEST: the bank serves requests to a line in the order in which they reach it. A load is answered with its uncorrectable
words poisoned; a store is written under its byte mask, and one that came through the mesh poisoned leaves its words uncorrectable
(R29, R31, R37). -/
def toileBankRequest (i : Nat) (errs : List (Nat × CodeError)) (s : State) : State :=
  match s.txn? i with
  | none => s
  | some t =>
    if t.stage != .toile || t.moving || !s.runs (toileDie t.addr) ||
       s.txns.any (fun p => decide (p.2.came < t.came) && p.2.stage == .toile && !p.2.moving && p.2.addr == t.addr && p.2.space == .toile) then s
    else
      let d := toileDie t.addr
      let frm : Stop := .quadrant (toileBank t.addr)
      let s := s.toileSpoil t.addr (t.wordErrs errs)
      match t.op with
      | .read =>
        let bad := t.wordsNamed.filter (fun w => s.mem.toileBad.contains (t.addr / 8 + w))
        (s.onTxn i (fun t => { t with
          data := (s.peek t.addr 128).1
          words := bad.foldl (fun a w => a ||| 2 ^ w) t.words
          poison := bad.foldl (fun a w => a ||| 2 ^ (w / 4)) t.poison })).replyTxn i d frm
      | .store =>
        let s1 := each ((List.range 4).filter (fun k => t.secs.testBit k)) (fun k =>
          State.pokeSector (t.addr / 32 + k) (secMask t.mask k) (cut t.data (32 * k) 32)) s
        let bad := (List.range 16).filter (fun w => t.poison.testBit (w / 4) && t.mask / 2 ^ (8 * w) % 256 != 0)
        ((s1.toileSpoil t.addr bad).onTxn i (fun t => { t with poison := 0 })).replyTxn i d frm
      | _ => s.answerNow i 1

def execToileBankRequest (txn : Nat) (errs : List (Nat × CodeError)) (s : State) : Host.Outcome State Fault Refusal :=
  .next (toileBankRequest txn errs s)

/-! ### Events of a home slice -/

/-- HOME_READ (R147, R150, R157). -/
def execHomeRead (txn : Nat) (err : SliceError) (s : State) : Host.Outcome State Fault Refusal :=
  .next (s.atHome txn err (fun t => t.op == .read))

/-- HOME_STORE (R148, R157). -/
def execHomeStore (txn : Nat) (s : State) : Host.Outcome State Fault Refusal :=
  .next (s.atHome txn .none (fun t => t.isStore && !t.mirrored))

/-- HOME_MIRRORED_STORE (R151). -/
def execHomeMirroredStore (txn : Nat) (s : State) : Host.Outcome State Fault Refusal :=
  .next (s.atHome txn .none (fun t => t.isStore && t.mirrored))

/-- HOME_ATOMIC (R166 to R169). -/
def execHomeAtomic (txn : Nat) (err : SliceError) (s : State) : Host.Outcome State Fault Refusal :=
  .next (s.atHome txn err Txn.isAtomic)

/-- LINE_REDUCTION (R170). -/
def execLineReduction (txn : Nat) (err : SliceError) (s : State) : Host.Outcome State Fault Refusal :=
  .next (s.atHome txn err (fun t => t.isRmw && !t.isAtomic))

/-- ALLOCATION_RETRY: an allocation that found every way passed over is tried again (R161). -/
def allocationRetry (i : Nat) (s : State) : State :=
  match s.txn? i with
  | none => s
  | some t => if t.stage == .alloc then (s.onTxn i (fun t => { t with stage := .home })).serveTxn i else s

def execAllocationRetry (txn : Nat) (s : State) : Host.Outcome State Fault Refusal := .next (allocationRetry txn s)

/-- STACK_FILL_RETURN: a sector comes back from its controller and is installed; with the last one the transaction
that waits is served (R147, R166). A request whose controller could not be reached answers the transaction with STAT_LINK_FAILED
(R54). -/
def stackFillReturn (r : Nat) (s : State) : State :=
  match SMap.get? s.mem.reqs r with
  | none => s
  | some q => match q.who with
    | .fill p addr idx k =>
      if !q.done || q.moving then s
      else
        let s := s.onMem (fun m => { m with reqs := SMap.del m.reqs r })
        let s := if q.status = 0 then s.onLine p addr idx (fun l => { l with secs := setNth l.secs k (Sector.fill q.data q.poison) }) else s
        match s.txns.find? (fun x => x.2.onLine addr idx && x.2.stage == .fill) with
        | none => s
        | some (i, t) =>
          let s := s.onTxn i (fun t => { t with waitStack := t.waitStack - 1, status := if q.status = 0 then t.status else q.status })
          if 1 < t.waitStack then s
          else if t.status = 0 && q.status = 0 then (if t.isRmw then s.applyRmw i else s.finishRead i)
          else
            let s := if t.isRmw then s.endHold p addr idx else s
            s.replyTxn i (p / 33) (idxStop idx)
    | _ => s

def execStackFillReturn (req : Nat) (s : State) : Host.Outcome State Fault Refusal := .next (stackFillReturn req s)

/-- HOME_EVICT: a home evicts a line: near copies are called back first, dirty sectors are written back, as its code finds them (R150,
R157). A persist line leaves so only through the recall of a near copy (R162). -/
def homeEvict (p addr : Nat) (err : SliceError) (s : State) : State :=
  match (s.slice p).lines.find? (fun l => l.addr = addr && l.role = .home) with
  | none => s
  | some l =>
    if s.locked l || (l.dir.copies.isEmpty && l.cls = .persist) then s
    else
      let s := s.sliceError p l.addr l.idx err
      match (s.slice p).find l.addr l.idx with
      | none => s
      | some l => if l.dir.copies.isEmpty then s.dropHome p l else s.callBack p l.addr l.idx l.dir.copies none .evict

def execHomeEvict (slice line : Nat) (err : SliceError) (s : State) : Host.Outcome State Fault Refusal :=
  .next (homeEvict slice line err s)

/-! ### Near slices (R153 to R155, R157, R159) -/

/-- NEAR_READ: a near copy that holds the sectors answers; else the read goes on to the home, and its sectors are installed on their
way back (R154, R155, R159). -/
def nearRead (i : Nat) (err : SliceError) (s : State) : State :=
  match s.txn? i with
  | none => s
  | some t =>
    let q := s.nearSlice t.die t.idx
    let on := s.sendTxn i .request .home t.die (s.idxDie t.idx) (idxStop t.idx) (idxStop t.idx)
    if t.moving || t.op != .read then s
    else if t.stage == .nearFill then ((if t.status = 0 then s.nearInstall i t else s)).replyTxn i t.die (idxStop t.idx)
    else if t.stage != .near then s
    else match (s.slice q).find t.addr t.idx with
      | none => on
      | some l =>
        if (l.needs t.secs).isEmpty then
          let s := s.sliceError q t.addr t.idx err
          let bad := fun (k : Nat) => ((s.slice q).find t.addr t.idx).any (fun l => (secAt l.secs k).poison)
          ((s.touch q t.addr t.idx t.win).onTxn i (fun t => { t with
            data := l.secs.flatMap (fun c => c.data)
            poison := (List.range 4).foldl (fun a k => if t.secs.testBit k && bad k then a ||| 2 ^ k else a) t.poison })).replyTxn
            i t.die (idxStop t.idx)
        else on

def execNearRead (txn : Nat) (err : SliceError) (s : State) : Host.Outcome State Fault Refusal := .next (nearRead txn err s)

/-- NEAR_STORE: an owned copy takes the bytes; without one the near slice asks the home for ownership, one request for a
line at a time; a mirrored store goes on to the home (R155). -/
def nearStore (i : Nat) (s : State) : State :=
  match s.txn? i with
  | none => s
  | some t =>
    if t.stage != .near || t.moving || !t.isStore || t.waitAns then s
    else if t.mirrored then s.sendTxn i t.vc .home t.die (s.idxDie t.idx) (idxStop t.idx) (idxStop t.idx)
    else
      let q := s.nearSlice t.die t.idx
      match (s.slice q).find t.addr t.idx with
      | some l =>
        if l.role = .owned then
          (((s.onLine q t.addr t.idx (Line.store t)).touch q t.addr t.idx t.win).onTxn i (fun t => { t with poison := 0 })).replyTxn
            i t.die (idxStop t.idx)
        else ask s t
      | none => ask s t
where
  /-- The request for ownership. -/
  ask (s : State) (t : Txn) : State :=
    if s.txns.any (fun p => p.2.onLine t.addr t.idx && p.2.stage == .near && p.2.die == t.die && p.2.waitAns) then s
    else (s.onTxn i (fun t => { t with waitAns := true })).sendMsg .request (.ownRequest i) t.die (s.idxDie t.idx) (idxStop t.idx) (idxStop t.idx)

def execNearStore (txn : Nat) (s : State) : Host.Outcome State Fault Refusal := .next (nearStore txn s)

/-- A request for ownership is served on its line, allocated where it is absent: the other sharers are invalidated, or the owner is
called back, and the grant follows the last answer (R155, R157, R174). Without a way it waits (R161). -/
def State.serveOwn (m i : Nat) (t : Txn) (s : State) : State :=
  let p := s.physSlice t.idx
  let r := match (s.slice p).find t.addr t.idx with
    | some _ => (true, s.touch p t.addr t.idx t.win)
    | none => s.makeRoom p t.addr t.idx .home t.win t.hoop
  if !r.1 then r.2.lineUp (.msg m) p true
  else match (r.2.slice p).find t.addr t.idx with
    | none => r.2
    | some l =>
      let ks := l.dir.copies.filter (fun k => k != t.die)
      (r.2.delMsg m).callBack p t.addr t.idx ks (some i) (.owner t.die i)

/-- OWNERSHIP_REQUEST: it is served, or waits behind those that came before it for its line (R155, R158). -/
def ownershipRequest (m : Nat) (s : State) : State :=
  match s.msg? m with
  | none => s
  | some x => match x.kind with
    | .ownRequest i =>
      match s.txn? i with
      | none => s.delMsg m
      | some t =>
        let p := s.physSlice t.idx
        if !x.arrived || s.cameFirst p t.addr t.idx x.came || (s.slice p).waiting.contains (.msg m) then s
        else if s.lineBusy t.addr t.idx false || (s.firstWaiting p t.addr t.idx).isSome then
          (if s.sliceFull p then s else s.lineUp (.msg m) p false)
        else s.serveOwn m i t
    | _ => s

/-- A request for ownership that waits first for its line is served, once the line is free (R158). -/
def State.ownFirst (m i : Nat) (s : State) : State :=
  match s.txn? i with
  | none => s
  | some t => match s.takeFirst (.msg m) (s.physSlice t.idx) t.addr t.idx false with
    | some s => s.serveOwn m i t
    | none => s

def execOwnershipRequest (msg : Nat) (s : State) : Host.Outcome State Fault Refusal := .next (ownershipRequest msg s)

/-- OWNERSHIP_GRANT: the near slice allocates the line with no sectors present, applies the store and acknowledges it
(R155). -/
def ownershipGrant (m : Nat) (s : State) : State :=
  match s.msg? m with
  | none => s
  | some x => match x.kind with
    | .ownGrant i =>
      match s.txn? i with
      | none => s.delMsg m
      | some t =>
        if !x.arrived then s
        else
          let q := s.nearSlice t.die t.idx
          let r := match (s.slice q).find t.addr t.idx with
            | some _ => (true, s)
            | none => s.makeRoom q t.addr t.idx .owned t.win t.hoop
          if !r.1 then r.2
          else
            (((r.2.delMsg m).onLine q t.addr t.idx (fun l => Line.store t { l with role := .owned })).onTxn i
              (fun t => { t with waitAns := false, poison := 0 })).replyTxn i t.die (idxStop t.idx)
    | _ => s

def execOwnershipGrant (msg : Nat) (s : State) : Host.Outcome State Fault Refusal := .next (ownershipGrant msg s)

/-- Whether a grant of a line is on its way to a die and has not been taken. -/
def State.grantOut (s : State) (die addr idx : Nat) : Bool :=
  s.msgs.any (fun m => match m.2.kind with
    | .ownGrant i => (s.txn? i).any (fun t => t.onLine addr idx && t.die == die)
    | _ => false)

/-- INVALIDATE: a near slice drops its shared copy and answers (R157). -/
def nearInvalidate (m : Nat) (s : State) : State :=
  match s.msg? m with
  | none => s
  | some x => match x.kind with
    | .invalidate idx addr =>
      if !x.arrived then s
      else
        let q := s.nearSlice x.dst idx
        (((s.copyLeaves q addr idx).dropLine q addr idx).delMsg m).sendMsg .response (.answer idx addr x.dst []) x.dst (s.idxDie idx)
        (idxStop idx) (idxStop idx)
    | _ => s

def execInvalidate (msg : Nat) (s : State) : Host.Outcome State Fault Refusal := .next (nearInvalidate msg s)

/-- RECALL: an owner sends its dirty bytes back and drops its copy; a grant on its way is taken first (R157). -/
def nearRecall (m : Nat) (s : State) : State :=
  match s.msg? m with
  | none => s
  | some x => match x.kind with
    | .recall idx addr =>
      if !x.arrived || s.grantOut x.dst addr idx then s
      else
        let q := s.nearSlice x.dst idx
        let secs := match (s.slice q).find addr idx with | some l => if l.role = .owned then l.dirtySecs else [] | none => []
        (((s.copyLeaves q addr idx).dropLine q addr idx).delMsg m).sendMsg .response (.answer idx addr x.dst secs) x.dst (s.idxDie idx) (idxStop idx) (idxStop idx)
    | _ => s

def execRecall (msg : Nat) (s : State) : Host.Outcome State Fault Refusal := .next (nearRecall msg s)

/-- Dirty bytes of a near copy merged into the home line (R155); those of a mirrored line, which has no owner, are none. -/
def Line.mergeSecs (secs : List (Nat × Bytes × Nat × Bool)) (l : Line) : Line :=
  { l with secs := secs.foldl (fun cs x => setNth cs x.1 (fun c => c.merge x.2.1 x.2.2.1 x.2.2.2)) l.secs }

/-- The dirty bytes of a near copy reach the home: merged into its line. Where the home holds none, as the new home of a line whose
old one was lost, they make a line of it, or are written back where its set has no free way (R155, R175; DESIGN CHOICE: R175 does not
say what the new home does with them). -/
def State.takeBack (p addr idx : Nat) (secs : List (Nat × Bytes × Nat × Bool)) (s : State) : State :=
  match (s.slice p).find addr idx with
  | some _ => s.onLine p addr idx (Line.mergeSecs secs)
  | none =>
    if secs.isEmpty then s
    else match s.roomFor p addr none none with
    | .way w cls none ovr => (s.newLine p addr idx .home none none w cls ovr).onLine p addr idx (Line.mergeSecs secs)
    | _ => s.writeBack (p / 33) (idxStop idx) addr secs false

/-- Sectors that came in a message which the mesh marked carry the mark (R37). -/
def Msg.marked (x : Msg) (secs : List (Nat × Bytes × Nat × Bool)) : List (Nat × Bytes × Nat × Bool) :=
  secs.map (fun y => (y.1, y.2.1, y.2.2.1, y.2.2.2 || x.poison))

/-- DIRECTORY_ANSWER: an answer, or an evicted copy, comes home; with the last answer the transaction goes on (R157). -/
def directoryAnswer (m : Nat) (s : State) : State :=
  match s.msg? m with
  | none => s
  | some x =>
    if !x.arrived then s
    else match x.kind with
    | .answer idx addr die secs =>
      let p := s.physSlice idx
      let s := ((s.delMsg m).takeBack p addr idx (x.marked secs)).count1 p addr idx none
      let s := s.onLine p addr idx (fun l => { l with dir := match l.dir with
        | .recall left t a => .recall (left.filter (fun k => k % 8 != die)) t a
        | d => d })
      s.recallDone p addr idx
    | .evicted idx addr die secs =>
      let p := s.physSlice idx
      let s := (s.delMsg m).takeBack p addr idx (x.marked secs)
      ((s.onLine p addr idx (fun l => { l with dir := if l.dir = .owned die then .none else l.dir })).count1 p addr idx none).uncount p addr idx
    | _ => s

def execDirectoryAnswer (msg : Nat) (s : State) : Host.Outcome State Fault Refusal := .next (directoryAnswer msg s)

/-- NEAR_EVICT: a near slice evicts an owned copy and sends its dirty bytes home (R157); a persist line stays (R162). -/
def nearEvict (q addr : Nat) (s : State) : State :=
  match (s.slice q).lines.find? (fun l => l.addr = addr && l.role = .owned) with
  | none => s
  | some l => if l.cls = .persist then s else s.vacate q l

def execNearEvict (slice line : Nat) (s : State) : Host.Outcome State Fault Refusal := .next (nearEvict slice line s)

/-! ### The dirty ledger (R174, R176) -/

def ledgerKey (home region : Nat) : Nat := 2 ^ 20 * home + region

/-- LEDGER_INCREMENT: the ledger counts a line and answers its home. -/
def ledgerIncrement (m : Nat) (s : State) : State :=
  match s.msg? m with
  | none => s
  | some x => match x.kind with
    | .ledgerInc h r txn =>
      if !x.arrived then s
      else
        let s := (s.delMsg m).onCache (fun c => { c with ledger := SMap.upd c.ledger (ledgerKey h r) 0 (fun n => satAdd 0xFFFF n 1) })
        match txn with
        | some i => s.sendMsg .response (.ledgerAns i) x.dst h (.quadrant 0) (.quadrant 0)
        | none => s
    | _ => s

def execLedgerIncrement (msg : Nat) (s : State) : Host.Outcome State Fault Refusal := .next (ledgerIncrement msg s)

/-- LEDGER_DECREMENT: the ledger lowers a region's count. -/
def ledgerDecrement (m : Nat) (s : State) : State :=
  match s.msg? m with
  | none => s
  | some x => match x.kind with
    | .ledgerDec h r =>
      if !x.arrived then s
      else (s.delMsg m).onCache (fun c => { c with
        ledger := (SMap.upd c.ledger (ledgerKey h r) 0 (· - 1)).filter (fun p => p.2 != 0) })
    | _ => s

def execLedgerDecrement (msg : Nat) (s : State) : Host.Outcome State Fault Refusal := .next (ledgerDecrement msg s)

/-- What an answered count lets go on: a store's acknowledgment, or a grant of ownership. -/
def State.counted (i : Nat) (s : State) : State :=
  match s.txn? i with
  | none => s
  | some t => (((s.onCache (fun c => { c with ledgerTimed := delNum c.ledgerTimed i })).onTxn i (fun t => { t with
      waitLedger := false })).ackTry i).grantTry (s.physSlice t.idx) t.addr t.idx

/-- LEDGER_ANSWER (R174). -/
def ledgerAnswer (m : Nat) (s : State) : State :=
  match s.msg? m with
  | none => s
  | some x => match x.kind with
    | .ledgerAns i => if x.arrived then (s.delMsg m).counted i else s
    | _ => s

def execLedgerAnswer (msg : Nat) (s : State) : Host.Outcome State Fault Refusal := .next (ledgerAnswer msg s)

/-- What a home die had under way toward its old ledger is void: its messages, and the decrements that write-backs owe (R176). -/
def State.voidCounts (n : Nat) (s : State) : State :=
  (s.onMsgs (fun ms => SMap.keep ms (fun _ x => match x.kind with
    | .ledgerInc h _ _ => h != n
    | .ledgerDec h _ => h != n
    | _ => true))).onMem (fun m => { m with reqs := SMap.mapVals m.reqs (fun _ q => match q.who with
    | .back h r last => { q with who := .back h r (last && h != n) }
    | _ => q) })

/-- LEDGER_DIE_CHANGE: the ledger die of a surviving die has been lost; die n XOR 1 takes its place and the walk of die n
begins (R176, CSH_DEAD_STAT). -/
def ledgerDieChange (n : Nat) (s : State) : State :=
  if n < 8 ∧ s.baseLost (s.ledgerOf n) ∧ !s.baseLost n then
    let k := if n % 2 = 0 then n + 1 else n - 1
    let lost := s.fld F.cshDeadStat_LEDGER_LOST R.cshDeadStat
    ((s.voidCounts n).onCache (fun c => { c with
      ledgerDie := SMap.put c.ledgerDie n k, ledgerWalk := addNum c.ledgerWalk n
      ledger := SMap.keep c.ledger (fun j _ => j / 2 ^ 20 != n) })).setF F.cshDeadStat_LEDGER_LOST R.cshDeadStat (lost ||| 2 ^ n)
  else s

def execLedgerDieChange (die : Nat) (s : State) : Host.Outcome State Fault Refusal := .next (ledgerDieChange die s)

/-- LEDGER_WALK_END: die n has sent its counts; the stores and grants that waited go on (R176). -/
def ledgerWalkEnd (n : Nat) (s : State) : State :=
  if s.cache.ledgerWalk.contains n then
    let ls := s.cache.slices.flatMap (fun p => if p.1 / 33 = n then p.2.lines.filter (fun l => l.role = .home && l.counted) else [])
    let s := s.onCache (fun c => { c with
      ledgerWalk := delNum c.ledgerWalk n
      ledger := ls.foldl (fun m l => SMap.upd m (ledgerKey n (l.addr / 2 ^ 21)) 0 (fun k => satAdd 0xFFFF k 1)) c.ledger })
    let ts := (s.txns.filter (fun p => p.2.space == .stack && s.physSlice p.2.idx / 33 == n && p.2.waitLedger)).map (·.1)
    let s := each ts State.counted s
    each (s.cache.slices.filter (fun p => p.1 / 33 = n)) (fun p s => each p.2.lines (fun l s => s.grantTry p.1 l.addr l.idx) s) s
  else s

def execLedgerWalkEnd (die : Nat) (s : State) : Host.Outcome State Fault Refusal := .next (ledgerWalkEnd die s)

/-! ### Dead dies (R177, R178) -/

/-- HOME_TIMEOUT_EXPIRY: in timeout mode a home gives up on a die that has not answered: the line's sectors are poisoned,
the die leaves its directory, and the transaction ends (R178). So it does on a ledger that has not answered (R174). -/
def homeTimeoutExpiry (p addr die : Nat) (s : State) : State :=
  match (s.slice p).lines.find? (fun l => l.addr = addr && l.role = .home) with
  | none => s
  | some l =>
    let s := match l.dir with
      | .recall left _ _ =>
        if s.cache.timeoutMode.contains (lineKey addr l.idx) then
          match left.find? (fun k => k % 8 = die) with
          | some k => (s.silent p addr l.idx k).recallDone p addr l.idx
          | none => s
        else s
      | _ => s
    let late := (s.txns.filter (fun x => x.2.onLine addr l.idx && x.2.waitLedger && s.cache.ledgerTimed.contains x.1)).map (·.1)
    if die = s.ledgerOf (p / 33) && !late.isEmpty then each late State.counted (s.onLine p addr l.idx Line.lose) else s

def execHomeTimeoutExpiry (slice line die : Nat) (s : State) : Host.Outcome State Fault Refusal :=
  .next (homeTimeoutExpiry slice line die s)

/-- A directory without a lost die (R177). -/
def State.reclaimLine (p : Nat) (l : Line) (n : Nat) (s : State) : State :=
  match l.dir with
  | .shared m => if m.testBit n then
      s.onLine p l.addr l.idx (fun l => { l with dir := if m = 2 ^ n then .none else .shared (m - 2 ^ n) }) else s
  | .owned d => if d = n then
      (s.onLine p l.addr l.idx (fun l => { l with dir := .none, secs := l.secs.map (Sector.lose l.mirrored) })).count1 p l.addr l.idx none else s
  | .recall left _ _ =>
    match left.find? (fun k => k % 8 = n) with
    | some k => if s.cache.timeoutMode.contains (lineKey l.addr l.idx) then s
        else (s.silent p l.addr l.idx k).recallDone p l.addr l.idx
    | none => s
  | _ => s

/-- RECLAIM_WALK_END: the directory walks for a lost die have ended (R177). -/
def reclaimWalkEnd (n : Nat) (s : State) : State :=
  if s.cache.reclaim.contains n then
    let s := s.onCache (fun c => { c with reclaim := delNum c.reclaim n })
    each s.cache.slices (fun p s => each (p.2.lines.filter (fun l => l.role = .home)) (fun l s => s.reclaimLine p.1 l n) s) s
  else s

def execReclaimWalkEnd (die : Nat) (s : State) : Host.Outcome State Fault Refusal := .next (reclaimWalkEnd die s)

/-! ### Ranges: write-back and invalidation (R163, R180) -/

def inRange (lo hi a : Nat) : Bool := decide (lo ≤ a) && decide (a < hi)

/-- The lines of the package in a range, with their slices. -/
def State.rangeLines (s : State) (lo hi : Nat) : List (Nat × Line) :=
  s.cache.slices.flatMap (fun p => (p.2.lines.filter (fun l => inRange lo hi l.addr)).map (fun l => (p.1, l)))

/-- Whether a line of a range is in RECALL or HELD, waits for its data, or has bytes or a grant on their way. -/
def State.rangeBusy (s : State) (lo hi : Nat) : Bool :=
  (s.rangeLines lo hi).any (fun x => s.locked x.2) ||
  s.msgs.any (fun m => match m.2.kind with
    | .answer _ a _ _ => inRange lo hi a
    | .evicted _ a _ _ => inRange lo hi a
    | .ownGrant i => (s.txn? i).any (fun t => inRange lo hi t.addr)
    | _ => false)

/-- The dirty bytes of owned near copies of a range are merged into their home lines; the copies stay, clean. -/
def State.mergeOwned (lo hi : Nat) (s : State) : State :=
  each ((s.rangeLines lo hi).filter (fun x => x.2.role = .owned)) (fun x s =>
    (s.takeBack (s.physSlice x.2.idx) x.2.addr x.2.idx x.2.dirtySecs).onLine x.1 x.2.addr x.2.idx
      (fun l => { l with secs := l.secs.map Sector.cleaned })) s

/-- Every dirty sector of a range is written back, in messages on their way too, and the lines stay (R180). -/
def State.writeBackRange (lo hi : Nat) (s : State) : State :=
  let s := s.mergeOwned lo hi
  let s := each ((s.rangeLines lo hi).filter (fun x => x.2.role = .home)) (fun x s =>
    let free := !s.linePending x.2.addr x.2.idx
    let down := free && x.2.counted && !x.2.ownedDir
    let s := if x.2.isDirty then s.writeBack (x.1 / 33) (idxStop x.2.idx) x.2.addr x.2.dirtySecs down else s
    if free && x.2.isDirty then s.onLine x.1 x.2.addr x.2.idx (fun l => { l with
      secs := l.secs.map Sector.cleaned, counted := l.counted && !down }) else s) s
  each s.msgs (fun m s =>
    let send := fun (idx a : Nat) (secs : List (Nat × Bytes × Nat × Bool)) =>
      if inRange lo hi a && !secs.isEmpty then s.writeBack (s.idxDie idx) (idxStop idx) a (m.2.marked secs) false else s
    match m.2.kind with
    | .answer idx a _ secs => send idx a secs
    | .evicted idx a _ secs => send idx a secs
    | _ => s) s

/-- Every near copy of a range is recalled, every dirty sector written back and every line invalidated (R163, R180). -/
def State.dropRange (lo hi : Nat) (s : State) : State :=
  let s := s.mergeOwned lo hi
  let s := each ((s.rangeLines lo hi).filter (fun x => x.2.role != .home)) (fun x s =>
    (s.copyLeaves x.1 x.2.addr x.2.idx).dropLine x.1 x.2.addr x.2.idx) s
  each ((s.rangeLines lo hi).filter (fun x => x.2.role = .home)) (fun x s => s.dropHome x.1 x.2) s

/-- Whether a write of the range has not yet been accepted by its controller. -/
def State.rangeWriting (s : State) (lo hi : Nat) : Bool :=
  s.mem.reqs.any (fun r => r.2.write && inRange lo hi (32 * r.2.sector))

/-! ### Couching windows (R163, R164) -/

def State.winLo (s : State) (w : Nat) : Nat := s.fld F.cshWinBase_BASE (R.cshWinBase w) * 2 ^ 16
def State.winHi (s : State) (w : Nat) : Nat := s.fld F.cshWinLimit_LIMIT (R.cshWinLimit w) * 2 ^ 16

/-- The walks that a write to CSH_WIN_CTRL starts (R163). -/
def winWalksOf (old new : Word) (w : Nat) : List WalkKind :=
  let en := Fbit F.cshWinCtrl_EN
  let same := fun f => Fget f old == Fget f new
  let special := fun x => Fget F.cshWinCtrl_HOMING x != 0 || Fget F.cshWinCtrl_NEAR x != 0
  let flush := (en old && !(same F.cshWinCtrl_HOMING && same F.cshWinCtrl_HOME_DIE && same F.cshWinCtrl_NEAR)) ||
    (!en old && en new && special new) || (en old && !en new && special old)
  let demote := Fget F.cshWinCtrl_CLASS old == 2 && (Fget F.cshWinCtrl_CLASS new != 2 || (en old && !en new))
  (if flush then [WalkKind.flush w] else []) ++ (if demote then [WalkKind.demote w] else [])

/-- WINDOW_CONTROL_WRITE: refused while BUSY; else the window takes its new value, and BUSY reads 1 until it has taken
effect (R163, R164). -/
def windowControlWrite (k : Nat) (w : Word) (s : State) : State :=
  if 1024 ≤ k then s
  else
    let off := R.cshWinCtrl k
    let old := s.rd off
    if Fbit F.cshWinCtrl_BUSY old then s.setF F.cshWinCtrl_REFUSED off 1
    else
      let keep := if Fbit F.cshWinCtrl_REFUSED w then 0 else Fget F.cshWinCtrl_REFUSED old
      let new := Fset F.cshWinCtrl_BUSY 1 (Fset F.cshWinCtrl_REFUSED keep (w &&& 0x1FFF#32))
      (s.wr off new).onCache (fun c => { c with winWalks := c.winWalks ++ winWalksOf old new k })

def execWindowControlWrite (win : Nat) (w : Word) (s : State) : Host.Outcome State Fault Refusal :=
  .next (s.atReg (R.cshWinCtrl win) (fun s => windowControlWrite win w s))

/-- BUSY of a window clears where no walk of it remains. -/
def State.winSettle (k : Nat) (s : State) : State :=
  if s.cache.winWalks.contains (.flush k) || s.cache.winWalks.contains (.demote k) then s
  else s.setF F.cshWinCtrl_BUSY (R.cshWinCtrl k) 0

/-- WINDOW_PROPAGATED: a write that started no walk has reached every crossbar (R163). -/
def windowPropagated (k : Nat) (s : State) : State :=
  if k < 1024 ∧ s.bit F.cshWinCtrl_BUSY (R.cshWinCtrl k) then s.winSettle k else s

def execWindowPropagated (win : Nat) (s : State) : Host.Outcome State Fault Refusal := .next (windowPropagated win s)

/-- FLUSH_WALK_END: the flush walk of a window ends once no line of its range is in transition (R163). -/
def flushWalkEnd (k : Nat) (s : State) : State :=
  if s.cache.winWalks.contains (.flush k) && !s.rangeBusy (s.winLo k) (s.winHi k) then
    ((s.dropRange (s.winLo k) (s.winHi k)).onCache (fun c => { c with
      winWalks := c.winWalks.filter (fun x => x != .flush k) })).winSettle k
  else s

def execFlushWalkEnd (win : Nat) (s : State) : Host.Outcome State Fault Refusal := .next (flushWalkEnd win s)

/-- DEMOTION_WALK_END: every persist line of the window has become normal (R163). -/
def demotionWalkEnd (k : Nat) (s : State) : State :=
  if s.cache.winWalks.contains (.demote k) then
    (s.onCache (fun c => { c with
      winWalks := c.winWalks.filter (fun x => x != .demote k)
      slices := SMap.mapVals c.slices (fun _ x => { x with
        lines := x.lines.map (fun l => if l.cls = .persist && l.win = some k then { l with cls := .normal } else l) }) })).winSettle k
  else s

def execDemotionWalkEnd (win : Nat) (s : State) : Host.Outcome State Fault Refusal := .next (demotionWalkEnd win s)

/-! ### Flushes by register (R180) -/

/-- A flush of the range of CSH_FLUSH_BASE and CSH_FLUSH_LIMIT starts: what is dirty now is written back. -/
def flushStart (op : Nat) (s : State) : State :=
  if s.bit F.cshFlushCtrl_START R.cshFlushCtrl then s
  else
    let lo := s.fld F.cshFlushBase_BASE R.cshFlushBase * 2 ^ 16
    let hi := s.fld F.cshFlushLimit_LIMIT R.cshFlushLimit * 2 ^ 16
    let s := (s.setF F.cshFlushCtrl_OP R.cshFlushCtrl op).setF F.cshFlushCtrl_START R.cshFlushCtrl 1
    (s.writeBackRange lo hi).onCache (fun c => { c with flushing := some (op, lo, hi) })

/-- FLUSH_WRITE_BACK (R180). -/
def execFlushWriteBack (s : State) : Host.Outcome State Fault Refusal :=
  .next (s.atReg R.cshFlushCtrl (fun s => flushStart 1 s))

/-- FLUSH_WRITE_BACK_INVALIDATE (R180). -/
def execFlushWriteBackInvalidate (s : State) : Host.Outcome State Fault Refusal :=
  .next (s.atReg R.cshFlushCtrl (fun s => flushStart 2 s))

/-- Whether a flush has ended: every write-back is accepted and, under OP 2, no line of the range is in transition. -/
def State.flushOver (s : State) (op lo hi : Nat) : Bool :=
  !s.rangeWriting lo hi && (op != 2 || !s.rangeBusy lo hi)

/-- FLUSH_END: the last slice has ended its walk and every write-back has been accepted; under OP 2 the lines are invalidated, and what
has become dirty since is accepted too, before START reads 0 (R180). -/
def flushEnd (s : State) : State :=
  match s.cache.flushing with
  | none => s
  | some (op, lo, hi) =>
    let fin := fun (s : State) => (s.onCache (fun c => { c with flushing := none })).setF F.cshFlushCtrl_START R.cshFlushCtrl 0
    if !s.flushOver op lo hi then s
    else if op = 2 then
      let s := s.dropRange lo hi
      if s.rangeWriting lo hi then s.onCache (fun c => { c with flushing := some (1, lo, hi) }) else fin s
    else fin s

def execFlushEnd (s : State) : Host.Outcome State Fault Refusal := .next (flushEnd s)

/-! ### Counter clears -/

/-- CSH_WIN_OVER_CLEAR (R181). -/
def execCshWinOverClear (win : Nat) (s : State) : Host.Outcome State Fault Refusal :=
  .next (s.atReg (R.cshWinOver win) (fun s => if win < 1024 then s.setF F.cshWinOver_OVER (R.cshWinOver win) 0 else s))

/-- CSH_SLICE_ERR_CLEAR: the counters of the physical slice that an index names (R150). -/
def execCshSliceErrClear (index : Nat) (s : State) : Host.Outcome State Fault Refusal :=
  .next (s.atReg (R.cshSliceErr index) (fun s => if index < 256 then s.onSlice (s.physSlice index) (fun x => { x with corrected := 0, poisoned := 0 }) else s))

/-- CSH_SADD_SAT_CLEAR (R181). -/
def execCshSaddSatClear (hoop : Nat) (s : State) : Host.Outcome State Fault Refusal :=
  .next (s.atReg (R.cshSaddSat hoop) (fun s => if hoop < 16 then s.setF F.cshSaddSat_CLAMPED (R.cshSaddSat hoop) 0 else s))

end Sys2Proof.Machine
end

