-- ==== Sys2Proof/Machine/Link.lean ====
section
/-!
DEFINITION. The host link and what crosses it: training, host reads, writes and AtomicOps, BAR4 accesses, wakes and
polls, MSI-X masks, and the admin queues of the functions (R239 to R253, R277 to R280).
-/
namespace Sys2Proof.Machine

/-! ### Configuration space (R3, R240)

The registers of the functions' configuration space that bear on what the block does are state: the size that Resizable BAR gives BAR4,
the power state, the MSI-X function masks and the error status of Advanced Error Reporting. No row of the table writes them but
MSI_X_VECTOR_UNMASK: the host's configuration requests are no command of the block. -/

/-- The PCI Device ID of a function (R3). -/
def deviceId (p : Part) (fn : Nat) : Nat := if fn ≠ 0 then 0xD810 else if p.high then 0xD802 else 0xD801

/-- An uncorrectable error of a function, by its bit of the status register: 12 a poisoned request or completion, 14 a completion timeout,
20 an unsupported request (R240; PRESUMED: the bits of the PCI Express standard). -/
def State.aerError (fn bit : Nat) (s : State) : State :=
  s.onHost (fun h => { h with aer := SMap.upd h.aer fn 0 (fun w => w ||| BitVec.ofNat 32 (2 ^ bit)) })

/-! ### The link (R239, R242) -/

/-- Every host read and AtomicOp that a transaction still awaits is given up: its sectors are poisoned (R242). -/
def State.hostGiveUp (i : Nat) (s : State) : State :=
  match s.txn? i with
  | none => s
  | some t =>
    if t.stage != .host || t.moving || t.isStore then s
    else (s.onTxn i (fun t => { t with data := zeros 128, poison := t.poison ||| t.secs })).replyTxn i 0 .host

/-- HOST_LINK_TRAIN: a width of 16 or 8 lanes, a rate of 1 to 6 and Flit mode bring the link up; the partner's refusal
of Flit mode is reported. -/
def hostLinkTrain (width rate : Nat) (flit : Bool) (s : State) : State :=
  if !flit then
    (s.onHost (fun h => { h with down := true })).wr R.hifLinkStat
      (Fset F.hifLinkStat_NO_FLIT 1 (Fset F.hifLinkStat_RATE 0 (Fset F.hifLinkStat_WIDTH 0 (Fset F.hifLinkStat_FLIT 0 (s.rd R.hifLinkStat)))))
  else if (width = 16 ∨ width = 8) ∧ 1 ≤ rate ∧ rate ≤ 6 then
    (s.onHost (fun h => { h with down := false })).wr R.hifLinkStat
      (Fset F.hifLinkStat_NO_FLIT 0 (Fset F.hifLinkStat_RATE rate (Fset F.hifLinkStat_WIDTH width (Fset F.hifLinkStat_FLIT 1 (s.rd R.hifLinkStat)))))
  else
    (s.onHost (fun h => { h with down := true })).wr R.hifLinkStat
      (Fset F.hifLinkStat_NO_FLIT 0 (Fset F.hifLinkStat_RATE 0 (Fset F.hifLinkStat_WIDTH 0 (Fset F.hifLinkStat_FLIT 0 (s.rd R.hifLinkStat)))))

def execHostLinkTrain (width rate : Nat) (flit : Bool) (s : State) : Host.Outcome State Fault Refusal :=
  .next (s.powered (hostLinkTrain width rate flit))

/-- HOST_LINK_DOWN: the link reports 0 lanes, and what the host has not answered returns poisoned (R242). -/
def hostLinkDown (s : State) : State :=
  let s := (s.onHost (fun h => { h with down := true })).wr R.hifLinkStat
    (Fset F.hifLinkStat_RATE 0 (Fset F.hifLinkStat_WIDTH 0 (Fset F.hifLinkStat_FLIT 0 (s.rd R.hifLinkStat))))
  each (s.txns.map (·.1)) State.hostGiveUp s

def execHostLinkDown (s : State) : Host.Outcome State Fault Refusal := .next (s.powered hostLinkDown)

/-- The runs of bytes that a mask names: the offset of each and its bytes. -/
def byteRuns : Nat → Bytes → Nat → List (Nat × Bytes)
  | _, [], _ => []
  | o, b :: bs, m =>
    let r := byteRuns (o + 1) bs (m / 2)
    if m % 2 = 1 then
      match r with
      | (p, q) :: t => if p = o + 1 then (o, b :: q) :: t else (o, [b]) :: r
      | [] => [(o, [b])]
    else r

/-- The function under whose requester ID a transaction's requests leave. -/
def State.fnOf (s : State) (t : Txn) : Option Nat := (t.ctx.bind s.ctx?).map (·.fn)

/-- What a transaction asks of the host, in non-posted requests: one for a read, one for each lane of an atomic (R241). `waitStack`
counts those sent. -/
def Txn.asks (t : Txn) : Nat :=
  match t.op with | .read => 1 | .atomic _ _ => t.lanes.length | _ => 0

/-- Whether a read of a queue's front end is out in host memory. -/
def State.pullOut (s : State) (u : Queue) : Bool :=
  let host := fun va => match (s.ctx? u.ctx).map (fun c => s.translate c .read va) with
    | some (.ok (l, _)) => l.space == .host
    | _ => false
  (u.eyeletOut && host u.eyelet) || (u.descOut && host (u.ring + 64 * (u.c % 2 ^ u.log2)))

/-- Non-posted tags in use (R240, R241). -/
def State.tagsOut (s : State) : Nat :=
  (s.txns.filter (fun p => p.2.stage == .host && !p.2.moving)).foldl (fun a p => a + p.2.waitStack - p.2.results.length) 0 +
  (s.objs.queues.filter (fun p => s.pullOut p.2)).length + (s.host.adminQs.filter (fun p => p.2.eyeletOut || p.2.descOut)).length

/-- Whether a lane of an atomic must wait for a lower one of its instruction that has not been sent (R241). -/
def State.laneWaits (s : State) (i : Nat) (t : Txn) : Bool :=
  match t.lanes.drop t.waitStack with
  | [] => false
  | r :: _ => t.isAtomic && s.txns.any (fun p => p.1 != i && p.2.isAtomic && p.2.insn = t.insn && p.2.issuer == t.issuer &&
      p.2.space == .host && p.2.stage != .reply && (p.2.lanes.drop p.2.waitStack).any (fun x => decide (x.lane < r.lane)))

/-- One non-posted request of a transaction leaves for the host (R241). -/
def State.hostAsk (i : Nat) (t : Txn) (s : State) : State :=
  let s := s.onTxn i (fun t => { t with waitStack := t.waitStack + 1 })
  match t.op with
  | .atomic aop size => match t.lanes.drop t.waitStack with
    | r :: _ => s.post (.atomicOp i r.lane (t.addr + r.off) aop (2 ^ size) r.a r.b)
    | [] => s
  | _ => s.post (.read i t.addr)

/-- The host controller sends what it holds, in the order in which it came, while tags are free: 2,048 of them (R240, R241). -/
def State.hostPump : Nat → State → State
  | 0, s => s
  | n + 1, s =>
    if decide (2048 ≤ s.tagsOut) || s.host.down then s
    else
      let ready := s.txns.filter (fun p => p.2.stage == .host && !p.2.moving && decide (p.2.waitStack < p.2.asks) && !s.laneWaits p.1 p.2)
      match sortBy (fun a b => decide (a.2.came < b.2.came)) ready with
      | [] => s
      | (i, t) :: _ => State.hostPump n (s.hostAsk i t)

/-- The host controller takes a transaction that has reached it: a store joins the posted stream and is acknowledged; a read, and one
AtomicOp for each lane, leave for the host (R204, R241). -/
def State.hostAccept (i : Nat) (s : State) : State :=
  match s.txn? i with
  | none => s
  | some t =>
    match s.fnOf t with
    | none => s.replyTxn i 0 .host
    | some fn => match t.op with
      | .store =>
        (each (byteRuns 0 t.data t.mask) (fun r s =>
          s.post (if t.poison = 0 then .write fn (t.addr + r.1) r.2 else .poisonedWrite fn (t.addr + r.1) r.2)) s).replyTxn i 0 .host
      | .reduce .. => s.answerNow i 1
      | .signal => s.answerNow i 1
      | _ => if s.host.down then s.hostGiveUp i else s.hostPump 2048

/-- HOST_COMPLETION: a read's line, or the value of one lane's AtomicOp; the last of them sends the answer (R241,
R242). -/
def hostCompletion (i lane : Nat) (data : Bytes) (bad : Bool) (s : State) : State :=
  match s.txn? i with
  | none => s
  | some t =>
    let note := fun (s : State) => match s.fnOf t with
      | some fn => if bad then s.aerError fn 12 else s
      | none => s
    if t.stage != .host || t.moving || t.waitStack == 0 then s
    else match t.op with
    | .read => (((note s).onTxn i (fun t => { t with
        data := cut data 0 128, poison := if bad then t.poison ||| t.secs else t.poison })).replyTxn i 0 .host).hostPump 2048
    | .atomic _ size =>
      match (t.lanes.take t.waitStack).find? (fun r => r.lane = lane) with
      | none => s
      | some r =>
        if t.results.any (fun p => p.1 = lane) then s
        else
          let rs := t.results ++ [(lane, numAt data 0 (2 ^ size))]
          let s := (note s).onTxn i (fun t => { t with results := rs, poison := if bad then t.poison ||| 2 ^ (r.off / 32) else t.poison })
          if rs.length < t.lanes.length then s.hostPump 2048
          else ((s.onTxn i (fun t => { t with results := rs.filter (fun p => t.lanes.any (fun r => r.lane = p.1 && r.ret)) })).replyTxn
            i 0 .host).hostPump 2048
    | _ => s

def execHostCompletion (txn lane : Nat) (data : Bytes) (poison : Bool) (s : State) : Host.Outcome State Fault Refusal :=
  .next (hostCompletion txn lane data poison s)

/-- HOST_READ_TIMEOUT: a request that the host has not answered in 10 ms is given up (R242). -/
def hostReadTimeout (i : Nat) (s : State) : State :=
  match s.txn? i with
  | none => s
  | some t =>
    if t.stage != .host || t.moving || t.waitStack == 0 then s
    else
      let s := match s.fnOf t with | some fn => s.aerError fn 14 | none => s
      (s.hostGiveUp i).hostPump 2048

def execHostReadTimeout (txn : Nat) (s : State) : Host.Outcome State Fault Refusal := .next (hostReadTimeout txn s)

/-- HIF_ERR_CNT_CLEAR: both counters take 0 (R277). -/
def execHifErrCntClear (s : State) : Host.Outcome State Fault Refusal :=
  .next (s.atReg R.hifErrCnt (fun s => s.wr R.hifErrCnt 0))

/-- HIF_WAKE_DROP_CLEAR (R277). -/
def execHifWakeDropClear (s : State) : Host.Outcome State Fault Refusal :=
  .next (s.atReg R.hifWakeDrop (fun s => s.wr R.hifWakeDrop 0))

/-! ### BAR accesses (R214, R244 to R247, R280, R344) -/

def State.tdi (s : State) (fn : Nat) : Tdi := SMap.getD s.host.tdi fn .unlocked

/-- Whether a function takes no BAR access: its TDI is in ERROR, it is in D3hot, or power is off (R19, R240, R280). -/
def State.barDead (s : State) (fn : Nat) : Bool := decide (128 ≤ fn) || !s.clk.pwrok || s.tdi fn == .error || s.host.d3hot.contains fn

/-- Whether a function is being reset: its reads return zero and its writes are dropped (R344). -/
def State.inReset (s : State) (fn : Nat) : Bool := s.host.vfReset.contains fn

/-- log2 of the bytes of a function's BAR4: the physical function's is resizable from 1 GiB to 2 TiB, a virtual function's is 64 GiB
(R244). -/
def State.bar4Bits (s : State) (fn : Nat) : Nat := if fn = 0 then max 30 (min 41 s.host.bar4Log2) else 36

/-- W of a function (R247, R277): bits below the BAR's size are ignored. -/
def State.bar4Win (s : State) (fn : Nat) : Nat :=
  s.rd64 (R.hifBar4WinLo fn) % 2 ^ 41 / 2 ^ s.bar4Bits fn * 2 ^ s.bar4Bits fn

/-- Whether a BAR4 access of a function may reach an address (R214, R247). -/
def State.bar4Ok (s : State) (fn pa : Nat) : Bool :=
  s.reachable pa && (isToile pa ||
    (let o := s.fld F.memSetStat_OWNER (R.memSetStat (s.setOf pa))
     if fn = 0 then o == 16 || o == 31 else s.fnHoop fn == some o))

/-- The parts of an access in the lines that it meets, as address and length. -/
def lineCuts : Nat → Nat → Nat → List (Nat × Nat)
  | 0, _, _ => []
  | fuel + 1, pa, n =>
    if n = 0 then []
    else
      let k := min n (128 - pa % 128)
      (pa, k) :: lineCuts fuel (pa + k) (n - k)

/-- One line's part of a BAR4 access, of the access whose first transaction is `n`: `bs` are the bytes that it writes there. -/
def State.bar4Part (fn n pa len : Nat) (bs : Option Bytes) (s : State) : State :=
  let t := Txn.blank (.host fn) 0 0 (s.fnHoop fn) none (if bs.isSome then .store else .read) (if isToile pa then .toile else .stack) (lineOf pa)
  let o := pa % 128
  let m := maskOf o len
  (s.addTxn { t with
    secs := (List.range 4).foldl (fun a k => if secMask m k != 0 then a + 2 ^ k else a) 0
    data := match bs with | some b => zeros o ++ b ++ zeros (128 - o - len) | none => []
    mask := if bs.isSome then m else 0, insn := n, offs := [(len, o)], noInstall := true }).2

/-- BAR4_ACCESS: a read of `len` bytes, or a write. A refused access reads zeros, writes nothing and is counted; any other goes to the
homes of its lines. No access crosses 4 KiB (PRESUMED: no PCI Express request does). -/
def bar4Access (fn off len : Nat) (wr : Option Bytes) (s : State) : State :=
  let n := match wr with | some b => b.length | none => len
  let zero := fun (s : State) => match wr with | none => s.post (.completion fn (zeros n) false) | some _ => s
  if s.barDead fn || decide (2 ^ s.bar4Bits fn ≤ off) || n == 0 || decide (4096 < off % 4096 + n) then s
  else
    let pa := s.bar4Win fn + off
    let parts := lineCuts 34 pa n
    if s.inReset fn then zero s
    else if parts.any (fun x => !s.bar4Ok fn x.1) then zero (s.bump F.hifErrCnt_BAR4_DENIED R.hifErrCnt 1)
    else
      let i := s.nextId
      each parts (fun x s => s.bar4Part fn i x.1 x.2 (wr.map (fun b => cut b (x.1 - pa) x.2))) s

def execBar4Access (fn off len : Nat) (write : Option Bytes) (s : State) : Host.Outcome State Fault Refusal :=
  .next (bar4Access fn off len write s)

/-- The completions of a read leave in the order of its addresses: each line's once those below it have left. -/
def State.bar4Flush (fn n : Nat) : Nat → State → State
  | 0, s => s
  | fuel + 1, s =>
    match s.txns.find? (fun p => p.2.issuer == .host fn && p.2.insn = n && p.2.op == .read) with
    | none => s
    | some (i, t) =>
      if t.stage != .reply || t.moving then s
      else
        let s := s.delTxn i
        let s := match t.offs with
          | (len, o) :: _ => if t.dead then s else s.post (.completion fn (cut t.data o len) ((t.badAt o len).isSome || t.status != 0))
          | [] => s
        State.bar4Flush fn n fuel s

/-- The answer of a BAR4 access goes to the host: a read's bytes, poisoned where they are or could not be reached. -/
def State.bar4Got (i fn : Nat) (t : Txn) (s : State) : State :=
  if t.op == .read then s.bar4Flush fn t.insn 34 else s.delTxn i

/-! ### Wakes and polls (R246, R252, R253) -/

/-- Whether a function holds a queue group (R278). -/
def State.holdsGroup (s : State) (fn g : Nat) : Bool :=
  let w := s.rd (R.qfeFnQgrp fn)
  decide (Fget F.qfeFnQgrp_BASE w ≤ g) && decide (g < Fget F.qfeFnQgrp_BASE w + min 1024 (Fget F.qfeFnQgrp_COUNT w)) &&
  decide (g < 16384)

/-- The queue that a BAR2 write of a function names, where the function holds its group and the offset is a wake word. -/
def State.wakeTarget (s : State) (fn off : Nat) : Option Nat :=
  let g := if fn = 0 then off / 4096 else s.fld F.qfeFnQgrp_BASE (R.qfeFnQgrp fn) + off / 4096
  if off % 256 ≠ 0 ∨ !s.holdsGroup fn g then none else some (16 * g + off % 4096 / 256)

/-- Whether a queue takes wakes from a function: it is live, and its context's hoop owns the function. -/
def State.takesWake (s : State) (fn q : Nat) : Bool :=
  match s.queue? q with
  | none => false
  | some u => u.st == .live && !s.external q && (s.queueHoop u).isSome && s.queueHoop u == s.fnHoop fn

/-- An accepted wake, or a poll: the eyelet is read once more. -/
def State.wakeQueue (q : Nat) (s : State) : State :=
  match s.queue? q with
  | none => s
  | some u => if u.eyeletOut then s.onQueue q (fun u => { u with wake := true }) else s.readEyelet q

/-- WAKE: a write of 1 to 8 bytes to a wake word is accepted, or dropped and counted; a read of BAR2 returns zero. -/
def wake (fn off size : Nat) (write : Bool) (s : State) : State :=
  if s.barDead fn || size == 0 || decide (8 < size) || decide ((if fn = 0 then 2 ^ 26 else 2 ^ 22) ≤ off) then s
  else if !write then s.post (.completion fn (zeros size) false)
  else if s.inReset fn then s
  else match s.wakeTarget fn off with
  | none => s.bump F.hifWakeDrop_DROPPED R.hifWakeDrop 1
  | some q => if s.takesWake fn q then s.wakeQueue q else s.bump F.hifWakeDrop_DROPPED R.hifWakeDrop 1

def execWake (fn off size : Nat) (write : Bool) (s : State) : Host.Outcome State Fault Refusal := .next (wake fn off size write s)

/-- QUEUE_POLL: the poll interval of a live queue has run out. -/
def queuePoll (q : Nat) (s : State) : State :=
  if (s.queue? q).any (fun u => u.st == .live && u.poll != 0) && !s.external q then s.wakeQueue q else s

def execQueuePoll (queue : Nat) (s : State) : Host.Outcome State Fault Refusal := .next (queuePoll queue s)

/-! ### MSI-X masks (R240) -/

/-- A pending vector is sent once neither mask holds it. -/
def State.msixFlush (fn v : Nat) (s : State) : State :=
  let e := s.msixEntry fn v
  if e.pending && !e.masked && !s.host.fnMask.contains fn then
    (s.onHost (fun h => { h with msix := SMap.modify h.msix (2048 * fn + v) (fun e => { e with pending := false }) })).post (.msix fn v)
  else s

/-- MSI_X_VECTOR_UNMASK: a vector's mask, or the function's, is cleared, and what was pending is sent. A vector's mask lies in BAR0
(R245), which a function that takes no BAR access, or is being reset, does not write (R280, R344). -/
def msixUnmask (fn : Nat) (v : Option Nat) (s : State) : State :=
  if 128 ≤ fn then s
  else match v with
  | some v =>
    if decide (vectorsOf fn ≤ v) || s.barDead fn || s.inReset fn then s
    else (s.onHost (fun h => { h with msix := SMap.upd h.msix (2048 * fn + v) MsixEntry.start (fun e => { e with masked := false }) })).msixFlush fn v
  | none =>
    each ((s.host.msix.filter (fun p => p.1 / 2048 = fn)).map (fun p => p.1 % 2048)) (fun v s => s.msixFlush fn v)
      (s.onHost (fun h => { h with fnMask := delNum h.fnMask fn }))

def execMsiXVectorUnmask (fn : Nat) (vector : Option Nat) (s : State) : Host.Outcome State Fault Refusal :=
  .next (msixUnmask fn vector s)

/-! ### Admin queues (R278, R279) -/

/-- The number under which an admin queue's reads of host memory leave. -/
def admWho (fn : Nat) : Nat := 2 ^ 18 + fn

def State.admLog2 (s : State) (fn : Nat) : Nat := admLog (s.fld F.qfeFnAdmqCtrl_LOG2 (R.qfeFnAdmqCtrl fn))

/-- The admin queue reads its eyelet, or remembers that it must. -/
def State.admEyelet (fn : Nat) (s : State) : State :=
  if (s.adm fn).eyeletOut then s.onAdm fn (fun a => { a with wake := true })
  else (s.onAdm fn (fun a => { a with eyeletOut := true, wake := false })).post
    (.fetch (admWho fn) (s.rd64 (R.qfeFnAdmqEyeletLo fn)) 8)

/-- The admin queue goes on: with the next descriptor that its eyelet covers, once its records have room. -/
def State.admPull (fn : Nat) (s : State) : State :=
  let a := s.adm fn
  if !s.admOn fn || a.cmd.isSome || a.descOut || !a.held.isEmpty then s
  else if a.c < a.p then
    (s.onAdm fn (fun a => { a with descOut := true, after := s.nextId })).post
      (.fetch (admWho fn) (s.rd64 (R.qfeFnAdmqRingLo fn) + 64 * (a.c % 2 ^ s.admLog2 fn)) 64)
  else s

/-- The admin queue stops with a reason: EN is cleared and one MSI-X message is sent (R279). -/
def State.admStop (fn err : Nat) (s : State) : State :=
  let v := s.fld F.qfeFnAdmqCtrl_VECTOR (R.qfeFnAdmqCtrl fn)
  (((s.setF F.qfeFnAdmqCtrl_EN (R.qfeFnAdmqCtrl fn) 0).setF F.qfeFnAdmqCtrl_ERR (R.qfeFnAdmqCtrl fn) err).onAdm fn
    (fun a => { a with held := [], eyeletOut := false, descOut := false, wake := false })).msix fn v

/-- A write of QFE_FN_ADMQ_CTRL: the sizes and the vector, and EN. When EN is written to 1 the queue starts afresh: W, C and ERR
take 0 and the consumer count is written beside the eyelet. A command that runs then runs on (R278, R279). -/
def State.admCtrl (fn : Nat) (w : Word) (s : State) : State :=
  let off := R.qfeFnAdmqCtrl fn
  let s := ((s.setF F.qfeFnAdmqCtrl_LOG2 off (Fget F.qfeFnAdmqCtrl_LOG2 w)).setF F.qfeFnAdmqCtrl_CPL_LOG2 off
    (Fget F.qfeFnAdmqCtrl_CPL_LOG2 w)).setF F.qfeFnAdmqCtrl_VECTOR off (Fget F.qfeFnAdmqCtrl_VECTOR w)
  if Fbit F.qfeFnAdmqCtrl_EN w then
    let s := ((s.setF F.qfeFnAdmqCtrl_ERR off 0).setF F.qfeFnAdmqCtrl_EN off 1).onAdm fn (fun a =>
      { AdminQ.empty with cmd := a.cmd, stale := a.cmd.isSome })
    let s := s.post (.write fn (s.rd64 (R.qfeFnAdmqEyeletLo fn) + 64) (leBytes 8 0))
    if fn = 0 then s.rasDrain 64 else s
  else (s.setF F.qfeFnAdmqCtrl_EN off 0).onAdm fn (fun a => { a with held := [], eyeletOut := false, descOut := false, wake := false })

/-- ADMQ_ENABLE: EN is written to 1. -/
def admqEnable (fn : Nat) (w : Word) (s : State) : State :=
  if s.barDead fn || s.inReset fn || !Fbit F.qfeFnAdmqCtrl_EN w then s else s.admCtrl fn w

def execAdmqEnable (fn : Nat) (w : Word) (s : State) : Host.Outcome State Fault Refusal :=
  .next (s.atReg (R.qfeFnAdmqCtrl fn) (fun s => admqEnable fn w s))

/-- ADMQ_WAKE: a write of any value to QFE_FN_ADMQ_WAKE. -/
def admqWake (fn : Nat) (s : State) : State :=
  if s.barDead fn || s.inReset fn || !s.admOn fn then s else s.admEyelet fn

def execAdmqWake (fn : Nat) (s : State) : Host.Outcome State Fault Refusal :=
  .next (s.atReg (R.qfeFnAdmqWake fn) (fun s => admqWake fn s))

/-- Records that wait leave in order while the ring has room. -/
def State.admDrain (fn : Nat) : Nat → State → State
  | 0, s => s
  | n + 1, s =>
    match (s.adm fn).held with
    | [] => s
    | b :: r =>
      if s.admRoom fn then
        let x := heldRec b
        State.admDrain fn n ((s.onAdm fn (fun a => { a with held := r })).admPut fn x.1 x.2.1 x.2.2)
      else s

/-- ADMQ_HEAD_REREAD: the full ring's head count is read again; one out of range stops the queue. -/
def admqHeadReread (fn : Nat) (hm : HostView) (s : State) : State :=
  if decide (128 ≤ fn) || !s.admOn fn || s.admRoom fn then s
  else
    let h := leNat (hostAt hm (s.rd64 (R.qfeFnAdmqHeadLo fn)) 8)
    let w := (s.adm fn).w
    if s.hostBad hm (s.rd64 (R.qfeFnAdmqHeadLo fn)) 8 then s
    else if w < h ∨ h + 2 ^ s.admCplLog fn < w then s.admStop fn 2
    else
      let s := s.onAdm fn (fun a => { a with h := h })
      let s := s.admDrain fn (s.adm fn).held.length
      (if fn = 0 then s.rasDrain 64 else s).admPull fn

def execAdmqHeadReread (fn : Nat) (hm : HostView) (s : State) : Host.Outcome State Fault Refusal :=
  .next (admqHeadReread fn hm s)

/-- The record of an admin command. -/
def admCmdRec (d : Bytes) (status detail ctx : Nat) : Rec :=
  { cookie := numAt d 8 8, tag := numAt d 4 4, queue := 0, status := status, opcode := descOp d, aflags := 0,
    detail := detail, ctx := ctx }

/-- An admin command leaves the queue: the consumer count covers its descriptor (R249); one that was read before the queue was started
afresh counts no more. -/
def State.admDrop (fn : Nat) (s : State) : State :=
  if (s.adm fn).stale then s.onAdm fn (fun a => { a with cmd := none, stale := false })
  else
    let s := s.onAdm fn (fun a => { a with cmd := none, c := a.c + 1 })
    if s.admOn fn then s.post (.write fn (s.rd64 (R.qfeFnAdmqEyeletLo fn) + 64) (leBytes 8 (s.adm fn).c)) else s

/-- An admin command completes with a status, a DETAIL and a context number: the consumer count, then its record under CPL and EVT (R249,
R271, R305, R306), written by die 0, and the next command is read. -/
def State.admDone (fn status detail ctx : Nat) (s : State) : State :=
  match (s.adm fn).cmd with
  | none => s
  | some d =>
    let s := s.admDrop fn
    (if descCpl d then s.admRec fn (admCmdRec d status detail ctx) 0 (descEvt d) else s).admPull fn

/-- The admin queue's eyelet value arrives (R278, R279). A read that fails brings none: the queue belongs to no context that could fault,
and reads again at its next wake (DESIGN CHOICE: R242 gives the failure to a consumer that faults). -/
def State.admEyeletGot (fn : Nat) (hm : HostView) (s : State) : State :=
  let at_ := s.rd64 (R.qfeFnAdmqEyeletLo fn)
  if decide (128 ≤ fn) || !s.admOn fn || !(s.adm fn).eyeletOut then s
  else if s.hostBad hm at_ 8 then s.onAdm fn (fun a => { a with eyeletOut := false })
  else
    let p := leNat (hostAt hm at_ 8)
    if p < (s.adm fn).c ∨ (s.adm fn).c + 2 ^ s.admLog2 fn < p then s.admStop fn 1
    else
      let again := (s.adm fn).wake
      let s := (s.onAdm fn (fun a => { a with p := p, eyeletOut := false })).admPull fn
      if again then s.admEyelet fn else s

/-- The admin queue's descriptor arrives: one of an undefined opcode completes with STAT_INVALID (R306). A read that fails brings none,
and is made again at the queue's next wake. -/
def State.admDescGot (fn : Nat) (hm : HostView) (s : State) : State :=
  let at_ := s.rd64 (R.qfeFnAdmqRingLo fn) + 64 * ((s.adm fn).c % 2 ^ s.admLog2 fn)
  if decide (128 ≤ fn) || !s.admOn fn || !(s.adm fn).descOut then s
  else if s.hostBad hm at_ 64 then s.onAdm fn (fun a => { a with descOut := false })
  else
    let d := hostAt hm at_ 64
    let s := s.onAdm fn (fun a => { a with descOut := false, cmd := some d })
    if 0x20 ≤ descOp d ∧ descOp d ≤ 0x2B then s else s.admDone fn 0x4A 0 0

end Sys2Proof.Machine
end

