-- ==== Sys2Proof/Machine/Front.lean ====
section
/-!
DEFINITION. The front ends of the queues: eyelets, descriptors and their checks, the commands, the bulk movers, the end of
commands, event rings and the wait limit (R249 to R276, R183, R208, R300).
-/
namespace Sys2Proof.Machine

/-! ### Eyelets and descriptors (R205, R249 to R251) -/

/-- Whether a BAR4 write accepted before a number has not yet been acknowledged at its home (R205). -/
def State.bar4Before (s : State) (k : Nat) : Bool :=
  s.txns.any (fun p => decide (p.1 < k) && p.2.isStore && p.2.stage != .reply &&
    (match p.2.issuer with | .host _ => true | _ => false))

/-- A queue whose eyelet shows more than it has started goes on: bound, it reads its next descriptor; not bound, it is
runnable and its hoop's scheduler decides (R321, R322). -/
def State.showsWork (q : Nat) (s : State) : State :=
  match s.queue? q with
  | none => s
  | some u =>
    if u.bound then s.pull q
    else if s.waits u then
      (if u.waitSince.isSome then s else let k := s.tick; k.2.onQueue q (fun u => { u with waitSince := some k.1 })).decideFor q
    else s

/-- The eyelet of a queue arrives and is checked (R250). A fault of it is no command's: a command that runs is aborted, and one that
has not started writes nothing (R271). -/
def State.eyeletGot (q : Nat) (hm : HostView) (s : State) : State :=
  match s.queue? q with
  | none => s
  | some u => match s.ctx? u.ctx with
    | none => s
    | some c =>
      if !u.eyeletOut || s.bar4Before u.eyeletAfter then s
      else
        let s := s.onQueue q (fun u => { u with eyeletOut := false })
        if u.st != .live || c.st != .live then s
        else
        let s := s.vaNote c u.eyelet 8
        match s.vaPeek c hm u.eyelet 8 with
        | .error t => s.frontFaultOf q false t u.eyelet
        | .ok (b, bad) =>
          if bad then s.frontFaultOf q false (trouble 0x09 0 u.eyelet) u.eyelet
          else if leNat b < u.c ∨ u.c + 2 ^ u.log2 < leNat b then s.frontFaultOf q false (trouble 0x05 8 u.eyelet) u.eyelet
          else
            let s := (s.onQueue q (fun u => { u with pSeen := leNat b })).saveQueue q
            (if u.wake then s.readEyelet q else s).showsWork q

/-- EYELET_READ_RETURN. -/
def eyeletReadReturn (who : Puller) (hm : HostView) (s : State) : State :=
  match who with
  | .queue q => s.eyeletGot q hm
  | .admin fn => s.admEyeletGot fn hm

def execEyeletReadReturn (who : Puller) (hm : HostView) (s : State) : Host.Outcome State Fault Refusal :=
  .next (eyeletReadReturn who hm s)

/-! ### The checks of a descriptor (R258 to R268, R301) -/

/-- The opcodes that a queue kind allows (R259). -/
def opAllowed (k : QKind) (op : Nat) : Bool :=
  match k with
  | .compute => op == 1 || op == 2 || op == 6 || op == 7 || op == 8 || op == 9
  | .realTime => op == 1 || op == 2 || op == 6 || op == 7 || op == 9
  | .copy => op == 1 || op == 3 || op == 4 || op == 5 || op == 6 || op == 7 || op == 8 || op == 9

/-- A count of 0 or of all ones (R268). -/
def badCount (w v : Nat) : Bool := v == 0 || v + 1 == 2 ^ w

/-- Checks 1 to 3: the opcode, then codes, then counts, then alignment. -/
def descFields (k : QKind) (d : Bytes) : Option (Nat × Nat) :=
  let op := descOp d
  let a := numAt d 16 8
  let b := numAt d 24 8
  if !((decide (1 ≤ op) && decide (op ≤ 9)) || (decide (0x20 ≤ op) && decide (op ≤ 0x3F))) then some (0x05, 1)
  else if !opAllowed k op then some (0x05, 9)
  else match op with
  | 2 =>
    if numAt d 32 1 < 15 ∨ numAt d 32 1 = 255 ∨ 96 < numAt d 34 1 then some (0x05, 4)
    else if badCount 8 (numAt d 33 1) then some (0x05, 5)
    else if a % 8 ≠ 0 then some (0x04, 0xFF)
    else none
  | 3 => if badCount 32 (numAt d 32 4) then some (0x05, 5) else none
  | 4 =>
    if badCount 32 (numAt d 32 4) then some (0x05, 5)
    else if b % 8 ≠ 0 ∨ numAt d 32 4 % 8 ≠ 0 then some (0x04, 0xFF)
    else none
  | 5 =>
    if 1 < numAt d 40 1 then some (0x05, 4)
    else if badCount 32 (numAt d 32 4) then some (0x05, 5)
    else if a % 128 ≠ 0 ∨ b % 128 ≠ 0 ∨ (numAt d 40 1 = 1 ∧ numAt d 48 8 % 4 ≠ 0) then some (0x04, 0xFF)
    else none
  | 6 => if a % 8 ≠ 0 then some (0x04, 0xFF) else none
  | 7 => if a % 8 ≠ 0 then some (0x04, 0xFF) else none
  | 8 =>
    if numAt d 32 1 ≠ 1 ∧ numAt d 32 1 ≠ 2 then some (0x05, 4)
    else if badCount 64 b then some (0x05, 5)
    else if a % 128 ≠ 0 ∨ b % 128 ≠ 0 then some (0x04, 0xFF)
    else none
  | _ => none

/-- The extents of a descriptor in the order of its body: first byte, length, and what the command does there. -/
def descExtents (d : Bytes) : List (Nat × Nat × Access) :=
  let a := numAt d 16 8
  let b := numAt d 24 8
  let n := numAt d 32 4
  match descOp d with
  | 3 => [(a, n, .read), (b, n, .store)]
  | 4 => [(b, n, .store)]
  | 5 => [(a, 128 * n, .read), (b, 128 * n, .atomic)] ++ (if numAt d 40 1 = 1 then [(numAt d 48 8, 4 * n, .read)] else [])
  | 8 => [(a, b, .read)]
  | _ => []

/-- What the address of a fence must be (R301): in a fence object, a multiple of 32, in stack memory. -/
def fenceCheck (l : Leaf) (m : Mobj) (va : Nat) : Option (Nat × Nat) :=
  match l.space with
  | .peer _ => some (0x01, 0)
  | _ =>
    if !m.fences then some (0x05, 10)
    else if va % 32 ≠ 0 then some (0x04, 0xFF)
    else if l.space ≠ .stack then some (0x0A, 0)
    else none

/-- Checks 4 and 5 over the extents: every first byte is translated before any extent is measured. -/
def State.checkExtents (s : State) (c : Ctx) (xs : List (Nat × Nat × Access)) : Except (Nat × Nat × Option Nat) (List (Nat × Leaf × Mobj)) :=
  let found := xs.map (fun x => (x, s.translate c x.2.2 x.1))
  match found.find? (fun f => match f.2 with | .error _ => true | .ok _ => false) with
  | some (_, .error t) => .error (t.code, t.detail, none)
  | _ =>
    let ok := found.filterMap (fun f => match f.2 with | .ok r => some (f.1, r.1, r.2) | .error _ => none)
    match ok.find? (fun f => f.1.2.2 == .atomic && f.2.1.space != .stack) with
    | some _ => .error (0x0A, 0, none)
    | none =>
      match (List.range ok.length).find? (fun i => match ok[i]? with
        | some f => decide (f.2.2.va + f.2.2.size < f.1.1 + f.1.2.1)
        | none => false) with
      | some i => .error (0x02, i, ok[i]?.map (·.1.1))
      | none => .ok (ok.map (fun f => (f.1.1, f.2.1, f.2.2)))

/-- All checks of a descriptor in the order of R258: the objects that the command pins, or the code, the DETAIL and the
address other than the descriptor's own. -/
def State.checkDesc (s : State) (u : Queue) (c : Ctx) (d : Bytes) : Except (Nat × Nat × Option Nat) (List (Nat × Nat)) :=
  let pinsOf := fun (l : List Leaf) => ((l.map (fun x => (u.ctx, x.mobj))).eraseDups)
  match descFields u.kind d with
  | some (code, detail) => .error (code, detail, none)
  | none =>
    let one := fun (a : Access) (k : Leaf → Mobj → Option (Nat × Nat)) =>
      match s.translate c a (numAt d 16 8) with
      | .error t => .error (t.code, t.detail, none)
      | .ok (l, m) => match k l m with
        | some (code, detail) => .error (code, detail, none)
        | none => .ok (pinsOf [l])
    match descOp d with
    | 2 => one .fetch (fun _ _ => none)
    | 6 => one .signal (fun l m => fenceCheck l m (numAt d 16 8))
    | 7 => one .wait (fun l m => fenceCheck l m (numAt d 16 8))
    | _ =>
      match s.checkExtents c (descExtents d) with
      | .error e => .error e
      | .ok ls =>
        let n := numAt d 32 4
        if descOp d = 3 ∧ numAt d 16 8 < numAt d 24 8 + n ∧ numAt d 24 8 < numAt d 16 8 + n then .error (0x05, 7, none)
        else .ok (pinsOf (ls.map (·.2.1)))

/-- The address of the descriptor that a queue has reached (R248). -/
def Queue.descVa (u : Queue) : Nat := u.ring + 64 * (u.c % 2 ^ u.log2)

/-- The descriptor of a queue arrives and is checked; a command that passes is held until it starts (R258, R260). -/
def State.descGot (q : Nat) (hm : HostView) (s : State) : State :=
  match s.queue? q with
  | none => s
  | some u => match s.ctx? u.ctx with
    | none => s
    | some c =>
      if !u.descOut || s.bar4Before u.eyeletAfter then s
      else
        let s := s.onQueue q (fun u => { u with descOut := false })
        if u.st != .live || c.st != .live || !u.bound then s
        else
        let s := s.vaNote c u.descVa 64
        match s.vaPeek c hm u.descVa 64 with
        | .error t => s.frontFaultOf q false t u.descVa
        | .ok (d, bad) =>
          if bad then s.frontFaultOf q false (trouble 0x09 0 u.descVa) u.descVa
          else match s.checkDesc u c d with
          | .error (code, detail, a) =>
            (s.onQueue q (fun u => { u with run := some (Run.start d [] []) })).frontFault q
              (trouble code detail (a.getD u.descVa)) u.descVa
          | .ok pins =>
            let s := each pins (fun p t => t.pin p.1 p.2 true) s
            s.onQueue q (fun u => { u with run := some { Run.start d [] pins with phase := .held } })

/-- DESCRIPTOR_READ_RETURN. -/
def descriptorReadReturn (who : Puller) (hm : HostView) (s : State) : State :=
  match who with
  | .queue q => s.descGot q hm
  | .admin fn => s.admDescGot fn hm

def execDescriptorReadReturn (who : Puller) (hm : HostView) (s : State) : Host.Outcome State Fault Refusal :=
  .next (descriptorReadReturn who hm s)

/-! ### The start of a command (R256, R264) -/

/-- A held command of a queue starts: its queue is bound and live and its context is live, and it takes the members of its set
(R256, R319). -/
def State.startCmd (q op : Nat) (go : Queue → Ctx → Run → State → State) (s : State) : State :=
  match s.queue? q with
  | none => s
  | some u => match s.ctx? u.ctx, u.run with
    | some c, some r =>
      if r.phase = .held ∧ descOp r.desc = op ∧ u.bound ∧ u.st = .live ∧ c.st = .live then
        match s.takeSet q with
        | none => s
        | some s => go ((s.queue? q).getD u) c r (s.onRun q (fun r => { r with phase := .running }))
      else s
    | _, _ => s

/-- What a command has to do is done; its completion follows. -/
def State.cmdDone (q status : Nat) (s : State) : State :=
  s.onRun q (fun r => { r with phase := .completing, status := status, detail := 0 })

/-- NOP (R262). -/
def nop (q : Nat) (s : State) : State := s.startCmd q 1 (fun _ _ _ t => t.cmdDone q 0)

def execNop (queue : Nat) (s : State) : Host.Outcome State Fault Refusal := .next (nop queue s)

/-- EVENT (R262): its event is raised when it completes. -/
def event (q : Nat) (s : State) : State := s.startCmd q 9 (fun _ _ _ t => t.cmdDone q 0)

def execEvent (queue : Nat) (s : State) : Host.Outcome State Fault Refusal := .next (event queue s)

/-- LAUNCH: a compute queue's starts at once; a real-time queue's waits for its roll entry (R260, R264). -/
def launch (q : Nat) (s : State) : State :=
  if (s.queue? q).any (fun u => u.kind = .realTime) then s
  else s.startCmd q 2 (fun u _ r t => t.openLaunch q u.ctx r.desc)

def execLaunch (queue : Nat) (s : State) : Host.Outcome State Fault Refusal := .next (launch queue s)

/-- A LAUNCH that the pillow (`sender` 1) or an exchange unit (2) sends to a queue: checked as a descriptor is, then started
where the queue is bound, and otherwise waiting for the scheduler (R350, R374, R391). -/
def State.unitLaunch (q sender : Nat) (d : Bytes) (pc : Nat) (s : State) : State :=
  match s.queue? q with
  | none => s
  | some u => match s.ctx? u.ctx with
    | none => s
    | some c =>
      if u.st != .live || c.st != .live || u.run.isSome then s
      else match s.checkDesc u c d with
      | .error (code, detail, a) =>
        (s.onQueue q (fun u => { u with run := some { Run.start d [] [] with sender := sender } })).unitFault u.ctx q (s.queueDie u) true
          (trouble code detail (a.getD pc)) pc
      | .ok pins =>
        let s := each pins (fun p t => t.pin p.1 p.2 true) s
        let k := s.tick
        let s := k.2.onQueue q (fun u => { u with
          run := some { Run.start d [] pins with phase := .held, sender := sender }, waitSince := some (u.waitSince.getD k.1) })
        if u.bound then s.fireUnit q else s.decideFor q

/-- The descriptor of a LAUNCH that a unit sends: FLAGS, TAG and COOKIE, and the fields of R263 from its block. -/
def unitDesc (block : Bytes) (flags tag cookie : Nat) : Bytes :=
  leBytes 1 2 ++ leBytes 1 flags ++ zeros 2 ++ leBytes 4 tag ++ leBytes 8 cookie ++ cut block 0 19 ++ zeros 29

/-- The stop from which a queue's unit sends: its lead engine's quadrant, or the exchange unit of its bulk movers. -/
def Queue.frm (u : Queue) : Stop :=
  if u.kind = .copy then .exchange else .quadrant (engQuad (u.members.headD 0))

/-- Why the crossbar turns a request to a fence back: its channel set, or a die that cannot be reached (R54, R213). -/
def State.fenceBar (s : State) (h die va pa : Nat) (write : Bool) : Option Trouble :=
  let to_ := s.idxDie (s.idxOn die (s.winFor (some h) pa) pa)
  if !s.setAllowed h pa write then some (trouble 0x01 (if write then 1 else 0) va)
  else if !s.canReach die to_ then some (trouble 0x0D to_ va)
  else none

/-- FENCE_SIGNAL (R198, R267). -/
def fenceSignal (q : Nat) (s : State) : State :=
  s.startCmd q 6 (fun u c r t =>
    match t.translate c .signal (numAt r.desc 16 8) with
    | .error f => t.frontFault q f u.descVa
    | .ok (l, _) => match t.fenceBar c.hoop (t.queueDie u) (numAt r.desc 16 8) (l.phys (numAt r.desc 16 8)) true with
      | some f => t.frontFault q f u.descVa
      | none => t.fenceMsg (.signal u.ctx (l.phys (numAt r.desc 16 8)) (numAt r.desc 24 8) (some q) (some { queue := q, unit := u.leadUnit, group := 0, lane := 0, pc := u.descVa }))
        (some c.hoop) (t.queueDie u)
        (l.phys (numAt r.desc 16 8)) u.frm)

def execFenceSignal (queue : Nat) (s : State) : Host.Outcome State Fault Refusal := .next (fenceSignal queue s)

/-- FENCE_WAIT (R199, R267). -/
def fenceWait (q : Nat) (s : State) : State :=
  s.startCmd q 7 (fun u c r t =>
    match t.translate c .wait (numAt r.desc 16 8) with
    | .error f => t.frontFault q f u.descVa
    | .ok (l, _) => match t.fenceBar c.hoop (t.queueDie u) (numAt r.desc 16 8) (l.phys (numAt r.desc 16 8)) false with
      | some f => t.frontFault q f u.descVa
      | none => (t.onRun q (fun r => { r with ranges := [(l.phys (numAt r.desc 16 8), l.phys (numAt r.desc 16 8) + 32)] })).fenceMsg
        (.register u.ctx (l.phys (numAt r.desc 16 8)) (numAt r.desc 24 8) (0, q)) (some c.hoop) (t.queueDie u)
        (l.phys (numAt r.desc 16 8)) u.frm)

def execFenceWait (queue : Nat) (s : State) : Host.Outcome State Fault Refusal := .next (fenceWait queue s)

/-- The next physical range of a FLUSH, from its page at `va`: pages that are consecutive in physical memory are joined. The range
as its first byte and its length in virtual bytes, empty where the page lies outside the stacks; or why the page has none (R180). -/
def State.flushRange (s : State) (c : Ctx) : List (Nat × Nat) → Except Trouble (Option Nat × Nat)
  | [] => .ok (none, 0)
  | p :: ps => match s.translate c .read p.1 with
    | .error t => .error t
    | .ok (l, _) =>
      if l.space ≠ .stack then .ok (none, p.2)
      else match State.flushRange s c ps with
        | .ok (some lo, n) => .ok (some (l.phys p.1), if lo = l.phys p.1 + p.2 then p.2 + n else p.2)
        | _ => .ok (some (l.phys p.1), p.2)

/-- The walk of a FLUSH's next range starts; a page that has no translation faults when the command reaches it (R180, R258,
R267). -/
def State.flushGo (q : Nat) : Nat → State → State
  | 0, s => s
  | k + 1, s =>
    match s.queue? q with
    | none => s
    | some u => match s.ctx? u.ctx, u.run with
      | some c, some r =>
        let n := numAt r.desc 24 8
        if n ≤ r.pos then s.onRun q (fun r => { r with ranges := [] })
        else match s.flushRange c (pageParts (numAt r.desc 16 8 + r.pos) (n / 4096 + 2) (n - r.pos)) with
        | .error t => s.frontFault q t u.descVa
        | .ok (some lo, m) => (s.writeBackRange lo (lo + m)).onRun q (fun r => { r with pos := r.pos + m, ranges := [(lo, lo + m)] })
        | .ok (none, m) => State.flushGo q k (s.onRun q (fun r => { r with pos := r.pos + m, ranges := [] }))
      | _, _ => s

/-- The range that a FLUSH walks, where its walk goes on: under OP 2 its lines are dropped once its write-backs are accepted, and
what has become dirty since is accepted too before the next range follows. -/
def State.flushStep (q : Nat) (r : Run) (s : State) : State :=
  let op := numAt r.desc 32 1
  match r.ranges with
  | [x] =>
    if !s.flushOver op x.1 x.2 then s
    else if op = 2 then
      let s := s.dropRange x.1 x.2
      if s.rangeWriting x.1 x.2 then s.onRun q (fun r => { r with ranges := [x, x] }) else s.flushGo q (numAt r.desc 24 8 / 4096 + 2)
    else s.flushGo q (numAt r.desc 24 8 / 4096 + 2)
  | x :: _ :: _ => if s.rangeWriting x.1 x.2 then s else s.flushGo q (numAt r.desc 24 8 / 4096 + 2)
  | [] => s

/-- FLUSH: the physical ranges of its virtual range are flushed one after another (R180, R267). -/
def flush (q : Nat) (s : State) : State :=
  s.startCmd q 8 (fun _ _ r t => t.flushGo q (numAt r.desc 24 8 / 4096 + 2))

def execFlush (queue : Nat) (s : State) : Host.Outcome State Fault Refusal := .next (flush queue s)

/-! ### The bulk movers (R265, R266) -/

/-- The sectors of a line that `n` bytes from offset `o` touch. -/
def secsOf (o n : Nat) : Nat := (List.range 4).foldl (fun a k => if secMask (maskOf o n) k != 0 then a + 2 ^ k else a) 0

/-- A request of a queue's bulk mover. A target of a reduction outside the stacks faults as it is reached (R258, R266). `size` is its part in the command: 0 a scale word, 1 a source, 2 a target. -/
def State.bulkSend (q : Nat) (u : Queue) (c : Ctx) (a : Access) (op : MemOp) (part va len carry : Nat) (bs : Bytes) (s : State) : State :=
  match s.translate c a va with
  | .error t => s.frontFault q t u.descVa
  | .ok (l, m) =>
    if a = .atomic ∧ l.space ≠ .stack then s.frontFault q (trouble 0x0A 0 va) u.descVa
    else
    let o := va % 128
    let t := Txn.blank (.bulk q) u.mover 0 (some c.hoop) (some u.ctx) op l.space (lineOf (l.phys va))
    (s.addTxn { t with
      secs := secsOf o len, data := if bs.isEmpty then [] else zeros o ++ bs ++ zeros (128 - o - bs.length)
      mask := if op = .store then maskOf o len else 0, va := va - o, pc := u.descVa, rd := carry, size := part,
      offs := [(len, o)], mirrored := s.isMirrored m, noInstall := true }).2

/-- The bulk mover's next request: the next part of a COPY within one source and one target line, the next line of a
FILL, the next line of a REDUCE_COPY; nothing once all is done. -/
def State.bulkNext (q : Nat) (s : State) : State :=
  match s.queue? q with
  | none => s
  | some u => match s.ctx? u.ctx, u.run with
    | some c, some r =>
      let a := numAt r.desc 16 8
      let b := numAt r.desc 24 8
      let n := numAt r.desc 32 4
      match descOp r.desc with
      | 3 =>
        if n ≤ r.pos then s
        else
          let len := min (n - r.pos) (min (128 - (a + r.pos) % 128) (128 - (b + r.pos) % 128))
          s.bulkSend q u c .read .read 1 (a + r.pos) len 0 []
      | 4 =>
        if n ≤ r.pos then s
        else
          let len := min (n - r.pos) (128 - (b + r.pos) % 128)
          let pat := leBytes 8 a
          s.bulkSend q u c .store .store 2 (b + r.pos) len 0 ((List.range len).map (fun i => pat.getD ((r.pos + i) % 8) 0))
      | 5 =>
        if n ≤ r.pos then s
        else if numAt r.desc 40 1 = 1 then s.bulkSend q u c .read .read 0 (numAt r.desc 48 8 + 4 * r.pos) 4 0 []
        else s.bulkSend q u c .read .read 1 (a + 128 * r.pos) 128 0 []
      | _ => s
    | _, _ => s

/-- COPY (R265). -/
def copy (q : Nat) (s : State) : State := s.startCmd q 3 (fun _ _ _ t => t.bulkNext q)

def execCopy (queue : Nat) (s : State) : Host.Outcome State Fault Refusal := .next (copy queue s)

/-- FILL (R265). -/
def fill (q : Nat) (s : State) : State := s.startCmd q 4 (fun _ _ _ t => t.bulkNext q)

def execFill (queue : Nat) (s : State) : Host.Outcome State Fault Refusal := .next (fill queue s)

/-- REDUCE_COPY (R266). -/
def reduceCopy (q : Nat) (s : State) : State := s.startCmd q 5 (fun _ _ _ t => t.bulkNext q)

def execReduceCopy (queue : Nat) (s : State) : Host.Outcome State Fault Refusal := .next (reduceCopy queue s)

/-- The reduction of a REDUCE_COPY that a source line and its scale words give (R168, R170, R266). -/
def reduceOp (d : Bytes) (ss : Nat) : MemOp :=
  let f := numAt d 36 4
  let et := sInt 8 (numAt d 41 1)
  .reduce (numAt d 40 1) (bitsOf 15 0 f) (sInt 8 (bitsOf 23 16 f)) et et (ss % 65536) (ss / 65536)

/-- The answer to a request of a bulk mover. -/
def State.bulkGot (i q : Nat) (t : Txn) (s : State) : State :=
  let s := s.delTxn i
  if t.dead then s
  else match s.queue? q with
  | none => s
  | some u => match s.ctx? u.ctx, u.run with
    | some c, some r =>
      if r.phase != .running then s
      else match s.statusTrouble t with
      | some f => s.frontFault q f t.pc
      | none =>
        let o := (t.offs.headD (0, 0)).2
        let n := (t.offs.headD (0, 0)).1
        let b := numAt r.desc 24 8
        match t.op with
        | .read =>
          match t.badAt o n with
          | some b => s.frontFault q (trouble 0x09 1 (t.va + b)) t.pc
          | none =>
            if descOp r.desc = 3 then s.bulkSend q u c .store .store 2 (b + r.pos) n 0 (cut t.data o n)
            else if t.size = 0 then s.bulkSend q u c .read .read 1 (numAt r.desc 16 8 + 128 * r.pos) 128 (numAt t.data o 4) []
            else s.bulkSend q u c .atomic (reduceOp r.desc t.rd) 2 (b + 128 * r.pos) 128 0 (cut t.data 0 128)
        | .reduce .. =>
          if t.poison ≠ 0 then s.cmdDone q 0x44
          else (s.onRun q (fun r => { r with pos := r.pos + 1 })).bulkNext q
        | _ => (s.onRun q (fun r => { r with pos := r.pos + n })).bulkNext q
    | _, _ => s

/-! ### The end of a command (R183, R208, R256, R262) -/

/-- ENGINE_DONE_PICOT: an engine's groups have ended and its writes are acknowledged; the lead is told, and the window is
free (R126, R256). -/
def engineDonePicot (e q : Nat) (s : State) : State :=
  match s.share? e q with
  | none => s
  | some h =>
    let n := s.eng e
    if h.started && decide (h.last < h.next) && h.saving.isNone && !h.restore &&
       !(n.groups.any (fun p => p.2.queue = q)) && !(n.filet.any (fun p => p.2.queue = q)) && !n.draining.contains h.ctx &&
       !(s.txns.any (fun p => p.2.issuer.engine == some e && p.2.queue == q && (p.2.isStore || p.2.isAtomic))) then
      (s.onEng e (fun n => { n with shares := SMap.del n.shares q, wins := n.wins.filter (fun w => w.queue != q) })).onRun q
        (fun r => { r with answered := addNum r.answered e, aflags := (r.aflags ||| h.aflags.toNat) })
    else s

def execEngineDonePicot (eng queue : Nat) (s : State) : Host.Outcome State Fault Refusal := .next (engineDonePicot eng queue s)

/-- Whether a running command has done all that R262 asks before its completion. -/
def Run.over (r : Run) : Bool :=
  match descOp r.desc with
  | 2 => r.members.all (fun e => r.answered.contains e)
  | 3 => decide (numAt r.desc 32 4 ≤ r.pos)
  | 4 => decide (numAt r.desc 32 4 ≤ r.pos)
  | 5 => decide (numAt r.desc 32 4 ≤ r.pos)
  | 8 => decide (numAt r.desc 24 8 ≤ r.pos) && r.ranges.isEmpty
  | _ => false

/-- A command ends with a status. Its consumer count is written, then its record; a record that finds its ring with the kept slot
alone is held, and the queue starts nothing further; a fault record takes the kept slot. A context that a function reset destroys
writes no record (R249, R271, R272, R344). -/
def State.finish (q status detail : Nat) (fault : Bool) (s : State) : State :=
  match s.queue? q with
  | none => s
  | some u => match u.run with
    | none => s
    | some r =>
      let s := s.onQueue q (fun u => { u with last := status })
      if r.phase = .held ∧ !fault then s.dropHeld q
      else
        let loud := !(s.ctx? u.ctx).any (·.quiet)
        let rec_ := loud && (fault || descCpl r.desc)
        let evt := fault || (descCpl r.desc && descEvt r.desc)
        let room := (s.ring? u.evring).any (fun g => g.room fault)
        if rec_ && !room && !fault then
          (s.onRun q (fun r => { r with phase := .completing, status := status, detail := detail })).onRing u.evring
            (fun g => { g with rereading := true })
        else
          let die := s.queueDie u
          let s := s.dropRun q
          let s := if r.sender = 0 then s.unitPut u.ctx die (u.eyelet + 64) (leBytes 8 (u.c + 1)) else s
          if rec_ && room then s.ringWrite u.evring (runRec q u r status detail) die (evt || descOp r.desc == 9)
          else if loud && descOp r.desc == 9 && status == 0 then
            (match s.ring? u.evring, s.ctx? u.ctx with
             | some g, some c => s.msix c.fn g.vector
             | _, _ => s)
          else s

/-- Whether requests that a forced clear of a queue's command has abandoned are still unanswered (R308). -/
def State.abandonedOut (s : State) (u : Queue) : Bool := u.abandoned.any (fun i => (s.txn? i).isSome || (s.msg? i).isSome)

/-- While abandoned requests are unanswered, the pins of the command, and of a queue that is destroyed, are kept for later (R288,
R308). -/
def State.deferPins (q : Nat) (s : State) : State :=
  match s.queue? q with
  | none => s
  | some u =>
    if u.forced = 0 || !s.abandonedOut u then s
    else
      let gone := u.st == .destroying
      (s.onQueue q (fun u => { u with
        latePins := u.latePins ++ (u.run.map (·.pins)).getD [] ++ (if gone then u.ringPins else [])
        ringPins := if gone then [] else u.ringPins })).onRun q (fun r => { r with pins := [] })

/-- COMMAND_COMPLETE: the command's record is written and its event raised, the consumer count covers it, and the queue
goes on. A command that a fault of its context has stopped ends once what it has outstanding has drained (R208, R271, R288). -/
def commandComplete (q : Nat) (s : State) : State :=
  match s.queue? q with
  | none => s
  | some u => match u.run with
    | none => s
    | some r =>
      if r.phase = .completing then (s.finish q r.status r.detail false).afterEnd q
      else if r.phase = .ending then
        if u.st != .destroying && u.drain.all (s.unitDrained q) then ((s.deferPins q).finish q r.status r.detail r.fault).afterEnd q else s
      else if r.phase = .running then
        let s := if descOp r.desc = 8 then s.flushStep q r else s
        if (s.queue? q).any (fun u => u.run.any (fun r => r.phase = .running && r.over)) then (s.finish q 0 0 false).afterEnd q
        else s
      else s

def execCommandComplete (queue : Nat) (s : State) : Host.Outcome State Fault Refusal := .next (commandComplete queue s)

/-! ### Event rings (R272, R273, R300) -/

/-- The record of a fence event (R273, R302). -/
def fenceRec (cookie ctx : Nat) : Rec :=
  { cookie := cookie, tag := 0, queue := 0, status := 0, opcode := 0xF0, aflags := 0, detail := 0, ctx := ctx }

/-- The queues whose completed command waits for a ring. -/
def State.heldOn (s : State) (ring : Nat) : List Nat :=
  (s.objs.queues.filter (fun p => p.2.evring = ring && p.2.hasRun .completing)).map (·.1)

/-- Fence records that wait for a ring leave in order while it has room. -/
def State.ringDrain (ring : Nat) : Nat → State → State
  | 0, s => s
  | n + 1, s =>
    match s.ring? ring with
    | none => s
    | some r => match r.heldEvents with
      | [] => s
      | b :: bs =>
        if r.room false then
          State.ringDrain ring n ((s.onRing ring (fun r => { r with heldEvents := bs })).ringWrite ring
            (fenceRec (numAt b 0 8) (numAt b 8 2)) (numAt b 10 1) true)
        else s

/-- EVENT_RING_HEAD_REREAD: the full ring's head count is read again; held records and completions follow while there is
room. A count out of range faults the context, as the fault of the first command that waits for the ring (R300). -/
def eventRingHeadReread (ring : Nat) (hm : HostView) (s : State) : State :=
  match s.ring? ring with
  | none => s
  | some r => match s.ctx? r.ctx with
    | none => s
    | some c =>
      if !r.live || !r.rereading then s
      else
        let s := s.vaNote c r.headVa 8
        let fail := fun (t : Trouble) (s : State) => match s.heldOn ring with
          | q :: _ => s.frontFault q t r.headVa
          | [] => s.unitFault r.ctx 0 0 false t r.headVa
        match s.vaPeek c hm r.headVa 8 with
        | .error t => fail t s
        | .ok (b, bad) =>
          if bad then fail (trouble 0x09 0 r.headVa) s
          else if r.w < leNat b ∨ leNat b + 2 ^ r.log2 < r.w then fail (trouble 0x05 8 r.headVa) s
          else
            let s := s.onRing ring (fun r => { r with h := leNat b, rereading := false })
            let s := s.ringDrain ring r.heldEvents.length
            let s := each (s.heldOn ring) commandComplete s
            if (s.ring? ring).any (fun r => !r.heldEvents.isEmpty) then s.onRing ring (fun r => { r with rereading := true }) else s

def execEventRingHeadReread (ring : Nat) (hm : HostView) (s : State) : Host.Outcome State Fault Refusal :=
  .next (eventRingHeadReread ring hm s)

/-! ### The wait limit (R274, R275) -/

/-- The groups of a queue that are resident, engine by engine. -/
def State.queueGroups (s : State) (q : Nat) : List (Nat × Nat) :=
  s.engs.flatMap (fun p => (p.2.groups.filter (fun g => g.2.queue = q)).map (fun g => (p.1, g.1)))

/-- The pins that a forced destroy still holds are released when the wait limit expires (R308). -/
def State.releaseLate (q : Nat) (s : State) : State :=
  match s.queue? q with
  | none => s
  | some u => (each u.latePins (fun p t => t.pin p.1 p.2 false) s).onQueue q (fun u => { u with latePins := [] })

/-- Whether a fence has already released a waiter: the release is on its way, and the signal wins (R274, R310). -/
def State.releasing (s : State) (who : Nat × Nat) : Bool :=
  s.msgs.any (fun p => match p.2.kind with | .fenceRelease w => w == who | _ => false)

/-- WAIT_LIMIT_EXPIRY. The timer of a group's fence wait runs until its save completes (R329). -/
def waitLimitExpiry (timer : Timer) (s : State) : State :=
  match timer with
  | .command q =>
    match s.queue? q with
    | none => s
    | some u => match u.run with
      | none => s
      | some r =>
        if r.phase = .held ∨ r.phase = .saved ∨ r.phase = .completing ∨ r.phase = .ending ∨ descOp r.desc = 7 then s
        else match s.queueGroups q with
          | (e, g) :: _ =>
            (match s.grp? e g with
             | some x => s.groupFault e g x.lane0 (trouble 0x0E 0 x.pc.toNat) x.pc.toNat
             | none => s)
          | [] => s.frontFault q (trouble 0x0E 0 u.descVa) u.descVa
  | .fenceGroup e g =>
    match s.grp? e g with
    | none => s
    | some x => match x.st with
      | .fence a _ _ _ =>
        if s.releasing (1, 16 * e + g) then s else s.groupFault e g x.lane0 (trouble 0x0E 1 a) x.pc.toNat
      | .parked p => if p.why = 3 then s.groupFault e g x.lane0 (trouble 0x0E 1 p.va) x.pc.toNat else s
      | _ => s
  | .fenceQueue q =>
    match s.queue? q with
    | none => s
    | some u => match u.run with
      | none => s
      | some r =>
        if r.phase = .running ∧ descOp r.desc = 7 ∧ !s.releasing (0, q) then s.frontFault q (trouble 0x0E 1 (numAt r.desc 16 8)) u.descVa else s
  | .completion q =>
    match s.queue? q with
    | none => s
    | some u =>
      match u.run, s.ring? u.evring with
      | some r, some g =>
        if r.phase = .completing ∧ descCpl r.desc ∧ !g.room false then s.frontFault q (trouble 0x0E 2 g.va) u.descVa else s
      | _, _ => s
  | .drain q => s.releaseLate q

def execWaitLimitExpiry (timer : Timer) (s : State) : Host.Outcome State Fault Refusal := .next (waitLimitExpiry timer s)

end Sys2Proof.Machine
end

