-- ==== Sys2Proof/Machine/Kernel.lean ====
section
/-!
DEFINITION. The start of a kernel on an engine and the placing of its groups (R90, R92, R126, R127, R184, R263, R264,
R293).
-/
namespace Sys2Proof.Machine

/-- Rows of the register file that groups occupy (R90). -/
def rowsFor (n : Nat) : Nat := (n + 7) / 8 * 8
def Engine.rows (n : Engine) : Nat := n.groups.foldl (fun a p => a + rowsFor p.2.n) 0

/-- The base of a free window of a size, by the `k`-th free choice (R126). -/
def Engine.freeWin (k : Nat) (n : Engine) (size : Nat) : Option Nat :=
  pickOne 1 k (((List.range 96).map (· * 8192)).filter (fun b => decide (b + size ≤ 786432) &&
    n.wins.all (fun w => decide (b + size ≤ w.base) || decide (w.base + w.size ≤ b))))

/-- The launch values of a group: registers 0 to 5 of every lane (R264). -/
def launchRegs (h : Share) : SMap Word :=
  let v := [h.args % 2 ^ 32, h.args / 2 ^ 32, h.next, h.gpe * h.e, h.k, h.e]
  (List.range 192).map (fun i => (i, BitVec.ofNat 32 (v.getD (i / 32) 0)))

/-- A group as it is placed (R92). -/
def freshGroup (q : Nat) (h : Share) : Group :=
  { queue := q, ctx := h.ctx, n := h.n, index := h.next, pc := BitVec.ofNat 57 h.kernel, active := 0xFFFFFFFF,
    regs := launchRegs h, stack := [], aflags := 0, ftr := 0, busy := [], st := .ready, fenceElapsed := 0, krec := none }

/-- The next group of a launch is placed where a slot and its rows are free, and its launch goes on (R90, R264). -/
def State.placeGroup (e q : Nat) (s : State) : State :=
  match s.share? e q with
  | none => s
  | some h =>
    let n := s.eng e
    match pickNum 1 s.free 16 (n.groups.map (·.1)) with
    | none => s
    | some g =>
      if h.started && decide (h.next ≤ h.last) && h.saving.isNone && !h.restore && !n.draining.contains h.ctx &&
         decide (n.rows + rowsFor h.n ≤ 2048) && (s.ctx? h.ctx).any (fun c => c.st = .live) then
        ({ s with free := s.free + 1 } : State).onEng e (fun n => { n with
          groups := SMap.put n.groups g (freshGroup q h), given := n.given.filter (fun p => p.1 != g)
          shares := SMap.modify n.shares q (fun h => { h with next := h.next + 1 }) })
      else s

/-- GROUP_START: a group is placed as register rows free. -/
def execGroupStart (eng queue : Nat) (s : State) : Host.Outcome State Fault Refusal := .next (s.placeGroup eng queue)

/-- Whether a store, an atomic or a mover write of a context on an engine is not yet acknowledged (R184). -/
def State.ctxWrites (s : State) (e c : Nat) : Bool :=
  s.txns.any (fun p => p.2.issuer.engine == some e && p.2.ctx == some c && (p.2.isStore || p.2.isAtomic))

/-- The context's translation entries on an engine are emptied where GEN has changed since they were filled (R293). -/
def State.freshTlb (e c : Nat) (s : State) : State :=
  match s.ctx? c with
  | none => s
  | some x =>
    if (s.eng e).tlb.any (fun t => t.ctx = c && t.gen != x.gen) then
      s.onEng e (fun n => { n with tlb := n.tlb.filter (fun t => t.ctx != c), held := n.held.filter (fun t => t.ctx != c) })
    else s

/-- The window of a kernel is taken: nothing where it asks for none (R126). -/
def State.takeWin (e q twin : Nat) (zeroed : Bool) (s : State) : Option State :=
  if twin = 0 then some s
  else match (s.eng e).freeWin s.free (twin * 8192) with
    | none => none
    | some b => some (({ s with free := s.free + 1 } : State).onEng e (fun n => { n with
      wins := n.wins ++ [{ queue := q, base := b, size := twin * 8192, zeroed := zeroed }] }))

/-- KERNEL_START: earlier writes of the context are acknowledged, its L1 lines dropped and its window taken; without a
window the first group is placed at once (R184). -/
def kernelStart (e q : Nat) (s : State) : State :=
  match s.share? e q with
  | none => s
  | some h =>
    if h.started || h.restore || (s.eng e).wins.any (fun w => w.queue = q) || s.ctxWrites e h.ctx ||
       (s.eng e).draining.contains h.ctx || s.fld F.engStat_STATE (R.engStat e) != 1 then s
    else match s.takeWin e q h.twin false with
    | none => s
    | some s =>
      let s := (s.l1Invalidate e h.ctx).freshTlb e h.ctx
      if h.twin = 0 then
        (s.onEng e (fun n => { n with shares := SMap.modify n.shares q (fun h => { h with started := true }) })).placeGroup e q
      else s

def execKernelStart (eng queue : Nat) (s : State) : Host.Outcome State Fault Refusal := .next (kernelStart eng queue s)

/-- A window of an engine reads as zeros (R127). -/
def Engine.zeroWin (w : Win) (n : Engine) : Engine :=
  { n with tile := cellsZero n.tile w.base w.size
           tilePoison := n.tilePoison.filter (fun i => decide (8 * i < w.base) || decide (w.base + w.size ≤ 8 * i))
           wins := n.wins.map (fun x => if x.queue = w.queue then { x with zeroed := true } else x) }

/-- WINDOW_ZERO_END: the window reads as zeros and the kernel's first group is placed (R127). -/
def windowZeroEnd (e q : Nat) (s : State) : State :=
  match (s.eng e).winOf q, s.share? e q with
  | some w, some h =>
    if w.zeroed || h.started || h.restore then s
    else
      let s := s.onEng e (fun n => { n.zeroWin w with shares := SMap.modify n.shares q (fun h => { h with started := true }) })
      s.placeGroup e q
  | _, _ => s

def execWindowZeroEnd (eng queue : Nat) (s : State) : Host.Outcome State Fault Refusal := .next (windowZeroEnd eng queue s)

end Sys2Proof.Machine
end

