-- ==== Sys2Proof/Machine/Sync.lean ====
section
/-!
DEFINITION. What groups and commands wait for: barriers, fence signals and waits of instructions, the fences at their
homes, and fault picots (R133, R194 to R199, R301 to R304, R413).
-/
namespace Sys2Proof.Machine

/-! ### Barriers (R194 to R196) -/

/-- The die and the stop of the unit at which a barrier of a scope gathers, for an engine. -/
def barrierRoot (scope e : Nat) : Nat × Stop :=
  if scope = 1 then (engDie e, .quadrant (engQuad e)) else if scope = 2 then (engDie e, .barrier) else (0, .barrier)

/-- BARRIER: at group scope it completes at once; else the group releases, its arrival is sent on a picot credit of the engine, and it
waits; where its command is being preempted it parks, and will arrive when it is resumed (R130, R195, R327). -/
def barrier (e g opc num scope : Nat) (s : State) : State :=
  s.issue e g opc [] (fun u t =>
    if 4 < scope then t.insnFault e g 0x05 4 u.pc.toNat
    else if scope = 0 then t.resume e g 0
    else if !t.releaseDone e g scope || !t.picotFree e then t
    else
      let r := barrierRoot scope e
      t.waitOrPark e g (.barrier (num % 4) scope) (State.enginePicot e (.arrive u.queue (num % 4) scope e u.index) r.1 r.2))

def execBarrier (eng grp opc num scope : Nat) (s : State) : Host.Outcome State Fault Refusal := .next (barrier eng grp opc num scope s)

/-! ### Fence signals and waits of groups (R198, R199, R413) -/

/-- A fence address of an instruction, checked: the page of it, a fault, or a miss. -/
def State.fencePage (s : State) (e g c : Nat) (a : Access) (va : Nat) : PageRes :=
  if va % 8 ≠ 0 then .trouble (trouble 0x04 0xFF va)
  else match s.page e g c a va with
    | .ok l m =>
      match l.space with
      | .peer _ => .ok l m
      | _ => match fenceCheck l m va with
        | some (code, detail) => .trouble (trouble code detail va)
        | none => .ok l m
    | r => r

/-- Whether a peer store of a group has not yet been accepted by a port of a partner (R198, R206). -/
def State.peerOut (s : State) (e g p : Nat) : Bool :=
  s.writesTo e g (fun sp => match sp with | .peer k => s.partner k == s.partner p | _ => false)

/-- FENCE_SIGNAL of a group: after the release at its scope the update is sent, and the group goes on. One to a partner's fence leaves
once the ports have taken the group's earlier stores to that partner; the port then holds it until they are acknowledged (R198,
R413). -/
def fenceSignalInsn (e g opc scope : Nat) (va : VAddr) (value : Nat) (s : State) : State :=
  s.issue e g opc [] (fun u t =>
    let pc := u.pc.toNat
    let a := va.toNat
    if 4 < scope then t.insnFault e g 0x05 4 pc
    else if !t.releaseDone e g scope then t
    else match t.fencePage e g u.ctx .signal a with
    | .miss => t.startWalk e g u.ctx u.lane0 a 1
    | .trouble f => t.groupFault e g u.lane0 f pc
    | .ok l _ =>
      let h := (t.ctx? u.ctx).elim 0 (·.hoop)
      match l.space with
      | .peer p =>
        if scope ≠ 4 then t.insnFault e g 0x05 4 pc
        else if t.peerOut e g p then t
        else
          let x := Txn.blank (.lane e g) (engDie e) (engQuad e) (some h) (some u.ctx) .signal l.space (lineOf (l.phys a))
          let o := a % 128
          (t.onGrp e g Group.step).addTxn { x with
            secs := 2 ^ (o / 32), data := zeros o ++ leBytes 8 value ++ zeros (120 - o), mask := maskOf o 8, va := a - o, pc := pc,
            size := 3, offs := [(u.lane0, o)], queue := u.queue } |>.2
      | _ =>
        match t.fenceBar h (engDie e) a (l.phys a) true with
        | some f => t.groupFault e g u.lane0 f pc
        | none => (t.onGrp e g Group.step).fenceMsg (.signal u.ctx (l.phys a) (value % 2 ^ 64) none
            (some { queue := u.queue, unit := e, group := g, lane := u.lane0, pc := pc })) (some h) (engDie e) (l.phys a)
            (.quadrant (engQuad e)))

def execFenceSignalInsn (eng grp opc scope : Nat) (va : VAddr) (value : Nat) (s : State) : Host.Outcome State Fault Refusal :=
  .next (fenceSignalInsn eng grp opc scope va value s)

/-- FENCE_WAIT of a group: it registers at the fence's home and stalls; where its command is being preempted it parks, and registers
when it is resumed (R199, R327). -/
def fenceWaitInsn (e g opc scope : Nat) (va : VAddr) (target : Nat) (s : State) : State :=
  s.issue e g opc [] (fun u t =>
    let pc := u.pc.toNat
    let a := va.toNat
    if 4 < scope then t.insnFault e g 0x05 4 pc
    else match t.fencePage e g u.ctx .wait a with
    | .miss => t.startWalk e g u.ctx u.lane0 a 0
    | .trouble f => t.groupFault e g u.lane0 f pc
    | .ok l _ =>
      let h := (t.ctx? u.ctx).elim 0 (·.hoop)
      match t.fenceBar h (engDie e) a (l.phys a) false with
      | some f => t.groupFault e g u.lane0 f pc
      | none => t.waitOrPark e g (.fence a (target % 2 ^ 64) scope true) (State.fenceMsg
          (.register u.ctx (l.phys a) (target % 2 ^ 64) (1, 16 * e + g)) (some h) (engDie e) (l.phys a) (.quadrant (engQuad e))))

def execFenceWaitInsn (eng grp opc scope : Nat) (va : VAddr) (target : Nat) (s : State) : Host.Outcome State Fault Refusal :=
  .next (fenceWaitInsn eng grp opc scope va target s)

/-! ### Fences at their homes (R301 to R304) -/

/-- A fence record (R301). -/
structure Fence where
  value : Nat
  event : Nat
  cookie : Nat
  evring : Nat
  flags : Nat
  deriving DecidableEq, Repr

def fenceOf (b : Bytes) : Fence :=
  { value := numAt b 0 8, event := numAt b 8 8, cookie := numAt b 16 8, evring := numAt b 24 2, flags := numAt b 26 1 }

/-- The bytes of a record; those without a field are written as zeros (R17). -/
def Fence.bytes (f : Fence) : Bytes :=
  leBytes 8 f.value ++ leBytes 8 f.event ++ leBytes 8 f.cookie ++ leBytes 2 f.evring ++ leBytes 1 f.flags ++ zeros 5

def Fence.armed (f : Fence) : Bool := f.flags.testBit 0

/-- The home index of a fence of a context, for a request that leaves a die (R303). -/
def State.fenceIdx (s : State) (ctx die pa : Nat) : Nat := s.idxOn die (s.winFor ((s.ctx? ctx).map (·.hoop)) pa) pa

/-- A fence's request is served at its home in its turn among the requests for the fence's line: it waits behind those that came
before it, and is served when it is first and the line is free (R158, R199). -/
def State.fenceTurn (m came pa idx : Nat) (go : State → State) (s : State) : State :=
  let p := s.physSlice idx
  let a := lineOf pa
  if (s.slice p).waiting.contains (.msg m) then (match s.takeFirst (.msg m) p a idx false with | some s => go s | none => s)
  else if s.cameFirst p a idx came then s
  else if s.lineBusy a idx false || (s.firstWaiting p a idx).isSome then (if s.sliceFull p then s else s.lineUp (.msg m) p false)
  else go s

/-- The event of a fence: its record in the fence's ring, where that is a live ring of the context; the home's die
writes it (R302). -/
def State.fenceEvent (ctx die : Nat) (f : Fence) (s : State) : State :=
  if (s.ring? f.evring).any (fun r => r.live && r.ctx = ctx) then s.ringFence f.evring (fenceRec f.cookie ctx) die else s

/-- A release leaves a fence's home for the waiter (R199). -/
def State.releaseWait (die quad : Nat) (who : Nat × Nat) (s : State) : State :=
  if who.1 = 1 then
    let e := who.2 / 16
    s.sendMsg .response (.fenceRelease who) die (engDie e) (.quadrant quad) (.quadrant (engQuad e))
  else match s.queue? who.2 with
    | none => s
    | some u => s.sendMsg .response (.fenceRelease who) die (s.queueDie u) (.quadrant quad) u.frm

/-- A signal applied to a fence record (R302): what the record becomes, whether waits are looked at, and whether the
event is raised. -/
def Fence.signal (v : Nat) (f : Fence) : Fence × Bool × Bool :=
  if f.value < v then
    if f.armed && decide (f.event ≤ v) then ({ f with value := v, flags := f.flags - 1 }, true, true)
    else ({ f with value := v }, true, false)
  else if v < f.value then ({ f with flags := f.flags ||| 2 }, false, false)
  else (f, false, false)

/-- A signal is applied to the fence at a physical address, by its home `idx`. -/
def State.applySignal (ctx pa idx v : Nat) (s : State) : State :=
  let r := (fenceOf (s.peek pa 32).1).signal v
  let s := if r.1 = fenceOf (s.peek pa 32).1 then s else s.poke pa r.1.bytes
  let s := if r.2.1 then
      let ws := s.objs.waits.filter (fun w => w.addr = pa && decide (w.target ≤ v))
      let s := s.onObjs (fun o => { o with waits := o.waits.filter (fun w => !(w.addr = pa && decide (w.target ≤ v))) })
      each ws (fun w t => t.releaseWait (s.idxDie idx) (idxQuad idx) w.who) s
    else s
  if r.2.2 then s.fenceEvent ctx (s.idxDie idx) r.1 else s

/-- A fault of a fence's request: of the command or of the group that waits (R132). -/
def State.waiterFault (who : Nat × Nat) (t : Trouble) (s : State) : State :=
  if who.1 = 1 then
    match s.grp? (who.2 / 16) (who.2 % 16) with
    | some u => s.groupFault (who.2 / 16) (who.2 % 16) u.lane0 t u.pc.toNat
    | none => s
  else match s.queue? who.2 with
    | some u => s.frontFault who.2 t u.descVa
    | none => s

/-- A fault of a fence signal: of the command, or of what sent it (R132). -/
def State.signalFault (ctx die : Nat) (q : Option Nat) (who : Option Sender) (t : Trouble) (s : State) : State :=
  match q, who with
  | some q, _ => s.waiterFault (0, q) t
  | none, some w => if w.unit < 2048 then s.engineFault w.unit w.group w.lane ctx w.queue t w.pc else s.unitFault ctx w.queue die false t w.pc
  | none, none => s.unitFault ctx 0 die false t 0

/-- FENCE_SIGNAL_APPLY: the fence's home applies a signal in its turn; a signal command then completes. A poisoned record takes no
signal, as no atomic is applied to a poisoned line. -/
def fenceSignalApply (m : Nat) (s : State) : State :=
  match s.msg? m with
  | none => s
  | some x => match x.kind with
    | .signal ctx pa v q who =>
      let idx := s.fenceIdx ctx x.src pa
      if !x.arrived then s
      else if x.lost then (s.delMsg m).signalFault ctx x.src q who (trouble 0x0D (s.idxDie idx) pa)
      else s.fenceTurn m x.came pa idx (fun s =>
        if (s.peek pa 32).2 then (s.delMsg m).signalFault ctx x.src q who (trouble 0x09 4 pa)
        else
          let s := (s.delMsg m).applySignal ctx pa idx v
          match q with
          | some q => if (s.queue? q).any (fun u => u.run.any (fun r => r.phase = .running && descOp r.desc == 6)) then s.cmdDone q 0 else s
          | none => s)
    | _ => s

def execFenceSignalApply (msg : Nat) (s : State) : Host.Outcome State Fault Refusal := .next (fenceSignalApply msg s)

/-- A wait at the fence's home: satisfied, registered, or to be read again while no registration is free (R303). -/
def State.waitAtHome (m ctx pa idx target : Nat) (who : Nat × Nat) (s : State) : State :=
  let sl := s.physSlice idx
  let b := s.peek pa 32
  if b.2 then (s.delMsg m).waiterFault who (trouble 0x09 0 pa)
  else if target ≤ (fenceOf b.1).value then (s.delMsg m).releaseWait (s.idxDie idx) (idxQuad idx) who
  else if (s.objs.waits.filter (fun w => w.slice = sl)).length < 256 then
    (s.delMsg m).onObjs (fun o => { o with waits := o.waits ++ [{ slice := sl, addr := pa, target := target, who := who }] })
  else s.onMsgs (fun l => SMap.modify l m (fun x => { x with kind := .poll ctx pa target who }))

/-- FENCE_WAIT_REGISTER: the home serves a wait in its turn (R199). -/
def fenceWaitRegister (m : Nat) (s : State) : State :=
  match s.msg? m with
  | none => s
  | some x => match x.kind with
    | .register ctx pa target who =>
      let idx := s.fenceIdx ctx x.src pa
      if !x.arrived then s
      else if x.lost then (s.delMsg m).waiterFault who (trouble 0x0D (s.idxDie idx) pa)
      else s.fenceTurn m x.came pa idx (State.waitAtHome m ctx pa idx target who)
    | _ => s

def execFenceWaitRegister (msg : Nat) (s : State) : Host.Outcome State Fault Refusal := .next (fenceWaitRegister msg s)

/-- FENCE_VALUE_POLL: a waiter without a registration reads the fence again. -/
def fenceValuePoll (m : Nat) (s : State) : State :=
  match s.msg? m with
  | none => s
  | some x => match x.kind with
    | .poll ctx pa target who =>
      let idx := s.fenceIdx ctx x.src pa
      if s.lineBusy (lineOf pa) idx false || (s.firstWaiting (s.physSlice idx) (lineOf pa) idx).isSome then s
      else s.waitAtHome m ctx pa idx target who
    | _ => s

def execFenceValuePoll (msg : Nat) (s : State) : Host.Outcome State Fault Refusal := .next (fenceValuePoll msg s)

/-- FENCE_WAIT_RELEASE: a release reaches the waiter: the group acquires and goes on, or the command is done (R199). -/
def fenceWaitRelease (m : Nat) (s : State) : State :=
  match s.msg? m with
  | none => s
  | some x => match x.kind with
    | .fenceRelease who =>
      if !x.arrived then s
      else
        let s := s.delMsg m
        if who.1 = 1 then
          let e := who.2 / 16
          let g := who.2 % 16
          match s.grp? e g with
          | some u => (match u.st with
            | .fence _ _ sc _ => s.resume e g sc
            | _ => s)
          | none => s
        else if (s.queue? who.2).any (fun u => u.run.any (fun r => r.phase = .running && descOp r.desc == 7)) then s.cmdDone who.2 0
        else s
    | _ => s

def execFenceWaitRelease (msg : Nat) (s : State) : Host.Outcome State Fault Refusal := .next (fenceWaitRelease msg s)

/-- WAITING_REQUEST_SERVE: what waits first for its line is served, once the line is free: a transaction, a request for ownership, a
fence's signal or wait (R158). -/
def waitingRequestServe (req : Waiter) (err : SliceError) (s : State) : State :=
  match req with
  | .txn i => s.serveFirst i err
  | .msg m => match s.msg? m with
    | none => s
    | some x => match x.kind with
      | .ownRequest i => s.ownFirst m i
      | .signal .. => fenceSignalApply m s
      | .register .. => fenceWaitRegister m s
      | _ => s

def execWaitingRequestServe (req : Waiter) (err : SliceError) (s : State) : Host.Outcome State Fault Refusal :=
  .next (waitingRequestServe req err s)

/-! ### Fault picots (R133) -/

/-- FAULT_PICOT_ARRIVE: the launching front end tears the context down on every other engine. -/
def faultPicotArrive (m : Nat) (s : State) : State :=
  match s.msg? m with
  | none => s
  | some x => match x.kind with
    | .fault ctx _ _ => if !x.arrived then s
        else if (s.ctx? ctx).any (fun c => c.fault.isSome) then (s.delMsg m).teardown ctx else s.delMsg m
    | _ => s

def execFaultPicotArrive (msg : Nat) (s : State) : Host.Outcome State Fault Refusal := .next (faultPicotArrive msg s)

end Sys2Proof.Machine
end

