-- ==== Sys2Proof/Machine/Objects.lean ====
section
/-!
DEFINITION. Admin commands: contexts, event rings, queues, memory objects and fences, their creation and their destruction
(R281 to R310).
-/
namespace Sys2Proof.Machine

/-! ### What every admin command goes through (R285, R305, R306) -/

def dObj (d : Bytes) : Nat := numAt d 16 4
def dCtx (d : Bytes) : Nat := numAt d 20 2
def dKind (d : Bytes) : Nat := numAt d 22 1
def dLog2 (d : Bytes) : Nat := numAt d 23 1
def dAddrA (d : Bytes) : Nat := numAt d 24 8
def dAddrB (d : Bytes) : Nat := numAt d 32 8
def dValue (d : Bytes) : Nat := numAt d 40 8
def dEvr (d : Bytes) : Nat := numAt d 48 2
def dAux (d : Bytes) : Nat := numAt d 50 2
def dAux2 (d : Bytes) : Nat := numAt d 52 4

/-- The admin command that a function's queue has read, where it has this opcode. -/
def State.admin (fn op : Nat) (go : Bytes → State → State) (s : State) : State :=
  match (s.adm fn).cmd with
  | none => s
  | some d => if descOp d = op ∧ fn < 128 then go d s else s

/-- An admin command that changes nothing completes with a status. -/
def State.admFail (fn status : Nat) (s : State) : State := s.admDone fn status 0 0

/-- A context that a function's command names, in one of the states that the command accepts: the context, or the status
that turns the command away. A context of another function is denied before its state is looked at. -/
def State.ownCtx (s : State) (fn n : Nat) (ok : CtxState → Bool) : Except Nat Ctx :=
  match s.ctx? n with
  | none => .error 0x4A
  | some c =>
    if c.st = .free then .error 0x4A
    else if c.fn ≠ fn then .error 0x49
    else if ok c.st then .ok c
    else .error 0x4A

def liveOnly (c : CtxState) : Bool := c == .live
def liveOrFaulted (c : CtxState) : Bool := c == .live || c == .faulted

/-- Every page of a range translates to one live object: its number (R306). -/
def State.oneObject (s : State) (c : Ctx) (a : Access) (va len : Nat) : Option Nat :=
  (pageParts va (len / 4096 + 2) len).foldl (fun acc p =>
    match acc, s.translate c a p.1 with
    | some none, .ok (l, m) => if m.st = 1 then some (some l.mobj) else none
    | some (some i), .ok (l, m) => if m.st = 1 ∧ l.mobj = i then some (some i) else none
    | _, _ => none) (some none) |>.bind id

/-! ### Contexts (R281 to R288, R293, R313) -/

def Ctx.create (hoop fn root base count : Nat) : Ctx :=
  { st := .live, hoop := hoop, fn := fn, gen := 0, root := root, motBase := base, motCount := count, slot := none,
    fault := none, lost := 0, launches := 0, running := [], destroyCookie := 0, destroyTag := 0,
    forcedUnits := 0, quiet := false }

/-- Contexts that a function holds, retiring ones included (R311). -/
def State.ctxHeld (s : State) (fn : Nat) : Nat := (s.objs.ctxs.filter (fun p => p.2.fn = fn && p.2.st != .free)).length

/-- A context number that no context holds. -/
def State.freeCtx (s : State) : Option Nat :=
  pickNum 0 s.objs.stamp 65536 ((s.objs.ctxs.filter (fun p => p.2.st != .free)).map (·.1))

/-- CTX_CREATE. A hoop that is not enabled owns no channel set, and turns every create away as invalid (R313); with it enabled, tables in
sets of another hoop are denied before anything else is looked at (R285; DESIGN CHOICE of the order). -/
def ctxCreate (fn : Nat) (s : State) : State :=
  s.admin fn 0x20 (fun d s =>
    let root := dAddrA d
    let base := dAddrB d
    match s.fnHoop fn with
    | none => s.admFail fn 0x4A
    | some h =>
      let denied := fun (a : Nat) => s.isStack a && !s.setAllowed h a false
      if s.fld F.hoopStat_STATE (R.hoopStat h) ≠ 2 then s.admFail fn 0x4A
      else if denied root || denied base then s.admFail fn 0x49
      else if dAux d = 0 ∨ root % 4096 ≠ 0 ∨ base % 4096 ≠ 0 ∨ !s.reachable root ∨ !s.reachable base then s.admFail fn 0x4A
      else if s.fld F.qfeFnLimit_CTX_MAX (R.qfeFnLimit fn) ≤ s.ctxHeld fn then s.admFail fn 0x4B
      else match s.freeCtx with
      | none => s.admFail fn 0x4B
      | some n =>
        (s.tick.2.onObjs (fun o => { o with ctxs := SMap.put o.ctxs n (Ctx.create h fn root base (dAux d)) })).saveCtx n |>.admDone fn 0 0 n)

def execCtxCreate (fn : Nat) (s : State) : Host.Outcome State Fault Refusal := .next (ctxCreate fn s)

/-- The entry of a context: its slot's copy while it is resident, else what the tables hold (R282, R283). -/
def State.ctxEntry (s : State) (n : Nat) : Bytes × Bool :=
  match s.ctx? n with
  | some c => if c.slot.isSome then (c.bytes, false) else s.tableRead (ctxOff n) 128
  | none => s.tableRead (ctxOff n) 128

/-- CTX_QUERY: accepted in every state; a number that no context has held reads as zeros. -/
def ctxQuery (fn : Nat) (s : State) : State :=
  s.admin fn 0x22 (fun d s =>
    let n := dCtx d
    if (s.ctx? n).any (fun c => c.fn != fn) then s.admFail fn 0x49
    else if dAddrA d % 128 ≠ 0 then s.admFail fn 0x4A
    else
      let b := s.ctxEntry n
      (s.post (if b.2 then .poisonedWrite fn (dAddrA d) (b.1.take 80) else .write fn (dAddrA d) (b.1.take 80))).admDone fn 0 0 n)

def execCtxQuery (fn : Nat) (s : State) : Host.Outcome State Fault Refusal := .next (ctxQuery fn s)

/-- GEN rises by 1 and every engine that holds the context empties its translation entries; walks under way deliver and
install nothing (R293). -/
def State.invalidate (n : Nat) (s : State) : State :=
  ((s.onCtx n (fun c => { c with gen := (c.gen + 1) % 2 ^ 32 })).saveCtx n).onEngs (fun m => SMap.mapVals m (fun _ e => { e with
    tlb := e.tlb.filter (fun t => t.ctx != n), held := e.held.filter (fun t => t.ctx != n)
    walks := SMap.mapVals e.walks (fun _ w => if w.ctx = n then { w with drop := true } else w) }))

/-- CTX_INVALIDATE: after every BAR4 write accepted before its descriptor was read. -/
def ctxInvalidate (fn : Nat) (s : State) : State :=
  s.admin fn 0x23 (fun d s =>
    match s.ownCtx fn (dCtx d) liveOnly with
    | .error e => s.admFail fn e
    | .ok _ => if s.bar4Before (s.adm fn).after then s else (s.invalidate (dCtx d)).admDone fn 0 0 (dCtx d))

def execCtxInvalidate (fn : Nat) (s : State) : Host.Outcome State Fault Refusal := .next (ctxInvalidate fn s)

/-! ### Event rings (R300) -/

def State.ringFn (s : State) (r : Ring) : Option Nat := (s.ctx? r.ctx).map (·.fn)

/-- An event-ring number that no live ring holds. -/
def State.freeRingNum (s : State) : Option Nat :=
  pickNum 0 s.objs.stamp 16384 ((s.objs.rings.filter (fun p => p.2.live)).map (·.1))

/-- EVR_CREATE. -/
def evrCreate (fn : Nat) (s : State) : State :=
  s.admin fn 0x24 (fun d s =>
    match s.ownCtx fn (dCtx d) liveOnly with
    | .error e => s.admFail fn e
    | .ok c =>
      let k := dLog2 d
      if k < 4 ∨ 16 < k ∨ dAddrA d % (32 * 2 ^ k) ≠ 0 ∨ dAddrA d % 4096 ≠ 0 ∨ dAddrB d % 8 ≠ 0 ∨ vectorsOf fn ≤ dAux d then
        s.admFail fn 0x4A
      else match s.oneObject c .store (dAddrA d) (32 * 2 ^ k), s.oneObject c .read (dAddrB d) 8 with
      | some i, some _ =>
        let mine := s.objs.rings.filter (fun p => p.2.live && s.ringFn p.2 == some fn)
        match s.freeRingNum with
        | none => s.admFail fn 0x4B
        | some n =>
          if s.fld F.qfeFnLimit_EVR_MAX (R.qfeFnLimit fn) ≤ mine.length then s.admFail fn 0x4B
          else
            let ring : Ring := { va := dAddrA d, headVa := dAddrB d, w := 0, h := 0, ctx := dCtx d, vector := dAux d, log2 := k,
                                 live := true, rereading := false, pins := [(dCtx d, i)], heldEvents := [] }
            ((s.tick.2.pin (dCtx d) i true).onObjs (fun o => { o with rings := SMap.put o.rings n ring })).saveRing n |>.admDone fn 0 n (dCtx d)
      | _, _ => s.admFail fn 0x4A)

def execEvrCreate (fn : Nat) (s : State) : Host.Outcome State Fault Refusal := .next (evrCreate fn s)

/-- A ring is freed: its pins are released and what it held is gone. -/
def State.freeRing (n : Nat) (s : State) : State :=
  match s.ring? n with
  | none => s
  | some r => (each r.pins (fun p t => t.pin p.1 p.2 false) s).onRing n (fun r => { r with
      live := false, pins := [], heldEvents := [], rereading := false }) |>.saveRing n

/-- EVR_DESTROY: refused while a live queue names the ring. -/
def evrDestroy (fn : Nat) (s : State) : State :=
  s.admin fn 0x25 (fun d s =>
    match s.ring? (dObj d) with
    | none => s.admFail fn 0x4A
    | some r =>
      if !r.live then s.admFail fn 0x4A
      else match s.ownCtx fn r.ctx liveOrFaulted with
      | .error e => s.admFail fn e
      | .ok _ =>
        if s.objs.queues.any (fun p => p.2.st == .live && p.2.evring = dObj d) then s.admFail fn 0x4A
        else (s.freeRing (dObj d)).admDone fn 0 0 r.ctx)

def execEvrDestroy (fn : Nat) (s : State) : Host.Outcome State Fault Refusal := .next (evrDestroy fn s)

/-! ### Queues (R299, R320, R325) -/

/-- Whether a queue lies in a function's queue groups. -/
def State.holdsQueue (s : State) (fn q : Nat) : Bool := decide (q < 262144) && s.holdsGroup fn (q / 16)

def qkindOf : Nat → Option QKind
  | 0 => some .compute | 1 => some .realTime | 2 => some .copy | _ => none

/-- A queue as it is created; a number that an earlier queue held keeps the pins that its requests still hold. -/
def Queue.create (k : QKind) (d : Bytes) (pins : List (Nat × Nat)) (old : Option Queue) : Queue :=
  { st := .live, kind := k, log2 := dLog2 d, ctx := dCtx d, evring := dEvr d, ring := dAddrA d, eyelet := dAddrB d,
    poll := dAux d, slot := none, sched := BitVec.ofNat 32 (dAux2 d), pSeen := 0, c := 0, bound := false, members := [],
    boundAt := 0, waitSince := none, sliceOver := false, wake := false, eyeletOut := false, eyeletAfter := 0,
    descOut := false, run := none, last := 0, destroyCookie := 0, destroyTag := 0, destroyFn := 0, silent := false,
    drain := [], forced := 0, latePins := (old.map (·.latePins)).getD [], abandoned := (old.map (·.abandoned)).getD [],
    ringPins := pins }

/-- QUEUE_CREATE: a copy queue is bound to its bulk mover as soon as it has its slots (R283, R325). What R285 denies is looked at before
what R306 calls invalid (DESIGN CHOICE of the order). -/
def queueCreate (fn : Nat) (s : State) : State :=
  s.admin fn 0x26 (fun d s =>
    let q := dObj d
    let k := dLog2 d
    let own := s.ownCtx fn (dCtx d) liveOnly
    if own.toOption.isNone && (s.ctx? (dCtx d)).any (fun c => c.st != .free && c.fn != fn) then s.admFail fn 0x49
    else if !s.holdsQueue fn q || (s.ring? (dEvr d)).any (fun r => r.live && r.ctx != dCtx d) then s.admFail fn 0x49
    else match own, qkindOf (dKind d), s.ring? (dEvr d) with
    | .error e, _, _ => s.admFail fn e
    | .ok c, some kind, some r =>
        let set := dAux2 d % 64
        let eset := s.rd (R.hoopEset c.hoop set)
        if k < 4 ∨ 16 < k ∨ dAddrA d % (64 * 2 ^ k) ≠ 0 ∨ dAddrA d % 4096 ≠ 0 ∨ dAddrB d % 128 ≠ 0 ∨
           (s.queue? q).any (fun u => u.st != .free) ∨ !r.live then s.admFail fn 0x4A
        else if (kind = .compute ∧ (!Fbit F.hoopEset_VALID eset ∨ Fbit F.hoopEset_RT eset)) ∨ (kind = .copy ∧ 8 ≤ set) then
          s.admFail fn 0x4A
        else match s.oneObject c .read (dAddrA d) (64 * 2 ^ k), s.oneObject c .read (dAddrB d) 72, s.oneObject c .store (dAddrB d + 64) 8 with
        | some i, some j, some _ =>
          let pins := ([(dCtx d, i), (dCtx d, j)]).eraseDups
          let s := each pins (fun p t => t.pin p.1 p.2 true) s
          let u := Queue.create kind d pins (s.queue? q)
          let s := (s.onObjs (fun o => { o with queues := SMap.put o.queues q u })).saveQueue q
          (if kind = .copy ∧ s.slotsFree u then s.bind q else s).admDone fn 0 0 (dCtx d)
        | _, _, _ => s.admFail fn 0x4A
    | _, _, _ => s.admFail fn 0x4A)

def execQueueCreate (fn : Nat) (s : State) : Host.Outcome State Fault Refusal := .next (queueCreate fn s)

/-! ### Destruction (R307 to R309) -/

/-- What an engine held of a queue's command is freed. -/
def State.freeCmdOn (e q : Nat) (s : State) : State :=
  s.onEng e (fun n => { n with
    groups := n.groups.filter (fun p => p.2.queue != q), wins := n.wins.filter (fun w => w.queue != q)
    shares := SMap.del n.shares q })

/-- Whether a picot is one of a queue's launch: of its barriers or of its preemption. -/
def MsgKind.launchPicot (q : Nat) : MsgKind → Bool
  | .arrive k _ _ _ _ => k == q
  | .release k _ _ _ => k == q
  | .preempt k _ => k == q
  | .saved k _ => k == q
  | _ => false

/-- The picots of a queue's launch that are on their way, or that an engine holds for a credit, are gone, and so is what its barriers
counted. -/
def State.dropBarriers (q : Nat) (s : State) : State :=
  ((s.onMsgs (fun m => m.filter (fun p => !p.2.kind.launchPicot q))).onEngs (fun m => SMap.mapVals m (fun _ n => { n with
    picots := n.picots.filter (fun p => !p.1.launchPicot q) }))).onGmp (fun g => { g with
      barriers := g.barriers.filter (fun b => b.queue != q), instances := SMap.keep g.instances (fun k _ => k / 4 != q) })

/-- A destroy of a queue is accepted: STATE 3, and every unit that holds its command stops it (R307, steps 1 and 2). -/
def State.destroyQueue (q fn cookie tag : Nat) (silent : Bool) (s : State) : State :=
  match s.queue? q with
  | none => s
  | some u =>
    let units := s.unitsOf q u
    let s := (s.onQueue q (fun u => { u with st := .destroying, destroyCookie := cookie, destroyTag := tag, destroyFn := fn,
                                             silent := silent, drain := units, forced := 0, wake := false })).saveQueue q
    let s := each (units.filter (fun e => decide (e < 2048))) (fun e t => t.stopOn e (fun _ k => k == q)) s
    let s := s.onTxns (fun m => SMap.mapVals m (fun _ t => if t.issuer == .bulk q then { t with dead := true } else t))
    ((s.unregister (0, q)).dropBarriers q).picotsAll

/-- QUEUE_DESTROY. -/
def queueDestroy (fn : Nat) (s : State) : State :=
  s.admin fn 0x27 (fun d s =>
    let q := dObj d
    if !s.holdsQueue fn q then s.admFail fn 0x49
    else match s.queue? q with
    | none => s.admFail fn 0x4A
    | some u =>
      if u.st = .destroying ∧ u.destroyFn = fn ∧ !u.silent then s
      else if u.st != .live && u.st != .stopped then s.admFail fn 0x4A
      else match s.ownCtx fn u.ctx liveOrFaulted with
      | .error e => s.admFail fn e
      | .ok _ => s.destroyQueue q fn (numAt d 8 8) (numAt d 4 4) false)

def execQueueDestroy (fn : Nat) (s : State) : Host.Outcome State Fault Refusal := .next (queueDestroy fn s)

/-- A record of kinds 0xF1 to 0xF3 (R273). -/
def kindRec (kind cookie tag status detail ctx : Nat) : Rec :=
  { cookie := cookie, tag := tag, queue := 0, status := status, opcode := kind, aflags := 0, detail := detail, ctx := ctx }

/-- The record of kind 0xF2 of a destroy is written, and its admin command leaves its queue: the consumer count is posted no later than
the record, and the next command is read (R249, R307, R309). -/
def State.admDestroyed (fn op cookie : Nat) (rec : Rec) (s : State) : State :=
  let mine := ((s.adm fn).cmd).any (fun d => descOp d = op && numAt d 8 8 == cookie)
  let s := (if mine then s.admDrop fn else s).admRec fn rec 0 true
  if mine then s.admPull fn else s

/-- The objects of a context in a state. -/
def State.objsIn (s : State) (c : Ctx) (ok : Nat → Bool) : List Nat :=
  (List.range c.motCount).filter (fun i => ok (s.mobj c i).st)

/-- A context in STATE 4 with no object left: its last record, and STATE 0 (R309). -/
def State.ctxGone (n : Nat) (s : State) : State :=
  match s.ctx? n with
  | none => s
  | some c =>
    if c.st = .retiring ∧ (s.objsIn c (fun k => k == 1 || k == 2)).isEmpty then
      let s := (s.onCtx n (fun c => { c with st := .free })).saveCtx n
      if c.quiet then s else s.admRec c.fn (kindRec 0xF1 c.destroyCookie c.destroyTag 0x46 0xFFFF n) 0 true
    else s

/-- The end of CTX_DESTROY once every queue is gone: rings freed, objects free-pending, the 0xF2 record, STATE 4 (R309). -/
def State.ctxRetire (n : Nat) (s : State) : State :=
  match s.ctx? n with
  | none => s
  | some c =>
    if c.st ≠ .destroying ∨ s.objs.queues.any (fun p => p.2.ctx = n && p.2.st != .free) then s
    else
      let s := each ((s.objs.rings.filter (fun p => p.2.live && p.2.ctx = n)).map (·.1)) State.freeRing s
      let s := each (s.objsIn c (fun k => k == 1)) (fun i t => t.setMobj c i { t.mobj c i with st := 2, mark := c.launches }) s
      let s := if c.quiet then s.onObjs (fun o => { o with freeRec := o.freeRec.filter (fun p => p.1 / 65536 != n) }) else s
      let s := ((((s.onCtx n (fun c => { c with slot := none, st := .retiring })).saveCtx n).purge n).dropMotifs n).onEngs (fun m =>
        SMap.mapVals m (fun _ e => { e with draining := delNum e.draining n }))
      let s := if c.quiet then s else
        s.admDestroyed c.fn 0x21 c.destroyCookie
          (kindRec 0xF2 c.destroyCookie c.destroyTag (if c.forcedUnits = 0 then 0 else 0x42) c.forcedUnits n)
      s.ctxGone n

/-- A destroy of a context is accepted (R309). -/
def State.destroyCtx (n cookie tag : Nat) (quiet : Bool) (s : State) : State :=
  let s := (s.onCtx n (fun c => { c with st := .destroying, destroyCookie := cookie, destroyTag := tag, forcedUnits := 0, quiet := quiet })).saveCtx n |>.ctxLeaves n
  let qs := (s.objs.queues.filter (fun p => p.2.ctx = n && (p.2.st == .live || p.2.st == .stopped))).map (·.1)
  let fn := (s.ctx? n).elim 0 (·.fn)
  (each qs (fun q t => t.destroyQueue q fn cookie tag true) s).ctxRetire n

/-- CTX_DESTROY. -/
def ctxDestroy (fn : Nat) (s : State) : State :=
  s.admin fn 0x21 (fun d s =>
    match s.ctx? (dCtx d) with
    | none => s.admFail fn 0x4A
    | some c =>
      if c.fn = fn ∧ c.st = .destroying then s
      else match s.ownCtx fn (dCtx d) liveOrFaulted with
      | .error e => s.admFail fn e
      | .ok _ => s.destroyCtx (dCtx d) (numAt d 8 8) (numAt d 4 4) false)

def execCtxDestroy (fn : Nat) (s : State) : Host.Outcome State Fault Refusal := .next (ctxDestroy fn s)

/-- Pins held for abandoned requests are released where all of them have been answered (R308). -/
def State.settleLate (s : State) : State :=
  each ((s.objs.queues.filter (fun p => !p.2.latePins.isEmpty && !s.abandonedOut p.2)).map (·.1)) State.releaseLate s

/-- The command of a destroyed queue ends: aborted, or with its own status where a fault had stopped it (R271, R288, R307). -/
def State.endDestroyed (q : Nat) (s : State) : State :=
  match (s.queue? q).bind (·.run) with
  | none => s
  | some r => if r.phase = .ending then s.finish q r.status r.detail r.fault else s.finish q 0x41 0 false

/-- DESTROY_DRAIN_END: every unit has finished step 2; steps 3 to 5 follow (R307). -/
def destroyDrainEnd (q : Nat) (s : State) : State :=
  match s.queue? q with
  | none => s
  | some u =>
    if u.st ≠ .destroying ∨ !(u.drain.all (s.unitDrained q)) then s
    else
      let s := each (u.drain.filter (fun e => decide (e < 2048))) (fun e t => t.freeCmdOn e q) s
      let s := (s.deferPins q).onQueue q (fun u => { u with drain := [] })
      let s := s.endDestroyed q
      if (s.queue? q).any (fun u => u.run.isSome) then s
      else
        let pins := ((s.queue? q).map (·.ringPins)).getD []
        let s := each pins (fun p t => t.pin p.1 p.2 false) s
        let s := (s.onQueue q (fun u => { u with st := .free, bound := false, slot := none, members := [], ringPins := [], drain := [],
                                                 eyeletOut := false, descOut := false, waitSince := none, sliceOver := false })).saveQueue q
        let s := s.settleLate.freeCtxSlot u.ctx
        let s := if u.silent then s.onCtx u.ctx (fun c => { c with forcedUnits := c.forcedUnits + u.forced })
          else s.admDestroyed u.destroyFn 0x27 u.destroyCookie
            (kindRec 0xF2 u.destroyCookie u.destroyTag (if u.forced = 0 then 0 else 0x42) u.forced u.ctx)
        let h := s.queueHoop u
        let s := s.ctxRetire u.ctx
        match h with | some h => s.reschedule h | none => s.bindLate

def execDestroyDrainEnd (queue : Nat) (s : State) : Host.Outcome State Fault Refusal := .next (destroyDrainEnd queue s)

/-- DESTROY_FORCE_CLEAR: a unit that has not drained within 100 µs clears the command from itself; its requests are
abandoned, in the destroy of its queue and in the teardown of a faulted context alike (R288, R308). `eng` is an engine, or 2048 + die for
the bulk movers of a die. -/
def destroyForceClear (q e : Nat) (s : State) : State :=
  match s.queue? q with
  | none => s
  | some u =>
    if (u.st ≠ .destroying ∧ !u.hasRun .ending) ∨ !u.drain.contains e ∨ s.unitDrained q e then s
    else
      let ids := s.cmdTxns q e
      let s := s.onTxns (fun m => SMap.mapVals m (fun i t => if ids.contains i then { t with dead := true } else t))
      let s := s.onQueue q (fun u => { u with drain := delNum u.drain e, forced := u.forced + 1, abandoned := u.abandoned ++ ids })
      if 2048 ≤ e then s
      else
        (s.freeCmdOn e q).onEng e (fun n => { n with
          filet := n.filet.filter (fun p => p.2.queue != q), motifs := n.motifs.filter (fun p => p.1 / 8 != u.ctx)
          l1 := n.l1.filter (fun l => l.ctx != u.ctx), tlb := n.tlb.filter (fun t => t.ctx != u.ctx)
          held := n.held.filter (fun t => t.ctx != u.ctx) })

def execDestroyForceClear (queue eng : Nat) (s : State) : Host.Outcome State Fault Refusal := .next (destroyForceClear queue eng s)

/-! ### Memory objects (R294 to R298) -/

/-- Whether a range overlaps a live or free-pending object of a context. -/
def State.objOverlap (s : State) (c : Ctx) (va size : Nat) : Bool :=
  (s.objsIn c (fun k => k == 1 || k == 2)).any (fun i =>
    let m := s.mobj c i
    decide (va < m.va + m.size) && decide (m.va < va + size))

/-- Whether an entry is one of a context's and free. -/
def State.objFree (s : State) (c : Ctx) (i : Nat) : Bool := decide (i < c.motCount) && (s.mobj c i).st == 0

/-- Whether a page is one that the device can write zeros through for a context: not a partner's, and of stack memory one whose channel
set takes writes of the hoop (R213, R292; DESIGN CHOICE: R295 does not say what becomes of another). -/
def State.zeroable (s : State) (c : Ctx) (l : Leaf) (va : Nat) : Bool :=
  match l.space with
  | .peer _ => false
  | .stack => s.setAllowed c.hoop (l.phys va) true
  | _ => true

/-- The pages of a fence object: each translates to the object with W set (R295). -/
def State.fencePages (s : State) (c : Ctx) (i va size : Nat) : Option (List (Nat × Leaf)) :=
  (pageParts va (size / 4096 + 2) size).foldl (fun acc p =>
    match acc, s.translate c .signal p.1 with
    | some l, .ok (x, _) => if x.mobj = i ∧ s.zeroable c x p.1 then some (l ++ [(p.1, x)]) else none
    | _, _ => none) (some [])

/-- MOBJ_CREATE. -/
def mobjCreate (fn : Nat) (s : State) : State :=
  s.admin fn 0x28 (fun d s =>
    match s.ownCtx fn (dCtx d) liveOnly with
    | .error e => s.admFail fn e
    | .ok c =>
      let i := dObj d
      let va := dAddrA d
      let size := dAddrB d
      let fl := dKind d % 16
      if 65534 < i ∨ !s.objFree c i ∨ va % 4096 ≠ 0 ∨ size = 0 ∨ size % 4096 ≠ 0 ∨ fl.testBit 2 ∨
         (fl.testBit 0 ∧ (va % 2 ^ 21 ≠ 0 ∨ size % 2 ^ 21 ≠ 0)) ∨ (fl.testBit 3 ∧ (fl.testBit 0 ∨ fl.testBit 1)) ∨
         s.objOverlap c va size then s.admFail fn 0x4A
      else
        let m : Mobj := { va := va, size := size, pin := 0, st := 1, flags := fl, cookie := 0, mark := 0, ownerCtx := 0, ownerObj := 0 }
        let s' := s.setMobj c i m
        if fl.testBit 3 then
          match s'.fencePages c i va size with
          | none => s.admFail fn 0x4A
          | some ps => (each ps (fun p t => t.place c.fn p.2 false p.1 (zeros 4096)) s').admDone fn 0 0 (dCtx d)
        else s'.admDone fn 0 0 (dCtx d))

def execMobjCreate (fn : Nat) (s : State) : Host.Outcome State Fault Refusal := .next (mobjCreate fn s)

/-- MOBJ_FREE: a live object becomes free-pending. -/
def mobjFree (fn : Nat) (s : State) : State :=
  s.admin fn 0x29 (fun d s =>
    match s.ownCtx fn (dCtx d) liveOrFaulted with
    | .error e => s.admFail fn e
    | .ok c =>
      let i := dObj d
      if c.motCount ≤ i ∨ (s.mobj c i).st ≠ 1 then s.admFail fn 0x4A
      else
        let s := s.setMobj c i { s.mobj c i with st := 2, cookie := numAt d 8 8, mark := c.launches }
        (s.onObjs (fun o => { o with freeRec := SMap.put o.freeRec (65536 * dCtx d + i) (numAt d 4 4, fn) })).admDone fn 0 0 (dCtx d))

def execMobjFree (fn : Nat) (s : State) : Host.Outcome State Fault Refusal := .next (mobjFree fn s)

/-- MOBJ_FREED: a free-pending object that nothing pins and no marked LAUNCH may use is freed (R297, R298, R309). -/
def mobjFreed (n i : Nat) (s : State) : State :=
  let s := s.settleLate
  match s.ctx? n with
  | none => s
  | some c =>
    let m := s.mobj c i
    if c.st = .free ∨ c.motCount ≤ i ∨ m.st ≠ 2 ∨ m.pin ≠ 0 ∨ c.running.any (fun k => decide (k ≤ m.mark)) then s
    else
      let rec_ := SMap.get? s.objs.freeRec (65536 * n + i)
      let s := (s.invalidate n).setMobj c i { m with st := 0 }
      let s := s.onObjs (fun o => { o with freeRec := SMap.del o.freeRec (65536 * n + i) })
      let s := if m.isImport then s.pin m.ownerCtx m.ownerObj false else s
      let s := match rec_ with
        | some (tag, fn) => s.admRec fn (kindRec 0xF1 m.cookie tag 0x46 0 n) 0 true
        | none => s
      s.ctxGone n

def execMobjFreed (ctx obj : Nat) (s : State) : Host.Outcome State Fault Refusal := .next (mobjFreed ctx obj s)

/-- MOBJ_IMPORT: on the physical function's admin queue alone (R298). -/
def mobjImport (fn : Nat) (s : State) : State :=
  s.admin fn 0x2A (fun d s =>
    if fn ≠ 0 then s.admFail fn 0x49
    else match s.ctx? (dCtx d), s.ctx? (dAux d) with
    | some c, some o =>
      let m := s.mobj o (dAux2 d)
      if c.fn ≠ 0 ∧ (s.tdi c.fn = .locked ∨ s.tdi c.fn = .run) then s.admFail fn 0x49
      else if c.st ≠ .live ∨ o.st ≠ .live ∨ 65534 < dObj d ∨ !s.objFree c (dObj d) ∨ o.motCount ≤ dAux2 d ∨ m.st ≠ 1 ∨ !m.sharedRo ∨
         dAddrA d % 4096 ≠ 0 ∨ s.objOverlap c (dAddrA d) m.size then s.admFail fn 0x4A
      else
        let x : Mobj := { va := dAddrA d, size := m.size, pin := 0, st := 1, flags := m.flags ||| 4, cookie := 0, mark := 0,
                          ownerCtx := dAux d, ownerObj := dAux2 d }
        ((s.setMobj c (dObj d) x).pin (dAux d) (dAux2 d) true).admDone fn 0 0 (dCtx d)
    | _, _ => s.admFail fn 0x4A)

def execMobjImport (fn : Nat) (s : State) : Host.Outcome State Fault Refusal := .next (mobjImport fn s)

/-! ### FENCE_ARM (R304) -/

/-- A fence record armed or disarmed; whether the event is raised at once. -/
def Fence.arm (arm clearOoo : Bool) (event cookie evr : Nat) (f : Fence) : Fence × Bool :=
  let ooo := if f.flags.testBit 1 && !clearOoo then 2 else 0
  if arm then
    if event ≤ f.value then ({ f with event := event, cookie := cookie, evring := evr, flags := ooo }, true)
    else ({ f with event := event, cookie := cookie, evring := evr, flags := ooo + 1 }, false)
  else ({ f with flags := ooo }, false)

/-- FENCE_ARM: served at the fence's home in its turn. A fence whose channel set takes no write of the hoop is no fence that the command
can reach, and is invalid (R213; DESIGN CHOICE: the manual does not say). -/
def fenceArm (fn : Nat) (s : State) : State :=
  s.admin fn 0x2B (fun d s =>
    let arm := (dKind d).testBit 0
    if (s.ctx? (dCtx d)).any (fun c => c.st != .free && c.fn != fn) then s.admFail fn 0x49
    else if arm && (s.ring? (dEvr d)).any (fun r => r.live && r.ctx != dCtx d) then s.admFail fn 0x49
    else match s.ownCtx fn (dCtx d) liveOnly with
    | .error e => s.admFail fn e
    | .ok c =>
      let va := dAddrA d
      match s.translate c .signal va with
      | .error _ => s.admFail fn 0x4A
      | .ok (l, m) =>
        let pa := l.phys va
        let idx := s.fenceIdx (dCtx d) 0 pa
        if va % 32 ≠ 0 ∨ (fenceCheck l m va).isSome ∨ !s.setAllowed c.hoop pa true ∨
           (arm ∧ !(s.ring? (dEvr d)).any (fun r => r.live)) then s.admFail fn 0x4A
        else if s.lineBusy (lineOf pa) idx false || (s.firstWaiting (s.physSlice idx) (lineOf pa) idx).isSome then s
        else if (s.peek pa 32).2 then s.admFail fn 0x4A
        else
          let r := (fenceOf (s.peek pa 32).1).arm arm ((dKind d).testBit 1) (dAddrB d) (dValue d) (dEvr d)
          let s := s.poke pa r.1.bytes
          (if r.2 then s.fenceEvent (dCtx d) (s.idxDie idx) r.1 else s).admDone fn 0 0 (dCtx d))

def execFenceArm (fn : Nat) (s : State) : Host.Outcome State Fault Refusal := .next (fenceArm fn s)

end Sys2Proof.Machine
end

