-- ==== Sys2Proof/Machine/Stacks.lean ====
section
/-!
DEFINITION. Channel controllers: reads and writes of sectors, mirror redirects, scrubbing, row repair, refresh, set
clears, the test state and the traffic generators (R209 to R238).
-/
namespace Sys2Proof.Machine

/-! ### Places in a channel (R215, R221) -/

/-- Sectors of a channel (R209). -/
def State.chanSectors (s : State) : Nat := 2 ^ (s.setBits - 11)

/-- The address of a sector of a channel: the inverse of `stack_location` (R215). -/
def addrOf (w : Nat) (modeOf : Nat → Bool) (c line sector : Nat) : Nat :=
  let j := c % 64 / 4
  let d := c / 128
  let k := 4 * (c / 64 % 2) + c % 4
  let mode := modeOf j
  let hi := if mode then d * 2 ^ (w - 3) + line / 32 * 2 ^ 15 else line / 4 * 2 ^ 15
  let top := j * 2 ^ w + hi
  let x := bitsOf 22 15 top ^^^ bitsOf 30 23 top ^^^ bitsOf 38 31 top ^^^ (bitsOf 39 39 top * 32)
  let low := if mode then (line % 32) * 2 ^ 10
    else ((d ^^^ x / 32) % 8) * 2 ^ 12 + (line % 4) * 2 ^ 10
  top + low + ((k ^^^ x) % 8) * 2 ^ 7 + sector * 32

/-- The sector number (physical address / 32) of a channel's sector. -/
def State.sectorOf (s : State) (c line sector : Nat) : Nat :=
  addrOf s.setBits (fun j => s.bit F.memSetCtrl_MODE (R.memSetCtrl j)) c line sector / 32

/-- The channel-local line index of a bank, row and slot (R215). -/
def lineAt (bank row slot : Nat) : Nat := row * 256 + ((bank ^^^ row) % 16) * 16 + slot

/-- The set of a channel (R211). -/
def chanSet (c : Nat) : Nat := c % 64 / 4

/-! ### The stored codeword (R221, R223, R231, R237) -/

/-- The key under which a channel set is written: its number and how often it has been replaced. An unowned set takes the common key
(DESIGN CHOICE: R231 names the keys of owned and of common sets). -/
def State.setKey (s : State) (j : Nat) : Nat × Nat :=
  let o := s.fld F.memSetStat_OWNER (R.memSetStat j)
  let k := if o < 16 then o else 16
  (k, SMap.getD s.mem.keyGen k 0)

/-- What the mark is, each check symbol XORed with its constant in order (R223). -/
def markOf (cs : Bytes) : Bytes := cs.zipWith (fun a b => a ^^^ b) [0x5A, 0xA5, 0x3C, 0xC3]

/-- The codeword of a stack sector: the ciphertext under its set's key, with the sector's address bits 39 to 5 as the tweak, and the check
symbols over it and the channel-local address, which carry the mark of a poisoned sector. In the test state nothing is enciphered. The
model's cells hold what the controller reads through its cipher. -/
def State.codeword (s : State) (sec : Nat) : Bytes × Bytes :=
  let l := s.locOf (32 * sec)
  let k := s.setKey (s.setOf (32 * sec))
  let b := s.stackSector sec
  let text := if s.chanState l.chan = 2 then b.1 else Config.cipher k.1 k.2 (sec % 2 ^ 35) b.1
  let check := Config.checkSymbols text l.chan l.line l.sector
  (text, if b.2 then markOf check else check)

/-! ### Errors of a channel (R222, R225, R445, R448) -/

/-- A row has had a corrected error: it becomes the latest of the 32 that are tracked (R225). -/
def hotRow (bank row : Nat) (h : List (Nat × Nat × Nat)) : List (Nat × Nat × Nat) :=
  let n := ((h.find? (fun x => x.1 = bank && x.2.1 = row)).map (·.2.2)).getD 0
  ((bank, row, n + 1) :: h.filter (fun x => !(x.1 = bank && x.2.1 = row))).take 32

/-- One symbol in error has been corrected. -/
def State.corrected (c line : Nat) (s : State) : State :=
  (s.bump F.memChErr_CORRECTED (R.memChErr c) 1).onChan c (fun x => { x with hot := hotRow (bankOf line) (line / 256) x.hot })

/-- An uncorrectable sector has been found: counted, recorded, and reported (R222, R224, R445). -/
def State.uncorrectable (c line sector : Nat) (scrub : Bool) (s : State) : State :=
  let s := s.bump F.memChErr_UNCORRECTABLE (R.memChErr c) 1
  let w := Fset F.memChUeAddr_LINE line (Fset F.memChUeAddr_SECTOR sector
    (Fset F.memChUeAddr_SCRUB (if scrub then 1 else 0) (Fset F.memChUeAddr_VALID 1 0)))
  let s := s.wr (R.memChUeAddr c) w
  let s := s.onRas (fun r => { r with chanUe := SMap.upd r.chanUe c [] (fun l => addNum l (bankOf line * 2 ^ 15 + line / 256)) })
  s.ras0 0x07 2 c 0xFFFF (chanDie c)

/-! ### Reads and writes (R218 to R223, R229, R230, R234, R237) -/

/-- Whether a controller serves requests to a bank now: the channel is not in training or clearing, its clock runs, and no
repair holds the bank (R226, R235, R426). A channel out of service, or in test, answers at once (R234, R237). -/
def State.chanReady (s : State) (c bank : Nat) : Bool :=
  decide (2 ≤ s.chanState c) || (s.chanState c != 0 && s.runs (chanDie c) && !(s.chan c).repairing.any (fun r => r.1 = bank))

/-- Whether a request stands in its controller's queue: it has arrived and is not yet answered. -/
def CtlReq.queued (q : CtlReq) : Bool := !q.moving && !q.done

/-- The queued writes to a sector that arrived before a request, in the order in which they came (R219). -/
def State.writesBefore (s : State) (q : CtlReq) : List CtlReq :=
  sortBy (fun a b => decide (a.came < b.came)) ((s.mem.reqs.map (·.2)).filter (fun x =>
    x.write && x.queued && x.sector = q.sector && x.chan = q.chan && decide (x.came < q.came)))

/-- The sector that a queued request finds: what the stack holds, under the writes that arrived before it (R219). -/
def State.sectorFor (s : State) (q : CtlReq) : Bytes × Bool :=
  (s.writesBefore q).foldl (fun b x =>
    (mergeBytes b.1 x.data x.mask, if x.mask = fullMask then x.poison else b.2 || x.poison)) (s.stackSector q.sector)

def State.onReq (r : Nat) (f : CtlReq → CtlReq) (s : State) : State := s.onMem (fun m => { m with reqs := SMap.modify m.reqs r f })
def State.delReq (r : Nat) (s : State) : State := s.onMem (fun m => { m with reqs := SMap.del m.reqs r })

/-- Whether a request of a kind to the same sector came earlier and still stands in the controller's queue (R219). -/
def State.earlierReq (s : State) (r : Nat) (q : CtlReq) (kind : CtlReq → Bool) : Bool :=
  s.mem.reqs.any (fun p => p.1 != r && decide (p.2.came < q.came) && p.2.sector = q.sector && p.2.chan = q.chan && p.2.queued && kind p.2)

/-- Whether a read waits behind an earlier read of its sector; from an earlier write it takes its data (R219). -/
def State.readBehind (s : State) (r : Nat) (q : CtlReq) : Bool := s.earlierReq r q (fun p => !p.write)

/-- Whether a request finds its row open (R218). -/
def State.rowHit (s : State) (q : CtlReq) : Bool :=
  let l := s.locOf (32 * q.sector)
  SMap.get? (s.chan q.chan).openRows l.bank == some l.row

/-- Whether a read must let a row hit go first: one that arrived before it. Of hits that arrived after it, the time decides that the
model leaves out (R218). -/
def State.hitFirst (s : State) (r : Nat) (q : CtlReq) : Bool :=
  !s.rowHit q && s.mem.reqs.any (fun p => p.1 != r && decide (p.2.came < q.came) && p.2.chan = q.chan && !p.2.write && p.2.queued &&
    !p.2.waiting && s.rowHit p.2 && s.chanReady p.2.chan (s.locOf (32 * p.2.sector)).bank && !s.readBehind p.1 p.2)

/-- A read is answered. -/
def State.readDone (r : Nat) (q : CtlReq) (data : Bytes) (bad : Bool) (s : State) : State :=
  s.ctlReply r { q with data := data, poison := bad }

/-- A bad primary read of a mirrored line goes to the mirror's controller; any other is answered poisoned (R222, R229). -/
def State.badRead (r : Nat) (q : CtlReq) (data : Bytes) (s : State) : State :=
  if q.mirrored then
    let m := s.mirrorOf (32 * q.sector)
    (s.onReq r (fun q => { q with waiting := true })).ask
      { s.sectorReq (chanDie q.chan) (ctlStop q.chan) (m / 32) (.redirect r) with chan := s.chanFor (chanDie q.chan) m }
  else s.readDone r q data true

/-- What one read of a channel finds: the data, and whether it is bad; errors are counted and the row is opened. -/
def State.readChan (c sec : Nat) (found : Bytes × Bool) (err : ReadError) (s : State) : Bool × State :=
  if 2 ≤ s.chanState c then (true, s.refusedAt c)
  else
    let l := s.locOf (32 * sec)
    let s := s.onChan c (fun x => { x with openRows := SMap.put x.openRows l.bank l.row })
    match err with
    | .none => (found.2, s)
    | .one => if found.2 then (true, s) else (false, s.corrected c l.line)
    | _ => (true, s.uncorrectable c l.line l.sector false)

/-- CONTROLLER_READ: a sector read is served, one that a primary controller has redirected too (R218, R219, R222, R223, R229, R234). -/
def controllerRead (r : Nat) (err : ReadError) (s : State) : State :=
  match SMap.get? s.mem.reqs r with
  | none => s
  | some q =>
    if q.write || !q.queued || q.waiting || s.readBehind r q || s.hitFirst r q ||
       !s.chanReady q.chan (s.locOf (32 * q.sector)).bank then s
    else
      let found := s.sectorFor q
      let x := s.readChan q.chan q.sector found err
      if x.1 then x.2.badRead r q found.1 else x.2.readDone r q found.1 false

def execControllerRead (req : Nat) (err : ReadError) (s : State) : Host.Outcome State Fault Refusal := .next (controllerRead req err s)

/-- What the acceptance of a write lets go on at the home: a mirrored store's acknowledgment, or the ledger's decrement (R151, R152,
R174). A copy that a failed link has lost fails the store; a write-back that it has lost is sent again, or, to a die that cannot be
reached, is lost with it (R46, R54; DESIGN CHOICE: R46 gives a write-back no operation to answer it to). -/
def State.writeAccepted (q : CtlReq) (s : State) : State :=
  match q.who with
  | .mirror i => (s.onTxn i (fun t => { t with
      waitStack := t.waitStack - 1, status := if q.status = 0 then t.status else q.status })).ackTry i
  | .back h r last =>
    if q.status != 0 && s.canReach q.die (chanDie q.chan) then s.ask { q with done := false, status := 0 }
    else if last then s.ledgerDec h r
    else s
  | _ => s

/-- Acceptances that have come back to their slices take effect (R220). -/
def State.acceptances (s : State) : State :=
  each (s.mem.reqs.filter (fun p => p.2.write && p.2.done && !p.2.moving)) (fun p s => (s.delReq p.1).writeAccepted p.2) s

/-- What one write puts into a channel: a whole sector replaces the codeword, a partial one is merged with what the controller reads, and
a mark, or an uncorrectable read, leaves the mark (R220 to R223). -/
def State.writeChan (q : CtlReq) (err : ReadError) (s : State) : State :=
  if 2 ≤ s.chanState q.chan then s.refusedAt q.chan
  else if q.mask = 0 then s
  else
    let l := s.locOf (32 * q.sector)
    let s := s.onChan q.chan (fun x => { x with openRows := SMap.put x.openRows l.bank l.row })
    let put := fun (bad : Bool) (s : State) =>
      (s.onMem (fun m => { m with cells := cellsMask m.cells (32 * q.sector) q.mask q.data })).setMark q.sector bad
    if q.mask = fullMask then put q.poison s
    else
      let x := s.readChan q.chan q.sector (s.stackSector q.sector) err
      put (x.1 || q.poison) x.2

/-- CONTROLLER_WRITE: a write is accepted, and the acceptance sets out for its slice; a channel out of service or in test discards it
(R220, R223, R234, R237). Of a write that a failed link has lost the slice learns (R46). -/
def controllerWrite (r : Nat) (err : ReadError) (s : State) : State :=
  match SMap.get? s.mem.reqs r with
  | none => s
  | some q =>
    if !q.write || q.moving then s
    else if q.done then (s.delReq r).writeAccepted q
    else if s.earlierReq r q (fun p => !p.waiting) || !s.chanReady q.chan (s.locOf (32 * q.sector)).bank then s
    else
      let s := s.onMem (fun m => { m with reqs := SMap.mapVals m.reqs (fun _ p =>
        if p.sector = q.sector && p.chan = q.chan && !p.write && decide (p.came < q.came) && !p.moving then { p with overtaken := true } else p) })
      (s.writeChan q err).ctlReply r q

def execControllerWrite (req : Nat) (err : ReadError) (s : State) : Host.Outcome State Fault Refusal := .next (controllerWrite req err s)

/-- MIRROR_READ_RETURN: the mirror's answer reaches the primary controller. Good data goes home and, where no write has overtaken the
read, into the primary copy; a sector bad in both copies, or whose mirror cannot be reached, is answered poisoned (R229, R230). -/
def mirrorReadReturn (r : Nat) (s : State) : State :=
  match SMap.get? s.mem.reqs r with
  | none => s
  | some q => match q.who with
    | .redirect o =>
      if !q.done || q.moving then s
      else
        let s := s.delReq r
        match SMap.get? s.mem.reqs o with
        | none => s
        | some p =>
          if q.poison || q.status != 0 then (s.readDone o p q.data true).bump F.memMirrorStat_DOUBLE R.memMirrorStat 1
          else
            let later := s.mem.reqs.any (fun y => y.2.write && y.2.queued && y.2.sector = p.sector && decide (p.came < y.2.came))
            let s := if p.overtaken || later || decide (2 ≤ s.chanState p.chan) then s
              else (s.onMem (fun m => { m with cells := cellsMask m.cells (32 * p.sector) fullMask q.data })).setMark p.sector false
            (s.readDone o p q.data false).bump F.memMirrorStat_REDIRECTS R.memMirrorStat 1
    | _ => s

def execMirrorReadReturn (req : Nat) (s : State) : Host.Outcome State Fault Refusal := .next (mirrorReadReturn req s)

/-! ### Rows and refresh (R216 to R218) -/

/-- ROW_IDLE_CLOSE (R218). -/
def execRowIdleClose (chan bank : Nat) (s : State) : Host.Outcome State Fault Refusal :=
  .next (s.running (chanDie chan) (fun s => s.onChan chan (fun x => { x with openRows := SMap.del x.openRows bank })))

/-- PER_BANK_REFRESH: the next bank in turn is refreshed, its row closed (R216). -/
def execPerBankRefresh (chan : Nat) (s : State) : Host.Outcome State Fault Refusal :=
  .next (s.running (chanDie chan) (fun s => s.onChan chan (fun x => { x with
    openRows := SMap.del x.openRows x.refreshBank
    refreshBank := (x.refreshBank + 1) % 16 })))

/-- STACK_TEMPERATURE_REPORT: above 85 degrees the stack's channels refresh at the shorter interval, below 80 at the
longer one (R217). -/
def stackTemperatureReport (k temp : Nat) (s : State) : State :=
  if 16 ≤ k then s
  else
    let s := s.onDie (k / 2) (fun d => { d with temps := setNth d.temps (2 + k % 2) (fun _ => temp) })
    if 85 < temp then each (List.range 64) (fun c s => s.setF F.memChStat_REFRESH_2X (R.memChStat (64 * k + c)) 1) s
    else if temp < 80 then each (List.range 64) (fun c s => s.setF F.memChStat_REFRESH_2X (R.memChStat (64 * k + c)) 0) s
    else s

def execStackTemperatureReport (stack temp : Nat) (s : State) : Host.Outcome State Fault Refusal :=
  .next (s.powered (stackTemperatureReport stack temp))

/-! ### Scrubbing and row repair (R224 to R227) -/

/-- SCRUB_READ: the next sector of the channel in line-index order; an error is corrected, or recorded with SCRUB set
(R224). -/
def scrubRead (c : Nat) (err : ReadError) (s : State) : State :=
  if decide (1024 ≤ c) || s.chanState c != 1 || s.fld F.memScrubCtrl_PERIOD_H R.memScrubCtrl == 0 then s
  else
    let n := (s.chan c).scrub
    let line := n / 4
    let bad := s.marked (s.sectorOf c line (n % 4))
    let s := s.onChan c (fun x => { x with scrub := (n + 1) % s.chanSectors })
    match err with
    | .none => s
    | .one => if bad then s else s.corrected c line
    | _ => s.uncorrectable c line (n % 4) true

def execScrubRead (chan : Nat) (err : ReadError) (s : State) : Host.Outcome State Fault Refusal :=
  .next (s.running (chanDie chan) (scrubRead chan err))

/-- Whether a row meets a condition of R225: its corrected errors reach THRESH, or a read of it was uncorrectable. -/
def State.repairDue (s : State) (c bank row : Nat) : Bool :=
  let th := s.fld F.memRepairCtrl_THRESH R.memRepairCtrl
  (th != 0 && (s.chan c).hot.any (fun x => x.1 = bank && x.2.1 = row && decide (th ≤ x.2.2))) ||
  (SMap.getD s.ras.chanUe c []).contains (bank * 2 ^ 15 + row)

/-- ROW_REPAIR: the bank is held and a spare row taken; without one the refusal is counted (R225 to R227). -/
def rowRepair (c bank row : Nat) (s : State) : State :=
  if decide (1024 ≤ c) || decide (16 ≤ bank) || s.chanState c != 1 || !s.bit F.memRepairCtrl_REPAIR_EN R.memRepairCtrl ||
     (s.chan c).repairing.isSome || !s.repairDue c bank row then s
  else if 4 ≤ SMap.getD (s.chan c).spares bank 0 then
    (s.bump F.memChRepair_REPAIR_REFUSED (R.memChRepair c) 1).onChan c (fun x => { x with
      hot := x.hot.filter (fun h => !(h.1 = bank && h.2.1 = row)) })
  else
    (s.onChan c (fun x => { x with repairing := some (bank, row), spares := SMap.upd x.spares bank 0 (· + 1) })).setF
      F.memChStat_SPARES_LEFT (R.memChStat c) (s.fld F.memChStat_SPARES_LEFT (R.memChStat c) - 1)

def execRowRepair (chan bank row : Nat) (s : State) : Host.Outcome State Fault Refusal :=
  .next (s.running (chanDie chan) (rowRepair chan bank row))

/-- ROW_REPAIR_END: the row is remapped and logged; a sector that could not be corrected carries the mark, `bad` being its
place among the row's 64 (R226, R227). In test the repair pauses (R237). -/
def rowRepairEnd (c : Nat) (bad : List Nat) (s : State) : State :=
  match (s.chan c).repairing with
  | none => s
  | some (bank, row) =>
    if s.chanState c != 1 then s
    else
    let s := each (bad.filter (fun n => decide (n < 64))) (fun n s => s.setMark (s.sectorOf c (lineAt bank row (n / 4)) (n % 4)) true) s
    let log := (s.chan c).log
    let s := s.onChan c (fun x => { x with
      repairing := none, remap := x.remap ++ [(bank, row)], hot := x.hot.filter (fun h => !(h.1 = bank && h.2.1 = row))
      log := if log.length < 16 then log ++ [(bank, row)] else log })
    let s := s.setF F.memChRepair_LOGGED (R.memChRepair c) (min 16 (if log.length < 16 then log.length + 1 else log.length))
    let s := s.setF F.memChRepair_REPAIRS (R.memChRepair c) (min 64 (s.fld F.memChRepair_REPAIRS (R.memChRepair c) + 1))
    s.onRas (fun r => { r with chanUe := SMap.modify r.chanUe c (fun l => delNum l (bank * 2 ^ 15 + row)) })

def execRowRepairEnd (chan : Nat) (bad : List Nat) (s : State) : Host.Outcome State Fault Refusal :=
  .next (s.running (chanDie chan) (rowRepairEnd chan bad))

/-! ### Service (R227, R234, R451) -/

/-- A channel leaves service at once (R234). -/
def State.chanOut (c : Nat) (s : State) : State :=
  let s := if s.bit F.memChCtrl_TEST (R.memChCtrl c) then s.setF F.memChCtrl_TEST (R.memChCtrl c) 0 else s
  ((s.setF F.memChStat_STATE (R.memChStat c) 3).onChan c (fun x =>
    { x with clearing := false, repairing := none })).onRas (fun r => { r with chanOut := addNum r.chanOut c })

/-- A channel leaves service at once, and the event is reported (R234, R451). -/
def State.chanOutOfService (c : Nat) (s : State) : State := (s.chanOut c).ras0 0x06 4 c 0xFFFF (chanDie c)

/-! ### Stages of the boot (R475) -/

/-- A clear of a set starts: its sectors read as zeros, writes that were queued for it are written over, and the requests to it wait
until CLEARING is 0 (R233). -/
def State.clearSet (j : Nat) (s : State) : State :=
  if s.bit F.memSetStat_CLEARING (R.memSetStat j) then s
  else
    let lo := j * 2 ^ s.setBits
    (s.onMem (fun m => { m with
      cells := cellsZero m.cells lo (2 ^ s.setBits)
      spoiled := m.spoiled.map (fun x => { x with cleared := x.cleared ++ [(lo, lo + 2 ^ s.setBits)] })
      reqs := SMap.mapVals m.reqs (fun _ r => if r.write && s.setOf (32 * r.sector) = j then { r with mask := 0, poison := false } else r)
      marks := m.marks.filter (fun k => decide (32 * k < lo) || decide (lo + 2 ^ s.setBits ≤ 32 * k)) })).setF
      F.memSetStat_CLEARING (R.memSetStat j) 1

def State.setStage (n : Nat) (s : State) : State := s.setF F.secBoot_STAGE R.secBoot n

/-- The boot goes on once its last channel has been trained, and once the last set has been cleared; then the darning record
is awaited (R455, R475). When no set is being cleared, configuration requests complete (R16). -/
def State.bootSettle (s : State) : State :=
  let s := if s.stage = 2 ∧ (List.range 1024).all (fun c => s.chanState c != 0) then s.setStage 3 else s
  let clear := (List.range 16).all (fun j => !s.bit F.memSetStat_CLEARING (R.memSetStat j))
  let s := if clear then s.onHost (fun h => { h with rrs := false }) else s
  if s.stage = 3 ∧ clear then (s.setStage 4).onRas (fun r => { r with recordWait := true }) else s

/-- CHANNEL_TRAINING: the active Winder trains a channel and writes its repair log into the stack's permanent repair; a
channel that fails leaves service (R227, R448, R451). -/
def channelTraining (c : Nat) (ok : Bool) (s : State) : State :=
  if decide (1024 ≤ c) || s.chanState c != 0 || (s.chan c).clearing || s.ras.chanOut.contains c then s
  else if ok then
    ((s.onChan c (fun x => { x with log := [], remap := x.remap.filter (fun r => !x.log.contains r) })).wr (R.memChRepair c)
      (Fset F.memChRepair_LOGGED 0 (Fset F.memChRepair_REPAIRS 0 (s.rd (R.memChRepair c))))).setF F.memChStat_STATE (R.memChStat c) 1 |>.bootSettle
  else (s.chanOutOfService c).newDarning.bootSettle

def execChannelTraining (chan : Nat) (ok : Bool) (s : State) : Host.Outcome State Fault Refusal := .next (s.running (chanDie chan) (channelTraining chan ok))

/-! ### Channel sets (R212, R233, R236) -/

/-- SET_CLEAR (R233). -/
def execSetClear (set : Nat) (s : State) : Host.Outcome State Fault Refusal := .next (if set < 16 then s.clearSet set else s)

/-- SET_CLEAR_END (R233). -/
def execSetClearEnd (set : Nat) (s : State) : Host.Outcome State Fault Refusal :=
  .next (s.powered (fun s => if set < 16 then (s.setF F.memSetStat_CLEARING (R.memSetStat set) 0).bootSettle else s))

/-- MEM_SET_CTRL_WRITE: MODE and COMMON change only while the set has no owner and no clear runs; the other fields of the
write take effect (R236). -/
def memSetCtrlWrite (j : Nat) (w : Word) (s : State) : State :=
  if 16 ≤ j then s
  else
    let off := R.memSetCtrl j
    let changes := Fget F.memSetCtrl_MODE w != s.fld F.memSetCtrl_MODE off || Fget F.memSetCtrl_COMMON w != s.fld F.memSetCtrl_COMMON off
    let free := decide (16 ≤ s.fld F.memSetStat_OWNER (R.memSetStat j)) && !s.bit F.memSetStat_CLEARING (R.memSetStat j)
    let s := s.setF F.memSetCtrl_WRITE_OPEN off (Fget F.memSetCtrl_WRITE_OPEN w)
    let s :=
      if changes && free then
        (((s.setF F.memSetCtrl_MODE off (Fget F.memSetCtrl_MODE w)).setF F.memSetCtrl_COMMON off (Fget F.memSetCtrl_COMMON w)).setF
          F.memSetStat_OWNER (R.memSetStat j) (if Fbit F.memSetCtrl_COMMON w then 16 else 31)).clearSet j
      else if changes then s.setF F.memSetStat_REFUSED (R.memSetStat j) 1
      else s
    if Fbit F.memSetCtrl_CLEAR w then s.clearSet j else s

def execMemSetCtrlWrite (set : Nat) (w : Word) (s : State) : Host.Outcome State Fault Refusal :=
  .next (s.atReg (R.memSetCtrl set) (fun s => memSetCtrlWrite set w s))

/-! ### Test state (R237) -/

/-- MEM_CH_TEST_ENTER: accepted for a channel in or out of service whose set is unowned and not common (R237). -/
def memChTestEnter (c : Nat) (s : State) : State :=
  if 1024 ≤ c then s
  else
    let st := s.chanState c
    if (st = 1 ∨ st = 3) ∧ s.fld F.memSetStat_OWNER (R.memSetStat (chanSet c)) = 31 then
      ((s.setF F.memChCtrl_TEST (R.memChCtrl c) 1).setF F.memChStat_STATE (R.memChStat c) 2).onChan c (fun x => { x with before := st })
    else s.setF F.memChCtrl_REFUSED (R.memChCtrl c) 1

def execMemChTestEnter (chan : Nat) (s : State) : Host.Outcome State Fault Refusal :=
  .next (s.atReg (R.memChCtrl chan) (fun s => memChTestEnter chan s))

/-- MEM_CH_TEST_EXIT: the channel leaves the test state and clears itself; STATE reads 0 meanwhile (R237). -/
def memChTestExit (c : Nat) (s : State) : State :=
  if decide (1024 ≤ c) || s.chanState c != 2 then s
  else
    (((s.setF F.memChCtrl_TEST (R.memChCtrl c) 0).setF F.memChStat_STATE (R.memChStat c) 0).onChan c (fun x => { x with clearing := true })).onMem
      (fun m => { m with
        cells := m.cells.filter (fun x => isToile x.1 || (s.locOf x.1).chan != c)
        spoiled := m.spoiled.map (fun x => { x with chans := addNum x.chans c })
        marks := m.marks.filter (fun k => (s.locOf (32 * k)).chan != c) })

def execMemChTestExit (chan : Nat) (s : State) : Host.Outcome State Fault Refusal :=
  .next (s.atReg (R.memChCtrl chan) (fun s => memChTestExit chan s))

/-- TEST_CLEAR_END: the channel returns to the state it held before test (R237). -/
def testClearEnd (c : Nat) (s : State) : State :=
  if (s.chan c).clearing then
    (s.setF F.memChStat_STATE (R.memChStat c) (s.chan c).before).onChan c (fun x => { x with clearing := false })
  else s

def execTestClearEnd (chan : Nat) (s : State) : Host.Outcome State Fault Refusal :=
  .next (s.running (chanDie chan) (testClearEnd chan))

/-- MEM_CH_ERR_CLEAR (R235). -/
def execMemChErrClear (chan : Nat) (s : State) : Host.Outcome State Fault Refusal :=
  .next (s.atReg (R.memChErr chan) (fun s => if chan < 1024 then
    (s.setF F.memChErr_CORRECTED (R.memChErr chan) 0).setF F.memChErr_UNCORRECTABLE (R.memChErr chan) 0 else s))

/-- MEM_MIRROR_STAT_CLEAR (R235). -/
def execMemMirrorStatClear (s : State) : Host.Outcome State Fault Refusal :=
  .next (s.atReg R.memMirrorStat (fun s => ((s.setF F.memMirrorStat_REDIRECTS R.memMirrorStat 0).setF F.memMirrorStat_DOUBLE R.memMirrorStat 0).setF
    F.memMirrorStat_SINGLE R.memMirrorStat 0))

/-! ### Traffic generators (R238) -/

/-- The last row of a bank (R209). -/
def State.lastRow (s : State) : Nat := if s.part.high then 16383 else 32767

/-- Whether a run may start (R238). -/
def State.tgcOk (s : State) (c : Nat) : Bool :=
  let lo := s.fld F.tgcRange_ROW_FIRST (R.tgcRange c)
  let hi := s.fld F.tgcRange_ROW_LAST (R.tgcRange c)
  s.chanState c == 2 && decide (lo ≤ hi) && decide (hi ≤ s.lastRow) && decide (s.fld F.tgcCfg_PATTERN (R.tgcCfg c) ≤ 5)

/-- TGC_START: OP and RANDOM take their values; a START is accepted in test state alone (R238). -/
def tgcStart (c : Nat) (w : Word) (s : State) : State :=
  if 1024 ≤ c then s
  else
    let s := (s.setF F.tgcCtrl_OP (R.tgcCtrl c) (Fget F.tgcCtrl_OP w)).setF F.tgcCtrl_RANDOM (R.tgcCtrl c) (Fget F.tgcCtrl_RANDOM w)
    if !Fbit F.tgcCtrl_START w || s.bit F.tgcCtrl_START (R.tgcCtrl c) then s
    else if s.tgcOk c then
      ((((s.setF F.tgcCtrl_START (R.tgcCtrl c) 1).setF F.tgcStat_DONE (R.tgcStat c) 0).setF F.tgcStat_PASS (R.tgcStat c) 0).wr (R.tgcErr c) 0).setF
        F.tgcFirst_VALID (R.tgcFirst c) 0
    else s.setF F.tgcStat_REFUSED (R.tgcStat c) 1

def execTgcStart (chan : Nat) (w : Word) (s : State) : Host.Outcome State Fault Refusal :=
  .next (s.atReg (R.tgcCtrl chan) (fun s => tgcStart chan w s))

/-- TGC_STOP: a write of STOP, whose other fields act as at a START, ends the run after the sector in progress (R238). -/
def tgcStop (c : Nat) (w : Word) (s : State) : State :=
  let s := tgcStart c w s
  if decide (c < 1024) && Fbit F.tgcCtrl_STOP w && s.bit F.tgcCtrl_START (R.tgcCtrl c) then s.setF F.tgcCtrl_STOP (R.tgcCtrl c) 1 else s

def execTgcStop (chan : Nat) (w : Word) (s : State) : Host.Outcome State Fault Refusal :=
  .next (s.atReg (R.tgcCtrl chan) (fun s => tgcStop chan w s))

/-- TGC_RUN_END: a run over its passes, or stopped, ends and reports (R238). A run that only writes, or only reads, compares
nothing. -/
def tgcRunEnd (c : Nat) (x : TgcResult) (s : State) : State :=
  if decide (1024 ≤ c) || !s.bit F.tgcCtrl_START (R.tgcCtrl c) ||
     (s.fld F.tgcCfg_PASSES (R.tgcCfg c) == 0 && !s.bit F.tgcCtrl_STOP (R.tgcCtrl c)) then s
  else
    let n := if s.fld F.tgcCtrl_OP (R.tgcCtrl c) % 2 = 1 then 0 else min 0x3FFF x.errors
    let s := (s.setF F.tgcCtrl_START (R.tgcCtrl c) 0).setF F.tgcCtrl_STOP (R.tgcCtrl c) 0
    let s := ((s.setF F.tgcStat_DONE (R.tgcStat c) 1).setF F.tgcStat_PASS (R.tgcStat c) (if n = 0 then 1 else 0)).setF
      F.tgcStat_BW (R.tgcStat c) (min 0xFFFF x.bw)
    if n = 0 then s
    else
      ((s.setF F.tgcErr_ERRORS (R.tgcErr c) n).setF F.tgcErr_PINS (R.tgcErr c) x.pins).wr (R.tgcFirst c)
        (Fset F.tgcFirst_LINE x.line (Fset F.tgcFirst_SECTOR x.sector (Fset F.tgcFirst_VALID 1 0)))

def execTgcRunEnd (chan : Nat) (result : TgcResult) (s : State) : Host.Outcome State Fault Refusal :=
  .next (s.running (chanDie chan) (tgcRunEnd chan result))

end Sys2Proof.Machine
end

