-- ==== Sys2Proof/Machine/Hoops.lean ====
section
/-!
DEFINITION. Hoops: their enabling and disabling, the maps of engines and functions, and the end of a time slice (R280,
R284, R312 to R318, R322 to R324, R347).
-/
namespace Sys2Proof.Machine

/-! ### A hoop's resources (R312 to R314) -/

/-- STATE of a hoop. -/
def State.hoopSt (s : State) (h : Nat) : Nat := s.fld F.hoopStat_STATE (R.hoopStat h)

/-- Engines in service that are mapped to a hoop, and those of them that are reserved. -/
def State.hoopEngines (s : State) (h : Nat) : List Nat :=
  allEngines.filter (fun e => s.engHoop e == some h && s.fld F.engStat_STATE (R.engStat e) == 1)
def State.hoopReserved (s : State) (h : Nat) : List Nat :=
  (s.hoopEngines h).filter (fun e => s.bit F.hoopEngMap_RT (R.hoopEngMap e))

/-- The channel sets that HOOP_CHSETS names. -/
def State.hoopSets (s : State) (h : Nat) : List Nat :=
  (List.range 16).filter (fun j => (s.fld F.hoopChsets_SETS (R.hoopChsets h)).testBit j)

/-- First pillow entry of a hoop and the number of its entries, on every die. -/
def State.hoopPil (s : State) (h : Nat) : Nat × Nat :=
  (s.fld F.hoopPil_FIRST (R.hoopPil h), s.fld F.hoopPil_COUNT (R.hoopPil h))

/-- Whether a channel is in test state, or clears itself after test (R237). -/
def State.chanTested (s : State) (c : Nat) : Bool := s.chanState c == 2 || (s.chan c).clearing

/-- Whether the whole save pool lies in sets that HOOP_CHSETS names. -/
def State.poolInside (s : State) (h : Nat) : Bool :=
  let p := s.savePool h
  s.fld F.hoopSaveSlots_SLOTS (R.hoopSaveSlots h) != 0 && decide (p.1 + p.2 ≤ s.stackEnd) &&
  (List.range 16).all (fun j => (s.hoopSets h).contains j ||
    decide (p.1 + p.2 ≤ j * 2 ^ s.setBits) || decide ((j + 1) * 2 ^ s.setBits ≤ p.1))

/-- Whether the pillow range lies within 0 to 2,047 and overlaps no enabled hoop's. -/
def State.pilRangeOk (s : State) (h : Nat) : Bool :=
  let a := s.hoopPil h
  decide (a.1 + a.2 ≤ 2048) && (List.range 16).all (fun k =>
    let b := s.hoopPil k
    k == h || (s.hoopSt k != 1 && s.hoopSt k != 2) || decide (a.1 + a.2 ≤ b.1) || decide (b.1 + b.2 ≤ a.1) || a.2 == 0 || b.2 == 0)

/-- The REASON of the first check that a write of 1 to ENABLE fails (R314, R479, R487); none where all pass. -/
def State.enableFails (s : State) (h : Nat) : Option Nat :=
  let sets := s.hoopSets h
  let checks : List (Nat × Bool) :=
    [(9, !s.bit F.secStat_DEBUG R.secStat),
     (10, !s.bit F.secStat_RNG_FAIL R.secStat),
     (1, !(s.hoopEngines h).isEmpty),
     (2, decide ((s.hoopReserved h).length ≤ (s.hoopEngines h).length / 2)),
     (3, sets.all (fun j => s.fld F.memSetStat_OWNER (R.memSetStat j) == 31)),
     (11, !((List.range 1024).any (fun c => sets.contains (chanSet c) && s.chanTested c))),
     (4, s.poolInside h),
     (5, s.pilRangeOk h),
     (6, (List.range 64).all (fun n => !s.bit F.hoopEset_VALID (R.hoopEset h n) || !(s.members h n).isEmpty))]
  (checks.find? (fun p => !p.2)).map (·.1)

/-! ### Enabling and disabling (R315, R316) -/

/-- A write to a hoop is refused with a REASON. -/
def State.hoopRefuse (h reason : Nat) (s : State) : State :=
  (s.setF F.hoopCtrl_REFUSED (R.hoopCtrl h) 1).setF F.hoopCtrl_REASON (R.hoopCtrl h) reason

/-- The sets of a hoop take an owner and are cleared (R233). -/
def State.ownSets (h owner : Nat) (s : State) : State :=
  each (s.hoopSets h) (fun j t => (t.setF F.memSetStat_OWNER (R.memSetStat j) owner).clearSet j) s

/-- An accepted enable: the sets are owned, a new key replaces the old one, and the sets are cleared (R232, R315). -/
def State.hoopUp (h : Nat) (s : State) : State :=
  let s := ((s.setF F.hoopCtrl_ENABLE (R.hoopCtrl h) 1).setF F.hoopCtrl_BUSY (R.hoopCtrl h) 1).setF F.hoopStat_STATE (R.hoopStat h) 1
  let s := (s.ownSets h h).onMem (fun m => { m with keyGen := SMap.upd m.keyGen h 0 (· + 1) })
  s.onHoop h (fun x => { x with rollDie := s.fld F.hoopCtrl_MGR_DIE (R.hoopCtrl h) })

/-- The queues of a hoop of a kind that are bound. -/
def State.boundRt (s : State) (h : Nat) : List Nat :=
  (s.objs.queues.filter (fun p => p.2.kind == .realTime && p.2.bound && s.queueHoop p.2 == some h)).map (·.1)

/-- The roll of a hoop stops: no entry comes due, and each of its queues is unbound once it is idle (R340). -/
def State.rollOff (h : Nat) (s : State) : State :=
  each (s.boundRt h) (fun q t =>
    if (t.queue? q).any (fun u => u.hasRun .held) then (t.dropHeld q).unbind q
    else if (t.queue? q).any (fun u => u.run.isNone) then t.unbind q
    else t.onQueue q (fun u => { u with sliceOver := true })) (s.setF F.rollCtrl_EN (R.rollCtrl h) 0)

/-- An accepted disable: the roll stops, the save pool is emptied, and the sets become unowned and are cleared (R316). -/
def State.hoopDown (h : Nat) (s : State) : State :=
  let s := (s.rollOff h).onHoop h (fun x => { x with freeSlots := [], preempting := [] })
  let s := s.ownSets h 31
  ((s.setF F.hoopCtrl_ENABLE (R.hoopCtrl h) 0).setF F.hoopCtrl_BUSY (R.hoopCtrl h) 1).setF F.hoopStat_STATE (R.hoopStat h) 3

/-- The functions of a hoop, and whether a function holds a context in a state other than free. -/
def State.hoopFns (s : State) (h : Nat) : List Nat := (List.range 128).filter (fun f => s.fnHoop f == some h)
def State.fnHolds (s : State) (f : Nat) : Bool := s.objs.ctxs.any (fun p => p.2.fn = f && p.2.st != .free)

/-- A write of HOOP_CTRL (R314 to R317). -/
def State.hoopCtrlWrite (h : Nat) (w : Word) (s : State) : State :=
  let off := R.hoopCtrl h
  let st := s.hoopSt h
  let s := if Fbit F.hoopCtrl_REFUSED w then s.setF F.hoopCtrl_REFUSED off 0 else s
  let s := if Fget F.hoopCtrl_MGR_DIE w = s.fld F.hoopCtrl_MGR_DIE off then s
    else if st = 0 then s.setF F.hoopCtrl_MGR_DIE off (Fget F.hoopCtrl_MGR_DIE w)
    else s.hoopRefuse h 8
  let en := Fbit F.hoopCtrl_ENABLE w
  if st = 0 then
    if !en then s
    else match s.enableFails h with
    | some r => s.hoopRefuse h r
    | none => s.hoopUp h
  else if st = 2 then
    if en then s
    else if (s.hoopFns h).any s.fnHolds then s.hoopRefuse h 7
    else s.hoopDown h
  else s.hoopRefuse h 13

/-- HOOP_ENABLE: a write of HOOP_CTRL with ENABLE 1. -/
def hoopEnable (h : Nat) (w : Word) (s : State) : State :=
  if h < 16 ∧ Fbit F.hoopCtrl_ENABLE w then s.hoopCtrlWrite h w else s

def execHoopEnable (hoop : Nat) (w : Word) (s : State) : Host.Outcome State Fault Refusal :=
  .next (s.atReg (R.hoopCtrl hoop) (fun s => hoopEnable hoop w s))

/-- HOOP_DISABLE: a write of HOOP_CTRL with ENABLE 0. -/
def hoopDisable (h : Nat) (w : Word) (s : State) : State :=
  if h < 16 ∧ !Fbit F.hoopCtrl_ENABLE w then s.hoopCtrlWrite h w else s

def execHoopDisable (hoop : Nat) (w : Word) (s : State) : Host.Outcome State Fault Refusal :=
  .next (s.atReg (R.hoopCtrl hoop) (fun s => hoopDisable hoop w s))

/-- Whether the clear of a hoop's sets has ended. -/
def State.setsClear (s : State) (h : Nat) : Bool :=
  (s.hoopSets h).all (fun j => !s.bit F.memSetStat_CLEARING (R.memSetStat j))

/-- ENG_STAT.HOOP and HOOP_VALID take the mapping of every engine (R315). -/
def State.takeEngMap (s : State) : State :=
  each (allEngines.filter (fun e => s.fld F.engStat_HOOP (R.engStat e) != s.fld F.hoopEngMap_HOOP (R.hoopEngMap e) ||
      s.fld F.engStat_HOOP_VALID (R.engStat e) != s.fld F.hoopEngMap_VALID (R.hoopEngMap e)))
    (fun e t => (t.setF F.engStat_HOOP (R.engStat e) (s.fld F.hoopEngMap_HOOP (R.hoopEngMap e))).setF
      F.engStat_HOOP_VALID (R.engStat e) (s.fld F.hoopEngMap_VALID (R.hoopEngMap e))) s

/-- HOOP_ENABLE_DONE: the clear has ended; every save slot is placed on the free list, the engines' status takes the map,
and BUSY reads 0 (R315). -/
def hoopEnableDone (h : Nat) (s : State) : State :=
  if decide (h < 16) && s.hoopSt h == 1 && s.setsClear h then
    let s := (s.onHoop h (fun x => { x with freeSlots := List.range (s.fld F.hoopSaveSlots_SLOTS (R.hoopSaveSlots h)) })).takeEngMap
    (s.setF F.hoopCtrl_BUSY (R.hoopCtrl h) 0).setF F.hoopStat_STATE (R.hoopStat h) 2
  else s

def execHoopEnableDone (hoop : Nat) (s : State) : Host.Outcome State Fault Refusal := .next (hoopEnableDone hoop s)

/-- HOOP_DISABLE_DONE: the clear has ended (R316). -/
def hoopDisableDone (h : Nat) (s : State) : State :=
  if decide (h < 16) && s.hoopSt h == 3 && s.setsClear h then
    (s.setF F.hoopCtrl_BUSY (R.hoopCtrl h) 0).setF F.hoopStat_STATE (R.hoopStat h) 0
  else s

def execHoopDisableDone (hoop : Nat) (s : State) : Host.Outcome State Fault Refusal := .next (hoopDisableDone hoop s)

/-! ### The maps of engines and functions (R280, R284, R317) -/

/-- HOOP_ENG_MAP_WRITE: ignored where it takes an engine from a hoop whose STATE is not 0, gives one to such a hoop, or
changes RT of an engine of one; each hoop concerned is refused with REASON 8. -/
def hoopEngMapWrite (e : Nat) (w : Word) (s : State) : State :=
  if !engineId e then s
  else
    let off := R.hoopEngMap e
    let new : Option Nat := if Fbit F.hoopEngMap_VALID w then some (Fget F.hoopEngMap_HOOP w) else none
    let old := s.engHoop e
    let rt := Fget F.hoopEngMap_RT w != s.fld F.hoopEngMap_RT off
    let live := fun (h : Option Nat) => h.any (fun h => s.hoopSt h != 0)
    let hit := (if live old && (new != old || rt) then old.toList else []) ++ (if live new && new != old then new.toList else [])
    if hit.isEmpty then s.wr off (w &&& 0x3F#32) else each hit (fun h t => t.hoopRefuse h 8) s

def execHoopEngMapWrite (eng : Nat) (w : Word) (s : State) : Host.Outcome State Fault Refusal :=
  .next (s.atReg (R.hoopEngMap eng) (fun s => hoopEngMapWrite eng w s))

/-- The contexts of a function are destroyed without a record of its own, and its admin queue stops (R344). -/
def State.stopFn (f : Nat) (s : State) : State :=
  let cs := (s.objs.ctxs.filter (fun p => p.2.fn = f && (p.2.st == .live || p.2.st == .faulted))).map (·.1)
  let s := s.onObjs (fun o => { o with ctxs := SMap.mapVals o.ctxs (fun _ c =>
    if c.fn = f && (c.st == .destroying || c.st == .retiring) then { c with quiet := true } else c) })
  let s := each cs (fun n t => t.destroyCtx n 0 0 true) s
  (s.setF F.qfeFnAdmqCtrl_EN (R.qfeFnAdmqCtrl f) 0).onAdm f (fun a => { a with
    held := [], eyeletOut := false, descOut := false, wake := false, cmd := none, stale := false })

/-- Whether a function's TDI is locked or running (R280). -/
def State.tdiHeld (s : State) (f : Nat) : Bool := s.tdi f == .locked || s.tdi f == .run

/-- A write that R280 ignores: the TDI moves to ERROR and its function's queues stop. -/
def State.tdiError (f : Nat) (s : State) : State :=
  (s.onHost (fun h => { h with tdi := SMap.put h.tdi f .error })).stopFn f

/-- HOOP_FN_MAP_WRITE: R280 first; then a function that holds a context stays with its hoop (REASON 12). -/
def hoopFnMapWrite (f : Nat) (w : Word) (s : State) : State :=
  if 128 ≤ f then s
  else if s.tdiHeld f then s.tdiError f
  else
    let new : Option Nat := if Fbit F.hoopFnMap_VALID w then some (Fget F.hoopFnMap_HOOP w) else none
    match s.fnHoop f with
    | some h => if new ≠ some h ∧ s.fnHolds f then s.hoopRefuse h 12 else s.wr (R.hoopFnMap f) (w &&& 0x1F#32)
    | none => s.wr (R.hoopFnMap f) (w &&& 0x1F#32)

def execHoopFnMapWrite (fn : Nat) (w : Word) (s : State) : Host.Outcome State Fault Refusal :=
  .next (s.atReg (R.hoopFnMap fn) (fun s => hoopFnMapWrite fn w s))

/-- HOOP_SAVE_STAT_CLEAR (R347). -/
def execHoopSaveStatClear (hoop : Nat) (s : State) : Host.Outcome State Fault Refusal :=
  .next (s.atReg (R.hoopSaveStat hoop) (fun s => if hoop < 16 then s.setF F.hoopSaveStat_SHORT (R.hoopSaveStat hoop) 0 else s))

/-- HOOP_PREEMPT_CLEAR (R347). -/
def execHoopPreemptClear (hoop : Nat) (s : State) : Host.Outcome State Fault Refusal :=
  .next (s.atReg (R.hoopPreempt hoop) (fun s => if hoop < 16 then (s.setF F.hoopPreempt_KNOT_SAVES (R.hoopPreempt hoop) 0).setF
    F.hoopPreempt_FULL_SAVES (R.hoopPreempt hoop) 0 else s))

/-! ### Time slices (R322 to R324) -/

/-- Whether a bound queue's slice ends for a waiting queue of equal or higher PRIO that an engine of it has no room for (R322;
DEDUCED: an engine with room for the waiting queue is not what it waits for), or for an engine that is being darned (R449). -/
def State.needed (s : State) (u : Queue) (h : Nat) : Bool :=
  u.members.any s.darningEngine || (s.waitingQueues h).any (fun w => (s.queue? w).any (fun v =>
    decide (u.prio ≤ v.prio) && (s.wants w v).any (fun e => u.members.contains e && !s.engFits v e)))

/-- SLICE_END: a bound compute queue whose engines a waiting queue of equal or higher PRIO needs is unbound in the way of
its command; any other starts a new slice. The scheduler decides. -/
def sliceEnd (q : Nat) (s : State) : State :=
  match s.queue? q with
  | none => s
  | some u => match s.queueHoop u with
    | none => s
    | some h =>
      if u.kind = .compute ∧ u.bound then (if s.needed u h then s.startUnbind q else s).reschedule h else s

def execSliceEnd (queue : Nat) (s : State) : Host.Outcome State Fault Refusal := .next (sliceEnd queue s)

end Sys2Proof.Machine
end

