-- ==== Sys2Proof/Machine/Rolls.lean ====
section
/-!
DEFINITION. The pattern roll and the aligned launch (R260, R325, R336 to R343, R347).
-/
namespace Sys2Proof.Machine

/-! ### The roll's registers (R336, R337) -/

def State.rollOffset (s : State) (h i : Nat) : Nat := s.fld F.rollEntLo_OFFSET (R.rollEntLo h i)
def State.rollQueue (s : State) (h i : Nat) : Nat := s.fld F.rollEntHi_QUEUE (R.rollEntHi h i)
def State.rollEset (s : State) (h i : Nat) : Nat := s.fld F.rollEntHi_ESET (R.rollEntHi h i)

/-- Whether numbers do not decrease. -/
def rising : List Nat → Bool
  | a :: b :: r => decide (a ≤ b) && rising (b :: r)
  | _ => true

/-- The queues that the entries name, each with its engine set. -/
def State.rollQueues (s : State) (h : Nat) (ps : List Nat) : List (Nat × Nat) :=
  (ps.map (fun i => (s.rollQueue h i, s.rollEset h i))).eraseDups

/-- The checks of a write of 1 to EN (R337). -/
def State.rollOk (s : State) (h count : Nat) : Bool :=
  let ps := s.rollParts h count
  let qs := s.rollQueues h ps
  s.hoopSt h == 2 && decide (1250 ≤ s.fld F.rollPeriod_PERIOD (R.rollPeriod h)) && rising (ps.map (s.rollOffset h)) &&
  ps.all (fun i => decide (s.rollOffset h i < s.fld F.rollPeriod_PERIOD (R.rollPeriod h))) &&
  qs.all (fun p => (s.queue? p.1).any (fun u => u.st == .live && u.kind == .realTime && s.queueHoop u == some h)) &&
  qs.all (fun p => s.bit F.hoopEset_VALID (R.hoopEset h p.2) && s.bit F.hoopEset_RT (R.hoopEset h p.2)) &&
  decide ((qs.map (·.1)).eraseDups.length = qs.length) &&
  (s.hoopReserved h).all (fun e => decide (
    (((s.boundOn e).map (·.1)) ++ ((qs.filter (fun p => s.isMember h p.2 e)).map (·.1))).eraseDups.length ≤ 4))

/-- A real-time queue of a roll that is enabled is bound to the members of its entries' set, once resident slots are free
(R283, R325) and no darning of a member is under way (R449); one that is bound takes up its work. -/
def State.bindRt (q : Nat) (s : State) : State :=
  match s.queue? q with
  | none => s
  | some u =>
    if u.bound then (s.onQueue q (fun u => { u with sliceOver := u.sliceOver && u.members.any s.darningEngine })).pull q
    else if s.slotsFree u && !(s.setNow q u).any s.darningEngine then s.bind q
    else s

/-- The index of the next entry to come due, and whether a pass ends before it. -/
def nextEntry (ps : List Nat) (after : Nat) : Nat × Bool :=
  match ps.find? (fun i => decide (after < i)) with
  | some i => (i, false)
  | none => (ps.headD 0, true)

/-- A roll starts at pass 0, with S 10,000 cycles after the managing die's count (R338). -/
def State.rollStart (h : Nat) (s : State) : State :=
  let s := s.passTime
  let ps := s.rollParts h (s.fld F.rollCtrl_COUNT (R.rollCtrl h))
  (s.onHoop h (fun x => { x with rollStart := s.count x.rollDie + 10000 })).wr (R.rollPos h) (BitVec.ofNat 32 (ps.headD 0))

/-- A write of ROLL_CTRL. Of one that asks for EN and is refused, COUNT takes effect only while EN is 0. -/
def State.rollCtrlWrite (h : Nat) (w : Word) (s : State) : State :=
  let off := R.rollCtrl h
  let on := s.bit F.rollCtrl_EN off
  let count := Fget F.rollCtrl_COUNT w
  let s := if Fbit F.rollCtrl_REFUSED w then s.setF F.rollCtrl_REFUSED off 0 else s
  if Fbit F.rollCtrl_EN w then
    if s.rollOk h count then
      let s := (s.setF F.rollCtrl_COUNT off count).setF F.rollCtrl_EN off 1
      let s := each (s.rollQueues h (s.rollParts h count)) (fun p t => t.bindRt p.1) s
      if on then s else s.rollStart h
    else (if on then s else s.setF F.rollCtrl_COUNT off count).setF F.rollCtrl_REFUSED off 1
  else (s.setF F.rollCtrl_COUNT off count).rollOff h

/-- ROLL_ENABLE: a write of ROLL_CTRL with EN 1. -/
def rollEnable (h : Nat) (w : Word) (s : State) : State :=
  if h < 16 ∧ Fbit F.rollCtrl_EN w then s.rollCtrlWrite h w else s

def execRollEnable (hoop : Nat) (w : Word) (s : State) : Host.Outcome State Fault Refusal :=
  .next (s.atReg (R.rollCtrl hoop) (fun s => rollEnable hoop w s))

/-- ROLL_DISABLE: a write of ROLL_CTRL with EN 0. -/
def rollDisable (h : Nat) (w : Word) (s : State) : State :=
  if h < 16 ∧ !Fbit F.rollCtrl_EN w then s.rollCtrlWrite h w else s

def execRollDisable (hoop : Nat) (w : Word) (s : State) : Host.Outcome State Fault Refusal :=
  .next (s.atReg (R.rollCtrl hoop) (fun s => rollDisable hoop w s))

/-! ### Entries and aligned launches (R338 to R342) -/

/-- ROLL_ENTRY_DUE: the next entry comes due. Its queue's held LAUNCH starts; a queue still running a command counts a miss
(R339). -/
def rollEntryDue (h : Nat) (s : State) : State :=
  if decide (16 ≤ h) || !s.bit F.rollCtrl_EN (R.rollCtrl h) then s
  else
    let ps := s.rollParts h (s.fld F.rollCtrl_COUNT (R.rollCtrl h))
    if ps.isEmpty then s
    else
      let i := s.fld F.rollPos_INDEX (R.rollPos h)
      let q := s.rollQueue h i
      let n := nextEntry ps i
      let pass := s.fld F.rollPos_PASS (R.rollPos h)
      let s := (s.setF F.rollPos_INDEX (R.rollPos h) n.1).setF F.rollPos_PASS (R.rollPos h) (if n.2 then pass + 1 else pass)
      match s.queue? q with
      | none => s
      | some u => match u.run with
        | none => s
        | some r =>
          if r.phase = .held ∧ descOp r.desc = 2 ∧ u.st = .live then
            s.alignedLaunch h q (s.fld F.rollLead_LEAD (R.rollLead h)) false
          else if r.phase = .held then s
          else s.bump F.rollStat_MISSED (R.rollStat h) 1

def execRollEntryDue (hoop : Nat) (s : State) : Host.Outcome State Fault Refusal := .next (rollEntryDue hoop s)

/-- ROLL_STAT_CLEAR (R347). -/
def execRollStatClear (hoop : Nat) (s : State) : Host.Outcome State Fault Refusal :=
  .next (s.atReg (R.rollStat hoop) (fun s => if hoop < 16 then (s.setF F.rollStat_MISSED (R.rollStat hoop) 0).setF F.rollStat_LATE (R.rollStat hoop) 0 else s))

/-- The hold of an aligned launch, and whether the release is late (R342). -/
def holdOf (lead elapsed : Nat) : Nat × Bool :=
  if elapsed + 96 ≤ lead then (lead - elapsed - 96, false) else (0, true)

def State.onAligned (i : Nat) (f : Aligned → Aligned) (s : State) : State :=
  s.onSched (fun c => { c with aligned := SMap.modify c.aligned i f })

/-- ALIGNED_LAUNCH_ARRIVE: the picot has come to a die's barrier unit, which holds the launch until its root count reaches the release (R342). The root
count is the die counter × 8 plus a phase that nothing shows (R418). -/
def alignedLaunchArrive (i die elapsed : Nat) (s : State) : State :=
  match SMap.get? s.sched.aligned i, s.msgs.find? (fun p => p.2.arrived && p.2.kind == .aligned i die) with
  | some a, some m =>
    if !a.pendingDies.contains die then s.delMsg m.1
    else
      let s := s.delMsg m.1
      let hold := holdOf a.lead (elapsed % 65536)
      let d := s.passTime.draw
      let s := d.2.onAligned i (fun a => { a with
        pendingDies := delNum a.pendingDies die
        holding := SMap.put a.holding die (8 * d.2.count die + d.1 % 8 + hold.1) })
      if !hold.2 then s
      else if a.pillow then s.bump F.pilStat_LATE (R.pilStat a.hoop) 1
      else s.bump F.rollStat_LATE (R.rollStat a.hoop) 1
  | _, _ => s

def execAlignedLaunchArrive (launch die elapsed : Nat) (s : State) : Host.Outcome State Fault Refusal :=
  .next (alignedLaunchArrive launch die elapsed s)

/-- ALIGNED_LAUNCH_RELEASE: the hold ends and the die's members start, unless the command is gone (R342). -/
def alignedLaunchRelease (i die : Nat) (s : State) : State :=
  match SMap.get? s.sched.aligned i with
  | none => s
  | some a =>
    if !(a.holding.any (fun p => p.1 = die)) then s
    else
      let s := s.onAligned i (fun a => { a with holding := SMap.del a.holding die })
      let s := s.onSched (fun c => { c with aligned := c.aligned.filter (fun p => !p.2.pendingDies.isEmpty || !p.2.holding.isEmpty) })
      match s.queue? a.queue with
      | none => s
      | some u => match u.run with
        | some r =>
          if u.st = .live ∧ r.phase = .running ∧ descOp r.desc = 2 ∧ r.launch = a.launch then s.openShares a.queue u.ctx r.desc (fun e => engDie e == die) else s
        | none => s

def execAlignedLaunchRelease (launch die : Nat) (s : State) : Host.Outcome State Fault Refusal :=
  .next (alignedLaunchRelease launch die s)

end Sys2Proof.Machine
end

