-- ==== Sys2Proof/Machine/Pillow.lean ====
section
/-!
DEFINITION. The pillow: servers and their blocks, entries, requests, the eight phases of a step build, the page pool, the
pricking, and the reports (R348 to R378, R459, R461).
-/
namespace Sys2Proof.Machine

/-! ### Servers and their blocks (R348 to R351) -/

def Server.kernel (v : Server) : Nat := numAt v.block 0 8
def Server.posLog2 (v : Server) : Nat := numAt v.block 19 1
def Server.spanPages (v : Server) : Nat := numAt v.block 20 2
def Server.flags (v : Server) : Nat := numAt v.block 22 1 % 4
def Server.queue (v : Server) : Nat := numAt v.block 24 4 % 2 ^ 18
def Server.prickOff (v : Server) : Nat := numAt v.block 28 4
def Server.reqRing (v : Server) : Nat := numAt v.block 32 8
def Server.reqEyelet (v : Server) : Nat := numAt v.block 40 8
def Server.reqLog2 (v : Server) : Nat := numAt v.block 48 1
def Server.repLog2 (v : Server) : Nat := numAt v.block 49 1
def Server.repRing (v : Server) : Nat := numAt v.block 56 8
def Server.repHead (v : Server) : Nat := numAt v.block 64 8

/-- The LAUNCH fields of a block: registers, groups and window (R263). -/
def launchFieldsOk (b : Bytes) : Bool :=
  decide (15 ≤ numAt b 16 1) && decide (numAt b 16 1 < 255) && !badCount 8 (numAt b 17 1) && decide (numAt b 18 1 ≤ 96) &&
  numAt b 0 8 % 8 == 0

/-- log2 of a ring's records, 4 to 16. -/
def ringLogOk (k : Nat) : Bool := decide (4 ≤ k) && decide (k ≤ 16)

/-- Whether every field of a server block is in range (R349). -/
def Server.blockOk (v : Server) : Bool :=
  launchFieldsOk v.block && decide (v.posLog2 ≤ 12) && decide (1 ≤ v.spanPages) && decide (v.spanPages ≤ 1024) &&
  v.prickOff % 4096 == 0 && ringLogOk v.reqLog2 && ringLogOk v.repLog2 && v.reqEyelet % 128 == 0 &&
  v.reqRing % (64 * 2 ^ v.reqLog2) == 0 && v.reqRing % 4096 == 0 && v.repRing % (32 * 2 ^ v.repLog2) == 0 &&
  v.repRing % 4096 == 0 && v.repHead % 8 == 0

/-- The bytes of a server's pricking region (R351). -/
def prickSize : Nat := 0x22000

/-- Whether a run of toile offsets lies below 128 MiB and outside the tables on every die (R282, R351, R381). -/
def toileRoom (off size : Nat) : Bool := decide (off + size ≤ 0x06000000)

/-- Whether two runs are apart. -/
def apart (a n b m : Nat) : Bool := decide (a + n ≤ b) || decide (b + m ≤ a)

/-- The pricking regions of the enabled servers. -/
def State.prickRegions (s : State) : List Nat := s.pil.hoops.flatMap (fun h => h.2.servers.map (fun p => p.2.prickOff))

def State.server? (s : State) (h v : Nat) : Option Server := SMap.get? (s.pilH h).servers v
def State.onServer (h v : Nat) (f : Server → Server) (s : State) : State :=
  s.onPilH h (fun p => { p with servers := SMap.modify p.servers v f })

/-- Whether a context is live, and is one of a function of a hoop. -/
def State.ctxLive (s : State) (c : Nat) : Bool := (s.ctx? c).any (fun x => x.st = .live)
def State.ctxOfHoop (s : State) (h c : Nat) : Bool := (s.ctx? c).any (fun x => x.st = .live && s.fnHoop x.fn == some h)

/-- Entries of a server, and those of them that are deferred. -/
def State.entriesOf (s : State) (h v : Nat) : List (Nat × PEntry) := (s.pilH h).entries.filter (fun p => p.2.server = v)

/-! ### PIL_CTRL (R367, R378) -/

def State.pilBase (s : State) (h : Nat) : Nat := s.rd64 (R.pilPoolBaseLo h) % 2 ^ 41 / 2 ^ 15 * 2 ^ 15
def State.pilPages (s : State) (h : Nat) : Nat := s.fld F.pilPoolPages_PAGES (R.pilPoolPages h)
/-- Pages that hold the free list. -/
def listPages (pages : Nat) : Nat := (4 * pages + 32767) / 32768

/-- Whether a hoop's pool lies in its own sets and holds its free list and a page. -/
def State.poolOk (s : State) (h : Nat) : Bool :=
  let b := s.pilBase h
  let n := 32768 * s.pilPages h
  decide (listPages (s.pilPages h) + 1 ≤ s.pilPages h) && decide (b + n ≤ s.stackEnd) &&
  (List.range 16).all (fun j => s.fld F.memSetStat_OWNER (R.memSetStat j) == h || apart b n (j * 2 ^ s.setBits) (2 ^ s.setBits))

def State.pilRefuse (h reason : Nat) (s : State) : State :=
  (s.setF F.pilCtrl_REFUSED (R.pilCtrl h) 1).setF F.pilCtrl_REASON (R.pilCtrl h) reason

/-- A write of PIL_CTRL. -/
def State.pilCtrlWrite (h : Nat) (w : Word) (s : State) : State :=
  let off := R.pilCtrl h
  let s := if Fbit F.pilCtrl_REFUSED w then s.setF F.pilCtrl_REFUSED off 0 else s
  let s := (s.setF F.pilCtrl_ZERO off (Fget F.pilCtrl_ZERO w)).setF F.pilCtrl_LEAD off (max 512 (Fget F.pilCtrl_LEAD w))
  let on := s.bit F.pilCtrl_EN off
  if Fbit F.pilCtrl_EN w && !on then
    if s.hoopSt h != 2 then s.pilRefuse h 1
    else if !s.poolOk h then s.pilRefuse h 2
    else
      let n := s.pilPages h
      let free := (List.range (n - listPages n)).map (· + listPages n)
      (((s.onPilH h (fun _ => { PilHoop.empty with free := free })).wr64 (R.pilStepLo h) 0).setF F.pilCtrl_EN off 1).setF F.pilCtrl_BUSY off 1
  else if !Fbit F.pilCtrl_EN w && on then
    if (s.pilH h).servers.isEmpty then
      ((s.onPilH h (fun _ => PilHoop.empty)).setF F.pilCtrl_EN off 0).setF F.pilCtrl_BUSY off 0
    else s.pilRefuse h 3
  else s

/-- PIL_ENABLE: a write of PIL_CTRL with EN 1. -/
def pilEnable (h : Nat) (w : Word) (s : State) : State :=
  if h < 16 ∧ Fbit F.pilCtrl_EN w then s.pilCtrlWrite h w else s

def execPilEnable (hoop : Nat) (w : Word) (s : State) : Host.Outcome State Fault Refusal :=
  .next (s.atReg (R.pilCtrl hoop) (fun s => pilEnable hoop w s))

/-- PIL_FREE_LIST_BUILT: BUSY reads 0. -/
def execPilFreeListBuilt (hoop : Nat) (s : State) : Host.Outcome State Fault Refusal :=
  .next (s.powered (fun s => if hoop < 16 then s.setF F.pilCtrl_BUSY (R.pilCtrl hoop) 0 else s))

/-! ### PIL_SRV_CTRL (R348 to R351, R378) -/

def State.srvRefuse (h v reason : Nat) (s : State) : State :=
  (s.setF F.pilSrvCtrl_REFUSED (R.pilSrvCtrl h v) 1).setF F.pilSrvCtrl_REASON (R.pilSrvCtrl h v) reason

/-- A context's resident slot, for a unit that acts for it. -/
def State.keepSlot (c : Nat) (s : State) : State :=
  s.tick.2.onCtx c (fun x => { x with slot := x.slot.orElse (fun _ => s.freeCSlot) })

/-- The checks of a write of 1 to EN of a server slot: the server, or the REASON. -/
def State.srvCheck (s : State) (h v : Nat) (hm : HostView) : Except Nat Server :=
  let c := s.fld F.pilSrvCtrl_CTX (R.pilSrvCtrl h v)
  if !s.bit F.pilCtrl_EN (R.pilCtrl h) then .error 1
  else match s.ctx? c with
  | none => .error 2
  | some x =>
    if !s.ctxOfHoop h c || s.pil.hoops.any (fun p => p.2.servers.any (fun q => q.2.ctx == c)) ||
       (x.slot.isNone && s.freeCSlot.isNone) then .error 2
    else match s.vaPeek x hm (s.rd64 (R.pilSrvBlockLo h v) % 2 ^ 57 / 128 * 128) 128 with
    | .error _ => .error 3
    | .ok (b, bad) =>
      let w : Server := { ctx := c, block := b, reqC := 0, w := 0, h := 0, rows := [], launched := false, ended := false }
      if bad || !w.blockOk then .error 3
      else if !(s.queue? w.queue).any (fun u => u.st == .live && u.kind == .compute && u.ctx == c) then .error 4
      else if !toileRoom w.prickOff prickSize || s.prickRegions.any (fun o => !apart o prickSize w.prickOff prickSize) then .error 5
      else .ok w

/-- A server is disabled: EN reads 0, and its context's slot is kept no longer (R373). -/
def State.dropServer (h v : Nat) (s : State) : State :=
  match s.server? h v with
  | none => s
  | some w => ((s.onPilH h (fun p => { p with servers := SMap.del p.servers v })).setF F.pilSrvCtrl_EN (R.pilSrvCtrl h v) 0).freeCtxSlot w.ctx

/-- A write of PIL_SRV_CTRL. -/
def State.srvCtrlWrite (h v : Nat) (w : Word) (hm : HostView) (s : State) : State :=
  let off := R.pilSrvCtrl h v
  let s := if Fbit F.pilSrvCtrl_REFUSED w then s.setF F.pilSrvCtrl_REFUSED off 0 else s
  let on := s.bit F.pilSrvCtrl_EN off
  let s := if on then s else s.setF F.pilSrvCtrl_CTX off (Fget F.pilSrvCtrl_CTX w)
  if Fbit F.pilSrvCtrl_EN w && !on then
    let s := match s.ctx? (s.fld F.pilSrvCtrl_CTX off) with
      | some x => s.vaNote x (s.rd64 (R.pilSrvBlockLo h v) % 2 ^ 57 / 128 * 128) 128
      | none => s
    match s.srvCheck h v hm with
    | .error r => s.srvRefuse h v r
    | .ok x => ((s.keepSlot x.ctx).onPilH h (fun p => { p with servers := SMap.put p.servers v x })).setF F.pilSrvCtrl_EN off 1
  else if !Fbit F.pilSrvCtrl_EN w && on then
    if (s.entriesOf h v).isEmpty then s.dropServer h v else s.srvRefuse h v 6
  else s

/-- PIL_SERVER_ENABLE: a write of PIL_SRV_CTRL with EN 1. -/
def pilServerEnable (h v : Nat) (w : Word) (hm : HostView) (s : State) : State :=
  if h < 16 ∧ v < 4 ∧ Fbit F.pilSrvCtrl_EN w then s.srvCtrlWrite h v w hm else s

def execPilServerEnable (hoop srv : Nat) (w : Word) (hm : HostView) (s : State) : Host.Outcome State Fault Refusal :=
  .next (s.atReg (R.pilSrvCtrl hoop srv) (fun s => pilServerEnable hoop srv w hm s))

/-! ### Entries (R352) -/

def stateNo : EState → Nat
  | .free => 0 | .waiting => 1 | .prefill => 2 | .decode => 3 | .deferred => 4 | .done => 5

/-- Pages that an entry holds, list pages included. -/
def PEntry.pages (e : PEntry) : Nat := e.data.length + e.leaves.length + (if e.root = 0xFFFFFFFF then 0 else 1)

/-- The 64 bytes of an entry. -/
def PEntry.bytes (e : PEntry) : Bytes :=
  leBytes 8 e.seqId ++ leBytes 8 e.pos ++ leBytes 8 e.promptEnd ++ leBytes 8 e.maxPos ++ leBytes 8 e.arg ++ leBytes 4 e.root ++
  leBytes 4 e.pages ++ leBytes 8 e.lastStep ++ leBytes 2 e.affinity ++ leBytes 1 (stateNo e.st) ++
  leBytes 1 (e.prio % 4 + 4 * (e.server % 4)) ++ leBytes 2 (e.ctxSlot % 1024) ++ leBytes 1 e.cause ++ zeros 1

/-- PIL_ENT_SEL_WRITE: the selected entry is captured; one that no sequence holds reads as zeros. -/
def pilEntSelWrite (w : Word) (s : State) : State :=
  let k := 2048 * Fget F.pilEntSel_DIE w + Fget F.pilEntSel_ENTRY w
  let b := ((s.pil.hoops.filterMap (fun p => SMap.get? p.2.entries k)).head?.map PEntry.bytes).getD (zeros 64)
  each (List.range 16) (fun i t => t.wr (R.pilEntData i) (BitVec.ofNat 32 (numAt b (4 * i) 4))) (s.wr R.pilEntSel (w &&& 0x3FFF#32))

def execPilEntSelWrite (w : Word) (s : State) : Host.Outcome State Fault Refusal :=
  .next (s.atReg R.pilEntSel (fun s => pilEntSelWrite w s))

/-- PIL_STAT_CLEAR (R378). -/
def execPilStatClear (hoop : Nat) (s : State) : Host.Outcome State Fault Refusal :=
  .next (s.atReg (R.pilStat hoop) (fun s => if hoop < 16 then (s.setF F.pilStat_STARVED (R.pilStat hoop) 0).setF F.pilStat_LATE (R.pilStat hoop) 0 else s))

/-- PIL_STAT2_CLEAR (R378). -/
def execPilStat2Clear (hoop : Nat) (s : State) : Host.Outcome State Fault Refusal :=
  .next (s.atReg (R.pilStat2 hoop) (fun s => if hoop < 16 then (s.setF F.pilStat2_STALLS (R.pilStat2 hoop) 0).setF F.pilStat2_REP_FULL (R.pilStat2 hoop) 0 else s))

/-! ### Reports (R375) -/

/-- A report waits to be written: bytes 0 to 30 of its record. -/
def State.report (h v kind step status cause seqId pos entry die : Nat) (s : State) : State :=
  let b := leBytes 8 seqId ++ leBytes 8 step ++ leBytes 8 pos ++ leBytes 2 entry ++ leBytes 1 die ++ leBytes 1 kind ++ leBytes 1 status ++
    leBytes 1 cause ++ zeros 1
  s.onPilH h (fun p => { p with reports := p.reports ++ [(v, b)] })

/-- The report of an entry. -/
def State.reportEntry (h kind step die num : Nat) (e : PEntry) (s : State) : State :=
  s.report h e.server kind step 0 (if kind = 5 then e.cause else 0) e.seqId e.pos num die

/-- Reports leave in order: each into its server's ring, after H is read again where the ring looks full. The count of H
is taken only where it lies between W - 2^REP_LOG2 and W. The rest wait. -/
def State.writeReports (h : Nat) (hm : HostView) : Nat → State → State
  | 0, s => s
  | n + 1, s =>
    match (s.pilH h).reports with
    | [] => s
    | (v, b) :: rest =>
      let skip := s.onPilH h (fun p => { p with reports := rest })
      match s.server? h v with
      | none => State.writeReports h hm n skip
      | some w => match s.ctx? w.ctx with
        | none => State.writeReports h hm n skip
        | some c =>
          if c.st ≠ .live then State.writeReports h hm n skip
          else
            let cap := 2 ^ w.repLog2
            let full := decide (cap ≤ w.w - w.h)
            let s := if full then s.vaNote c w.repHead 8 else s
            match if full then s.vaPeek c hm w.repHead 8 else .ok (leBytes 8 w.h, false) with
            | .error t => State.writeReports h hm n ((s.unitFault w.ctx w.queue (s.mgrDie h) false t w.repHead).onPilH h (fun p => { p with reports := rest }))
            | .ok (x, bad) =>
              if bad then
                State.writeReports h hm n ((s.unitFault w.ctx w.queue (s.mgrDie h) false (trouble 0x09 0 w.repHead) w.repHead).onPilH h (fun p => { p with reports := rest }))
              else
              let hd := if full && (decide (w.w < leNat x) || decide (leNat x + cap < w.w)) then w.h else leNat x
              let s := s.onServer h v (fun w => { w with h := hd })
              if w.w - hd < cap then
                let ph : Nat := if phaseOf w.w w.repLog2 then 1 else 0
                let s := s.unitPut w.ctx (s.mgrDie h) (w.repRing + 32 * (w.w % cap)) (b ++ leBytes 1 ph)
                State.writeReports h hm n (s.onServer h v (fun w => { w with w := w.w + 1 }) |>.onPilH h (fun p => { p with reports := rest }))
              else s

/-! ### Phases 1 to 3 (R353 to R359, R370, R373) -/

def State.onEntryP (h k : Nat) (f : PEntry → PEntry) (s : State) : State :=
  s.onPilH h (fun p => { p with entries := SMap.modify p.entries k f })

/-- Every entry of a server ends with CAUSE 4, and the server is to be disabled (R373). -/
def State.endServer (h v : Nat) (s : State) : State :=
  (s.onPilH h (fun p => { p with entries := SMap.mapVals p.entries (fun _ e =>
    if e.server = v && e.st != .done then { e with st := .done, cause := 4 } else e) })).onServer h v (fun w => { w with ended := true })

/-- Where a server's pricking of a step lies on a die (R371). -/
def prickAddr (w : Server) (step die : Nat) : Nat := toileBase + 0x08000000 * die + w.prickOff + 0x11000 * (step % 2)

/-- The rows of a server's last step, each with its place in its die's pricking. -/
def Server.placed (w : Server) : List (Nat × Row) :=
  (List.range w.rows.length).filterMap (fun i => (w.rows[i]?).map (fun r =>
    (((w.rows.take i).filter (fun x => x.die = r.die)).length, r)))

/-- Phase 1 for one server: where its LAUNCH completed with STAT_OK, positions advance and END ends a sequence. -/
def State.results (h v step : Nat) (w : Server) (s : State) : State :=
  let ok := (s.queue? w.queue).any (fun u => u.last = 0) && s.ctxLive w.ctx && !w.ended
  let s := if w.launched && ok then
      each w.placed (fun p t =>
        let r := p.2
        let fin := ((t.peek (prickAddr w step r.die + 64 + 32 * p.1 + 31) 1).1.headD 0).toNat % 2 == 1
        t.onEntryP h (2048 * r.die + r.entry) (fun e =>
          let e := { e with pos := min (2 ^ 64 - 1) (e.pos + r.count) }
          if fin then { e with st := .done, cause := 1 }
          else if (e.maxPos ≠ 0 ∧ e.maxPos ≤ e.pos) ∨ e.pos = 2 ^ 64 - 1 then { e with st := .done, cause := 3 }
          else if e.st = .prefill ∧ e.promptEnd ≤ e.pos then { e with st := .decode }
          else e)) s
    else s
  let s := if (w.launched && !ok) || !s.ctxLive w.ctx || w.ended then s.endServer h v else s
  s.onServer h v (fun w => { w with rows := [], launched := false })

/-- A request record (R356). -/
structure Req where
  kind : Nat
  prio : Nat
  die : Nat
  entry : Nat
  affinity : Nat
  seqId : Nat
  promptLen : Nat
  maxPos : Nat
  arg : Nat
  deriving DecidableEq, Repr

def reqOf (b : Bytes) : Req :=
  { kind := numAt b 0 1, prio := numAt b 1 1 % 4, die := numAt b 2 1, entry := numAt b 4 2, affinity := numAt b 6 2,
    seqId := numAt b 8 8, promptLen := numAt b 16 8, maxPos := numAt b 24 8, arg := numAt b 32 8 }

/-- The DETAIL of a malformed request. -/
def Req.bad (r : Req) : Option Nat :=
  if (r.kind ≠ 1 ∧ r.kind ≠ 2) ∨ (8 ≤ r.die ∧ r.die ≠ 0xFF) then some 4
  else if r.kind = 1 ∧ badCount 64 r.promptLen then some 5
  else none

/-- Free entry numbers of a hoop on a die; a die whose compute die is lost takes none (R459). -/
def State.freeEntries (s : State) (h d : Nat) : List Nat :=
  if s.computeLost d then []
  else ((List.range (s.hoopPil h).2).map (· + (s.hoopPil h).1)).filter (fun n => !((s.pilH h).entries.any (fun p => p.1 = 2048 * d + n)))

/-- The die on which a JOIN is placed (R358). -/
def State.joinDie (s : State) (h : Nat) (r : Req) : Option Nat :=
  let n := fun d => (s.freeEntries h d).length
  if r.die < 8 then (if 0 < n r.die then some r.die else none)
  else if r.affinity.testBit 3 ∧ 0 < n (r.affinity % 8) then some (r.affinity % 8)
  else
    let best := (List.range 8).foldl (fun b d => if n b < n d then d else b) 0
    if 0 < n best then some best else none

/-- The entry that a LEAVE names: its number, on its die, or with DIE 0xFF on the lowest die where it matches. -/
def State.leaveEntry (s : State) (h v : Nat) (r : Req) : Option Nat :=
  ((s.pilH h).entries.find? (fun p => p.1 % 2048 = r.entry && (r.die = 0xFF || p.1 / 2048 = r.die) && p.2.server = v && p.2.seqId = r.seqId &&
    decide (r.entry < 2048))).map (·.1)

/-- One request taken (R358, R359). Fields of a REFUSED report that no entry gives are free values. -/
def State.takeReq (h v step : Nat) (w : Server) (r : Req) (s : State) : State :=
  let a := s.draw
  let b := a.2.draw
  if r.kind = 2 then
    match s.leaveEntry h v r with
    | none => a.2.report h v 2 step 0x4A 0 r.seqId a.1 r.entry r.die
    | some k => s.onEntryP h k (fun e => if e.st = .done then e else { e with st := .done, cause := 2 })
  else if r.maxPos ≠ 0 ∧ r.maxPos < r.promptLen then b.2.report h v 2 step 0x4A 0 r.seqId a.1 b.1 r.die
  else match s.joinDie h r with
  | none => b.2.report h v 2 step 0x4B 0 r.seqId a.1 b.1 r.die
  | some d =>
    let n := (s.freeEntries h d).headD 0
    let e : PEntry :=
      { seqId := r.seqId, pos := 0, promptEnd := r.promptLen, maxPos := r.maxPos, arg := r.arg, root := 0xFFFFFFFF, lastStep := step,
        affinity := r.affinity, st := .waiting, prio := r.prio, server := v, ctxSlot := ((s.ctx? w.ctx).bind (·.slot)).getD 0,
        cause := 0, data := [], leaves := [], joinNo := (s.pilH h).joins }
    (s.onPilH h (fun p => { p with entries := SMap.put p.entries (2048 * d + n) e, joins := p.joins + 1 })).reportEntry h 1 step d n e

/-- The requests of a server up to its eyelet, in ring order. -/
def State.takeReqs (h v step p : Nat) (hm : HostView) : Nat → State → State
  | 0, s => s
  | n + 1, s =>
    match s.server? h v with
    | none => s
    | some w => match s.ctx? w.ctx with
      | none => s
      | some c =>
        if p ≤ w.reqC then s
        else
          let va := w.reqRing + 64 * (w.reqC % 2 ^ w.reqLog2)
          let s := s.vaNote c va 64
          match s.vaPeek c hm va 64 with
          | .error t => s.unitFault w.ctx w.queue (s.mgrDie h) false t va
          | .ok (b, bad) =>
            if bad then s.unitFault w.ctx w.queue (s.mgrDie h) false (trouble 0x09 0 va) va
            else match (reqOf b).bad with
            | some d => s.unitFault w.ctx w.queue (s.mgrDie h) false (trouble 0x05 d va) va
            | none =>
              State.takeReqs h v step p hm n ((s.takeReq h v step w (reqOf b)).onServer h v (fun w => { w with reqC := w.reqC + 1 }))

/-- Phase 2 for one server: its eyelet and its requests; the consumer count is written beside the eyelet. -/
def State.requests (h v step : Nat) (hm : HostView) (s : State) : State :=
  match s.server? h v with
  | none => s
  | some w => match s.ctx? w.ctx with
    | none => s.endServer h v
    | some c =>
      if w.ended ∨ c.st ≠ .live then s.endServer h v
      else
        let s := s.vaNote c w.reqEyelet 8
        let s := match s.vaPeek c hm w.reqEyelet 8 with
          | .error t => s.unitFault w.ctx w.queue (s.mgrDie h) false t w.reqEyelet
          | .ok (b, bad) =>
            if bad then s.unitFault w.ctx w.queue (s.mgrDie h) false (trouble 0x09 0 w.reqEyelet) w.reqEyelet
            else if leNat b < w.reqC ∨ w.reqC + 2 ^ w.reqLog2 < leNat b then
              s.unitFault w.ctx w.queue (s.mgrDie h) false (trouble 0x05 8 w.reqEyelet) w.reqEyelet
            else s.takeReqs h v step (leNat b) hm (2 ^ w.reqLog2)
        let n := ((s.server? h v).map (·.reqC)).getD 0
        let s := if n = w.reqC then s else s.unitPut w.ctx (s.mgrDie h) (w.reqEyelet + 64) (leBytes 8 n)
        if s.ctxLive w.ctx then s else s.endServer h v

/-- Phase 3 for one entry: its data pages in index order, its leaves and its root return to the list, LEFT is reported, and
the entry is free (R370). -/
def State.leave (h step k : Nat) (e : PEntry) (s : State) : State :=
  let back := e.data ++ e.leaves ++ (if e.root = 0xFFFFFFFF then [] else [e.root])
  (s.onPilH h (fun p => { p with free := back.reverse ++ p.free, entries := SMap.del p.entries k })).reportEntry h 5 step (k / 2048) (k % 2048) e

/-- Phase 3: every done entry leaves, and servers whose context has ended are disabled. -/
def State.leaves (h step : Nat) (s : State) : State :=
  let s := each ((s.pilH h).entries.filter (fun p => p.2.st == .done)) (fun p t => t.leave h step p.1 p.2) s
  each (((s.pilH h).servers.filter (fun p => p.2.ended)).map (·.1)) (fun v t => t.dropServer h v) s

/-! ### Phases 4 to 6 (R360 to R369) -/

/-- A row that a step may hold, and its entry. -/
structure Pick where
  key : Nat
  count : Nat
  deriving DecidableEq, Repr

/-- What the choice of a step has left of each die's budget. -/
def budgetOf (left : List Nat) (k : Nat) : Nat := left.getD (k / 2048) 0

/-- The order of running rows (R361). -/
def runBefore (a b : Nat × PEntry) : Bool :=
  let f := fun (x : Nat × PEntry) => [if x.2.st = .decode then 0 else 1, 3 - x.2.prio, x.2.lastStep, x.1]
  decide (f a ≤ f b)

/-- The order of joins (R361). -/
def joinBefore (a b : Nat × PEntry) : Bool :=
  let f := fun (x : Nat × PEntry) => [3 - x.2.prio, x.2.joinNo, x.1]
  decide (f a ≤ f b)

/-- Phase 4: running entries in key order take rows while their die's budget lasts. -/
def chooseRows (chunk : Nat) : List (Nat × PEntry) → List Nat → List Pick × List Nat
  | [], left => ([], left)
  | (k, e) :: r, left =>
    let b := budgetOf left k
    let c := if e.st = .decode then min 1 b else min chunk (min (e.promptEnd - e.pos) b)
    if c = 0 then chooseRows chunk r left
    else
      let x := chooseRows chunk r (setNth left (k / 2048) (· - c))
      ({ key := k, count := c } :: x.1, x.2)

/-- Data pages that an entry holds once a row of `c` tokens from position `p` has its spans (R368, R369). -/
def Server.dataFor (w : Server) (p c : Nat) : Nat := ((p + c - 1) / 2 ^ w.posLog2 + 1) * w.spanPages

/-- The pages that a row needs: root, leaves, data pages (R369). -/
def PEntry.need (w : Server) (c : Nat) (e : PEntry) : Nat × Nat × Nat :=
  let d := max e.data.length (w.dataFor e.pos c)
  (if e.root = 0xFFFFFFFF then 1 else 0, (d + 8191) / 8192 - e.leaves.length, d - e.data.length)

/-- A page handed out is written with zeros where ZERO is 1. -/
def State.handOut (h : Nat) (zero : Bool) (n : Nat) (s : State) : State :=
  if zero then s.poke (s.pilBase h + 32768 * n) (zeros 32768) else s

/-- A list page: every slot unused. -/
def State.blankList (h n : Nat) (s : State) : State := s.poke (s.pilBase h + 32768 * n) (List.replicate 32768 0xFF)

/-- The pages of a row are taken from the top of the list: the root, then leaves, then data pages in index order; their
numbers are written into the leaves and the root (R367 to R369). -/
def State.allocate (h k : Nat) (w : Server) (c : Nat) (s : State) : State :=
  match SMap.get? (s.pilH h).entries k with
  | none => s
  | some e =>
    let n := e.need w c
    let free := (s.pilH h).free
    let zero := s.bit F.pilCtrl_ZERO (R.pilCtrl h)
    let roots := free.take n.1
    let lvs := (free.drop n.1).take n.2.1
    let dat := (free.drop (n.1 + n.2.1)).take n.2.2
    let root := roots.headD e.root
    let s := s.onPilH h (fun p => { p with free := free.drop (n.1 + n.2.1 + n.2.2) })
    let s := s.onEntryP h k (fun e => { e with root := root, leaves := e.leaves ++ lvs, data := e.data ++ dat })
    let s := each dat (fun x t => t.handOut h zero x) s
    let s := each (roots ++ lvs) (fun x t => t.blankList h x) s
    let s := each (List.range lvs.length) (fun i t =>
      t.poke (s.pilBase h + 32768 * root + 4 * (e.leaves.length + i)) (leBytes 4 (lvs.getD i 0))) s
    let all := e.leaves ++ lvs
    each (List.range dat.length) (fun i t =>
      let j := e.data.length + i
      t.poke (s.pilBase h + 32768 * all.getD (j / 8192) 0 + 4 * (j % 8192)) (leBytes 4 (dat.getD i 0))) s

/-- A row joins its server's step (R371, R372). -/
def State.addRow (h k c : Nat) (first : Bool) (step : Nat) (s : State) : State :=
  match SMap.get? (s.pilH h).entries k with
  | none => s
  | some e =>
    let pre := e.st == .prefill
    (s.onServer h e.server (fun w => { w with rows := w.rows ++ [
      ({ die := k / 2048, entry := k % 2048, pos := e.pos, count := c, prefill := pre, first := first
         last := pre && decide (e.promptEnd ≤ e.pos + c) } : Row)] })).onEntryP h k (fun e => { e with lastStep := step })

/-- Whether `n` pages are free. -/
def State.pagesFree (s : State) (h : Nat) : Nat := (s.pilH h).free.length

/-- Phase 5: the chosen rows take their pages in key order; a row without them is dropped and counted (R363). -/
def State.growth (h step : Nat) : List Pick → State → State
  | [], s => s
  | x :: r, s =>
    match SMap.get? (s.pilH h).entries x.key with
    | none => State.growth h step r s
    | some e => match s.server? h e.server with
      | none => State.growth h step r s
      | some w =>
        let n := e.need w x.count
        if n.1 + n.2.1 + n.2.2 ≤ s.pagesFree h then
          State.growth h step r ((s.allocate h x.key w x.count).addRow h x.key x.count false step)
        else State.growth h step r (s.bump F.pilStat_STARVED (R.pilStat h) 1)

/-- An entry that is not admitted is deferred; the first time, it is reported (R365). -/
def State.defer (h step k : Nat) (e : PEntry) (s : State) : State :=
  if e.st = .deferred then s
  else (s.onEntryP h k (fun e => { e with st := .deferred })).reportEntry h 4 step (k / 2048) (k % 2048) e

/-- Phase 6: joins in order; from the first that fails for pages on, all are deferred (R364). -/
def State.takeJoins (h step chunk reserve : Nat) : List (Nat × PEntry) → List Nat → Bool → State → State
  | [], _, _, s => s
  | (k, e) :: r, left, stop, s =>
    match s.server? h e.server with
    | none => State.takeJoins h step chunk reserve r left stop s
    | some w =>
      let c := min chunk (min e.promptEnd (budgetOf left k))
      let n := e.need w c
      let all := n.1 + n.2.1 + n.2.2
      if stop || c == 0 then State.takeJoins h step chunk reserve r left stop (s.defer h step k e)
      else if all + reserve ≤ s.pagesFree h then
        let s := (s.onEntryP h k (fun e => { e with st := .prefill })).reportEntry h 3 step (k / 2048) (k % 2048) e
        State.takeJoins h step chunk reserve r (setNth left (k / 2048) (· - c)) stop ((s.allocate h k w c).addRow h k c true step)
      else State.takeJoins h step chunk reserve r left true (s.defer h step k e)

/-! ### Phases 7 and 8 (R350, R366, R371 to R374) -/

/-- The bytes of one row. -/
def rowBytes (r : Row) (e : PEntry) (base : Nat) : Bytes :=
  leBytes 8 r.pos ++ leBytes 8 e.arg ++ leBytes 4 e.root ++ leBytes 4 base ++ leBytes 2 r.count ++ leBytes 2 r.entry ++ leBytes 2 e.affinity ++
  leBytes 1 ((if r.prefill then 1 else 0) + (if r.first then 2 else 0) + (if r.last then 4 else 0)) ++ zeros 1

/-- The pricking of a server on a die (R371, R372). -/
def State.prickBytes (s : State) (h v step d : Nat) (w : Server) : Bytes :=
  let rs := w.rows.filter (fun r => r.die = d)
  let sum := fun (l : List Row) => l.foldl (fun a r => a + r.count) 0
  leBytes 1 1 ++ leBytes 1 d ++ leBytes 1 v ++ zeros 1 ++ leBytes 4 rs.length ++ leBytes 8 step ++ leBytes 4 (sum rs) ++ zeros 44 ++
  (List.range rs.length).flatMap (fun i => match rs[i]? with
    | some r => match SMap.get? (s.pilH h).entries (2048 * d + r.entry) with
      | some e => rowBytes r e (sum (rs.take i))
      | none => []
    | none => [])

/-- Phase 7: the pricking of every enabled server on every die. -/
def State.writePrickings (h step : Nat) (s : State) : State :=
  each (s.pilH h).servers (fun p t => each (List.range 8) (fun d t => t.poke (prickAddr p.2 step d) (s.prickBytes h p.1 step d p.2)) t) s

/-- Phase 8: each server with rows is sent its LAUNCH; one whose context or queue is gone ends. -/
def State.launchStep (h step : Nat) (s : State) : State :=
  each ((s.pilH h).servers.filter (fun p => !p.2.rows.isEmpty)) (fun p t =>
    if t.ctxLive p.2.ctx && (t.queue? p.2.queue).any (fun u => u.st == .live) then
      let d := t.draw
      (d.2.onServer h p.1 (fun w => { w with launched := true })).unitLaunch p.2.queue 1 (unitDesc p.2.block p.2.flags 0 step) (d.1 % 2 ^ 57)
    else t.onServer h p.1 (fun w => { w with ended := true })) s

/-- What follows phase 7: the reports are written; once all are, the step is launched. A build that begins to wait for a
ring is counted (R375). -/
def State.settleBuild (h : Nat) (hm : HostView) (s : State) : State :=
  let was := (s.pilH h).paused
  let s := s.writeReports h hm (s.pilH h).reports.length
  if (s.pilH h).reports.isEmpty then
    (s.onPilH h (fun p => { p with paused := false })).launchStep h (s.rd64 (R.pilStepLo h))
  else
    let s := s.onPilH h (fun p => { p with paused := true })
    if was then s else s.bump F.pilStat2_REP_FULL (R.pilStat2 h) 1

/-- Whether a page of a hoop's free list would be read as poison (R461). -/
def State.listBad (s : State) (h : Nat) : Bool := (s.peek (s.pilBase h) (32768 * listPages (s.pilPages h))).2

/-- The rows of a hoop's step in the making. -/
def State.rowsChosen (s : State) (h : Nat) : Bool := (s.pilH h).servers.any (fun p => !p.2.rows.isEmpty)

/-- The pillow stops building for a hoop, for its free list reads as poison: every entry ends with CAUSE 4 (R461). -/
def State.stopPillow (h : Nat) (s : State) : State :=
  s.onPilH h (fun p => { p with stopped := true, entries := SMap.mapVals p.entries (fun _ e => { e with st := .done, cause := 4 }) })

/-- One step build (R353): all eight phases. -/
def State.build (h : Nat) (hm : HostView) (s : State) : State :=
  let old := s.rd64 (R.pilStepLo h)
  let step := old + 1
  let s := s.wr64 (R.pilStepLo h) step
  let s := each (s.pilH h).servers (fun p t => t.results h p.1 old p.2) s
  let s := each (List.range 4) (fun v t => t.requests h v step hm) s
  let s := s.leaves h step
  if s.listBad h then s.stopPillow h
  else
  let budget := s.fld F.pilBudget_BUDGET (R.pilBudget h)
  let chunk := s.fld F.pilBudget_CHUNK (R.pilBudget h)
  let run := sortBy runBefore ((s.pilH h).entries.filter (fun p => p.2.st == .prefill || p.2.st == .decode))
  let ch := chooseRows chunk run (List.replicate 8 budget)
  let s := s.growth h step ch.1
  let joins := sortBy joinBefore ((s.pilH h).entries.filter (fun p => p.2.st == .waiting || p.2.st == .deferred))
  let s := s.takeJoins h step chunk (s.fld F.pilReserve_RESERVE (R.pilReserve h)) joins ch.2 false
  let s := s.writePrickings h step
  let none := !s.rowsChosen h
  let s := s.onPilH h (fun p => { p with idle := none })
  let s := if none && !(s.pilH h).entries.isEmpty then
      each ((s.pilH h).servers.filter (fun p => !(s.entriesOf h p.1).isEmpty)) (fun p t =>
        let a := t.draw
        let b := a.2.draw
        let c := b.2.draw
        let d := c.2.draw
        d.2.report h p.1 6 step 0 0 a.1 b.1 c.1 d.1) (s.bump F.pilStat2_STALLS (R.pilStat2 h) 1)
    else s
  s.settleBuild h hm

/-- Whether the pillow of a hoop may begin a build: it is enabled, no build waits, and no step queue runs a command. -/
def State.mayBuild (s : State) (h : Nat) : Bool :=
  decide (h < 16) && s.bit F.pilCtrl_EN (R.pilCtrl h) && !s.bit F.pilCtrl_BUSY (R.pilCtrl h) && s.hoopSt h == 2 &&
  !(s.pilH h).paused && !(s.pilH h).stopped &&
  !((s.pilH h).servers.any (fun p => (s.queue? p.2.queue).any (fun u => u.run.isSome)))

/-- PILLOW_STEP_BUILD: the step has ended and the next build runs. -/
def pillowStepBuild (h : Nat) (hm : HostView) (s : State) : State :=
  if s.mayBuild h && !(s.pilH h).idle then s.build h hm else s

def execPillowStepBuild (hoop : Nat) (hm : HostView) (s : State) : Host.Outcome State Fault Refusal := .next (pillowStepBuild hoop hm s)

/-- Whether a server's eyelet shows anything but the requests taken. -/
def State.hasReq (s : State) (hm : HostView) (w : Server) : Bool :=
  match s.ctx? w.ctx with
  | none => true
  | some c => c.st != .live || (match s.vaPeek c hm w.reqEyelet 8 with
    | .error _ => true
    | .ok (b, bad) => bad || leNat b != w.reqC)

/-- PILLOW_IDLE_POLL: with no step running the request rings are read, and a build runs where there is anything to take
(R355, R366). -/
def pillowIdlePoll (h : Nat) (hm : HostView) (s : State) : State :=
  if s.mayBuild h && (s.pilH h).idle && (s.pilH h).servers.any (fun p => s.hasReq hm p.2) then s.build h hm else s

def execPillowIdlePoll (hoop : Nat) (hm : HostView) (s : State) : Host.Outcome State Fault Refusal := .next (pillowIdlePoll hoop hm s)

/-- REPORT_RING_HEAD_REREAD: a build that waits for this server's ring goes on once there is room. -/
def reportRingHeadReread (h v : Nat) (hm : HostView) (s : State) : State :=
  if (s.pilH h).paused && ((s.pilH h).reports.head?.map (·.1)) == some v then s.settleBuild h hm else s

def execReportRingHeadReread (hoop srv : Nat) (hm : HostView) (s : State) : Host.Outcome State Fault Refusal :=
  .next (reportRingHeadReread hoop srv hm s)

/-- SERVER_CONTEXT_RELEASE: with no step running, the entries of a server whose context has ended are released and the
server is disabled; a build follows (R366, R376). -/
def serverContextRelease (h v : Nat) (s : State) : State :=
  match s.server? h v with
  | none => s
  | some w =>
    if s.mayBuild h && (s.pilH h).idle && !s.ctxLive w.ctx then
      let s := s.endServer h v
      let mine := (s.pilH h).entries.filter (fun p => p.2.server = v)
      (each mine (fun p t => t.leave h (s.rd64 (R.pilStepLo h)) p.1 p.2) s |>.dropServer h v).onPilH h (fun p => { p with
        idle := false, reports := [] })
    else s

def execServerContextRelease (hoop srv : Nat) (s : State) : Host.Outcome State Fault Refusal := .next (serverContextRelease hoop srv s)

end Sys2Proof.Machine
end

