-- ==== Sys2Proof/Machine/Exchange.lean ====
section
/-!
DEFINITION. The shuttle exchange: enabling and disabling, the counting pass, counts and grants, fills, the expert LAUNCH,
the combine, the result, and what ends a dispatch (R379 to R397, R415).
-/
namespace Sys2Proof.Machine

/-! ### The exchange block (R380, R381) -/

def Xch.rowBytes (x : Xch) : Nat := numAt x.block 20 4
def Xch.outBytes (x : Xch) : Nat := numAt x.block 24 4
def Xch.scaleOff (x : Xch) : Nat := numAt x.block 28 4
def Xch.drec (x : Xch) (d : Nat) : Nat := numAt x.block 32 8 + 128 * d
def Xch.goVa (x : Xch) : Nat := numAt x.block 40 8
def Xch.doneVa (x : Xch) : Nat := numAt x.block 48 8
def Xch.spillSlots (x : Xch) : Nat := numAt x.block 72 4
def Xch.toileOff (x : Xch) : Nat := numAt x.block 76 4
def Xch.expq (x : Xch) (d : Nat) : Nat := numAt x.block (80 + 4 * d) 4 % 2 ^ 18
def Xch.kind (x : Xch) : Nat := numAt x.block 112 1
def Xch.buckets (x : Xch) : Nat := numAt x.block 114 2
def Xch.tslots (x : Xch) : Nat := numAt x.block 116 2
/-- Slots of a round (R388). -/
def Xch.slots (x : Xch) : Nat := x.tslots + x.spillSlots
/-- Lines of an activation row, and DATA_LINES (R380). -/
def Xch.rowLines (x : Xch) : Nat := x.rowBytes / 128
def Xch.dataLines (x : Xch) : Nat := if x.kind = 1 then x.scaleOff / 128 else x.outBytes / 128
/-- Where the slot records and the bucket table begin in the toile region, and the region's size (R381). -/
def Xch.recOff (x : Xch) : Nat := x.toileOff + x.tslots * x.rowBytes
def Xch.tabOff (x : Xch) : Nat := x.recOff + 16 * x.slots
def Xch.region (x : Xch) : Nat := x.tslots * x.rowBytes + 16 * x.slots + 16 + 8 * x.buckets
/-- A toile offset of a die as a physical address. -/
def toileAt (d off : Nat) : Nat := toileBase + 0x08000000 * d + off
/-- The virtual address of a spill slot, and of the output row of a slot (R381). -/
def Xch.spillVa (x : Xch) (d slot : Nat) : Nat := numAt x.block 56 8 + (d * x.spillSlots + slot - x.tslots) * x.rowBytes
def Xch.outVa (x : Xch) (d slot : Nat) : Nat := numAt x.block 64 8 + (d * x.slots + slot) * x.outBytes

/-- Whether every field of an exchange block is in range (R380). -/
def Xch.blockOk (x : Xch) : Bool :=
  launchFieldsOk x.block && x.rowBytes % 128 == 0 && decide (128 ≤ x.rowBytes) && decide (x.rowBytes ≤ 16384) &&
  x.outBytes % 128 == 0 && decide (128 ≤ x.outBytes) && decide (x.outBytes ≤ 65536) && decide (x.kind ≤ 1) &&
  (x.kind == 0 || (x.scaleOff % 128 == 0 && decide (0 < x.scaleOff) && decide (x.scaleOff < x.outBytes))) &&
  x.drec 0 % 128 == 0 && decide (x.spillSlots ≤ 57344) && x.toileOff % 4096 == 0 && decide (1 ≤ x.buckets) &&
  decide (x.buckets ≤ 1024) && decide (1 ≤ x.tslots) && decide (x.tslots ≤ 8192)

/-- A fault that an exchange unit finds: F_PC is the address of the die's dispatch record (R379). -/
def State.xFault (key d : Nat) (t : Trouble) (s : State) : State :=
  match s.xch? key with
  | none => s
  | some x => s.unitFault x.ctx 0 d false t (x.drec d)

/-! ### Messages between units (R383, R400, R401) -/

def shxMsg (key kind dispatch dst src : Nat) : ShxMsg :=
  { kind := kind, hoop := key / 4, xch := key % 4, tag := 0, xid := 0, dispatch := dispatch % 2 ^ 40, dst := dst, src := src, id := 0,
    round := 0, last := true, line := 0, slot := 0, entries := [], body := [] }

/-- A message in the sizes that fit a flit: COUNTs of 52 entries and GRANTs of 26 (R400, R401). -/
def shxParts (m : ShxMsg) : List ShxMsg :=
  let n := if m.kind = 7 then 52 else if m.kind = 8 then 26 else 0
  if n = 0 then [m]
  else
    let k := max 1 ((m.entries.length + n - 1) / n)
    (List.range k).map (fun i => { m with entries := (m.entries.drop (n * i)).take n, last := i + 1 == k })

/-- Bytes of a message after its header, and its ADDR and AUX fields (R400, R401). AUX bit 0 of a SLOT_LINE marks poisoned data
(DESIGN CHOICE: R390 has a poisoned line written poisoned, and R401 names no place for the mark). -/
def shxBody (m : ShxMsg) : Bytes :=
  if m.kind = 7 then m.entries.flatMap (fun e => leBytes 4 (e.1 + 1024 * e.2.1))
  else if m.kind = 8 then m.entries.flatMap (fun e => leBytes 2 e.1 ++ leBytes 2 e.2.1 ++ leBytes 4 e.2.2)
  else m.body
def shxAddr (m : ShxMsg) : Nat := if m.kind = 9 ∨ m.kind = 10 then m.slot + 65536 * m.line else m.dispatch
def shxAux (m : ShxMsg) : Nat :=
  let l := if m.last then 1 else 0
  if m.kind = 7 ∨ m.kind = 9 then l
  else if m.kind = 8 then m.round % 32768 + 32768 * l
  else if m.kind = 11 ∨ m.kind = 12 then m.round % 32768
  else 0

/-- The channel on which a message travels: those of slots on bulk, the others but ABORT on the response channel (R396, R401). -/
def shxChan (k : Nat) : Nat := mtypeChan k

/-- A message leaves a unit: for a die of the own package over the mesh, for a partner to the transmit queue of a port. -/
def State.xSend (key : Nat) (to_ : Peer) (m : ShxMsg) (who : Option Unacked) (s : State) : State :=
  match to_.port with
  | none => s.sendMsg (if shxChan m.kind = 3 then .bulk else .response) (.shx m) m.src m.dst .exchange .exchange
  | some p =>
    if !s.partnerUp p then s
    else each (shxParts m) (fun m t =>
      let a := if m.kind = 9 ∨ m.kind = 10 then some (128 * m.slot + m.line) else none
      t.portSend (t.portFor p a) (t.xchMsg key m.kind (shxAddr m) m.dst m.src (shxAux m) (shxBody m)) who) s

/-- The message between units that has come first of those of one pair of dies and one channel, if it is this one: its number, and
whether it was lost with a link or poisoned on its way. -/
def State.xFirst (m : ShxMsg) (s : State) : Option (Nat × Msg) :=
  (s.msgs.foldl (fun a p => match p.2.kind with
    | .shx x =>
      if p.2.arrived && x.hoop == m.hoop && x.xch == m.xch && x.src == m.src && x.dst == m.dst && shxChan x.kind == shxChan m.kind &&
        a.all (fun (b : Nat × Msg) => decide (p.2.came < b.2.came)) then some p else a
    | _ => a) (none : Option (Nat × Msg))).filter (fun p => p.2.kind == .shx m)

/-- The enabled exchange that the tag and the XID of a message from a partner name (R383). -/
def State.xNamed (port : Nat) (m : ShxMsg) (s : State) : Option Nat :=
  let w := s.rd (R.gmpInMap port (m.tag % 256))
  let h := Fget F.gmpInMap_HOOP w
  if Fbit F.gmpInMap_VALID w then
    ((List.range 4).find? (fun x => (s.xch? (4 * h + x)).isSome && s.xchXid (4 * h + x) == m.xid)).map (4 * h + ·) else none

/-- A step on a message of a kind, where an enabled exchange takes it: from a die of the package (port 8) it has come over the mesh,
and one that a failed link held faults the context (R46); from a partner it is delivered by a port that is up to the exchange that
it names, or dropped and counted (R383). The step is told the exchange, the sender, and whether the message is marked as poisoned. -/
def State.onShxMsg (port kind : Nat) (m : ShxMsg) (f : Nat → Peer → Bool → State → State) (s : State) : State :=
  if m.kind ≠ kind then s
  else if port = 8 then
    match s.xFirst m with
    | none => s
    | some (i, x) =>
      let key := 4 * m.hoop + m.xch
      let s := s.delMsg i
      match s.xch? key with
      | none => s
      | some y => if x.lost then s.xFault key m.src (trouble 0x0D m.dst (y.drec m.src)) else f key { die := m.src, port := none } x.poison s
  else if !s.gmpUp port then s
  else match s.xNamed port m with
    | some key => f key { die := m.src % 8, port := some (s.partner port) } false s
    | none => s.bump F.shxDrop_DROPPED R.shxDrop 1

/-- The members of a domain in the source order of R388. -/
def State.xchMembers (s : State) (key : Nat) : List Peer :=
  (List.range 8).map (fun d => { die := d, port := none }) ++
  (s.xchPartners key).flatMap (fun p => (List.range 8).map (fun d => { die := d, port := some p }))

/-- Whether a member is one of a lost partner. -/
def Peer.isGone (p : Peer) (gone : List Nat) : Bool := p.port.any (fun n => gone.contains n)

/-! ### Movements (R390, R393, R396) -/

/-- A read of a movement: the bytes of its line that one line of memory holds. -/
def State.moveRead (mv : Nat) (v : Move) (ctx hoop va len part : Nat) (s : State) : State :=
  match s.ctx? ctx with
  | none => s
  | some c => match s.translate c .read va with
    | .error t => s.xFault v.key v.die t
    | .ok (l, _) =>
      let o := va % 128
      let n := min len (128 - o)
      let t := Txn.blank (.movement hoop (v.key % 4) mv) v.die 0 (some hoop) (some ctx) .read l.space (lineOf (l.phys va))
      (s.addTxn { t with secs := secsOf o n, va := va - o, rd := part, offs := [(n, o)], noInstall := true }).2

/-- The next read of a movement: the rest of the line of the activation row or of the output row that it has reached, or for
CMB_KIND 1 first the scale words of the line. -/
def State.moveStep (mv : Nat) (s : State) : State :=
  match SMap.get? s.shx.moves mv with
  | none => s
  | some v => match s.xch? v.key, s.xdie? v.key v.die with
    | some x, some d =>
      let h := v.key / 4
      if v.fill then
        s.moveRead mv v x.ctx h (numAt d.record 16 8 + v.token * x.rowBytes + 128 * v.line + v.buf.length) (128 - v.buf.length) 1
      else
        let o := x.outVa v.die v.slot
        if x.kind = 1 ∧ !v.hasSs then s.moveRead mv v x.ctx h (o + x.scaleOff + 4 * v.line) 4 0
        else s.moveRead mv v x.ctx h (o + 128 * v.line + v.buf.length) (128 - v.buf.length) 1
    | _, _ => s

/-- A fill movement starts: the combine row of its route is translated once, and must lie on one page of stack memory
(R390). -/
def State.fillTarget (s : State) (x : Xch) (d : XDie) (token : Nat) : Except Trouble Nat :=
  let va := numAt d.record 24 8 + token * x.dataLines * 128
  match s.ctx? x.ctx with
  | none => .error (trouble 1 1 va)
  | some c => match s.translate c .atomic va with
    | .error t => .error t
    | .ok (l, _) =>
      if l.va + l.size < va + 128 * x.dataLines then .error (trouble 0x04 0xFF va)
      else if l.space ≠ .stack then .error (trouble 0x0A 0 va)
      else .ok (l.phys va)

/-- A combine movement takes TARGET, G and EF from its slot record in toile (R390, R393); none where it is EMPTY. A poisoned record
faults the context as poisoned data that a mover reads (R132). -/
def State.slotTarget (s : State) (x : Xch) (v : Move) : Except Trouble (Option Move) :=
  let a := toileAt v.die (x.recOff + 16 * v.slot)
  let r := s.peek a 16
  let b := r.1
  if r.2 then .error (trouble 0x09 1 a)
  else if (numAt b 11 1).testBit 0 then .ok none
  else .ok <| some { v with
    target := numAt b 0 8 % 2 ^ 40, port := if (numAt b 0 8).testBit 43 then some (bitsOf 42 40 (numAt b 0 8)) else none
    g := numAt b 8 2, ef := numAt b 10 1 }

/-- The movements of a die that wait start in order while the package holds fewer than 65,536 (R396). -/
def State.pumpMoves (key d : Nat) : Nat → State → State
  | 0, s => s
  | n + 1, s =>
    match s.xch? key, s.xdie? key d with
    | some x, some u =>
      if 65536 ≤ s.shx.moves.length then s
      else match u.todo with
      | [] => s
      | v :: _ =>
        let s := s.onXDie key d (fun u => { u with todo := u.todo.drop 1 })
        let go := fun (v : Move) (s : State) =>
          let mv := s.shx.nextMove
          State.pumpMoves key d n ((s.onShx (fun y => { y with moves := SMap.put y.moves mv v, nextMove := mv + 1 })).moveStep mv)
        if v.fill then
          match s.fillTarget x u v.token with
          | .error t => s.xFault key d t
          | .ok pa => go { v with target := pa } s
        else match s.slotTarget x v with
          | .error t => s.xFault key d t
          | .ok none => State.pumpMoves key d n s
          | .ok (some v) => go v s
    | _, _ => s

def State.pumpDie (key d : Nat) (s : State) : State :=
  s.pumpMoves key d (((s.xdie? key d).elim 0 (fun u => u.todo.length)) + 1)

/-- The movements of every die start where there is room again. -/
def State.pumpAll (s : State) : State :=
  each (s.shx.xchs.map (·.1)) (fun key t => each (List.range 8) (fun d t => t.pumpDie key d) t) s

/-- Whether a die still has movements of a round to or from a member. -/
def State.movesLeft (s : State) (key d : Nat) (fill : Bool) (p : Peer) (round : Nat) : Bool :=
  let mine := fun (v : Move) => v.key = key && v.die = d && v.fill == fill && v.peer = p && v.round = round
  s.shx.moves.any (fun m => mine m.2) || (s.xdie? key d).any (fun u => u.todo.any mine)

/-! ### The result (R394, R395) -/

/-- The result of a die, bytes 64 to 91 of its record (R384). -/
def xResult (n status : Nat) (u : XDie) : Bytes :=
  leBytes 8 n ++ leBytes 1 (if status ≠ 0 then status else if u.poisoned = 0 then 0 else 0x44) ++ leBytes 1 (min 255 u.rounds) ++
  zeros 2 ++ leBytes 4 u.sent ++ leBytes 4 u.lost ++ leBytes 4 u.poisoned ++
  leBytes 4 (if u.serving = n then u.received else u.lastReceived)

/-- A die's result is written into its dispatch record; a page that refuses it faults the context (R213, R379, R384). -/
def State.xPut (key d : Nat) (x : Xch) (c : Ctx) (bs : Bytes) (s : State) : State :=
  match s.vaRefuse c (x.drec d + 64) bs.length with
  | some t => s.xFault key d t
  | none => s.vaPoke c (x.drec d + 64) bs

/-- The results of the dies whose routes are all accounted for are written; after the eighth, the DONE fence is signalled
with n and the dispatch is over (R394). -/
def State.xFinish (key : Nat) (s : State) : State :=
  match s.xch? key with
  | none => s
  | some x => match s.ctx? x.ctx with
    | none => s
    | some c =>
      if !x.opened then s
      else
        let s := each (List.range 8) (fun d t =>
          match t.xdie? key d with
          | some u => if u.counted && u.left == 0 && !u.wrote then
              (t.xPut key d x c (xResult x.last x.status u)).onXDie key d (fun u => { u with wrote := true })
            else t
          | none => t) s
        if !(List.range 8).all (fun d => (s.xdie? key d).any (·.wrote)) then s
        else
          let s := s.onXch key (fun x => { x with opened := false })
          let s := if x.status = 0 then s else s.bump F.shxXStat_ABORTS (R.shxXStat (key / 4) (key % 4)) 1
          match s.translate c .signal x.doneVa with
          | .error t => s.xFault key 0 { t with addr := x.doneVa }
          | .ok (l, m) => match fenceCheck l m x.doneVa with
            | some (code, detail) => s.xFault key 0 (trouble code detail x.doneVa)
            | none => s.fenceMsg (.signal x.ctx (l.phys x.doneVa) x.last none none) (some c.hoop) 0 (l.phys x.doneVa) .exchange

/-! ### Destinations: grants and rounds (R388, R389, R391 to R393) -/

/-- The pairs of bucket and source that the counts give, in the order of R388. -/
def pairsOf (members : List Peer) (tabs : List CountTab) (buckets : Nat) : List Grant :=
  (List.range buckets).flatMap (fun b => members.filterMap (fun p =>
    let n := (tabs.filter (fun t => t.peer = p)).foldl (fun a t =>
      (t.cells.filter (fun c => c.1 = b)).foldl (fun a c => a + c.2) a) 0
    if n = 0 then none else some { peer := p, bucket := b, count := n, first := 0 }))

/-- One round: the pairs in order take consecutive slots from `at_`, and what does not fit is left for the next (R388). -/
def fitRound (room : Nat) : Nat → List Grant → List Grant × List Grant
  | _, [] => ([], [])
  | at_, g :: gs =>
    if room ≤ at_ then ([], g :: gs)
    else if g.count ≤ room - at_ then
      let r := fitRound room (at_ + g.count) gs
      ({ g with first := at_ } :: r.1, r.2)
    else ([{ g with count := room - at_, first := at_ }], { g with count := g.count - (room - at_) } :: gs)

/-- The slots that the grants of a round give a member, in rising order. -/
def slotsOf (gs : List Grant) (p : Peer) : List Nat :=
  (gs.filter (fun g => g.peer = p)).flatMap (fun g => (List.range g.count).map (· + g.first))

/-- The bucket table of a round (R392). -/
def bucketTable (x : Xch) (u : XDie) : Bytes :=
  leBytes 8 u.serving ++ leBytes 2 u.round ++ zeros 2 ++ leBytes 4 (u.grants.foldl (fun a g => a + g.count) 0) ++
  (List.range x.buckets).flatMap (fun b =>
    let gs := u.grants.filter (fun g => g.bucket = b)
    leBytes 4 ((gs.head?.map (·.first)).getD 0) ++ leBytes 4 (gs.foldl (fun a g => a + g.count) 0))

/-- A round is combined (R393): a movement for each slot that is not EMPTY, in slot order. -/
def State.xCombine (key d : Nat) (s : State) : State :=
  match s.xdie? key d with
  | none => s
  | some u =>
    let mk := fun (g : Grant) (i : Nat) =>
      ({ key := key, die := d, fill := false, token := 0, g := 0, ef := 0, peer := g.peer, slot := g.first + i, round := u.round,
         line := 0, target := 0, port := none, buf := [], bad := false, ss := 0, hasSs := false } : Move)
    let all := u.grants.flatMap (fun g => (List.range g.count).map (mk g))
    (s.onXDie key d (fun u => { u with phase := 3, todo := u.todo ++ all, tally := [], doneTo := [] })).pumpDie key d

/-- A destination die moves on as far as it can: it grants a round once every count is in, launches the expert kernel once
every source has filled, sends each source its DONE, and starts the next round or the next dispatch. -/
def State.xAdvance (key d : Nat) : Nat → State → State
  | 0, s => s
  | fuel + 1, s =>
    match s.xch? key, s.xdie? key d with
    | some x, some u =>
      let ms := s.xchMembers key
      let live := ms.filter (fun p => !p.isGone u.gone)
      let grantRound := fun (round : Nat) (pairs : List Grant) (s : State) =>
        let r := fitRound x.slots 0 pairs
        let s := s.onXDie key d (fun u => { u with
          phase := 1, round := round, grants := r.1, ungranted := r.2, arrived := [], filled := [], doneTo := [], tally := [] })
        each live (fun p t => t.xSend key p { shxMsg key 8 u.serving p.die d with
          round := round, entries := (r.1.filter (fun g => g.peer = p)).map (fun g => (g.bucket, g.count, g.first)) } none) s
      if u.phase = 0 then
        if live.all (fun p => u.tabs.any (fun t => t.peer = p && t.last)) then
          State.xAdvance key d fuel (grantRound 0 (pairsOf ms u.tabs x.buckets) s)
        else s
      else if u.phase = 1 then
        if live.all (fun p => (slotsOf u.grants p).isEmpty || u.filled.contains p) then
          let empty := (u.grants.flatMap (fun g => (List.range g.count).map (· + g.first))).filter (fun k => !u.arrived.contains k)
          let s := each empty (fun k t => t.poke (toileAt d (x.recOff + 16 * k + 11)) [1]) s
          if u.grants.isEmpty then State.xAdvance key d fuel (s.xCombine key d)
          else
            let s := s.poke (toileAt d x.tabOff) (bucketTable x u)
            let s := (s.onXDie key d (fun u => { u with phase := 2 })).onQueue (x.expq d) (fun q => { q with last := 0xFF })
            s.unitLaunch (x.expq d) 2 (unitDesc x.block (numAt x.block 19 1 % 4) u.round u.serving) (x.drec d)
        else s
      else if u.phase = 3 then
        let ready := live.filter (fun p => !u.doneTo.contains p && !s.movesLeft key d false p u.round)
        let s := each ready (fun p t =>
          let n := (u.tally.find? (fun r => r.1 = p)).elim (0, 0) (·.2)
          (t.onXDie key d (fun u => { u with doneTo := p :: u.doneTo })).xSend key p
            { shxMsg key 12 u.serving p.die d with round := u.round, body := leBytes 4 n.1 ++ leBytes 4 n.2 } none) s
        if !live.all (fun p => u.doneTo.contains p || ready.contains p) || u.todo.any (fun v => !v.fill) ||
            s.shx.moves.any (fun m => m.2.key = key && m.2.die = d && !m.2.fill) then s
        else if u.ungranted.isEmpty then
          State.xAdvance key d fuel (s.onXDie key d (fun u => { u with
            phase := 0, serving := u.serving + 1, tabs := u.tabs2, tabs2 := [], gone := [], grants := [], round := 0, arrived := [],
            lastReceived := u.received, received := 0 }))
        else
          let s := if x.multiAt = u.serving then s
            else (s.onXch key (fun x => { x with multiAt := u.serving })).bump F.shxXStat_MULTI (R.shxXStat (key / 4) (key % 4)) 1
          State.xAdvance key d fuel (grantRound (u.round + 1) u.ungranted s)
      else s
    | _, _ => s

/-- A destination die moves on. -/
def State.xGo (key d : Nat) (s : State) : State := s.xAdvance key d 8

/-! ### The end of a movement's parts (R390, R393) -/

/-- FILLED leaves for every member to which a die's round is written and acknowledged (R390). -/
def State.xFilled (key d : Nat) (s : State) : State :=
  match s.xch? key, s.xdie? key d with
  | some x, some u =>
    let ready := u.fills.filter (fun f => f.closed && !f.sent && f.slots != 0 && !s.movesLeft key d true f.dst f.round)
    each ready (fun f t =>
      (t.onXDie key d (fun u => { u with fills := u.fills.map (fun g => if g.dst = f.dst ∧ g.round = f.round then { g with sent := true } else g) })).xSend
        key f.dst { shxMsg key 11 x.last f.dst.die d with round := f.round, body := leBytes 4 f.slots } none) s
  | _, _ => s

/-- A movement ends. -/
def State.moveEnd (mv : Nat) (v : Move) (s : State) : State :=
  let s := s.onShx (fun y => { y with moves := SMap.del y.moves mv })
  let s := if v.fill then (s.onXDie v.key v.die (fun u => { u with sent := u.sent + 1 })).xFilled v.key v.die
    else
      let add := fun (l : List (Peer × Nat × Nat)) => if l.any (fun r => r.1 = v.peer)
        then l.map (fun r => if r.1 = v.peer then (r.1, r.2.1 + 1, r.2.2) else r) else l ++ [(v.peer, 1, 0)]
      (s.onXDie v.key v.die (fun u => { u with tally := add u.tally })).xGo v.key v.die
  s.pumpAll

/-- What a movement has read of its line is whole: a fill sends SLOT_LINE, a combine the line reduction; a poisoned payload
counts as a reduction answered with poison and is not sent. -/
def State.moveSend (mv : Nat) (v : Move) (s : State) : State :=
  match s.xch? v.key with
  | none => s
  | some x =>
    let who : Unacked := { id := 0, kind := 9, ctx := some x.ctx, addr := v.target, req := none, move := some mv, late := false }
    if v.fill then
      s.xSend v.key v.peer { shxMsg v.key 9 x.last v.peer.die v.die with
        id := mv, round := v.round, slot := v.slot, line := v.line, body := v.buf, last := v.bad } (some who)
    else
      let a := lineOf (v.target + 128 * v.line)
      match v.port with
      | none =>
        let et := sInt 8 (numAt x.block 113 1)
        let t := Txn.blank (.movement (v.key / 4) (v.key % 4) mv) v.die 0 (some (v.key / 4)) (some x.ctx)
          (.reduce x.kind v.g (sInt 8 v.ef) et et (v.ss % 65536) (v.ss / 65536)) .stack a
        (s.addTxn { t with secs := 15, data := v.buf, va := a, noInstall := true }).2
      | some p =>
        if !s.partnerUp p then s
        else
          let hdr := leBytes 5 (a / 128) ++ leBytes 1 x.kind ++ leBytes 2 v.g ++ leBytes 1 v.ef ++ cut x.block 113 1 ++ cut x.block 113 1 ++
            zeros 1 ++ leBytes 4 v.ss
          s.portSend (s.portFor p (some a)) { s.xchMsg v.key 3 a 0 v.die 0 (hdr ++ v.buf) with xid := 0 } (some { who with kind := 3, addr := a })

/-- A line of a movement is done: the next line, the slot record, or the end. -/
def State.moveLine (mv : Nat) (bad : Bool) (s : State) : State :=
  match SMap.get? s.shx.moves mv with
  | none => s
  | some v => match s.xch? v.key with
    | none => s
    | some x =>
      let w := { v with line := v.line + 1, buf := [], bad := false, ss := 0, hasSs := false }
      let put := s.onShx (fun y => { y with moves := SMap.put y.moves mv w })
      if v.fill then
        if v.line = x.rowLines then s.moveEnd mv v
        else if w.line = x.rowLines then
          let src := v.token + 2 ^ 24 * v.die + (if v.peer.port.isSome then 2 ^ 27 else 0)
          put.xSend v.key v.peer { shxMsg v.key 10 x.last v.peer.die v.die with
            id := mv, round := v.round, slot := v.slot, body := leBytes 8 v.target ++ leBytes 2 v.g ++ leBytes 1 v.ef ++ zeros 1 ++ leBytes 4 src }
            (some { id := 0, kind := 10, ctx := some x.ctx, addr := 0, req := none, move := some mv, late := false })
        else put.moveStep mv
      else
        let add := fun (l : List (Peer × Nat × Nat)) => if l.any (fun r => r.1 = v.peer)
          then l.map (fun r => if r.1 = v.peer then (r.1, r.2.1, r.2.2 + 1) else r) else l ++ [(v.peer, 0, 1)]
        let s := if bad then put.onXDie v.key v.die (fun u => { u with tally := add u.tally }) else put
        if w.line < x.dataLines then s.moveStep mv else s.moveEnd mv w

/-- The answer to a message of a movement: an acknowledgment, poison, or a refusal, which faults the context (R390, R412). -/
def State.moveAck (mv status : Nat) (s : State) : State :=
  match SMap.get? s.shx.moves mv with
  | none => s
  | some v =>
    if status = 0x49 then
      s.xFault v.key v.die (if v.fill then trouble 0x05 4 ((s.xch? v.key).elim 0 (fun x => x.drec v.die))
        else trouble 1 1 (v.target + 128 * v.line))
    else s.moveLine mv (status == 0x44)

/-- A memory answer of a movement (the exchange part of BULK_MOVER_RESPONSE). -/
def State.moveGot (i mv : Nat) (t : Txn) (s : State) : State :=
  let s := s.delTxn i
  if t.dead then s
  else match SMap.get? s.shx.moves mv with
  | none => s
  | some v =>
    match s.statusTrouble t with
    | some f => s.xFault v.key v.die f
    | none => match t.op with
      | .read =>
        let n := (t.offs.headD (0, 0)).1
        let o := (t.offs.headD (0, 0)).2
        let bytes := cut t.data o n
        if t.rd = 0 then
          if t.poison ≠ 0 then s.moveLine mv true
          else (s.onShx (fun y => { y with moves := SMap.modify y.moves mv (fun v => { v with ss := leNat bytes, hasSs := true }) })).moveStep mv
        else
          let w := { v with buf := v.buf ++ bytes, bad := v.bad || t.poison != 0 }
          let s := s.onShx (fun y => { y with moves := SMap.put y.moves mv w })
          if w.buf.length < 128 then s.moveStep mv
          else if w.bad && !w.fill then s.moveLine mv true
          else s.moveSend mv w
      | .reduce .. => s.moveLine mv (t.poison != 0)
      | _ =>
        if s.txns.any (fun p => p.2.issuer = t.issuer && !p.2.dead) then s else s.moveLine mv false

/-! ### COUNT, GRANT, FILLED, DONE (R387 to R394) -/

/-- Entries of a source's COUNT joined to its table. -/
def addCount (tabs : List CountTab) (p : Peer) (m : ShxMsg) : List CountTab :=
  let new := m.entries.map (fun e => (e.1, e.2.1))
  if tabs.any (fun t => t.peer = p) then
    tabs.map (fun t => if t.peer = p then { t with cells := t.cells ++ new, last := t.last || m.last } else t)
  else tabs ++ [{ peer := p, last := m.last, cells := new }]

/-- COUNT: it joins the table of the dispatch that the die serves, or the one of the next (R388, R394). -/
def count (port : Nat) (m : ShxMsg) (s : State) : State :=
  s.onShxMsg port 7 m (fun key p _ s =>
    let d := m.dst % 8
    match s.xdie? key d with
    | none => s
    | some u =>
      if m.dispatch % 2 ^ 40 = u.serving % 2 ^ 40 then (s.onXDie key d (fun u => { u with tabs := addCount u.tabs p m })).xGo key d
      else if m.dispatch % 2 ^ 40 = (u.serving + 1) % 2 ^ 40 then s.onXDie key d (fun u => { u with tabs2 := addCount u.tabs2 p m })
      else s)

def execCount (port : Nat) (msg : ShxMsg) (s : State) : Host.Outcome State Fault Refusal := .next (count port msg s)

/-- The routes to one bucket of one destination, taken from the front of those that wait: those taken, and the rest. -/
def takeRoutes (p : Peer) (b : Nat) : Nat → List Route → List Route × List Route
  | _, [] => ([], [])
  | n, r :: rs =>
    if n ≠ 0 ∧ r.dst = p ∧ r.bucket = b then
      let t := takeRoutes p b (n - 1) rs
      (r :: t.1, t.2)
    else
      let t := takeRoutes p b n rs
      (t.1, r :: t.2)

/-- The full round number that a message's number names: the round in flight that agrees modulo 2^15 (R389). -/
def fullRound (u : XDie) (p : Peer) (k : Nat) : Nat :=
  ((u.fills.find? (fun f => f.dst = p && f.round % 32768 == k % 32768 && !f.closed)).map (·.round)).getD
    (let last := (u.fills.filter (fun f => f.dst = p)).foldl (fun a f => max a f.round) 0
     let n := last / 32768 * 32768 + k % 32768
     if n + 16384 < last then n + 32768 else n)

/-- GRANT: the source's routes to each granted bucket, in order, become movements to the granted slots (R388, R390). -/
def grant (port : Nat) (m : ShxMsg) (s : State) : State :=
  s.onShxMsg port 8 m (fun key p _ s =>
    let d := m.dst % 8
    match s.xch? key, s.xdie? key d with
    | some x, some u =>
      if !x.opened || m.dispatch % 2 ^ 40 != x.last % 2 ^ 40 then s
      else
        let r := fullRound u p m.round
        let step := fun (acc : List Route × List Move) (e : Nat × Nat × Nat) =>
          let t := takeRoutes p e.1 e.2.1 acc.1
          let ms := (List.range t.1.length).filterMap (fun i => t.1[i]?.map (fun (w : Route) =>
            ({ key := key, die := d, fill := true, token := w.token, g := w.g, ef := w.ef, peer := p, slot := e.2.2 + i, round := r,
               line := 0, target := 0, port := none, buf := [], bad := false, ss := 0, hasSs := false } : Move)))
          (t.2, acc.2 ++ ms)
        let a := m.entries.foldl step (u.routes, [])
        let old := u.fills.find? (fun f => f.dst = p && f.round = r)
        let f : Fill := { dst := p, round := r, slots := (old.elim 0 (·.slots)) + a.2.length, closed := m.last, sent := false }
        let s := s.onXDie key d (fun u => { u with
          routes := a.1, todo := u.todo ++ a.2, fills := u.fills.filter (fun g => !(g.dst = p && g.round = r)) ++ [f]
          rounds := if f.slots = 0 then u.rounds else max u.rounds (r + 1) })
        s.pumpDie key d
    | _, _ => s)

def execGrant (port : Nat) (msg : ShxMsg) (s : State) : Host.Outcome State Fault Refusal := .next (grant port msg s)

/-- FILLED: with every one in, the bucket table is written and the expert LAUNCH sent (R391, R392). -/
def filled (port : Nat) (m : ShxMsg) (s : State) : State :=
  s.onShxMsg port 11 m (fun key p _ s =>
    let d := m.dst % 8
    match s.xdie? key d with
    | none => s
    | some u =>
      if u.phase = 1 ∧ m.dispatch % 2 ^ 40 = u.serving % 2 ^ 40 ∧ m.round % 32768 = u.round % 32768 then
        (s.onXDie key d (fun u => { u with filled := if u.filled.contains p then u.filled else p :: u.filled })).xGo key d
      else s)

def execFilled (port : Nat) (msg : ShxMsg) (s : State) : Host.Outcome State Fault Refusal := .next (filled port msg s)

/-- EXPERT_LAUNCH_COMPLETE: the round's LAUNCH has completed with STAT_OK, and the destination combines (R393). -/
def expertLaunchComplete (h x d : Nat) (s : State) : State :=
  let key := 4 * h + x
  match s.xch? key, s.xdie? key d with
  | some y, some u =>
    if u.phase = 2 ∧ (s.queue? (y.expq d)).any (fun q => q.run.isNone && q.last == 0) then (s.xCombine key d).xGo key d else s
  | _, _ => s

def execExpertLaunchComplete (hoop xch die : Nat) (_hm : HostView) (s : State) : Host.Outcome State Fault Refusal :=
  .next (if hoop < 16 ∧ xch < 4 then expertLaunchComplete hoop xch die s else s)

/-- DONE: the source's routes of the round are accounted for; the result follows the last (R394). -/
def done (port : Nat) (m : ShxMsg) (s : State) : State :=
  s.onShxMsg port 12 m (fun key p _ s =>
    let d := m.dst % 8
    match s.xch? key, s.xdie? key d with
    | some x, some u =>
      if !x.opened || m.dispatch % 2 ^ 40 != x.last % 2 ^ 40 then s
      else match u.fills.find? (fun f => f.dst = p && f.round % 32768 == m.round % 32768) with
      | none => s
      | some f =>
        let n := min f.slots (numAt m.body 0 4)
        (s.onXDie key d (fun u => { u with
          fills := u.fills.erase f, left := u.left - f.slots, combined := u.combined + n, lost := u.lost + (f.slots - n)
          poisoned := u.poisoned + numAt m.body 4 4 })).xFinish key
    | _, _ => s)

def execDone (port : Nat) (msg : ShxMsg) (s : State) : Host.Outcome State Fault Refusal := .next (done port msg s)

/-! ### Slots (R390) -/

/-- The parts of a write at a virtual address within single lines: address, offset in the data, length. -/
def slotParts (va len : Nat) : List (Nat × Nat × Nat) :=
  let n := min len (128 - va % 128)
  if n = len then [(va, 0, len)] else [(va, 0, n), (va + n, n, len - n)]

/-- A store of an exchange unit of die `d`, acknowledged to the movement or the peer that sent the bytes. -/
def State.slotStore (who : Issuer) (x : Xch) (h d : Nat) (sp : Space) (pa va : Nat) (mir bad : Bool) (bs : Bytes) (s : State) : State :=
  let o := pa % 128
  let t := Txn.blank who d 0 (some h) (some x.ctx) .store sp (lineOf pa)
  (s.addTxn { t with
    secs := secsOf o bs.length, data := zeros o ++ bs ++ zeros (128 - o - bs.length), mask := maskOf o bs.length, va := va - o,
    poison := if bad then secsOf o bs.length else 0, mirrored := mir, noInstall := true }).2

/-- An answer of this package to a partner's message (R401). -/
def State.peerAck (port id status : Nat) (s : State) : State :=
  s.portSend (s.portFor port none) {
    kind := 5, chunks := 0, tag := 0, xid := 0, id := 0, addr := 0, dst := 0, src := 0, aux := 0
    body := [5, 1, BitVec.ofNat 8 status, 0] ++ leBytes 4 id } none

/-- SLOT_LINE: the line is written to its slot, in toile by physical address or in the spill rows through the context's
tables; a line that the row does not have is refused (R381, R390). -/
def slotLine (port : Nat) (m : ShxMsg) (s : State) : State :=
  s.onShxMsg port 9 m (fun key p bad s =>
    let d := m.dst % 8
    match s.xch? key with
    | none => s
    | some x =>
      let who : Issuer := if p.port.isNone then .movement (key / 4) (key % 4) m.id else .peer port m.id
      let bs := cut m.body 0 128
      if x.rowLines ≤ m.line then (if p.port.isNone then s.moveAck m.id 0x49 else s.peerAck port m.id 0x49)
      else if m.slot < x.tslots then
        let a := toileAt d (x.toileOff + m.slot * x.rowBytes + 128 * m.line)
        s.slotStore who x (key / 4) d .toile a a false (m.last || bad) bs
      else match s.ctx? x.ctx with
        | none => s
        | some c =>
          let va := x.spillVa d m.slot + 128 * m.line
          let parts := slotParts va 128
          match (parts.map (fun q => s.translate c .store q.1)).findSome? (fun r => match r with | .error t => some t | .ok _ => none) with
          | some t => s.xFault key d t
          | none => each parts (fun q s => match s.translate c .store q.1 with
              | .error _ => s
              | .ok (l, o) => s.slotStore who x (key / 4) d l.space (l.phys q.1) q.1 (s.isMirrored o) (m.last || bad) (cut bs q.2.1 q.2.2)) s)

def execSlotLine (port : Nat) (msg : ShxMsg) (s : State) : Host.Outcome State Fault Refusal := .next (slotLine port msg s)

/-- SLOT_RECORD: the record is written with PORT and REMOTE of the path by which it came (R390). -/
def slotRecord (port : Nat) (m : ShxMsg) (s : State) : State :=
  s.onShxMsg port 10 m (fun key p bad s =>
    let d := m.dst % 8
    match s.xch? key with
    | none => s
    | some x =>
      let who : Issuer := if p.port.isNone then .movement (key / 4) (key % 4) m.id else .peer port m.id
      let tgt := numAt m.body 0 8 % 2 ^ 40 + (match p.port with | none => 0 | some _ => 2 ^ 40 * port + 2 ^ 43)
      let a := toileAt d (x.recOff + 16 * m.slot)
      (s.onXDie key d (fun u => { u with
        arrived := addNum u.arrived m.slot, received := if u.arrived.contains m.slot then u.received else u.received + 1 })).slotStore who x
        (key / 4) d .toile a a false bad (leBytes 8 tgt ++ cut m.body 8 8))

def execSlotRecord (port : Nat) (msg : ShxMsg) (s : State) : Host.Outcome State Fault Refusal := .next (slotRecord port msg s)

/-! ### What ends a dispatch (R397) -/

/-- A partner of an exchange is lost, by ABORT or with its port: the routes to it count as lost, its missing counts are
empty, and what it has not filled is EMPTY. With the port, the reductions to it end too. -/
def State.xLose (key port status : Nat) (s : State) : State :=
  match s.xch? key with
  | none => s
  | some _ =>
    let gone := fun (p : Peer) => p.port == some port
    let dead := (s.shx.moves.filter (fun m => m.2.key = key && gone m.2.peer && (m.2.fill || status == 0x45))).map (·.1)
    let s := s.onTxns (fun m => SMap.mapVals m (fun _ t => match t.issuer with
      | .movement h k mv => if 4 * h + k = key ∧ dead.contains mv then { t with dead := true } else t
      | _ => t))
    let s := s.onShx (fun y => { y with moves := SMap.keep y.moves (fun k _ => !dead.contains k) })
    let s := s.onXch key (fun x => { x with
      status := if !x.opened then x.status else if status = 0x45 ∨ x.status = 0x45 then 0x45 else status
      gone := if x.opened then addNum x.gone port else x.gone
      dies := SMap.mapVals x.dies (fun _ u =>
        let lostRoutes := (u.routes.filter (fun r => gone r.dst)).length
        let lostFills := (u.fills.filter (fun f => gone f.dst)).foldl (fun a f => a + f.slots) 0
        let u := if x.opened then { u with
            routes := u.routes.filter (fun r => !gone r.dst), fills := u.fills.filter (fun f => !gone f.dst)
            left := u.left - (lostRoutes + lostFills), lost := u.lost + lostRoutes + lostFills } else u
        { u with
          todo := u.todo.filter (fun v => !(gone v.peer && (v.fill || status == 0x45)))
          gone := if x.opened || !u.tabs.isEmpty || u.phase != 0 then addNum u.gone port else u.gone }) })
    let s := each (List.range 8) (fun d t => (t.xGo key d).xFilled key d) s
    (s.xFinish key).pumpAll

/-- ABORT: the partner's exchange has stopped (R397). -/
def abort (port : Nat) (m : ShxMsg) (s : State) : State :=
  s.onShxMsg port 13 m (fun key p _ s => match p.port with
    | some q => if (s.xchPartners key).contains q then s.xLose key q 0x41 else s
    | none => s)

def execAbort (port : Nat) (msg : ShxMsg) (s : State) : Host.Outcome State Fault Refusal := .next (abort port msg s)

/-- DISPATCH_WAIT_LIMIT: DONE has not reached n within the wait limit (R386). -/
def dispatchWaitLimit (h x : Nat) (s : State) : State :=
  match s.xch? (4 * h + x) with
  | none => s
  | some y => if y.opened then s.xFault (4 * h + x) 0 (trouble 0x0E 0 (y.drec 0)) else s

def execDispatchWaitLimit (hoop xch : Nat) (s : State) : Host.Outcome State Fault Refusal :=
  .next (if hoop < 16 ∧ xch < 4 then dispatchWaitLimit hoop xch s else s)

/-! ### The start of a dispatch (R384 to R387) -/

/-- A route checked and placed by the expert map: skipped where G is 0, or the fault (R382, R387). -/
def State.routeOf (s : State) (key tokens : Nat) (va : Nat) (b : Bytes) : Except Trouble (Option Route) :=
  let w := s.rd (R.shxXMap (key / 4) (key % 4))
  let e := numAt b 3 2 % 4096
  let m := s.rd (R.shxMap ((Fget F.shxXMap_MAP_FIRST w + e) % 4096))
  let port := Fget F.shxMap_PORT m
  if tokens ≤ numAt b 0 3 then .error (trouble 0x02 0 va)
  else if Fget F.shxXMap_MAP_COUNT w ≤ e || !Fbit F.shxMap_VALID m ||
     (Fbit F.shxMap_REMOTE m && !(s.xchPorts key).testBit port) then .error (trouble 0x05 4 va)
  else if numAt b 5 2 = 0 then .ok none
  else .ok (some { token := numAt b 0 3, g := numAt b 5 2, ef := numAt b 7 1, bucket := Fget F.shxMap_BUCKET m,
                   dst := { die := Fget F.shxMap_DIE m, port := if Fbit F.shxMap_REMOTE m then some (s.partner port) else none } })

/-- The counting pass of one die: its record and its routes, or the fault (R386, R387). -/
def State.countDie (s : State) (key n : Nat) (x : Xch) (c : Ctx) (hm : HostView) (d : Nat) : Except Trouble (Bytes × List Route) :=
  let a := x.drec d
  match s.vaPeek c hm a 64 with
  | .error t => .error t
  | .ok (r, bad) =>
    let k := numAt r 8 4
    let va := numAt r 0 8
    if bad then .error (trouble 0x09 1 a)
    else if numAt r 32 8 ≠ n then .error (trouble 0x05 4 a)
    else if 65535 < k then .error (trouble 0x05 5 a)
    else if k = 0 then .ok (r, [])
    else if va % 8 ≠ 0 then .error (trouble 0x04 0xFF va)
    else match s.translate c .read va with
    | .error t => .error t
    | .ok (_, m) =>
      if m.va + m.size < va + 8 * k then .error (trouble 0x02 0 va)
      else match s.vaPeek c hm va (8 * k) with
      | .error t => .error t
      | .ok (b, bad) =>
        if bad then .error (trouble 0x09 1 va)
        else ((List.range k).foldl (fun acc i => match acc with
          | .error t => .error t
          | .ok l => match s.routeOf key (numAt r 12 4) (va + 8 * i) (cut b (8 * i) 8) with
            | .error t => .error t
            | .ok none => .ok l
            | .ok (some w) => .ok (w :: l)) (.ok [] : Except Trouble (List Route))).map (fun l => (r, l.reverse))

/-- The counts of a list of routes for a destination: each bucket with a count, in rising order (R387). -/
def countsFor (rs : List Route) (p : Peer) : List (Nat × Nat × Nat) :=
  ((rs.filter (fun r => r.dst = p)).foldl (fun m r => SMap.upd m r.bucket 0 (· + 1)) ([] : SMap Nat)).map (fun e => (e.1, e.2, 0))

/-- A die begins its part in dispatch n as a source. -/
def XDie.start (r : Bytes) (rs : List Route) (u : XDie) : XDie :=
  { u with record := r, counted := true, routes := rs, left := rs.length, sent := 0, combined := 0, lost := 0, poisoned := 0,
           rounds := 0, wrote := false, fills := [] }

/-- DISPATCH_START: the GO fence has reached L + 1; every die reads its record, counts its routes and sends a COUNT to every
destination (R386, R387). A VALUE above L + 1 faults the context. -/
def dispatchStart (h x : Nat) (hm : HostView) (s : State) : State :=
  let key := 4 * h + x
  match s.xch? key with
  | none => s
  | some y => match s.ctx? y.ctx with
    | none => s
    | some c => match s.translate c .wait y.goVa with
      | .error _ => s
      | .ok (l, _) =>
        let v := s.peekNum (l.phys y.goVa) 8
        let n := y.last + 1
        if n < v then s.xFault key 0 (trouble 0x05 4 y.goVa)
        else if v < n || y.opened then s
        else
          let rs := (List.range 8).map (fun d => (d, s.countDie key n y c hm d))
          let s := each rs (fun r t =>
            let t := t.vaNote c (y.drec r.1) 64
            match r.2 with
            | .ok (b, _) => if numAt b 8 4 = 0 then t else t.vaNote c (numAt b 0 8) (8 * numAt b 8 4)
            | .error _ => t) s
          match rs.findSome? (fun r => match r.2 with | .error t => some (r.1, t) | .ok _ => none) with
          | some (d, t) => s.xFault key d t
          | none =>
            let lost := (s.xchPartners key).filter (fun p => !s.partnerUp p)
            let s := (s.onXch key (fun z => { z with last := n, opened := true, status := 0, gone := [] })).setF
              F.shxXLast_LAST (R.shxXLast h x) (n % 2 ^ 32)
            let s := each rs (fun r t => match r.2 with
              | .ok (b, routes) => t.onXDie key r.1 (XDie.start b routes)
              | .error _ => t) s
            let s := each rs (fun r t => match r.2 with
              | .ok (_, routes) => each (t.xchMembers key) (fun p t =>
                  t.xSend key p { shxMsg key 7 n p.die r.1 with entries := countsFor routes p } none) t
              | .error _ => t) s
            each lost (fun p t => t.xLose key p 0x45) (s.xFinish key)

def execDispatchStart (hoop xch : Nat) (hm : HostView) (s : State) : Host.Outcome State Fault Refusal :=
  .next (if hoop < 16 ∧ xch < 4 then dispatchStart hoop xch hm s else s)

/-! ### Enabling and disabling (R379 to R381, R397, R415) -/

def State.shxRefuse (h x reason : Nat) (s : State) : State :=
  (s.setF F.shxXCtrl_REFUSED (R.shxXCtrl h x) 1).setF F.shxXCtrl_REASON (R.shxXCtrl h x) reason

/-- A die's unit in an exchange that has just been enabled with L. -/
def XDie.fresh (l : Nat) : XDie :=
  { record := [], counted := false, routes := [], left := 0, sent := 0, combined := 0, lost := 0, poisoned := 0, rounds := 0, wrote := false,
    fills := [], todo := [], serving := l + 1, tabs := [], tabs2 := [], gone := [], phase := 0, round := 0, ungranted := [], grants := [],
    arrived := [], filled := [], doneTo := [], tally := [], received := 0, lastReceived := 0 }

/-- Whether two map ranges share an entry. -/
def State.mapClash (s : State) (h x : Nat) : Bool :=
  let r := fun (h x : Nat) => (s.fld F.shxXMap_MAP_FIRST (R.shxXMap h x), s.fld F.shxXMap_MAP_COUNT (R.shxXMap h x))
  s.shx.xchs.any (fun p => !apart (r h x).1 (r h x).2 (r (p.1 / 4) (p.1 % 4)).1 (r (p.1 / 4) (p.1 % 4)).2)

/-- The checks of a write of 1 to EN: the exchange, or the REASON (R415). -/
def State.shxCheck (s : State) (h x : Nat) (hm : HostView) : Except Nat Xch :=
  let n := s.fld F.shxXCtrl_CTX (R.shxXCtrl h x)
  if s.hoopSt h ≠ 2 then .error 1
  else match s.ctx? n with
  | none => .error 2
  | some c =>
    if !s.ctxOfHoop h n || s.shx.xchs.any (fun p => p.2.ctx == n) || (c.slot.isNone && s.freeCSlot.isNone) then .error 2
    else match s.vaPeek c hm (s.rd64 (R.shxXBlockLo h x) % 2 ^ 57 / 128 * 128) 128 with
    | .error _ => .error 3
    | .ok (b, bad) =>
      let y : Xch := { ctx := n, block := b, last := 0, opened := false, status := 0, gone := [], multiAt := 0, dies := [] }
      if bad || !y.blockOk then .error 3
      else match s.translate c .wait y.goVa with
      | .error _ => .error 3
      | .ok (l, m) =>
        if (fenceCheck l m y.goVa).isSome then .error 3
        else if (List.range 8).any (fun d => !(s.queue? (y.expq d)).any (fun u => u.st == .live && u.kind == .compute && u.ctx == n) ||
            s.pil.hoops.any (fun p => p.2.servers.any (fun v => v.2.queue == y.expq d))) then .error 4
        else if !toileRoom y.toileOff y.region || s.prickRegions.any (fun o => !apart o prickSize y.toileOff y.region) ||
            s.shx.xchs.any (fun p => !apart p.2.toileOff p.2.region y.toileOff y.region) then .error 5
        else if s.fld F.shxXMap_MAP_COUNT (R.shxXMap h x) = 0 ∨
            4096 < s.fld F.shxXMap_MAP_FIRST (R.shxXMap h x) + s.fld F.shxXMap_MAP_COUNT (R.shxXMap h x) ∨ s.mapClash h x then .error 6
        else if (List.range 8).any (fun p => (s.xchPorts (4 * h + x)).testBit p &&
            !(s.fld F.gmpOutTag_PORTS (R.gmpOutTag h)).testBit p) then .error 7
        else
          let v := s.peekNum (l.phys y.goVa) 8
          .ok { y with last := v, multiAt := v, dies := (List.range 8).map (fun d => (d, XDie.fresh v)) }

/-- A write of SHX_X_CTRL. -/
def State.shxCtrlWrite (h x : Nat) (w : Word) (hm : HostView) (s : State) : State :=
  let off := R.shxXCtrl h x
  let on := s.bit F.shxXCtrl_EN off
  let s := if Fbit F.shxXCtrl_REFUSED w then s.setF F.shxXCtrl_REFUSED off 0 else s
  let s := if on then s else s.setF F.shxXCtrl_CTX off (Fget F.shxXCtrl_CTX w)
  if Fbit F.shxXCtrl_EN w && !on then
    let r := s.shxCheck h x hm
    let s := match s.ctx? (s.fld F.shxXCtrl_CTX off) with
      | some c => s.vaNote c (s.rd64 (R.shxXBlockLo h x) % 2 ^ 57 / 128 * 128) 128
      | none => s
    match r with
    | .error r => s.shxRefuse h x r
    | .ok y =>
      ((((s.onShx (fun z => { z with xchs := SMap.put z.xchs (4 * h + x) y })).keepSlot y.ctx).setF F.shxXCtrl_EN off 1).setF
        F.shxXLast_LAST (R.shxXLast h x) (y.last % 2 ^ 32))
  else if !Fbit F.shxXCtrl_EN w && on then
    if (s.xch? (4 * h + x)).any (·.opened) then s.shxRefuse h x 8 else s.xchStop (4 * h + x)
  else s

/-- EXCHANGE_ENABLE: a write of SHX_X_CTRL with EN 1. -/
def exchangeEnable (h x : Nat) (w : Word) (hm : HostView) (s : State) : State :=
  if h < 16 ∧ x < 4 ∧ Fbit F.shxXCtrl_EN w then s.shxCtrlWrite h x w hm else s

def execExchangeEnable (hoop xch : Nat) (w : Word) (hm : HostView) (s : State) : Host.Outcome State Fault Refusal :=
  .next (s.atReg (R.shxXCtrl hoop xch) (fun s => exchangeEnable hoop xch w hm s))

/-- EXCHANGE_DISABLE: a write of SHX_X_CTRL with EN 0. -/
def exchangeDisable (h x : Nat) (w : Word) (s : State) : State :=
  if h < 16 ∧ x < 4 ∧ !Fbit F.shxXCtrl_EN w then s.shxCtrlWrite h x w [] else s

def execExchangeDisable (hoop xch : Nat) (w : Word) (s : State) : Host.Outcome State Fault Refusal :=
  .next (s.atReg (R.shxXCtrl hoop xch) (fun s => exchangeDisable hoop xch w s))

/-- SHX_MAP_WRITE: a map entry takes its fields (R382). -/
def execShxMapWrite (index : Nat) (w : Word) (s : State) : Host.Outcome State Fault Refusal :=
  .next (s.atReg (R.shxMap index) (fun s => if index < 4096 then s.wr (R.shxMap index) (w &&& 0x8003FF7F) else s))

/-- SHX_X_STAT_CLEAR: both counters take 0. -/
def execShxXStatClear (hoop xch : Nat) (s : State) : Host.Outcome State Fault Refusal :=
  .next (s.atReg (R.shxXStat hoop xch) (fun s => if hoop < 16 ∧ xch < 4 then s.wr (R.shxXStat hoop xch) 0 else s))

/-- SHX_DROP_CLEAR. -/
def execShxDropClear (s : State) : Host.Outcome State Fault Refusal :=
  .next (s.atReg R.shxDrop (fun s => s.wr R.shxDrop 0))

end Sys2Proof.Machine
end

