-- ==== Sys2Proof/Machine/Gimp.lean ====
section
/-!
DEFINITION. The gimp ports: bring-up and keys, bonding, flits and replay, retraining and failure, what a partner writes
here, peer stores and fence signals, and system barriers (R398 to R416).
-/
namespace Sys2Proof.Machine

/-! ### Signatures (R483) -/

/-- A signature is asked of the signing unit: a port's goes before the others, in port order. -/
def State.askSign (r : SignReq) (s : State) : State :=
  if s.sec.signing.isNone then s.onSec (fun c => { c with signing := some r })
  else
    let first := s.sec.waiting.filter (fun w => w.who = 0 && (r.who != 0 || decide (w.arg ≤ r.arg)))
    let rest := s.sec.waiting.filter (fun w => !(w.who = 0 && (r.who != 0 || decide (w.arg ≤ r.arg))))
    s.onSec (fun c => { c with waiting := if r.who = 0 then first ++ [r] ++ rest else c.waiting ++ [r] })

/-! ### Failure (R407) -/

/-- A transaction that waits for a port is answered with STAT_PORT_FAILED, naming the port. -/
def State.portAnswer (p i : Nat) (s : State) : State :=
  (s.onTxn i (fun t => { t with space := .peer p })).answerNow i 0x45

/-- A context faults for a peer store or a signal that its port has taken, as the unit that issued it would, and in the name of the command
that it was issued for where that has not ended (R132, R271, R407, R412). -/
def State.peerFault (u : Unacked) (f : Trouble) (s : State) : State :=
  match u.req with
  | none => s
  | some (_, t) => match t.issuer with
    | .lane e g => s.engineFaultOf e (g % 16) ((t.offs.headD (0, 0)).1) (t.ctx.getD 0) t.queue (!u.late) f t.pc
    | .past e g _ => s.engineFaultOf e (g % 16) ((t.offs.headD (0, 0)).1) (t.ctx.getD 0) t.queue (!u.late) f t.pc
    | .mover e k => (match SMap.get? (s.eng e).filet k with
      | some x => s.engineFaultOf e x.group x.lane x.ctx x.queue (!u.late) f x.pc.toNat
      | none => s.engineFaultOf e 0 0 (t.ctx.getD 0) t.queue (!u.late) f t.pc)
    | .bulk q => s.frontFaultOf q (!u.late) f t.pc
    | _ => s

/-- The first of each context. -/
def onePerCtx (us : List Unacked) : List Unacked :=
  us.foldl (fun a u => if a.any (fun v => v.ctx == u.ctx) then a else a ++ [u]) []

/-- Whether a system barrier of this package is incomplete: it waits for partners, or groups have arrived at it. -/
def State.openBarriers (s : State) (p : Nat) : List Nat :=
  let mine := fun (q : Nat) => ((s.queue? q).bind s.queueHoop).any (fun h => (s.barrierPartners h).contains p)
  ((s.gmp.barriers.filter (fun b => b.ready && !b.from_.contains p && mine b.queue)).map (·.queue) ++
    (s.objs.queues.filter (fun q => mine q.1 && q.2.run.any (fun r => r.arrivals.any (fun a => a.1 % 8 = 4 && !a.2.isEmpty)))).map (·.1)).eraseDups

/-- A port is declared failed (R407): what it holds is answered, picots of a bonded pair go to the other port, the contexts
and the dispatches that it carried are told, and the event is reported. -/
def State.portFail (p reason : Nat) (s : State) : State :=
  let q := s.port p
  let off := R.gmpStat p
  let other := (s.bondOf p).filter s.gmpUp
  let partner := s.partner p
  let was := s.gmpState p
  let s := if 2 ≤ q.step then s.bump F.gmpSecErr_BRINGUP_FAIL (R.gmpSecErr p) 1 else s
  let s := (((s.setF F.gmpStat_STATE off 4).setF F.gmpStat_WIDTH off 0).setF F.gmpStat_FAIL_REASON off reason).setF
    F.gmpCtrl_RETRAIN (R.gmpCtrl p) 0
  let held := q.queue ++ q.replay.flatMap (·.msgs)
  let s : State := s.onPort p (fun _ => { q.down with rxLast := q.rxLast })
  let s : State := match other with
    | some o => each (held.filter (fun (m : PMsg) => mtypeChan m.kind = 0)) (fun m t => t.portSend o m none) s
    | none => s
  let s := each (onePerCtx (q.unacked.filter (fun u => u.move.isNone) ++ q.signals.map (·.who))) (fun u t =>
    t.peerFault u (trouble 0x0D (0x100 + p) u.addr)) s
  let keys := (s.shx.xchs.map (·.1)).filter (fun key => (s.xchPartners key).contains partner &&
    (other.isNone || q.unacked.any (fun u => (u.move.bind (SMap.get? s.shx.moves)).any (fun v => v.key = key)) ||
      held.any (fun (m : PMsg) => decide (7 ≤ m.kind) && decide (m.kind ≤ 12) && m.tag == s.hoopTag (key / 4) && m.xid == s.xchXid key)))
  let s := each keys (fun key t => t.xLose key partner 0x45) s
  let s := if other.isSome then s
    else each (s.openBarriers partner) (fun k t => t.frontFault k (trouble 0x0D (0x100 + p) 0) 0) s
  let s := match s.bondOf p with
    | some _ => s
    | none =>
      let o := q.bondPort
      if q.bondEn && o != p && s.gmpUp o && (s.port o).bondEn then
        s.setF F.gmpStat_BOND_ERR (R.gmpStat o) 1 else s
  if was = 4 then s else s.ras0 0x0C 4 p 0xFFFF p

/-! ### Bring-up (R410, R411) -/

/-- GMP_CTRL takes the fields that have no step of their own (R416). -/
def State.gmpFields (p : Nat) (w : Word) (s : State) : State :=
  ((s.setF F.gmpCtrl_PEER_CHECK (R.gmpCtrl p) (Fget F.gmpCtrl_PEER_CHECK w)).setF F.gmpCtrl_BOND_EN (R.gmpCtrl p)
    (Fget F.gmpCtrl_BOND_EN w)).setF F.gmpCtrl_BOND_PORT (R.gmpCtrl p) (Fget F.gmpCtrl_BOND_PORT w)

/-- Bring-up starts at electrical training; an old bond ends, and the port takes PEER_CHECK, BOND_EN, BOND_PORT and
GMP_PEER_HASH as they read (R416). -/
def State.portStart (p : Nat) (s : State) : State :=
  let s := match s.bondOf p with
    | some o => s.setF F.gmpStat_BONDED (R.gmpStat o) 0
    | none => s
  (s.wr (R.gmpStat p) (Fset F.gmpStat_STATE 1 0)).onPort p (fun q => { Port.empty with
    step := 1, nextId := q.nextId, peerCheck := s.bit F.gmpCtrl_PEER_CHECK (R.gmpCtrl p), bondEn := s.bit F.gmpCtrl_BOND_EN (R.gmpCtrl p)
    bondPort := s.fld F.gmpCtrl_BOND_PORT (R.gmpCtrl p), peerHash := (List.range 8).map (fun k => s.rd (R.gmpPeerHash p k)) })

/-- A port goes down: it carries nothing further. -/
def State.portDown (p : Nat) (s : State) : State :=
  ((s.setF F.gmpStat_STATE (R.gmpStat p) 0).setF F.gmpStat_WIDTH (R.gmpStat p) 0).onPort p Port.down

/-- A port whose EN is cleared goes down once it holds no message and awaits none (R416). -/
def State.portSettle (p : Nat) (s : State) : State :=
  let q := s.port p
  if q.closing && q.queue.isEmpty && q.replay.isEmpty && q.unacked.isEmpty && q.signals.isEmpty then s.portDown p else s

/-- A write of GMP_CTRL: EN and the fields that apply at the next bring-up. A port that has failed stays so until EN is cleared
and then set again (R407). -/
def State.gmpCtrlWrite (p : Nat) (w : Word) (s : State) : State :=
  let on := s.bit F.gmpCtrl_EN (R.gmpCtrl p)
  let s := s.gmpFields p w
  if Fbit F.gmpCtrl_EN w && !on then
    let s := s.setF F.gmpCtrl_EN (R.gmpCtrl p) 1
    if (s.port p).closing then s.onPort p (fun q => { q with closing := false }) else s.portStart p
  else if !Fbit F.gmpCtrl_EN w && on then
    let s := (s.setF F.gmpCtrl_EN (R.gmpCtrl p) 0)
    if s.gmpState p = 3 then (s.onPort p (fun q => { q with closing := true })).portSettle p
    else if s.gmpState p = 4 then s
    else s.portDown p
  else s

/-- PORT_ENABLE: bring-up starts (R410). -/
def portEnable (p : Nat) (w : Word) (s : State) : State := if p < 8 ∧ Fbit F.gmpCtrl_EN w then s.gmpCtrlWrite p w else s

def execPortEnable (port : Nat) (w : Word) (s : State) : Host.Outcome State Fault Refusal :=
  .next (s.atReg (R.gmpCtrl port) (fun s => portEnable port w s))

/-- PORT_DISABLE: the port finishes the messages it holds, then goes down (R416). -/
def portDisable (p : Nat) (w : Word) (s : State) : State := if p < 8 ∧ !Fbit F.gmpCtrl_EN w then s.gmpCtrlWrite p w else s

def execPortDisable (port : Nat) (w : Word) (s : State) : Host.Outcome State Fault Refusal :=
  .next (s.atReg (R.gmpCtrl port) (fun s => portDisable port w s))

/-- The lanes of a mask of 11, lowest first. -/
def lanesIn (m : Nat) : List Nat := (List.range 11).filter (fun i => m.testBit i)

/-- The width at which a direction's good lanes let it run: 10, 8 or none (R398, R406). -/
def laneWidth (good : Nat) : Nat := let n := (lanesIn good).length; if 10 ≤ n then 10 else if 8 ≤ n then 8 else 0

/-- Active lanes and spare of a direction at a width: the lowest good lanes, the next one held as spare, 0xF where none
remains (R398, R406). -/
def lanePick (width good : Nat) : Nat × Nat :=
  let ls := lanesIn good
  ((ls.take width).foldl (fun a i => a + 2 ^ i) 0, (ls.drop width).headD 0xF)

/-- The lanes that a training found, as registers show them; both directions run at the lesser width. -/
def State.putLanes (p : Nat) (c : LaneScan) (s : State) : State :=
  let w := min (laneWidth c.tx) (laneWidth c.rx)
  let t := lanePick w c.tx
  let r := lanePick w c.rx
  (s.setF F.gmpStat_WIDTH (R.gmpStat p) w).wr (R.gmpLaneStat p)
    (Fset F.gmpLaneStat_TX_LANES t.1 (Fset F.gmpLaneStat_TX_SPARE t.2 (Fset F.gmpLaneStat_RX_LANES r.1 (Fset F.gmpLaneStat_RX_SPARE r.2
      (Fset F.gmpLaneStat_REVERSED (if c.reversed then 1 else 0) 0)))))

/-- A control message of bring-up leaves the port, and joins the messages that T covers (R410). -/
def State.control (p step : Nat) (b : Bytes) (s : State) : State :=
  (s.onPort p (fun q => { q with transcript := q.transcript ++ b })).post (.gimp p (0x100 + step) [] b)

/-- PORT_ELECTRICAL_TRAINED: step 1 ends; the serial number is sent (R410). -/
def portElectricalTrained (p : Nat) (c : LaneScan) (flight : Nat) (s : State) : State :=
  if 8 ≤ p ∨ (s.port p).step ≠ 1 ∨ 250 < flight then s
  else if min (laneWidth c.tx) (laneWidth c.rx) = 0 then s.portFail p 2
  else
    let s := ((s.putLanes p c).wr (R.gmpDelay p) (Fset F.gmpDelay_FLIGHT flight (Fset F.gmpDelay_ONE_WAY (90 + flight) 0))).setF
      F.gmpStat_STATE (R.gmpStat p) 2
    (s.onPort p (fun q => { q with step := 2 })).control p 2 (leBytes 8 s.part.serial)

def execPortElectricalTrained (port : Nat) (lanes : LaneScan) (flight : Nat) (s : State) : Host.Outcome State Fault Refusal :=
  .next (portElectricalTrained port lanes flight s)

/-- Random bytes of a die's entropy source, whose health tests have passed (R479). -/
def State.random (d : Nat) (s : State) : Bytes × State :=
  (Config.random s.free, { s with free := s.free + 1 }.onSec (fun c => { c with rngRow := SMap.del c.rngRow d }))

/-- T of R410: the hash of the control messages sent so far, those of the initiator before the responder's of the same step (DEDUCED:
both sides must hold the same T). -/
def State.tHash (s : State) (p : Nat) : Bytes := shake 64 (s.port p).transcript

/-- SERIAL_EXCHANGE: the lower serial number takes the initiator role and sends an encapsulation key; with a failed entropy source
the bring-up fails (R410, R479). -/
def serialExchange (p serial : Nat) (s : State) : State :=
  if 8 ≤ p ∨ (s.port p).step ≠ 2 then s
  else
    let n := serial % 2 ^ 64
    let s := s.onPort p (fun q => { q with
      transcript := if s.part.serial < n then q.transcript ++ leBytes 8 n else leBytes 8 n ++ q.transcript })
    if n = s.part.serial then s.portFail p 6
    else if s.bit F.secStat_RNG_FAIL R.secStat then s.portFail p 8
    else
      let s := (s.wr64 (R.gmpPeerSnLo p) n).onPort p (fun q => { q with step := 3 })
      if s.part.serial < n then
        let r := s.random p
        let sk := r.1
        ((r.2.setF F.gmpStat_ROLE (R.gmpStat p) 1).onPort p (fun q => { q with secret := sk })).control p 3 (cut (Config.derive 1 sk) 0 1568)
      else s

def execSerialExchange (port serial : Nat) (s : State) : Host.Outcome State Fault Refusal := .next (serialExchange port serial s)

/-- Step 4: the chain is sent, and the signature over T is asked for (R410). -/
def State.sendChain (p : Nat) (s : State) : State :=
  if s.bit F.secStat_RNG_FAIL R.secStat then s.portFail p 8
  else
  ((s.onPort p (fun q => { q with step := 4 })).post (.gimp p 0x104 [] s.sec.chain)).askSign { who := 0, arg := p, message := s.tHash p }

/-- KEM_ENCAPSULATION_KEY: the responder returns a ciphertext (R410). -/
def kemEncapsulationKey (p : Nat) (key : Bytes) (s : State) : State :=
  if 8 ≤ p ∨ (s.port p).step ≠ 3 ∨ s.bit F.gmpStat_ROLE (R.gmpStat p) then s
  else if s.bit F.secStat_RNG_FAIL R.secStat then s.portFail p 8
  else
    let r := s.random p
    let seed := r.1 ++ key
    let s := r.2.onPort p (fun q => { q with transcript := q.transcript ++ key, secret := Config.derive 3 seed })
    (s.control p 3 (cut (Config.derive 2 seed) 0 1568)).sendChain p

def execKemEncapsulationKey (port : Nat) (key : Bytes) (s : State) : Host.Outcome State Fault Refusal :=
  .next (kemEncapsulationKey port key s)

/-- KEM_CIPHERTEXT: the initiator has the shared secret (R410). -/
def kemCiphertext (p : Nat) (ct : Bytes) (s : State) : State :=
  if 8 ≤ p ∨ (s.port p).step ≠ 3 ∨ !s.bit F.gmpStat_ROLE (R.gmpStat p) then s
  else (s.onPort p (fun q => { q with transcript := q.transcript ++ ct, secret := Config.derive 4 (q.secret ++ ct) })).sendChain p

def execKemCiphertext (port : Nat) (ct : Bytes) (s : State) : Host.Outcome State Fault Refusal := .next (kemCiphertext port ct s)

/-- PORT_BOND: two ports that name each other, are up and report the same partner become one pair; a bond that is asked
for and cannot be made is an error (R411). -/
def State.portBond (p : Nat) (s : State) : State :=
  let o := (s.port p).bondPort
  if !(s.port p).bondEn then s
  else if o != p && (s.port o).bondEn && (s.port o).bondPort == p && s.gmpUp o && s.gmpUp p &&
     s.rd64 (R.gmpPeerSnLo p) == s.rd64 (R.gmpPeerSnLo o) then
    (((s.setF F.gmpStat_BONDED (R.gmpStat p) 1).setF F.gmpStat_BONDED (R.gmpStat o) 1).setF F.gmpStat_BOND_ERR (R.gmpStat p) 0).setF
      F.gmpStat_BOND_ERR (R.gmpStat o) 0
  else if o != p && s.bit F.gmpCtrl_EN (R.gmpCtrl o) && (s.gmpState o == 1 || s.gmpState o == 2) then s
  else
    let s := s.setF F.gmpStat_BOND_ERR (R.gmpStat p) 1
    if o != p && s.gmpUp o && (s.port o).bondEn && (s.bondOf o).isNone then s.setF F.gmpStat_BOND_ERR (R.gmpStat o) 1 else s

/-- IDENTITY_CHAIN_SIGNATURE: the partner is verified, the keys are derived and the port is up (R408, R410). -/
def identityChainSignature (p : Nat) (v : ChainVerdict) (s : State) : State :=
  if 8 ≤ p ∨ (s.port p).step ≠ 4 then s
  else if !v.chain || !v.signature then s.portFail p 4
  else if (s.port p).peerCheck &&
     (List.range 8).any (fun k => ((s.port p).peerHash.getD k 0).toNat != numAt v.keyHash (4 * k) 4) then s.portFail p 5
  else
    let q := s.port p
    let k := shake 72 (q.secret ++ s.tHash p)
    let first := s.bit F.gmpStat_ROLE (R.gmpStat p)
    let s := (s.onPort p (fun q => { q with
      step := 0, secret := [], transcript := [], txCount := 0, rxCount := 0, rxLast := 0
      txKey := cut k (if first then 0 else 32) 32, rxKey := cut k (if first then 32 else 0) 32
      txSalt := cut k (if first then 64 else 68) 4, rxSalt := cut k (if first then 68 else 64) 4 })).setF
      F.gmpStat_STATE (R.gmpStat p) 3
    s.portBond p

def execIdentityChainSignature (port : Nat) (verdict : ChainVerdict) (s : State) : Host.Outcome State Fault Refusal :=
  .next (identityChainSignature port verdict s)

/-- BRINGUP_TIMEOUT: electrical training does not finish in its 20 ms, or key agreement in the 250 ms of R410. -/
def bringupTimeout (p : Nat) (s : State) : State :=
  if 8 ≤ p ∨ (s.port p).step = 0 then s else s.portFail p (if (s.port p).step = 1 then 1 else 8)

def execBringupTimeout (port : Nat) (s : State) : Host.Outcome State Fault Refusal := .next (bringupTimeout port s)

/-! ### Flits, replay and retraining (R405 to R409) -/

/-- PORT_RETRAIN_START: the port stops its flits and measures its lanes (R406). -/
def State.retrainPort (p : Nat) (s : State) : State :=
  if s.bit F.gmpCtrl_RETRAIN (R.gmpCtrl p) then s
  else (s.setF F.gmpCtrl_RETRAIN (R.gmpCtrl p) 1).bump F.gmpErr_RETRAINS (R.gmpErr p) 1

/-- PORT_RETRAIN_REQUEST: a write of 1 to RETRAIN. -/
def portRetrainRequest (p : Nat) (w : Word) (s : State) : State :=
  if 8 ≤ p ∨ !Fbit F.gmpCtrl_RETRAIN w then s
  else
    let s := s.gmpCtrlWrite p w
    if s.gmpUp p then s.retrainPort p else s

def execPortRetrainRequest (port : Nat) (w : Word) (s : State) : Host.Outcome State Fault Refusal :=
  .next (s.atReg (R.gmpCtrl port) (fun s => portRetrainRequest port w s))

/-- A flit is sent again. -/
def State.resendFlit (p : Nat) (f : PFlit) (s : State) : State :=
  let s := s.onPort p (fun x => { x with
    txCount := (x.txCount + 1) % 2 ^ 64
    replay := x.replay.map (fun g => if g.seq = f.seq then { g with sends := g.sends + 1 } else g) })
  s.postFlit p f.fkind f.msgs

/-- The flits of the replay buffer are sent again from the oldest; one that needs a ninth sending starts retraining
instead (R405). -/
def State.resend (p : Nat) (s : State) : State :=
  if (s.port p).replay.any (fun f => decide (8 ≤ f.sends)) then s.retrainPort p
  else each (s.port p).replay (State.resendFlit p) s

/-- Flits up to a sequence number that is in the replay buffer leave it (R399, R405). -/
def State.ackTo (p seq : Nat) (s : State) : State :=
  s.onPort p (fun x => { x with
    replay := match x.replay.findIdx? (fun f => f.seq = seq) with | some i => x.replay.drop (i + 1) | none => x.replay })

/-- FLIT_RECEIVE: a flit with a good CRC and tag and the expected sequence is accepted; another is discarded and asked for
again; a bad tag under a good CRC fails the port (R405, R407, R408). -/
def flitReceive (p : Nat) (f : GimpFlit) (s : State) : State :=
  if 8 ≤ p ∨ !s.gmpUp p || s.bit F.gmpCtrl_RETRAIN (R.gmpCtrl p) then s
  else
    let s := s.onPort p (fun x => { x with rxCount := (x.rxCount + 1) % 2 ^ 64 })
    if !f.crc then (s.bump F.gmpErr_CRC_ERR (R.gmpErr p) 1).onPort p (fun x => { x with nak := true })
    else if !f.tag then (s.bump F.gmpSecErr_TAG_FAIL (R.gmpSecErr p) 1).portFail p 7
    else if f.fkind ≠ 1 ∧ f.seq % 4096 ≠ (s.port p).expSeq then s.onPort p (fun x => { x with nak := true })
    else
      let s := s.onPort p (fun x => { x with
        expSeq := if f.fkind = 1 then x.expSeq else (x.expSeq + 1) % 4096, nak := if f.fkind = 1 then x.nak else false
        credits := (x.credits.zip ([32, 512, 1024, 4096].zip (f.credit ++ [0, 0, 0, 0]))).map (fun c => min c.2.1 (c.1 + c.2.2 % 256))
        rxKey := if f.fkind = 3 then shake 32 (x.rxKey ++ label "gimp-ratchet") else x.rxKey
        rxCount := if f.fkind = 3 then 0 else x.rxCount
        rxLast := if f.fkind = 3 then 0 else x.rxLast })
      let s := s.ackTo p (f.ack % 4096)
      (s.portPump p ((s.port p).queue.length + 1)).portSettle p

def execFlitReceive (port : Nat) (flit : GimpFlit) (s : State) : Host.Outcome State Fault Refusal := .next (flitReceive port flit s)

/-- NAK_REPLAY: the transmitter resends from the flit after ACK (R405). -/
def nakReplay (p ack : Nat) (s : State) : State :=
  if 8 ≤ p ∨ !s.gmpUp p || s.bit F.gmpCtrl_RETRAIN (R.gmpCtrl p) then s else (s.ackTo p (ack % 4096)).resend p

def execNakReplay (port ack : Nat) (s : State) : Host.Outcome State Fault Refusal := .next (nakReplay port ack s)

/-- REPLAY_TIMER_EXPIRY: ACK has not advanced for 600 ns (R405). -/
def replayTimerExpiry (p : Nat) (s : State) : State :=
  if 8 ≤ p ∨ !s.gmpUp p || s.bit F.gmpCtrl_RETRAIN (R.gmpCtrl p) || (s.port p).replay.isEmpty then s else s.resend p

def execReplayTimerExpiry (port : Nat) (s : State) : Host.Outcome State Fault Refusal := .next (replayTimerExpiry port s)

/-- PORT_RETRAIN_END: the port returns at 10 or 8 lanes, announcing its COUNTER rounded up, or has failed (R406, R409). -/
def portRetrainEnd (p : Nat) (c : LaneScan) (s : State) : State :=
  if 8 ≤ p ∨ !s.bit F.gmpCtrl_RETRAIN (R.gmpCtrl p) then s
  else
    let w := min (laneWidth c.tx) (laneWidth c.rx)
    if w = 0 then s.portFail p 3
    else
      let n := ((s.port p).txCount / 2 ^ 32 + 1) * 2 ^ 32
      let s := ((s.putLanes p c).setF F.gmpCtrl_RETRAIN (R.gmpCtrl p) 0).onPort p (fun x => { x with
        resuming := true, txCount := n, replay := x.replay.map (fun f => { f with sends := 1 }) })
      let s := s.post (.gimp p 0x202 [] (leBytes 8 n))
      if w = 8 then s.ras0 0x0B 4 p 0xFFFF p else s

def execPortRetrainEnd (port : Nat) (lanes : LaneScan) (s : State) : Host.Outcome State Fault Refusal :=
  .next (portRetrainEnd port lanes s)

/-- KEY_UPDATE: after 2^36 flits a key-update flit is sent and the key is replaced by its ratchet (R409). -/
def keyUpdate (p : Nat) (s : State) : State :=
  if 8 ≤ p ∨ (s.port p).txCount < 2 ^ 36 ∨ !s.portFlows p then s
  else
    ((s.sendPFlit p 3 []).onPort p (fun x => { x with txKey := shake 32 (x.txKey ++ label "gimp-ratchet"), txCount := 0 })).setF F.gmpStat_KEY_EPOCH (R.gmpStat p)
      ((s.fld F.gmpStat_KEY_EPOCH (R.gmpStat p) + 1) % 256)

def execKeyUpdate (port : Nat) (s : State) : Host.Outcome State Fault Refusal := .next (keyUpdate port s)

/-- COUNTER_RESUME: the partner's COUNTER is taken where it is greater than the last one accepted, and traffic goes on from
the oldest unacknowledged flit (R406, R409). -/
def counterResume (p counter : Nat) (s : State) : State :=
  if 8 ≤ p ∨ !(s.port p).resuming || decide (counter ≤ (s.port p).rxLast) then s
  else
    let s := s.onPort p (fun x => { x with resuming := false, rxCount := counter % 2 ^ 64, rxLast := counter })
    let s := each (s.port p).replay (State.resendFlit p) s
    s.portPump p ((s.port p).queue.length + 1)

def execCounterResume (port counter : Nat) (s : State) : Host.Outcome State Fault Refusal := .next (counterResume port counter s)

/-! ### What a partner writes here (R412, R413) -/

/-- The local hoop of a tag that arrives on a port (R412). -/
def State.tagHoop (s : State) (p tag : Nat) : Option Nat :=
  let w := s.rd (R.gmpInMap p (tag % 256))
  if Fbit F.gmpInMap_VALID w then some (Fget F.gmpInMap_HOOP w) else none

/-- Whether a partner's write of a hoop may reach an address (R213, R412). -/
def State.peerOk (s : State) (h pa : Nat) : Bool := s.reachable pa && s.setAllowed h pa true

/-- A partner's write or reduction of a line becomes a transaction from the gimp stop, or is refused with STAT_DENIED. -/
def State.peerTxn (p : Nat) (m : PeerMsg) (op : MemOp) (pa mask : Nat) (bs : Bytes) (s : State) : State :=
  if 8 ≤ p || !s.gmpUp p then s
  else match s.tagHoop p m.tag with
  | none => s.peerAck p m.id 0x49
  | some h =>
    if !s.peerOk h pa || (op != .store && isToile pa) then s.peerAck p m.id 0x49
    else
      let t := Txn.blank (.peer p m.id) p 0 (some h) none op (if isToile pa then .toile else .stack) (lineOf pa)
      let o := pa % 128
      (s.addTxn { t with
        secs := secsOf o bs.length, data := zeros o ++ bs ++ zeros (128 - o - bs.length)
        mask := if op = .store then mask * 2 ^ o else 0, va := lineOf pa, noInstall := true }).2

/-- SECTOR_WRITE (R412). -/
def execSectorWrite (port : Nat) (msg : PeerMsg) (s : State) : Host.Outcome State Fault Refusal :=
  .next (s.peerTxn port msg .store (msg.addr % 2 ^ 40 / 32 * 32) (msg.mask % 2 ^ 32) (cut msg.body 0 32))

/-- LINE_WRITE (R412). -/
def execLineWrite (port : Nat) (msg : PeerMsg) (s : State) : Host.Outcome State Fault Refusal :=
  .next (s.peerTxn port msg .store (lineOf (msg.addr % 2 ^ 40)) (msg.mask % 2 ^ 128) (cut msg.body 0 128))

/-- LINE_REDUCE: the line reduction of R170 in the message's body; a reserved KIND is refused. -/
def lineReduce (p : Nat) (m : PeerMsg) (s : State) : State :=
  let b := cut m.body 0 144
  let n := fun (o k : Nat) => numAt b o k
  if 1 < n 5 1 then (if p < 8 && s.gmpUp p then s.peerAck p m.id 0x49 else s)
  else s.peerTxn p m (.reduce (n 5 1) (n 6 2) (sInt 8 (n 8 1)) (sInt 8 (n 9 1)) (sInt 8 (n 10 1)) (n 12 2) (n 14 2))
    (n 0 5 % 2 ^ 33 * 128) 0 (cut b 16 128)

def execLineReduce (port : Nat) (msg : PeerMsg) (s : State) : Host.Outcome State Fault Refusal := .next (lineReduce port msg s)

/-- GMP_FENCE_SIGNAL: the fence at a physical address takes the signal under R302; an address that is no multiple of 32, or
not the hoop's, is refused (R413). -/
def gmpFenceSignal (p : Nat) (m : PeerMsg) (s : State) : State :=
  if 8 ≤ p || !s.gmpUp p then s
  else
    let pa := m.addr % 2 ^ 40
    match s.tagHoop p m.tag with
    | none => s.peerAck p m.id 0x49
    | some h =>
      if pa % 32 ≠ 0 ∨ !s.peerOk h pa ∨ isToile pa then s.peerAck p m.id 0x49
      else
      let idx := s.idxOn p (s.winFor (some h) pa) pa
      if s.lineBusy (lineOf pa) idx false || (s.firstWaiting (s.physSlice idx) (lineOf pa) idx).isSome then s
      else if (s.peek pa 32).2 then s.peerAck p m.id 0x44
      else
        let ctx := (s.ring? (fenceOf (s.peek pa 32).1).evring).elim 65536 (·.ctx)
        (s.applySignal ctx pa idx (numAt m.body 0 8)).peerAck p m.id 0

def execGmpFenceSignal (port : Nat) (msg : PeerMsg) (s : State) : Host.Outcome State Fault Refusal := .next (gmpFenceSignal port msg s)

/-! ### Peer stores and signals (R407, R412, R413) -/

/-- A message of a context to a partner's memory. -/
def peerMsg (tag kind addr : Nat) (body : Bytes) : PMsg :=
  { kind := kind, chunks := 0, tag := tag, xid := 0, id := 0, addr := addr, dst := 0, src := 0, aux := 0, body := body }

/-- A port takes a peer store that has reached it, and acknowledges it: a SECTOR_WRITE for each sector, a LINE_WRITE for a whole
line of a bulk mover; or a fence signal, which waits for the context's earlier writes to the partner (R206, R412, R413). -/
def State.portAccept (i : Nat) (s : State) : State :=
  match s.txn? i with
  | none => s
  | some t =>
    let p0 := match t.space with | .peer p => p | _ => 0
    let p := s.portFor p0 (some t.addr)
    let tag := s.hoopTag (t.hoop.getD 0)
    let who : Unacked := { id := 0, kind := 1, ctx := t.ctx, addr := t.addr, req := some (i, { t with data := [] }), move := none, late := false }
    if !s.gmpUp p then s.portAnswer p i
    else
      let s := match t.op with
        | .signal =>
          let o := (t.offs.headD (0, 0)).2
          let who := { who with kind := 4, addr := t.addr + o }
          let pair : List Nat := match s.bondOf p with | some o => [p, o] | none => [p]
          let after := pair.flatMap (fun (k : Nat) => ((s.port k).unacked.filter (fun (u : Unacked) => u.ctx == t.ctx && decide (u.kind ≤ 2))).map (fun (u : Unacked) => (k, u.id)))
          if after.isEmpty then s.portSend p (peerMsg tag 4 (t.addr + o) (cut t.data o 8)) (some who)
          else s.onPort p (fun x => { x with
            signals := x.signals ++ [({ id := x.nextId, who := who, tag := tag, value := numAt t.data o 8, after := after } : HeldSignal)]
            nextId := (x.nextId + 1) % 2 ^ 32 })
        | _ =>
          if t.mask = 2 ^ 128 - 1 ∧ t.issuer.isBulk then
            s.portSend p (peerMsg tag 2 t.addr (leBytes 16 t.mask ++ t.data)) (some { who with kind := 2 })
          else each ((List.range 4).filter (fun k => secMask t.mask k != 0)) (fun k s =>
            s.portSend p (peerMsg tag 1 (t.addr + 32 * k) (leBytes 4 (secMask t.mask k) ++ zeros 12 ++ cut t.data (32 * k) 32))
              (some { who with addr := t.addr + 32 * k })) s
      s.replyTxn i p .gimp

/-- What an acknowledgment closes: a movement goes on; a store or a signal of which the partner's refusal, or a poisoned fence, faults
the context, naming the partner address (R401, R412). System barriers that wait for peer stores are looked at again. -/
def State.ackOne (p status id : Nat) (s : State) : State :=
  match (s.port p).unacked.find? (fun u => u.id = id) with
  | none => s
  | some u =>
    let s := s.onPort p (fun x => { x with unacked := x.unacked.erase u })
    match u.move with
    | some mv => s.moveAck mv status
    | none =>
      let s := if status = 0x49 then s.peerFault u (trouble 0x01 1 u.addr)
        else if status = 0x44 ∧ u.kind = 4 then s.peerFault u (trouble 0x09 4 u.addr)
        else s
      s.sysSendAll

/-- ACK: up to 6 messages are closed with one status (R401). -/
def ack (p : Nat) (ids : List Nat) (status : Nat) (s : State) : State :=
  if 8 ≤ p || !s.gmpUp p then s else (each (ids.take 6) (State.ackOne p status) s).portSettle p

def execAck (port : Nat) (ids : List Nat) (status : Nat) (s : State) : Host.Outcome State Fault Refusal := .next (ack port ids status s)

/-- PEER_FENCE_HOLD_END: every earlier peer write of the context is acknowledged, and the signal is sent (R413). -/
def peerFenceHoldEnd (p id : Nat) (s : State) : State :=
  match (s.port p).signals.find? (fun h => h.id = id) with
  | none => s
  | some h =>
    if h.after.any (fun w => (s.port w.1).unacked.any (fun u => u.id = w.2)) then s
    else
      let s := s.onPort p (fun x => { x with signals := x.signals.erase h })
      s.portSend p (peerMsg h.tag 4 h.who.addr (leBytes 8 h.value)) (some h.who)

def execPeerFenceHoldEnd (port id : Nat) (s : State) : Host.Outcome State Fault Refusal := .next (peerFenceHoldEnd port id s)

/-! ### System barriers (R414) -/

/-- BARRIER_MESSAGE: a partner has completed an instance of a barrier; with every partner in, it releases here. One of an
instance that has been released is a duplicate. -/
def barrierMessage (p tag num q inst : Nat) (s : State) : State :=
  if 8 ≤ p || !s.gmpUp p || decide (4 ≤ num) then s
  else match s.tagHoop p tag with
  | none => s
  | some h =>
    let from_ := s.partner p
    let old := s.gmp.barriers.any (fun b => b.queue = q && b.num = num && b.inst = inst)
    if !old && decide (inst < SMap.getD s.gmp.instances (4 * q + num) 0) then s
    else
      let b : SysBarrier := { queue := q, num := num, inst := inst, hoop := h, ready := false, sent := false, after := [], from_ := [from_] }
      let s := s.onGmp (fun g => { g with
        barriers := if old then g.barriers.map (fun x => if x.queue = q && x.num = num && x.inst = inst then
            { x with from_ := addNum x.from_ from_ } else x) else g.barriers ++ [b] })
      s.sysRelease q num inst

def execBarrierMessage (port tag num queue inst : Nat) (s : State) : Host.Outcome State Fault Refusal :=
  .next (barrierMessage port tag num queue inst s)

/-- GMP_ERR_CLEAR (R415). -/
def execGmpErrClear (port : Nat) (s : State) : Host.Outcome State Fault Refusal :=
  .next (s.atReg (R.gmpErr port) (fun s => if port < 8 then s.wr (R.gmpErr port) 0 else s))

/-- GMP_SEC_ERR_CLEAR (R415). -/
def execGmpSecErrClear (port : Nat) (s : State) : Host.Outcome State Fault Refusal :=
  .next (s.atReg (R.gmpSecErr port) (fun s => if port < 8 then s.wr (R.gmpSecErr port) 0 else s))

end Sys2Proof.Machine
end

