-- ==== Sys2Proof/Machine/Arrive.lean ====
section
/-!
DEFINITION. What reaches its unit: flits that cross the mesh, barrier arrivals and releases, the end of a group, and the
answers of memory to the bulk movers, the exchange units, the host controller and the ports (R99, R195, R196, R241, R254, R412).
-/
namespace Sys2Proof.Machine

/-- A transaction that has reached the host controller or a port is taken by it. -/
def State.takeIn (i : Nat) (s : State) : State :=
  match s.txn? i with
  | none => s
  | some t =>
    if t.moving then s
    else match t.stage with
    | .host => s.hostAccept i
    | .port => s.portAccept i
    | _ => s

/-- A heartbeat that has arrived is what the Winder of die 4 knows (R452). -/
def State.hear (m : Nat) (s : State) : State :=
  match s.msg? m with
  | some x => match x.kind with
    | .heartbeat k => if x.arrived then (s.delMsg m).onRas (fun r => { r with heard := k }) else s
    | _ => s
  | none => s

/-- What follows where a flit has left the mesh: the host controller or a port takes a transaction, an engine whose picot has arrived
has a credit again (R130), and an acceptance reaches its slice (R220). -/
def State.landed (c : Cargo) (s : State) : State :=
  match c with
  | .txn i => s.takeIn i
  | .msg m => (s.hear m).picotsAll
  | .ctl _ => s.acceptances

/-- MESH_FLIT_FORWARD: the flit moves while its die's mesh clock runs, and what it brings is taken. -/
def forwardFlit (i : Nat) (err : CodeError) (s : State) : State :=
  match SMap.get? s.mesh.flits i with
  | none => s
  | some f =>
    let t := if s.runs f.die then meshFlitForward i err s else s
    if (SMap.get? t.mesh.flits i).isNone then t.landed f.cargo else t

def execMeshFlitForward (flit : Nat) (err : CodeError) (s : State) : Host.Outcome State Fault Refusal := .next (forwardFlit flit err s)

/-- EXIT: the active lanes end; a group with an empty stack ends once the registers that it has asked for are written, and another goes
on at the reconvergence address of its top entry (R99). -/
def exit (e g opc : Nat) (s : State) : State :=
  s.issue e g opc [] (fun u t =>
    t.whenEmpty e g u.exit)

def execExit (eng grp opc : Nat) (s : State) : Host.Outcome State Fault Refusal := .next (exit eng grp opc s)

/-- BARRIER_ARRIVAL: the barrier unit counts an arrival, and the last one completes the barrier; after a freeze it is held
(R195, R327). -/
def barrierArrival (m : Nat) (s : State) : State :=
  match s.msg? m with
  | none => s
  | some x => match x.kind with
    | .arrive q num scope e i =>
      if !x.arrived then s
      else match (s.queue? q).bind (·.run) with
      | none => s.delMsg m
      | some r =>
        if r.frozen then s
        else ((s.delMsg m).onRun q (fun r => { r with
          arrivals := SMap.upd r.arrivals (8 * num + scope) [] (fun l => addNum l i) })).barrierCheck q num scope e
    | _ => s

def execBarrierArrival (msg : Nat) (s : State) : Host.Outcome State Fault Refusal := .next (barrierArrival msg s)

/-- BARRIER_RELEASE: the groups of the launch on the engine that wait at the barrier acquire and go on (R196). -/
def barrierRelease (m : Nat) (s : State) : State :=
  match s.msg? m with
  | none => s
  | some x => match x.kind with
    | .release q num scope e =>
      if !x.arrived then s
      else
        let gs := ((s.eng e).groups.filter (fun p => p.2.queue = q && p.2.st == .barrier num scope)).map (·.1)
        each gs (fun g t => t.resume e g scope) (s.delMsg m)
    | _ => s

def execBarrierRelease (msg : Nat) (s : State) : Host.Outcome State Fault Refusal := .next (barrierRelease msg s)

/-- The answer to a partner's write or reduction leaves as an ACK, once every part of it is answered (R401, R412). -/
def State.peerGot (i p id : Nat) (t : Txn) (s : State) : State :=
  let s := s.delTxn i
  let st := if t.status ≠ 0 then 0x49 else if t.poison ≠ 0 ∧ t.op ≠ .store then 0x44 else 0
  if t.dead then s
  else if st ≠ 0 then
    (s.onTxns (fun m => SMap.mapVals m (fun _ u => if u.issuer == .peer p id then { u with dead := true } else u))).peerAck p id st
  else if s.txns.any (fun x => x.2.issuer == .peer p id && !x.2.dead) then s
  else s.peerAck p id 0

/-- BULK_MOVER_RESPONSE: an answer reaches a bulk mover, an exchange unit, the host controller or a port. -/
def bulkMoverResponse (i : Nat) (s : State) : State :=
  match s.txn? i with
  | none => s
  | some t =>
    if t.stage != .reply || t.moving then s
    else match t.issuer with
    | .bulk q => s.bulkGot i q t
    | .host fn => s.bar4Got i fn t
    | .peer p id => s.peerGot i p id t
    | .movement _ _ mv => s.moveGot i mv t
    | _ => s

def execBulkMoverResponse (txn : Nat) (s : State) : Host.Outcome State Fault Refusal := .next (bulkMoverResponse txn s)

end Sys2Proof.Machine
end

