-- ==== Sys2Proof/Machine/DeviceReset.lean ====
section
/-!
DEFINITION. The device reset (R16): what ends, what takes its reset value, and what keeps its own (R12, R52, R181, R232, R233, R410).
-/
namespace Sys2Proof.Machine

/-- The instance of a register array that an offset names. -/
def rowOf (base step count off : Nat) : Option Nat :=
  if base ≤ off ∧ off < base + step * count ∧ (off - base) % step = 0 then some ((off - base) / step) else none

/-- Whether a register keeps its value at a device reset: those of the MSH, GMP, CLK, PWR, WND, SEC and OTP blocks, and
CSH_SLICE_MAP (R16, R181). -/
def keptAtReset (off : Nat) : Bool :=
  (decide (0x00200000 ≤ off) && decide (off < 0x00300000)) || (decide (0x00A00000 ≤ off) && decide (off < 0x01000000)) ||
  (rowOf (R.cshSliceMap 0) 0x10 256 off).isSome

/-- The registers after a device reset: those kept, STATE of each engine, and STATE 3 of each channel out of service. -/
def State.resetRegs (s : State) : SMap Word :=
  let kept := s.regs.filterMap (fun p =>
    if keptAtReset p.1 then some p
    else if (rowOf (R.engStat 0) 0x40 2048 p.1).isSome then some (p.1, p.2 &&& Fmask F.engStat_STATE)
    else none)
  let m := s.ras.chanOut.foldl (fun m c => SMap.put m (R.memChStat c) (Fset F.memChStat_STATE 3 (s.resetReg (R.memChStat c)))) kept
  SMap.put m R.hifLinkStat (Fset F.hifLinkStat_CTRL (s.fld F.wndDieStat_HIF_CTRL R.wndDieStat) 0)

/-- Every channel set is cleared under a new common key, and every toile bank is written with zeros (R16, R232, R233). What
the controllers know of their repairs stays. -/
def Memory.afterReset (m : Memory) : Memory :=
  { Memory.empty with
    nextReq := m.nextReq
    keyGen := SMap.upd m.keyGen 16 0 (· + 1)
    toileZeroing := true
    chans := SMap.mapVals m.chans (fun _ c => { Channel.empty with spares := c.spares, remap := c.remap, log := c.log }) }

/-- What runs in the package ends without any record: contexts and their objects, hoops, servers and exchanges, and what the engines,
the mesh, the caches and the host link hold (R16, R426). -/
def State.stopWork (s : State) : State :=
  { s with
    mesh := { s.mesh with
      flits := []
      poisoned := [] }
    txns := []
    msgs := []
    engs := []
    cache := { Cache.empty with
      ledgerDie := s.cache.ledgerDie
      dead := s.cache.dead }
    host := { HostIf.empty with rrs := true }
    objs := { Objects.empty with stamp := s.objs.stamp }
    sched := { Sched.empty with nextAligned := s.sched.nextAligned }
    pil := { hoops := [] }
    shx := { s.shx with
      xchs := []
      moves := [] }
    gmp := { s.gmp with
      barriers := []
      instances := [] }
    sec := { s.sec with ide := [] } }

/-- All work ends, the registers take their reset values, and the stacks and the toile are cleared (R16). -/
def State.endAll (s : State) : State :=
  { s.stopWork with
    regs := s.resetRegs
    hold := s.hold.filter (fun p => keptAtReset p.1)
    capt := []
    mem := s.mem.afterReset }

/-- A gimp port at a device reset: with EN at 1 it goes down and is brought up again (R410); one that was closing goes down. Any other
keeps its registers (R16, R407). -/
def State.portReset (p : Nat) (s : State) : State :=
  if s.bit F.gmpCtrl_EN (R.gmpCtrl p) then (s.portDown p).portStart p
  else if (s.port p).closing then s.portDown p
  else s.onPort p (fun q => { Port.empty with
    nextId := q.nextId
    rxLast := q.rxLast })

/-- A link that has failed may train again (R52). -/
def State.linkAtReset (l : Nat) (s : State) : State :=
  if s.linkState l = 3 ∧ !s.bit F.clkStat_ISOLATED (R.clkStat (linkEnds l).1) ∧ !s.bit F.clkStat_ISOLATED (R.clkStat (linkEnds l).2) then
    s.setF F.mshLinkStat_STATE (R.mshLinkStat l) 0
  else s

/-- The effect of a device reset. -/
def State.resetDevice (s : State) : State :=
  let s := s.endAll
  let s := each (List.range 16) (fun j t => t.setF F.memSetStat_CLEARING (R.memSetStat j) 1) s
  let s := each (List.range 10) State.linkAtReset s
  let s := each (List.range 8) State.portReset s
  if s.ras.measuring.isEmpty then s else s.setF F.engFrayCtrl_BUSY R.engFrayCtrl 1

end Sys2Proof.Machine
end

