-- ==== Sys2Proof/Machine/Clocks.lean ====
section
/-!
DEFINITION. Clocks, power and thermal control: the start-up of a die's clocks, source failures, gating, levels and their
changes, droop, hardware forces, and the power manager (R417 to R443).
-/
namespace Sys2Proof.Machine

/-! ### Start-up and source failures (R420, R425 to R428, R440) -/

/-- TRIMMED_OSCILLATOR_STABLE: the clock monitor and the Winder start at 40 MHz (R420). -/
def execTrimmedOscillatorStable (die : Nat) (s : State) : Host.Outcome State Fault Refusal :=
  .next (if die < 8 ∧ (s.dieClk die).stage = .waiting then
      (s.onDie die (fun d => { d with stage := .counting })).setF F.clkStat_ON_OSC (R.clkStat die) 1 else s)

/-- REFERENCE_COUNT_PASS: 1 ms of reference edges have been counted, and the root PLL's acquisition starts (R420). -/
def execReferenceCountPass (die : Nat) (s : State) : Host.Outcome State Fault Refusal :=
  .next (if die < 8 ∧ (s.dieClk die).stage = .counting then
      (s.onDie die (fun d => { d with stage := .acquiring })).setF F.clkStat_REF_OK (R.clkStat die) 1 else s)

/-- ROOT_PLL_LOCK: the dividers are released, and the Winder leaves the oscillator; after PWROK the die counter starts at 0,
the engines start at the L0 frequency and the safe states are released (R419, R420). In a recovery the die waits for the
others, and a die that was lost stays isolated (R427). -/
def rootPllLock (k : Nat) (s : State) : State :=
  if 8 ≤ k ∨ (s.dieClk k).stage ≠ .acquiring then s
  else
    let s := (s.setF F.clkStat_PLL_LOCK (R.clkStat k) 1).setF F.clkStat_ON_OSC (R.clkStat k) 0
    if s.clk.recovering || s.bit F.clkStat_ISOLATED (R.clkStat k) then s.onDie k (fun d => { d with stage := .running })
    else s.onDie k (fun d => { d with stage := .running, safe := d.tripped, counter := 0, freq := levelMhz 0 })

def execRootPllLock (die : Nat) (s : State) : Host.Outcome State Fault Refusal := .next (rootPllLock die s)

/-- PLL_LOCK_TIMEOUT: the count begins again (R420). -/
def execPllLockTimeout (die : Nat) (s : State) : Host.Outcome State Fault Refusal :=
  .next (if die < 8 ∧ (s.dieClk die).stage = .acquiring then
      (s.onDie die (fun d => { d with stage := .counting })).setF F.clkStat_REF_OK (R.clkStat die) 0 else s)

/-- The pins and wires of the model: 5 the safe states of a die, 6 VR_DFLT_N, 0 THERMTRIP_N, 2 the package's safe-state
wire. -/
def pinSafe : Nat := 5

/-- A die enters the safe states (R426): its clocks stop, its change of level is abandoned, and the Winder runs from the
oscillator while the reference is counted again. -/
def State.enterSafe (k : Nat) (s : State) : State :=
  let s := s.onDie k (fun d => { d with
    stage := .counting, safe := true, change := none, next := none, droops := [], forces := [], freq := levelMhz 0, droopRef := 0 })
  let s := ((s.setF F.clkStat_PLL_LOCK (R.clkStat k) 0).setF F.clkStat_REF_OK (R.clkStat k) 0).setF F.clkStat_ON_OSC (R.clkStat k) 1
  let s := (((s.setF F.pwrDieStat_LEVEL (R.pwrDieStat k) 0).setF F.pwrDieStat_CHANGING (R.pwrDieStat k) 0).setF
    F.pwrDieStat_DROOP (R.pwrDieStat k) 0).setF F.pwrDieStat_TCRIT (R.pwrDieStat k) 0
  (s.post (.pin pinSafe k true)).post (.pin 6 k false)

/-- SOURCE_FAILURE (R425 to R427). A lost reference concerns every die; a lost root concerns its own, and with die 0's
the whole package, of which nothing goes on: the clocks of every die have stopped, and no context survives the recovery. -/
def sourceFailure (k : Nat) (kind : SourceFault) (s : State) : State :=
  if 8 ≤ k || !s.clk.pwrok then s
  else
    let all := kind = .refLost ∨ k = 0
    let s := each (if kind = .refLost then List.range 8 else [k]) (fun d t => t.bump F.clkStat_SRC_FAILS (R.clkStat d) 1) s
    let s := if kind = .rootLost ∧ k = 0 then s.post (.pin 2 0 true) else s
    let s := each (if all then List.range 8 else [k]) State.enterSafe s
    let s := if all then s.stopWork.onClk (fun c => { c with recovering := true }) else s
    let s := s.mgmt 2 k 0
    if all then s.mgmt 8 k 1 else s

def execSourceFailure (die : Nat) (kind : SourceFault) (s : State) : Host.Outcome State Fault Refusal :=
  .next (sourceFailure die kind s)

/-- DIE_ISOLATE: a die other than die 0 whose root failed is held out, with its links down (R427). -/
def dieIsolate (k : Nat) (s : State) : State :=
  if 1 ≤ k ∧ k < 8 ∧ (s.dieClk k).safe ∧ !s.clk.recovering ∧ s.fld F.clkStat_SRC_FAILS (R.clkStat k) ≠ 0 then
    (each (linksOf k) (fun l t => if t.linkState l = 2 ∨ t.linkState l = 1 then t.linkFailed l else t) s).setF
      F.clkStat_ISOLATED (R.clkStat k) 1
  else s

def execDieIsolate (die : Nat) (s : State) : Host.Outcome State Fault Refusal := .next (dieIsolate die s)

/-- THERMAL_TRIP: THERMTRIP_N goes low and the die enters the safe states until PWROK falls (R440). -/
def thermalTrip (k : Nat) (s : State) : State :=
  if 8 ≤ k || !s.clk.pwrok then s
  else ((((s.enterSafe k).onDie k (fun d => { d with tripped := true, stage := .low })).post (.pin 0 k false)).mgmt 8 k 2)

def execThermalTrip (die : Nat) (s : State) : Host.Outcome State Fault Refusal := .next (thermalTrip die s)

/-! ### Clock gating (R423) -/

/-- CLK_GATE_WRITE: each enable of a block takes the written bit; a 0 for a block in use is refused. -/
def clkGateWrite (k : Nat) (w : Word) (s : State) : State :=
  if 8 ≤ k then s
  else
    let off := R.clkGate k
    let busy := [
      (F.clkGate_TGC, (List.range 128).any (fun c => s.chanState (128 * k + c) == 2)),
      (F.clkGate_GMP, s.gmpState k != 0 || s.bit F.gmpCtrl_EN (R.gmpCtrl k)),
      (F.clkGate_TEST, s.inTest k)] ++ (if k = 0 then [(F.clkGate_HIF_STBY, s.bit F.wndDieStat_HIF_CTRL R.wndDieStat)] else [])
    let s := if Fbit F.clkGate_REFUSED w then s.setF F.clkGate_REFUSED off 0 else s
    each busy (fun b t =>
      if Fbit b.1 w then t.setF b.1 off 1
      else if b.2 && t.bit b.1 off then t.setF F.clkGate_REFUSED off 1
      else t.setF b.1 off 0) s

def execClkGateWrite (die : Nat) (w : Word) (s : State) : Host.Outcome State Fault Refusal :=
  .next (s.atReg (R.clkGate die) (fun s => clkGateWrite die w s))

/-! ### Levels (R429 to R432) -/

def State.level (s : State) (k : Nat) : Nat := s.fld F.pwrDieStat_LEVEL (R.pwrDieStat k)
def State.voltMv (s : State) (k i : Nat) : Nat := s.fld F.pwrVolt_MV (R.pwrVolt k i)

/-- The level controller starts a change of level (R430). -/
def State.startChange (k new : Nat) (s : State) : State :=
  if new = s.level k then s
  else
    let s := s.setF F.pwrDieStat_CHANGING (R.pwrDieStat k) 1
    if levelMhz (s.level k) < levelMhz new then
      (s.onDie k (fun d => { d with change := some { level := new, raise := true, volt := true, stepping := false } })).post (.avs k (s.voltMv k new))
    else s.onDie k (fun d => { d with change := some { level := new, raise := false, volt := false, stepping := true } })

/-- A change of level ends, and the target that waited is taken (R430). -/
def State.endChange (k new : Nat) (s : State) : State :=
  let s := ((s.setF F.pwrDieStat_LEVEL (R.pwrDieStat k) new).setF F.pwrDieStat_CHANGING (R.pwrDieStat k) 0).onDie k (fun d => { d with change := none })
  if (s.dieClk k).forces.isEmpty then
    match (s.dieClk k).next with
    | some t => (s.onDie k (fun d => { d with next := none })).startChange k t
    | none => s
  else s

/-- A level that is asked for: taken at once, or kept until the change or the force ends. -/
def State.askLevel (k new : Nat) (s : State) : State :=
  if (s.dieClk k).change.isNone && (s.dieClk k).forces.isEmpty then s.startChange k new
  else s.onDie k (fun d => { d with next := some new })

/-- WATCHDOG of the package reads 1 while any die holds (R443). -/
def State.watchdogs (s : State) : State :=
  s.setF F.pwrPkgStat_WATCHDOG R.pwrPkgStat
    (if (List.range 8).any (fun d => s.bit F.pwrDieStat_WATCHDOG (R.pwrDieStat d)) then 1 else 0)

/-- LEVEL_TARGET: a target of the power manager has come to a die's level controller (R430, R435, R437). -/
def levelTarget (k target : Nat) (s : State) : State :=
  match s.msgs.find? (fun p => p.2.arrived && p.2.kind == .level k target) with
  | none => s
  | some m =>
  let s := s.delMsg m.1
  if 8 ≤ k ∨ 16 ≤ target ∨ (s.dieClk k).safe then s
  else ((s.setF F.pwrDieStat_TARGET (R.pwrDieStat k) target).setF F.pwrDieStat_WATCHDOG (R.pwrDieStat k) 0).watchdogs.askLevel k target

def execLevelTarget (die target : Nat) (s : State) : Host.Outcome State Fault Refusal := .next (levelTarget die target s)

/-- A hardware force: the engines of the die move to 400 MHz, a change is abandoned, and the L0 voltage frame is sent
(R438). A condition that joins a force continues it (R441). -/
def State.force (k : Nat) (f : Force) (s : State) : State :=
  let s := if (s.dieClk k).forces.isEmpty then s.bump F.pwrDroop_FORCES (R.pwrDroop k) 1 else s
  if (s.dieClk k).forces.isEmpty then
    let s := (s.setF F.pwrDieStat_LEVEL (R.pwrDieStat k) 0).setF F.pwrDieStat_CHANGING (R.pwrDieStat k) 1
    (s.onDie k (fun d => { d with
      forces := [f], freq := levelMhz 0, droopRef := 0, next := some (s.fld F.pwrDieStat_TARGET (R.pwrDieStat k))
      change := some { level := 0, raise := false, volt := true, stepping := false } })).post (.avs k (s.voltMv k 0))
  else s.onDie k (fun d => { d with forces := if d.forces.contains f then d.forces else d.forces ++ [f] })

/-- VOLTAGE_REACHED: the voltage of a change is deemed reached; a regulator fault forces L0 (R430, R431). -/
def voltageReached (k : Nat) (bad : Bool) (s : State) : State :=
  if 8 ≤ k then s
  else match (s.dieClk k).change with
  | none => s
  | some c =>
    if !c.volt then s
    else if bad then
      (s.onDie k (fun d => { d with change := if d.forces.isEmpty then d.change else d.change.map (fun c => { c with volt := false }) })).force k .alert
    else if c.raise then
      s.onDie k (fun d => { d with change := some { c with volt := false, stepping := true }, droopRef := c.level })
    else s.endChange k c.level

def execVoltageReached (die : Nat) (regFault : Bool) (s : State) : Host.Outcome State Fault Refusal :=
  .next (voltageReached die regFault s)

/-- The highest engine clock of a die at a level frequency: each engine runs at the lowest of the level's, its fused and its
capped frequency (R429). -/
def State.topEngine (s : State) (k f : Nat) : Nat :=
  (allEngines.filter (fun e => engDie e = k)).foldl (fun a e =>
    max a (min f (min (s.fld F.engFreq_FUSED_MHZ (R.engFreq e)) (s.fld F.engFreq_CAP_MHZ (R.engFreq e))))) 0

/-- The mesh clock in MHz (R422): root ÷ 4, or root ÷ 3. -/
def State.meshMhz (s : State) : Nat := if s.bit F.clkCfg_MESH_DIV R.clkCfg then 3333 else 2500

/-- FREQUENCY_STEP: one step of at most 25 MHz, held while the droop flag is set (R430, R432). A step that takes an engine
above half the mesh clock leaves what the manual defines (R421). -/
def execFrequencyStep (die : Nat) (s : State) : Host.Outcome State Fault Refusal :=
  if 8 ≤ die then .next s
  else match (s.dieClk die).change with
  | none => .next s
  | some c =>
    if !c.stepping || !(s.dieClk die).droops.isEmpty then .next s
    else
      let f := (s.dieClk die).freq
      let goal := levelMhz c.level
      let g := if c.raise then min goal (f + 25) else max goal (f - 25)
      if s.meshMhz < 2 * s.topEngine die g then .fault .clockRatioUndefined
      else
        let s := s.onDie die (fun d => { d with freq := g })
        if g ≠ goal then .next s
        else if c.raise then .next (s.endChange die c.level)
        else .next ((s.onDie die (fun d => { d with change := some { c with stepping := false, volt := true }, droopRef := c.level })).post
          (.avs die (s.voltMv die c.level)))

/-- DROOP_TRIP: the quadrant's clock periods double, and the trip is counted (R431). -/
def droopTrip (k q : Nat) (s : State) : State :=
  if 8 ≤ k ∨ 4 ≤ q ∨ (s.dieClk k).droops.contains q then s
  else ((s.onDie k (fun d => { d with droops := addNum d.droops q })).setF F.pwrDieStat_DROOP (R.pwrDieStat k) 1).bump
    F.pwrDroop_EVENTS (R.pwrDroop k) 1

def execDroopTrip (die quad : Nat) (s : State) : Host.Outcome State Fault Refusal := .next (s.powered (droopTrip die quad))

/-- DROOP_CLEAR: the detector is no longer tripped, and the stretch ends (R431). -/
def droopClear (k q : Nat) (s : State) : State :=
  if 8 ≤ k ∨ !(s.dieClk k).droops.contains q then s
  else
    let s := s.onDie k (fun d => { d with droops := delNum d.droops q })
    s.setF F.pwrDieStat_DROOP (R.pwrDieStat k) (if (s.dieClk k).droops.isEmpty then 0 else 1)

def execDroopClear (die quad : Nat) (s : State) : Host.Outcome State Fault Refusal := .next (droopClear die quad s)

/-- LEVEL_WATCHDOG: no target has come for 2 ms (R437). -/
def levelWatchdog (k : Nat) (s : State) : State :=
  if 8 ≤ k ∨ (s.dieClk k).safe then s
  else
    let low := min (s.level k) (s.fld F.pwrCtrl_SAFE_LEVEL R.pwrCtrl)
    ((s.setF F.pwrDieStat_WATCHDOG (R.pwrDieStat k) 1).watchdogs).askLevel k low

def execLevelWatchdog (die : Nat) (s : State) : Host.Outcome State Fault Refusal := .next (levelWatchdog die s)

/-- FORCE_START: a regulator alert, or a sensor at T_CRIT (R438). -/
def forceStart (k : Nat) (c : ForceCause) (s : State) : State :=
  if 8 ≤ k ∨ (s.dieClk k).safe then s
  else match c with
  | .alert => (s.setF F.pwrDieStat_ALERT (R.pwrDieStat k) 1).force k .alert
  | .tcrit => (s.setF F.pwrDieStat_TCRIT (R.pwrDieStat k) 1).force k .tcrit

def execForceStart (die : Nat) (cause : ForceCause) (s : State) : Host.Outcome State Fault Refusal := .next (forceStart die cause s)

/-- FORCE_END: the alert has been high for 1 ms and every sensor reads below T_CRIT - 10; the die rises to its target
(R438). -/
def forceEnd (k : Nat) (s : State) : State :=
  if 8 ≤ k ∨ (s.dieClk k).forces.isEmpty then s
  else
    let s := ((s.setF F.pwrDieStat_ALERT (R.pwrDieStat k) 0).setF F.pwrDieStat_TCRIT (R.pwrDieStat k) 0).onDie k (fun d => { d with forces := [] })
    let t := ((s.dieClk k).next).getD (s.fld F.pwrDieStat_TARGET (R.pwrDieStat k))
    if (s.dieClk k).change.isNone then (s.onDie k (fun d => { d with next := none })).startChange k t
    else s.onDie k (fun d => { d with next := some t })

def execForceEnd (die : Nat) (s : State) : Host.Outcome State Fault Refusal := .next (forceEnd die s)

/-- PWR_DROOP_CLEAR: both counters take 0. -/
def execPwrDroopClear (die : Nat) (s : State) : Host.Outcome State Fault Refusal :=
  .next (s.atReg (R.pwrDroop die) (fun s => if die < 8 then s.wr (R.pwrDroop die) 0 else s))

/-! ### The power manager (R434 to R436, R439) -/

/-- RAIL_TELEMETRY: a die's rails and temperatures reach the managers (R434). -/
def railTelemetry (k cmpW baseW : Nat) (temps : List Nat) (s : State) : State :=
  if 8 ≤ k then s
  else
    let s := s.onDie k (fun d => { d with
      cmpW := cmpW, baseW := baseW, temps := (List.range 4).map (fun i => temps.getD i (d.temps.getD i 25)) })
    let t := (s.dieClk k).temps
    s.wr (R.pwrTemp k) (Fset F.pwrTemp_CMP_C (t.getD 0 0) (Fset F.pwrTemp_BASE_C (t.getD 1 0) (Fset F.pwrTemp_STACK0_C (t.getD 2 0)
      (Fset F.pwrTemp_STACK1_C (t.getD 3 0) 0))))

def execRailTelemetry (die cmpW baseW : Nat) (temps : List Nat) (s : State) : Host.Outcome State Fault Refusal :=
  .next (s.powered (railTelemetry die cmpW baseW temps))

/-- Modelled power of the stacks in mW; `moved` gives for each stack the thousandths of the loop's possible sectors that
moved (R434). -/
def stackMw (moved : List Nat) : Nat := (List.range 16).foldl (fun a k => a + 4000 + 16 * min 1000 (moved.getD k 0)) 0

/-- Modelled power of the gimp ports in mW (R434). -/
def State.gimpMw (s : State) : Nat :=
  (List.range 8).foldl (fun a p =>
    a + (if !s.bit F.clkGate_GMP (R.clkGate p) then 0
         else if s.fld F.gmpStat_WIDTH (R.gmpStat p) = 10 then 37500
         else if s.fld F.gmpStat_WIDTH (R.gmpStat p) = 8 then 30000 else 2000)) 0

/-- A die's thermal limit after a loop (R439). -/
def State.newLimit (s : State) (k : Nat) : Nat :=
  let t := (s.dieClk k).temps
  let cur := s.fld F.pwrDieStat_THERM_LIMIT (R.pwrDieStat k)
  let die := max (t.getD 0 0) (t.getD 1 0)
  let stack := max (t.getD 2 0) (t.getD 3 0)
  let a := s.fld F.pwrTherm_T_THROTTLE R.pwrTherm
  let b := s.fld F.pwrTherm_T_STACK R.pwrTherm
  if a ≤ die ∨ b ≤ stack then cur - 1
  else if die + 5 ≤ a ∧ stack + 5 ≤ b then min 15 (cur + 1)
  else cur

/-- The targets of a loop, in mW of package power against the ceiling (R435). -/
def loopTargets (p ceil : Nat) (hi ts : List Nat) : List Nat :=
  let up := fun (ts : List Nat) =>
    let cand := (List.range 8).filter (fun d => decide (ts.getD d 0 < hi.getD d 0))
    match cand.foldl (fun b d => match b with
      | none => some d
      | some e => if ts.getD d 0 < ts.getD e 0 then some d else b) none with
    | some d => setNth ts d (· + 1)
    | none => ts
  let ts := if ceil < p then ts.map (fun t => t - (if ceil * 21 < p * 20 then 2 else 1))
    else if p * 20 < ceil * 19 then up ts else ts
  (List.range 8).map (fun d => min (ts.getD d 0) (hi.getD d 0))

/-- POWER_LOOP: thermal limits, package power, targets and CAP_UNMET; every die is sent its target (R434 to R436, R439). -/
def powerLoop (moved : List Nat) (s : State) : State :=
  if s.sec.dead then s
  else
    let s := each (List.range 8) (fun d t =>
      (t.setF F.pwrDieStat_THERM_LIMIT (R.pwrDieStat d) (t.newLimit d)).wr (R.pwrDiePower d)
        (Fset F.pwrDiePower_CMP_W (t.dieClk d).cmpW (Fset F.pwrDiePower_BASE_W (t.dieClk d).baseW 0))) s
    let p := (List.range 8).foldl (fun a d => a + 1000 * ((s.dieClk d).cmpW + (s.dieClk d).baseW)) 0 + stackMw moved + s.gimpMw
    let ceil := 1000 * s.fld F.pwrCeil_CEIL_W R.pwrCeil
    let hi := (List.range 8).map (fun d => min (s.fld F.pwrCtrl_LMAX R.pwrCtrl) (s.fld F.pwrDieStat_THERM_LIMIT (R.pwrDieStat d)))
    let ts := if s.clk.firstLoop then List.replicate 8 0 else loopTargets p ceil hi s.clk.targets
    let unmet := decide (ceil < p) && ts.all (· == 0)
    let s := s.onClk (fun c => { c with targets := ts, firstLoop := false })
    let s := each (List.range 8) (fun d t => t.sendMsg .picot (.level d (ts.getD d 0)) t.winder d .barrier .barrier) s
    let s := (s.setF F.pwrPkgStat_POWER_W R.pwrPkgStat (min 0xFFF (p / 1000))).setF F.pwrPkgStat_CAP_UNMET R.pwrPkgStat (if unmet then 1 else 0)
    if unmet then s.mgmt 3 s.winder 0 else s

def execPowerLoop (moved : List Nat) (s : State) : Host.Outcome State Fault Refusal := .next (s.powered (powerLoop moved))

end Sys2Proof.Machine
end

