-- ==== Sys2Proof/Machine/Knots.lean ====
section
/-!
DEFINITION. Preemption at knots: the KNOT instruction, parking, the save and the restore of an engine's share of a command,
and the save slot's format (R326 to R335).
-/
namespace Sys2Proof.Machine

/-! ### Parking (R326, R327) -/

/-- KNOT: one issue slot; a group of a launch that is being saved parks behind it. -/
def knot (e g opc : Nat) (krec : Int) (s : State) : State :=
  s.issue e g opc [] (fun u t =>
    let t := t.onGrp e g (fun v => { v.step with krec := some (sInt 24 (uNat 24 krec)) })
    if (t.share? e u.queue).any (fun h => h.saving.isSome) then t.parkGroup e g else t)

def execKnot (eng grp opc : Nat) (krec : Int) (s : State) : Host.Outcome State Fault Refusal := .next (knot eng grp opc krec s)

/-- The groups of a queue's launch on an engine, with their slots. -/
def State.groupsOf (s : State) (e q : Nat) : List (Nat × Group) := (s.eng e).groups.filter (fun p => p.2.queue = q)

def Group.waits (u : Group) : Bool :=
  match u.st with | .barrier .. => true | .fence .. => true | .fwait _ => true | _ => false
def Group.isParked (u : Group) : Bool := match u.st with | .parked _ => true | _ => false
def Group.park? (u : Group) : Option Park := match u.st with | .parked p => some p | _ => none

/-- Whether a barrier release of a queue's launch is on its way to an engine: it left before the preempt picot. -/
def State.releaseOut (s : State) (e q : Nat) : Bool :=
  s.msgs.any (fun p => match p.2.kind with | .release k _ _ m => k == q && m == e | _ => false)

/-- PREEMPT_PICOT_ARRIVE: the preempt picot has reached a member: the knot wait starts, the launch places no further group, and waiting
groups park. A member whose part of the command has ended has nothing to save (R327, R333, R502). -/
def preemptPicotArrive (e q : Nat) (s : State) : State :=
  match s.msgs.find? (fun p => p.2.arrived && p.2.kind == .preempt q e) with
  | none => s
  | some m =>
  match (s.queue? q).bind (·.run), s.share? e q with
  | some r, some h =>
    if s.releaseOut e q then s
    else if r.phase != .saving || h.saving.isSome || h.restore then s.delMsg m.1
    else
      let s := (s.delMsg m.1).onEng e (fun n => { n with shares := SMap.modify n.shares q (fun h => { h with
        saving := some 1, slot := (r.slots.find? (fun p => p.1 = e)).map (·.2) }) })
      each ((s.groupsOf e q).filter (fun p => p.2.waits)) (fun p t =>
        if (t.grp? e p.1).any (·.waits) then t.parkGroup e p.1 else t) s
  | _, _ => s.delMsg m.1

def execPreemptPicotArrive (eng queue : Nat) (s : State) : Host.Outcome State Fault Refusal := .next (preemptPicotArrive eng queue s)

/-- KNOT_WAIT_EXPIRY: groups that have not parked stop at their next boundary, and every register and the whole window are
saved (R328). -/
def knotWaitExpiry (e q : Nat) (s : State) : State :=
  match s.share? e q with
  | none => s
  | some h =>
    let gs := s.groupsOf e q
    if h.saving != some 1 || gs.all (fun p => p.2.isParked) || !(s.queue? q).any (fun u => u.hasRun .saving) then s
    else
      let size := ((s.eng e).winBS q).2
      let s := s.onEng e (fun n => { n with shares := SMap.modify n.shares q (fun h => { h with saving := some 2 }) })
      each gs (fun p t => t.setPark e p.1 (2 ^ p.2.n - 1) (if size = 0 then [] else [(0, size)])
        (match p.2.park? with
         | some k => (k.why, k.arg, k.va, k.target)
         | none => if p.2.waits then parkWhy p.2 else (5, 0, 0, 0))) s

def execKnotWaitExpiry (eng queue : Nat) (s : State) : Host.Outcome State Fault Refusal := .next (knotWaitExpiry eng queue s)

/-! ### The save slot (R334, R335) -/

/-- The bytes of a group record. `off` is the slot offset of its first saved register; the elapsed time of a fence wait
is given. -/
def groupRecord (u : Group) (k : Park) (off elapsed : Nat) : Bytes :=
  let n := u.stack.length
  let st := u.stack.reverse.flatMap (fun r => leBytes 8 r.rpc.toNat ++ leBytes 4 r.saved.toNat ++ leBytes 8 r.ppc.toNat ++ leBytes 4 r.pmask.toNat)
  leBytes 8 u.pc.toNat ++ leBytes 4 u.active.toNat ++ leBytes 4 u.aflags.toNat ++ leBytes 1 u.ftr ++ leBytes 1 n ++ leBytes 1 k.why ++
  zeros 1 ++ leBytes 4 u.index ++ leBytes 4 off ++ leBytes 4 k.arg ++ leBytes 8 k.va ++ leBytes 8 k.target ++ leBytes 8 elapsed ++
  zeros 8 ++ leBytes 32 k.live ++ zeros 160 ++ cut st 0 768

/-- The numbers of the registers in a LIVE mask, rising. -/
def liveRegs (m : Nat) : List Nat := (List.range 256).filter (fun r => m.testBit r)

/-- One saved register: lane l's word at byte 4l. -/
def regBytes (u : Group) (r : Nat) : Bytes := (List.range 32).flatMap (fun l => leBytes 4 (u.reg r l).toNat)

/-- The header of a slot, bytes 0 to 0x3F. -/
def slotHeader (h : Share) (kind e q groups ranges mask elapsed : Nat) : Bytes :=
  leBytes 1 1 ++ leBytes 1 kind ++ leBytes 2 e ++ leBytes 4 q ++ leBytes 2 h.ctx ++ leBytes 1 groups ++ leBytes 1 h.twin ++
  leBytes 1 (h.n - 1) ++ leBytes 1 ranges ++ leBytes 1 mask ++ zeros 1 ++ leBytes 4 h.next ++ leBytes 4 h.last ++ leBytes 8 elapsed ++
  leBytes 8 h.kernel ++ leBytes 8 h.args ++ leBytes 2 h.e ++ leBytes 2 h.k ++ leBytes 1 h.gpe ++ zeros 11

/-- Where slot `i` of a hoop lies. -/
def State.slotAddr (s : State) (h i : Nat) : Nat := (s.savePool h).1 + i * 0x108000

/-- The groups' records and registers are written: group after group, registers packed in the order of their numbers. The time that a
fence wait has taken so far is what it had taken before, and a free value (R329). -/
def State.putGroups (base : Nat) : Nat → Nat → List Group → State → State
  | _, _, [], s => s
  | i, off, u :: us, s =>
    match u.park? with
    | none => State.putGroups base i off us s
    | some k =>
      let rs := liveRegs k.live
      let d := s.draw
      let wait := if k.why = 3 then u.fenceElapsed + d.1 else 0
      let s := d.2
      let s := s.poke (base + 0x400 + 1024 * i) (groupRecord u k off wait)
      let s := s.poke (base + off) (rs.flatMap (regBytes u))
      State.putGroups base (i + 1) (off + 128 * rs.length) us s

/-- The saved tile ranges are written; a word of the tile store that is poisoned carries its mark along. -/
def State.putTiles (base : Nat) (n : Engine) (wbase : Nat) (rs : List (Nat × Nat)) (s : State) : State :=
  each rs (fun r s =>
    let a := base + 0x48000 + r.1
    let s := s.poke a (n.tileAt (wbase + r.1) r.2)
    each (n.tilePoison.filter (fun w => decide (wbase + r.1 ≤ 8 * w) && decide (8 * w < wbase + r.1 + r.2)))
      (fun w t => t.setMark ((base + 0x48000 + (8 * w - wbase)) / 32) true) s) s

/-- An engine's share of a command is written to its slot (R327, R334). -/
def State.writeSlot (e q : Nat) (h : Share) (base elapsed : Nat) (s : State) : State :=
  let n := s.eng e
  let gs := (s.groupsOf e q).map (·.2)
  let rs := (gs.flatMap (fun u => (u.park?.map (·.ranges)).getD [])).eraseDups
  let fs := n.filet.filter (fun p => p.2.queue = q && !p.2.started)
  let mask := fs.foldl (fun a p => a + 2 ^ p.1) 0
  let src := (List.range 8).flatMap (fun k => leBytes 8 (((SMap.get? n.motifs (motifKey h.ctx k)).map (·.src)).getD 0))
  let words := (List.range 8).flatMap (fun k => match fs.find? (fun p => p.1 = k) with
    | some p => (List.range 8).flatMap (fun i => leBytes 4 (fw p.2.words i))
    | none => zeros 32)
  let tiles := cut (rs.flatMap (fun r => leBytes 4 r.1 ++ leBytes 4 r.2)) 0 512
  let s := s.poke base (slotHeader h (h.saving.getD 1) e q gs.length rs.length mask elapsed ++ src ++ words ++ tiles)
  (s.putGroups base 0 0x8000 gs).putTiles base n (n.winBS q).1 rs

/-! ### The end of a save (R327, R329, R331) -/

/-- A save or a restore fails: the context faults with FAULT_SAVE. The manual names no instruction for it, and the PC is a
free value. -/
def State.saveFault (e q ctx detail addr : Nat) (s : State) : State :=
  let d := s.draw
  d.2.engineFault e 0 0 ctx q (trouble 0x12 detail addr) (d.1 % 2 ^ 57)

/-- What an engine holds of a saved command is freed; the motif slots stay while another command of the context is on the
engine. -/
def State.freeSaved (e q ctx : Nat) (s : State) : State :=
  s.onEng e (fun n =>
    let other := n.shares.any (fun p => p.1 != q && p.2.ctx = ctx && !p.2.restore)
    { n with
      groups := n.groups.filter (fun p => p.2.queue != q), wins := n.wins.filter (fun w => w.queue != q)
      filet := n.filet.filter (fun p => p.2.queue != q)
      motifs := if other then n.motifs else n.motifs.filter (fun p => p.1 / 8 != ctx)
      l1 := n.l1.filter (fun l => l.ctx != ctx), tlb := n.tlb.filter (fun t => t.ctx != ctx)
      held := n.held.filter (fun t => t.ctx != ctx) })

/-- The filet entries of a queue that wait to start, in the order in which they issued. -/
def Engine.unstarted (n : Engine) (q : Nat) : List (Nat × FEntry) :=
  sortBy (fun a b => decide (a.2.order ≤ b.2.order)) (n.filet.filter (fun p => p.2.queue = q && !p.2.started))

/-- SAVE_WRITES_ACKED: every group has parked, every request of the command is answered and the slot is written: the engine
frees what the command held and answers the scheduler by a picot (R327, R502). `failed` is the slot address of a save write that was answered with
poison or a link failure. -/
def saveWritesAcked (e q : Nat) (failed : Option Nat) (s : State) : State :=
  match s.queue? q, s.share? e q with
  | some u, some h =>
    match u.run, h.saving, s.queueHoop u with
    | some r, some kind, some hp =>
      let gs := s.groupsOf e q
      if r.phase != .saving || !(gs.all (fun p => p.2.isParked)) || (s.eng e).filet.any (fun p => p.2.queue = q && p.2.started) ||
         !(s.cmdTxns q e).isEmpty then s
      else match failed with
      | some a => s.saveFault e q h.ctx 3 a
      | none =>
        let d := s.draw
        let s := d.2
        let s := s.writeSlot e q h (s.slotAddr hp (h.slot.getD 0)) (r.elapsed + d.1)
        let kept := ((s.eng e).unstarted q).map (fun p => (p.1, p.2.lane, p.2.pc))
        let knots := gs.foldl (fun m p => match p.2.krec with | some k => SMap.put m p.2.index k | none => m) []
        let s := s.freeSaved e q h.ctx
        let s := s.onEng e (fun n => { n with shares := SMap.modify n.shares q (fun h => { h with
          saving := none, restore := true, started := true, kept := kept, knots := knots }) })
        let s := if kind = 1 then s.bump F.hoopPreempt_KNOT_SAVES (R.hoopPreempt hp) 1
          else s.bump F.hoopPreempt_FULL_SAVES (R.hoopPreempt hp) 1
        s.enginePicot e (.saved q e) (s.mgrDie hp) .barrier
    | _, _, _ => s
  | _, _ => s

def execSaveWritesAcked (eng queue : Nat) (failed : Option Nat) (s : State) : Host.Outcome State Fault Refusal :=
  .next (saveWritesAcked eng queue failed s)

/-- The members of a command whose answer to its preemption has reached the scheduler (R327, R502). -/
def State.savedAnswers (s : State) (q : Nat) : List Nat :=
  s.msgs.filterMap (fun p => match p.2.kind with | .saved k e => if k == q && p.2.arrived then some e else none | _ => none)

/-- SAVE_COMPLETE: every member has answered; the queue is unbound and the scheduler decides. A command all of whose members
had ended is complete, and nothing is saved (R327, R329, R333). -/
def saveComplete (q : Nat) (s : State) : State :=
  match s.queue? q with
  | none => s
  | some u => match u.run, s.queueHoop u with
    | some r, some h =>
      let got := s.savedAnswers q
      if r.phase != .saving || !(r.members.all (fun e => r.answered.contains e || got.contains e)) then s
      else
      let s := s.onMsgs (fun m => m.filter (fun p => match p.2.kind with | .saved k _ => k != q | _ => true))
      if (s.endedMembers q r).length = r.members.length then
        (s.freeSlots q).onRun q (fun r => { r with phase := .running, frozen := false })
      else
        let d := s.draw
        let s := d.2.onRun q (fun r => { r with phase := .saved, elapsed := r.elapsed + d.1, arrivals := [] })
        let s := s.onMsgs (fun m => m.filter (fun p => match p.2.kind with | .arrive k _ _ _ _ => k != q | _ => true))
        let s := s.onHoop h (fun x => { x with preempting := delNum x.preempting q })
        (s.unbind q).reschedule h
    | _, _ => s

def execSaveComplete (queue : Nat) (s : State) : Host.Outcome State Fault Refusal := .next (saveComplete queue s)

/-! ### The restore (R329, R330, R332) -/

/-- A group as its record and its registers in a slot give it. -/
def State.loadGroup (s : State) (base i q ctx n : Nat) (knots : SMap Int) : Group :=
  let b := (s.peek (base + 0x400 + 1024 * i) 1024).1
  let live := liveRegs (numAt b 64 32)
  let regs := (s.peek (base + numAt b 24 4) (128 * live.length)).1
  let words := (List.range live.length).flatMap (fun j => (List.range 32).map (fun l =>
    (32 * live.getD j 0 + l, BitVec.ofNat 32 (numAt regs (128 * j + 4 * l) 4))))
  let depth := numAt b 17 1
  { queue := q, ctx := ctx, n := n, index := numAt b 20 4, pc := BitVec.ofNat 57 (numAt b 0 8), active := BitVec.ofNat 32 (numAt b 8 4)
    regs := words
    stack := ((List.range depth).map (fun j => { rpc := BitVec.ofNat 57 (numAt b (256 + 24 * j) 8)
                                                 saved := BitVec.ofNat 32 (numAt b (264 + 24 * j) 4)
                                                 ppc := BitVec.ofNat 57 (numAt b (268 + 24 * j) 8)
                                                 pmask := BitVec.ofNat 32 (numAt b (276 + 24 * j) 4) : Recon })).reverse
    aflags := BitVec.ofNat 32 (numAt b 12 4), ftr := numAt b 16 1, busy := [], st := .ready, fenceElapsed := numAt b 48 8
    krec := SMap.get? knots (numAt b 20 4) }

/-- The registers of the records of a slot that read poisoned: where they lie (R332). -/
def State.poisonedRegs (s : State) (base cnt : Nat) : Option Nat :=
  (List.range cnt).findSome? (fun i =>
    let b := (s.peek (base + 0x400 + 1024 * i) 1024).1
    if (s.peek (base + numAt b 24 4) (128 * (liveRegs (numAt b 64 32)).length)).2 then some (base + numAt b 24 4) else none)

/-- What a reload of a motif slot gives: its image, or nothing where it fails (R84, R330). An image in host memory is a
free value, slot k's its own. -/
def State.reloadMotif (s : State) (k ctx src : Nat) : Option Bytes :=
  match s.ctx? ctx with
  | none => none
  | some c =>
    if src % 256 ≠ 0 then none
    else
      let got := (List.range 7).map (fun i =>
        let v := src + 128 * i
        match s.translate c .read v with
        | .error _ => (none : Option Bytes)
        | .ok (l, _) => match l.space with
          | .host => some (leBytes 128 (Config.freeNat (s.free + 7 * k + i)))
          | _ => let b := s.peek (l.phys v) (if i = 6 then 32 else 128); if b.2 then none else some b.1)
      if got.any (·.isNone) then none
      else
        let img := (got.flatMap (fun b => b.getD [])).take 784
        if motifVersion img = 1 then some img else none

/-- The saved filet operations go back into their entries, behind every operation queued on the engine (R330, step 5). -/
def State.putFilet (e q : Nat) (h : Share) (base : Nat) (s : State) : State :=
  each h.kept (fun p s => s.onEng e (fun n =>
    let g := (n.groups.find? (fun u => u.2.queue = q && u.2.ftr.testBit p.1)).elim 0 (·.1)
    { n with
      order := n.order + 1
      filet := SMap.put n.filet p.1 (
        { group := g, lane := p.2.1, queue := q, ctx := h.ctx, pc := p.2.2
          words := (List.range 8).map (fun i => numAt (s.peek (base + 0x80 + 32 * p.1 + 4 * i) 4).1 0 4)
          order := n.order, started := false, flags := 0, todo := [], page := none } : FEntry) })) s

/-- The last member of a command is restored: it runs again, its barriers count, and its remaining slots are free. -/
def State.restored (q : Nat) (s : State) : State :=
  match (s.queue? q).bind (·.run) with
  | none => s
  | some r =>
    if r.members.all (fun e => r.answered.contains e) then
      (s.freeSlots q).onRun q (fun r => { r with phase := .running, frozen := false, answered := s.endedMembers q r })
    else s

/-- RESTORE: an engine takes its share of a saved command back (R330). `failed` is the slot address of a read that returned
poison or a link failure. The step waits for a window, register rows, group slots and filet entries. -/
def restore (e q : Nat) (failed : Option Nat) (s : State) : State :=
  match s.queue? q, s.share? e q with
  | some u, some h =>
    match u.run, s.queueHoop u with
    | some r, some hp =>
      let n := s.eng e
      let base := s.slotAddr hp (h.slot.getD 0)
      let cnt := numAt (s.peek (base + 10) 1).1 0 1
      let free := (List.range 16).filter (fun g => !(n.groups.any (fun p => p.1 = g)))
      let took := pickMany 0 s.objs.stamp cnt free
      if r.phase != .restoring || !h.restore || decide (free.length < cnt) || decide (2048 < n.rows + cnt * rowsFor h.n) ||
         h.kept.any (fun p => n.filet.any (fun f => f.1 = p.1)) || n.draining.contains h.ctx then s
      else match failed with
      | some a => s.saveFault e q h.ctx 4 a
      | none =>
        let head := s.peek base 0x400
        let used := 0x400 + 1024 * cnt
        if head.2 || (s.peek (base + 0x400) (used - 0x400)).2 then s.saveFault e q h.ctx 4 base
        else match s.poisonedRegs base cnt with
        | some a => s.saveFault e q h.ctx 4 a
        | none => match s.takeWin e q h.twin true with
        | none => s
        | some s =>
          let rs := (List.range (numAt head.1 13 1)).map (fun i => (numAt head.1 (0x180 + 8 * i) 4, numAt head.1 (0x184 + 8 * i) 4))
          let bad := rs.find? (fun x => (s.peek (base + 0x48000 + x.1) x.2).2)
          match bad with
          | some x => s.saveFault e q h.ctx 4 (base + 0x48000 + x.1)
          | none =>
            let srcs := ((List.range 8).map (fun k => (k, numAt head.1 (0x40 + 8 * k) 8))).filter (fun p =>
              p.2 != 0 && !(n.motifs.any (fun m => m.1 = motifKey h.ctx p.1)))
            match srcs.find? (fun p => (s.reloadMotif p.1 h.ctx p.2).isNone) with
            | some p => s.saveFault e q h.ctx 5 p.2
            | none =>
              let wb := ((s.eng e).winBS q).1
              let imgs := srcs.map (fun p => (p.1, p.2, s.reloadMotif p.1 h.ctx p.2))
              let gs := (List.range cnt).map (fun i => s.loadGroup base i q h.ctx h.n h.knots)
              let s := s.onEng e (fun n => match n.winOf q with | some w => n.zeroWin w | none => n)
              let s := each rs (fun x s => s.onEng e (Engine.tilePut (wb + x.1) (s.peek (base + 0x48000 + x.1) x.2).1)) s
              let s := s.onEng e (fun n => { n with
                groups := (List.range cnt).foldl (fun m i => match gs[i]? with
                  | some u => SMap.put m (took.getD i 0) u
                  | none => m) n.groups
                given := n.given.filter (fun p => !took.contains p.1)
                motifs := imgs.foldl (fun m p => SMap.put m (motifKey h.ctx p.1) { src := p.2.1, image := p.2.2, loading := false, lines := [] }) n.motifs })
              let s := (s.putFilet e q h base).l1Invalidate e h.ctx
              let s := { s.ticks cnt with free := s.free + 56 }
              let s := s.onEng e (fun n => { n with shares := SMap.modify n.shares q (fun h => { h with
                restore := false, slot := none, kept := [], knots := [] }) })
              let s := s.onHoop hp (fun x => { x with freeSlots := match h.slot with | some i => addNum x.freeSlots i | none => x.freeSlots })
              (s.onRun q (fun r => { r with
                answered := addNum r.answered e, slots := r.slots.filter (fun p => p.1 != e) })).restored q
    | _, _ => s
  | _, _ => s

def execRestore (eng queue : Nat) (failed : Option Nat) (s : State) : Host.Outcome State Fault Refusal := .next (restore eng queue failed s)

end Sys2Proof.Machine
end

