-- ==== Sys2Proof/Machine/Reliability.lean ====
section
/-!
DEFINITION. Reliability and darning: RAS records, engine errors, the darning of engines, slices, channels, the Winder and the
host controller, the darning record, the fray monitors, and the loss of dies (R444 to R464).
-/
namespace Sys2Proof.Machine

/-- RAS_RECORD_RELEASE: held records leave in sequence order while the ring has room (R446). -/
def execRasRecordRelease (s : State) : Host.Outcome State Fault Refusal := .next (s.rasDrain 64)

/-- WND_RAS_CNT_CLEAR: both counters take 0. -/
def execWndRasCntClear (s : State) : Host.Outcome State Fault Refusal := .next (s.atReg R.wndRasCnt (fun s => s.wr R.wndRasCnt 0))

/-! ### Darnings in progress (R448, R462) -/

/-- BUSY of WND_DARN_STAT reads 1 while a darning runs, and GO of WND_DARN_REQ while a requested one does. -/
def State.darnMark (s : State) : State :=
  (s.setF F.wndDarnStat_BUSY R.wndDarnStat (if s.ras.darnings.isEmpty && !s.ras.takeover then 0 else 1)).setF F.wndDarnReq_GO R.wndDarnReq
    (if s.ras.darnings.any (·.fromReq) then 1 else 0)

/-- A darning begins. -/
def State.darnBegin (kind unit : Nat) (req : Bool) (s : State) : State :=
  (s.onRas (fun r => { r with darnings := r.darnings ++ [{ kind := kind, unit := unit, spare := none, fromReq := req }] })).darnMark

/-- Darnings end, or are abandoned. -/
def State.darnDrop (p : Darning → Bool) (s : State) : State :=
  (s.onRas (fun r => { r with darnings := r.darnings.filter (fun d => !p d) })).darnMark

def State.engState (s : State) (e : Nat) : Nat := s.fld F.engStat_STATE (R.engStat e)
def State.setEng (e st : Nat) (s : State) : State := s.setF F.engStat_STATE (R.engStat e) st

/-! ### Engines (R447, R449) -/

/-- The darning of an engine in service begins: its bound queues are unbound, at once where they run nothing, and otherwise at
the end of their command or of their slice (R449). -/
def State.engineDarn (e : Nat) (req : Bool) (s : State) : State :=
  if !engineId e || s.engState e != 1 || s.darningEngine e then s
  else each (s.boundOn e) (fun p t =>
    if (t.queue? p.1).any (fun u => u.run.isNone || u.hasRun .held) then t.startUnbind p.1
    else t.onQueue p.1 (fun u => { u with sliceOver := true })) (s.darnBegin 0 e req)

/-- The lowest spare slot of an engine's quadrant that no darning has taken. -/
def State.spareOf (s : State) (e : Nat) : Option Nat :=
  ((List.range 36).map (e / 64 * 64 + ·)).find? (fun k => s.engState k = 0 && !s.ras.darnings.any (fun d => d.spare = some k))

/-- The real-time queues of enabled rolls that are not bound are bound again, and the schedulers decide. -/
def State.rebind (s : State) : State :=
  each (List.range 16) (fun h t =>
    let t := if t.bit F.rollCtrl_EN (R.rollCtrl h) then
        each (t.rollQueues h (t.rollParts h (t.fld F.rollCtrl_COUNT (R.rollCtrl h)))) (fun p t =>
          if (t.queue? p.1).any (fun u => u.bound) then t else t.bindRt p.1) t
      else t
    t.reschedule h) s

/-- Step 2 of R449 for the engine `cur`, which the darning of engine `unit` takes out of service: the lowest spare of the
quadrant takes its mapping and is measured; with no spare left it is retired without a replacement. -/
def State.swapEngine (unit cur : Nat) (s : State) : State :=
  let map := s.rd (R.hoopEngMap cur)
  let spare := s.spareOf cur
  let s := ((s.setEng cur 2).setF F.hoopEngMap_VALID (R.hoopEngMap cur) 0).setF F.engStat_HOOP_VALID (R.engStat cur) 0
  match spare with
  | none => (((s.darnDrop (fun d => d.kind = 0 && d.unit = unit)).ras0 0x02 4 unit 0xFFFF (engDie unit)).newDarning).rebind
  | some k =>
    let s := (s.setF F.engStat_HOOP (R.engStat k) (Fget F.hoopEngMap_HOOP map)).setF F.engStat_HOOP_VALID (R.engStat k)
      (Fget F.hoopEngMap_VALID map)
    ((((s.wr (R.hoopEngMap k) map).onRas (fun r => { r with
      measuring := addNum r.measuring k
      darnings := r.darnings.map (fun d => if d.kind = 0 && d.unit = unit then { d with spare := some k } else d) })).setF
      F.engFrayCtrl_BUSY R.engFrayCtrl 1).newDarning)

/-- ENGINE_DARN_SWAP: no context is resident on the engine any more (R449). -/
def engineDarnSwap (e : Nat) (s : State) : State :=
  if s.darningEngine e && s.engState e == 1 && (s.ctxsOn e).isEmpty && (s.eng e).groups.isEmpty then s.swapEngine e e else s

def execEngineDarnSwap (eng : Nat) (s : State) : Host.Outcome State Fault Refusal := .next (engineDarnSwap eng s)

/-- ENGINE_INTERNAL_ERROR: every context resident on the engine faults with FAULT_POISON, DETAIL 5, the event is reported, and the
engine is darned without waiting (R447). The syndrome records the lowest-numbered group slot (R135). -/
def engineInternalError (e : Nat) (s : State) : State :=
  if !engineId e || s.engState e != 1 then s
  else
    let gs := (s.eng e).groups
    let cs := (gs.map (·.2.ctx) ++ s.ctxsOn e).eraseDups
    let killed := cs.filter (fun c => (s.ctx? c).any (fun x => x.st = .live))
    let s := each cs (fun c t =>
      match gs.find? (fun p => p.2.ctx = c) with
      | some p => t.engineFault e p.1 0 c p.2.queue (trouble 0x09 5 0) p.2.pc.toNat
      | none => match (t.boundOn e).find? (fun p => p.2.ctx = c) with
        | some p => t.engineFault e 0 0 c p.1 (trouble 0x09 5 0) 0
        | none => t) s
    (s.ras0 0x0D 3 e (match killed with | [c] => c | _ => 0xFFFF) (engDie e)).engineDarn e false

def execEngineInternalError (eng : Nat) (s : State) : Host.Outcome State Fault Refusal := .next (engineInternalError eng s)

/-! ### Slices (R27, R145, R450) -/

/-- The darning of the slice that serves an index begins: requests to it wait at their crossbars (R450). -/
def State.sliceDarn (idx : Nat) (req : Bool) (s : State) : State :=
  if 256 ≤ idx ∨ s.darningSlice idx ∨ s.fld F.cshSliceMap_STATE (R.cshSliceMap idx) = 3 ∨ s.baseLost (s.idxDie idx) then s
  else s.darnBegin 1 idx req

/-- SLICE_DARN (R450). -/
def execSliceDarn (index : Nat) (s : State) : Host.Outcome State Fault Refusal := .next (s.powered (State.sliceDarn index false))

/-- The indices that a physical slice serves. -/
def State.servedBy (s : State) (p : Nat) : List Nat := (List.range 256).filter (fun i => s.physSlice i = p && s.fld F.cshSliceMap_STATE (R.cshSliceMap i) != 3)

/-- An index is mapped to a physical slice with a STATE (R145). -/
def State.mapSlice (idx p st : Nat) (s : State) : State :=
  s.wr (R.cshSliceMap idx) (Fset F.cshSliceMap_PHYS_DIE (p / 33) (Fset F.cshSliceMap_PHYS_POS (p % 33) (Fset F.cshSliceMap_STATE st 0)))

/-- SHARED of an index reads 1 while its physical slice serves another index too. -/
def State.markShared (s : State) : State :=
  each (List.range 256) (fun i t =>
    let n := if 2 ≤ (s.servedBy (s.physSlice i)).length ∧ s.fld F.cshSliceMap_STATE (R.cshSliceMap i) ≠ 3 then 1 else 0
    if s.fld F.cshSliceMap_SHARED (R.cshSliceMap i) = n then t else t.setF F.cshSliceMap_SHARED (R.cshSliceMap i) n) s

/-- Whether something of a slice is still on its way: a transaction that one of its indices has taken, or a line in transition. -/
def State.sliceBusy (s : State) (p : Nat) : Bool :=
  s.txns.any (fun t => t.2.space == .stack && s.physSlice t.2.idx == p &&
    (t.2.stage == .near || t.2.stage == .home || t.2.stage == .queued || t.2.stage == .alloc || t.2.stage == .fill || t.2.stage == .acks)) ||
  (s.slice p).lines.any s.locked ||
  s.msgs.any (fun m => match m.2.kind with
    | .answer idx .. => s.physSlice idx == p
    | .evicted idx .. => s.physSlice idx == p
    | .ownGrant i => (s.txn? i).any (fun t => s.physSlice t.idx == p)
    | _ => false)

/-- The walk of a darned slice: near copies are recalled, dirty sectors written back, and every line leaves it (R450). -/
def State.sliceWalk (p : Nat) (s : State) : State :=
  let mine := fun (l : Line) => s.physSlice l.idx == p
  let owned := s.cache.slices.flatMap (fun q => (q.2.lines.filter (fun l => l.role = .owned && mine l)).map (fun l => (q.1, l)))
  let s := each owned (fun x t => (t.takeBack p x.2.addr x.2.idx x.2.dirtySecs).dropLine x.1 x.2.addr x.2.idx) s
  let s := s.onCache (fun c => { c with slices := SMap.mapVals c.slices (fun _ q => { q with lines := q.lines.filter (fun l => !(l.role = .near && mine l)) }) })
  let s := each ((s.slice p).lines.filter (fun l => l.role = .home)) (fun l t => t.dropHome p l) s
  each (s.slice p).lines (fun l t =>
    if l.role = .owned then (t.takeBack (t.physSlice l.idx) l.addr l.idx l.dirtySecs).dropLine p l.addr l.idx else t.dropLine p l.addr l.idx) s

/-- Where the indices of a slice that leaves service go: the die's spare, or the lowest other slice in service of the same
quadrant (R145). -/
def State.sliceTarget (s : State) (p : Nat) : Option Nat :=
  let d := p / 33
  let pos := p % 33
  if pos ≠ 32 ∧ SMap.get? s.ras.sliceSpare d = none ∧ !s.ras.spareRetired.contains d then some (33 * d + 32)
  else
    let served := if pos = 32 then SMap.getD s.ras.sliceSpare d 0 else pos
    ((List.range 8).map (fun i => 33 * d + served / 8 * 8 + i)).find? (fun q => q != p && !s.ras.sliceOut.contains q && q % 33 != served)

/-- SLICE_DARN_WALK_END: the walk has ended; the indices of the slice go to the spare, or to another slice of the quadrant
(R145, R450). -/
def sliceDarnWalkEnd (idx : Nat) (s : State) : State :=
  let p := s.physSlice idx
  if !s.ras.darnings.any (fun d => d.kind = 1 && d.unit = idx) || s.sliceBusy p then s
  else
    let s := s.sliceWalk p
    let served := s.servedBy p
    let target := s.sliceTarget p
    let spare := target.any (fun q => q % 33 = 32)
    let s := s.onRas (fun r => { r with
      sliceOut := if p % 33 = 32 then r.sliceOut else addNum r.sliceOut p
      spareRetired := if p % 33 = 32 then addNum r.spareRetired (p / 33) else r.spareRetired
      sliceSpare := if spare then SMap.put r.sliceSpare (p / 33) (p % 33) else r.sliceSpare })
    let s := (each served (fun i t => match target with
      | some q => t.mapSlice i q (if spare then 1 else 2)
      | none => t.setF F.cshSliceMap_STATE (R.cshSliceMap i) 3) s).markShared
    let s := s.darnDrop (fun d => d.kind = 1 && d.unit = idx)
    (s.ras0 (if spare then 0x03 else 0x04) (if spare then 1 else 4) idx 0xFFFF (p / 33)).newDarning

def execSliceDarnWalkEnd (index : Nat) (s : State) : Host.Outcome State Fault Refusal := .next (sliceDarnWalkEnd index s)

/-! ### Channels (R451) -/

/-- CHANNEL_RETIRE: a channel in service that has reached its threshold leaves service where CH_AUTO is 1, and is reported at risk
otherwise (R451). -/
def channelRetire (c : Nat) (s : State) : State :=
  if 1024 ≤ c ∨ s.chanState c ≠ 1 then s
  else if s.bit F.wndDarnCtrl_CH_AUTO R.wndDarnCtrl then (s.chanOutOfService c).newDarning
  else s.ras0 0x05 4 c 0xFFFF (chanDie c)

def execChannelRetire (chan : Nat) (s : State) : Host.Outcome State Fault Refusal := .next (channelRetire chan s)

/-! ### The Winder (R452, R495) -/

/-- Programming of the array that a take-over interrupts: a settings generation is left spoiled, and of the fuses or the key bits
asked for an open number has been programmed (R469, R495). -/
def State.otpBroken (l : LongOp) (s : State) : State :=
  if l.phase ≠ 0 then s
  else
    let k := Config.freeNat s.free
    let junk := cut (Config.random s.free) 0 224
    let s := { s with free := s.free + 1 }
    if l.cmd = 0x30 ∨ l.cmd = 0x31 then
      match (List.range 4).find? (fun g => (SMap.get? s.sec.gens g).isNone) with
      | some g => s.onSec (fun c => { c with gens := SMap.put c.gens g { body := junk, whole := false } })
      | none => s
    else if l.cmd = 0x22 then s.onSec (fun c => { c with svnFuses := c.svnFuses ||| (numAt l.payload 0 8 &&& k) })
    else if l.cmd = 0x23 then s.onSec (fun c => { c with revoked := c.revoked ||| (2 ^ numAt l.payload 0 1 % 4 &&& k) })
    else if l.cmd = 0x20 then
      s.onSec (fun c => { c with
        slots := SMap.upd c.slots (numAt l.payload 8 1) [] (fun m => SMap.put m (numAt l.payload 0 4) (cut (Config.random s.free) 0 4096)) })
    else s

/-- The mailbox's long operation is abandoned without a response (R495). -/
def State.abandonOp (s : State) : State :=
  match s.sec.longOp with
  | none => s
  | some l =>
    let s := (s.otpBroken l).onSec (fun c => { c with longOp := none })
    s.wr R.wndMbxStat (Fset F.wndMbxStat_BUSY 0 (Fset F.wndMbxStat_OP 0 (Fset F.wndMbxStat_LAST_OP l.cmd (Fset F.wndMbxStat_LAST_STATUS 0x41
      (s.rd R.wndMbxStat)))))

/-- The active Winder fails: the standby of die 4 starts to take over, or no Winder remains, and every context ends with the
loss of the host link (R444, R452, R496). -/
def State.winderFail (s : State) : State :=
  if s.sec.dead || s.ras.takeover then s
  else if s.winder = 0 ∧ s.bit F.wndDieStat_STBY_WINDER_OK R.wndDieStat then
    (s.abandonOp.onRas (fun r => { r with takeover := true })).darnMark
  else (((s.onSec (fun c => { c with dead := true })).post (.pin pinAlert s.winder true)).stopWork) |> hostLinkDown

/-- WINDER_HEARTBEAT: the active Winder of die 0 tells die 4's its state (R452). -/
def execWinderHeartbeat (s : State) : Host.Outcome State Fault Refusal :=
  .next (if !s.clk.pwrok ∨ s.winder ≠ 0 ∨ s.sec.dead ∨ s.ras.takeover then s
    else s.sendMsg .picot (.heartbeat {
        targets := s.clk.targets, seq := s.ras.seq, generation := s.ras.generation
        routes := (List.range 8).map (fun d => s.rd (R.mshRoute d)) }) 0 4 .barrier .barrier)

/-- WINDER_TAKEOVER: ten heartbeats have been missed (R452). -/
def execWinderTakeover (s : State) : Host.Outcome State Fault Refusal := .next (s.powered State.winderFail)

/-- WINDER_TAKEOVER_END: die 4's Winder goes on from the last state that it received, and the mailbox is served again (R452). The alert of
its own pins stands for the event queue from now on (R489, R496). -/
def winderTakeoverEnd (s : State) : State :=
  if !s.ras.takeover then s
  else
    let k := s.ras.heard
    let s := (s.onClk (fun c => { c with targets := k.targets })).onRas (fun r => { r with takeover := false, seq := k.seq, generation := k.generation })
    let s := each (List.range k.routes.length) (fun d t => t.wr (R.mshRoute d) (k.routes.getD d 0)) s
    let s := (s.setF F.wndDieStat_WINDER R.wndDieStat 4).setF F.wndDieStat_STBY_WINDER_OK R.wndDieStat 0
    let s := if s.sec.events.isEmpty then s else (s.post (.pin pinAlert 0 true)).post (.pin pinAlert 4 false)
    (s.darnMark.ras0 0x10 1 4 0xFFFF 4).newDarning

def execWinderTakeoverEnd (s : State) : Host.Outcome State Fault Refusal := .next (winderTakeoverEnd s)

/-! ### What ends the package (R444) -/

/-- Every context ends with a fault. -/
def State.endContexts (code detail : Nat) (s : State) : State :=
  each ((s.objs.ctxs.filter (fun p => p.2.st = .live)).map (·.1)) (fun c t => t.unitFault c 0 0 false (trouble code detail 0) 0) s

/-! ### The host controllers (R453) -/

/-- What the failed host controller held of one transaction: reads return poisoned; a store not yet sent and an AtomicOp are
lost; a BAR read is answered with Completer Abort. -/
def State.swapTxn (i : Nat) (s : State) : State :=
  match s.txn? i with
  | none => s
  | some t => match t.issuer with
    | .host fn =>
      let s := s.onTxn i (fun t => { t with dead := true })
      if t.op != .read || t.dead then s else s.post (.completion fn [] true)
    | _ =>
      if t.stage != .host || t.moving then s
      else match t.op with
        | .read => s.hostGiveUp i
        | _ => s.answerNow i 0x47

/-- The active host controller fails: the other one takes over, with the link in L0, and reports an uncorrectable internal error, unless none remains or its block is gated;
then the failure ends the package (R423, R453). -/
def State.hostSwap (s : State) : State :=
  if s.bit F.wndDieStat_STBY_HIF_OK R.wndDieStat && s.bit F.clkGate_HIF_STBY (R.clkGate 0) then
    let s := each (s.txns.map (·.1)) State.swapTxn s
    let k := 1 - s.fld F.wndDieStat_HIF_CTRL R.wndDieStat
    let s := (s.setF F.wndDieStat_HIF_CTRL R.wndDieStat k).setF F.wndDieStat_STBY_HIF_OK R.wndDieStat 0
    (((s.setF F.hifLinkStat_CTRL R.hifLinkStat k).aerError 0 22).ras0 0x11 1 k 0xFFFF 0).newDarning
  else ((s.mgmt 8 0 4).endContexts 0x0D 0x200 |> hostLinkDown)

/-- HOST_CONTROLLER_SWAP (R453). -/
def execHostControllerSwap (s : State) : Host.Outcome State Fault Refusal := .next (s.powered State.hostSwap)

/-! ### Thresholds and requests (R448, R462) -/

/-- DARN_THRESHOLD: a unit reaches its threshold; it is darned where AUTO is 1. -/
def darnThreshold (u : DarnUnit) (s : State) : State :=
  if !s.bit F.wndDarnCtrl_AUTO R.wndDarnCtrl then s
  else match u with
  | .engine e => s.engineDarn e false
  | .slice i => s.sliceDarn i false
  | .channel c => channelRetire c s
  | .winder => s.winderFail
  | .hostCtl => s.hostSwap

def execDarnThreshold (unit : DarnUnit) (s : State) : Host.Outcome State Fault Refusal := .next (s.powered (darnThreshold unit))

/-- Whether a request names a unit in service that nothing is darning. -/
def State.darnable (s : State) (kind i : Nat) : Bool :=
  match kind with
  | 0 => engineId i && s.engState i == 1 && !s.darningEngine i
  | 1 => decide (i < 256) && s.fld F.cshSliceMap_STATE (R.cshSliceMap i) != 3 && !s.baseLost (s.idxDie i) && !s.darningSlice i
  | 2 => decide (i < 1024) && s.chanState i == 1
  | _ => false

/-- DARN_REQUEST: a write of WND_DARN_REQ. KIND and INDEX take their values; a GO of 1 darns the unit or is refused (R448,
R462). -/
def darnRequest (w : Word) (s : State) : State :=
  let off := R.wndDarnReq
  let kind := Fget F.wndDarnReq_KIND w
  let i := Fget F.wndDarnReq_INDEX w
  let s := (s.setF F.wndDarnReq_KIND off kind).setF F.wndDarnReq_INDEX off i
  let s := if Fbit F.wndDarnReq_REFUSED w then s.setF F.wndDarnReq_REFUSED off 0 else s
  if !Fbit F.wndDarnReq_GO w then s
  else if !s.darnable kind i then s.setF F.wndDarnReq_REFUSED off 1
  else if kind = 0 then s.engineDarn i true
  else if kind = 1 then s.sliceDarn i true
  else (s.chanOutOfService i).newDarning

def execDarnRequest (w : Word) (s : State) : Host.Outcome State Fault Refusal := .next (s.atReg R.wndDarnReq (darnRequest w))

/-! ### The darning record and the darning map (R454, R455) -/

/-- ENGINES of the factory map: slots 0 to 31 of each quadrant in service (R7; DESIGN CHOICE which). -/
def factoryEngine (e : Nat) : Nat := if e % 64 < 32 then 1 else 0

/-- The state of an engine in the darning map: the factory's until the map is settled. -/
def State.mapEngine (s : State) (e : Nat) : Nat := if s.stage = 5 then s.engState e else factoryEngine e

/-- Bytes 0 to 991 of the current darning record (R454). -/
def State.darningBody (s : State) : Bytes :=
  let es := allEngines.map s.mapEngine
  let eng := (List.range 288).map (fun i => BitVec.ofNat 8
    (es.getD (4 * i) 0 + 4 * es.getD (4 * i + 1) 0 + 16 * es.getD (4 * i + 2) 0 + 64 * es.getD (4 * i + 3) 0))
  let spares := (List.range 8).map (fun d => BitVec.ofNat 8
    (SMap.getD s.ras.sliceSpare d 0x3F + (if s.ras.spareRetired.contains d then 64 else 0)))
  let outs := (List.range 8).flatMap (fun d => leBytes 4 ((List.range 32).foldl (fun a i => a + (if s.ras.sliceOut.contains (33 * d + i) then 2 ^ i else 0)) 0))
  let chans := (List.range 128).map (fun i => BitVec.ofNat 8
    ((List.range 8).foldl (fun a k => a + (if s.ras.chanOut.contains (8 * i + k) then 2 ^ k else 0)) 0))
  let w := s.rd R.wndDieStat
  let control := (if s.winder = 4 then 1 else 0) + 2 * Fget F.wndDieStat_HIF_CTRL w +
    (if Fbit F.wndDieStat_STBY_WINDER_OK w then 0 else 4) + (if Fbit F.wndDieStat_STBY_HIF_OK w then 0 else 8)
  [1, 0] ++ leBytes 2 1024 ++ leBytes 4 s.ras.generation ++ leBytes 8 s.part.serial ++ eng ++ spares ++ outs ++ chans ++
    leBytes 1 (Fget F.wndDieStat_COMPUTE_LOST w) ++ leBytes 1 (Fget F.wndDieStat_BASE_LOST w) ++ leBytes 1 control ++ zeros 517

/-- The darning key (R477). -/
def darningKey : Bytes := shake 32 (Config.seed ++ label "daxarn-darning")

/-- TAG of a record, under the darning key (R454). -/
def darningTag (body : Bytes) : Bytes := shake 32 (darningKey ++ body)

/-- The current darning record (R454). -/
def State.darningRecord (s : State) : Bytes := s.darningBody ++ darningTag s.darningBody

/-- Whether a record from the board is accepted (R455). -/
def State.recordGood (s : State) (b : Bytes) : Bool :=
  b.length = 1024 && numAt b 0 1 == 1 && numAt b 8 8 == s.part.serial && cut b 992 32 == darningTag (cut b 0 992)

/-- A die marked lost in the darning map is held isolated, with its links down (R427, R455). -/
def State.holdOut (d : Nat) (s : State) : State :=
  each (linksOf d) (fun l t => t.setF F.mshLinkStat_STATE (R.mshLinkStat l) 3) (s.setF F.clkStat_ISOLATED (R.clkStat d) 1)

/-- The physical slice that serves an index of a die in service, with the STATE of its map (R145). -/
def State.homePlace (s : State) (i : Nat) : Nat × Nat :=
  let own := 33 * (i / 32) + i % 32
  if !s.ras.sliceOut.contains own then (own, 0)
  else if SMap.get? s.ras.sliceSpare (i / 32) = some (i % 32) ∧ !s.ras.spareRetired.contains (i / 32) then (33 * (i / 32) + 32, 1)
  else match ((List.range 8).map (fun k => 33 * (i / 32) + i % 32 / 8 * 8 + k)).find? (fun q => !s.ras.sliceOut.contains q) with
    | some q => (q, 2)
    | none => (own, 3)

/-- Where an index of a lost die is served: by the slice that serves the same index of die n XOR 4, if it has one (R175). -/
def State.lostPlace (s : State) (i : Nat) : Nat × Nat :=
  let own := 33 * (i / 32) + i % 32
  let k := (i / 32 + 4) % 8
  if s.baseLost k then (own, 3)
  else
    let q := s.homePlace (32 * k + i % 32)
    if q.2 = 3 then (own, 3) else (q.1, 2)

/-- The map of the home indices follows the darning map: spares in service, slices out, and dies lost (R145, R175, R455). -/
def State.mapAll (s : State) : State :=
  let place := fun (i : Nat) => if s.baseLost (i / 32) then s.lostPlace i else s.homePlace i
  (each (List.range 256) (fun i t => t.mapSlice i (place i).1 (place i).2) s).markShared

/-- The darning map is settled: engines enter service, the boot ends with a device reset, and the package runs (R16, R455, R475). -/
def State.settleMap (eng : Nat → Nat) (s : State) : State :=
  (((each allEngines (fun e t => t.setEng e (eng e)) s).onRas (fun r => { r with recordWait := false })).setStage 5).resetDevice

/-- A board record becomes the darning map (R455). A state of 3 for an engine is read as out of service. -/
def State.applyRecord (b : Bytes) (s : State) : State :=
  let bits := fun (o k : Nat) => (numAt b (o + k / 8) 1).testBit (k % 8)
  let control := numAt b 474 1
  let dies := List.range 8
  let s := s.onRas (fun r => { r with
    generation := numAt b 4 4
    sliceSpare := dies.filterMap (fun d => let x := numAt b (304 + d) 1 % 64; if x < 32 then some (d, x) else none)
    spareRetired := dies.filter (fun d => bits (304 + d) 6)
    sliceOut := dies.flatMap (fun d => ((List.range 32).filter (fun i => bits (312 + 4 * d) i)).map (33 * d + ·)) })
  let s := each ((List.range 1024).filter (fun c => bits 344 c)) State.chanOut s
  let s := s.wr R.wndDieStat (Fset F.wndDieStat_COMPUTE_LOST (numAt b 472 1) (Fset F.wndDieStat_BASE_LOST (numAt b 473 1)
    (Fset F.wndDieStat_WINDER (if control.testBit 0 then 4 else 0) (Fset F.wndDieStat_HIF_CTRL (if control.testBit 1 then 1 else 0)
    (Fset F.wndDieStat_STBY_WINDER_OK (if control.testBit 2 then 0 else 1) (Fset F.wndDieStat_STBY_HIF_OK (if control.testBit 3 then 0 else 1) 0))))))
  let s := (s.setF F.wndDarnStat_FROM_BOARD R.wndDarnStat 1).setF F.wndDarnStat_GENERATION R.wndDarnStat (s.ras.generation % 2 ^ 16)
  let s := s.mapAll
  let lost := dies.filter (fun d => bits 473 d)
  let s := if lost.isEmpty then s else (each lost State.holdOut s).recompute
  s.settleMap (fun e => let x := numAt b (16 + (e / 64 * 36 + e % 64) / 4) 1 / 4 ^ ((e / 64 * 36 + e % 64) % 4) % 4
                        if bits 472 (engDie e) || bits 473 (engDie e) then 2 else min x 2)

/-- DARNING_RECORD_WAIT_EXPIRY: no record has come; the factory map applies (R455). -/
def execDarningRecordWaitExpiry (s : State) : Host.Outcome State Fault Refusal :=
  .next (if s.ras.recordWait then s.settleMap factoryEngine else s)

/-! ### Fray monitors (R456, R457) -/

/-- FRAY_MEASURE: the engines in service are measured (R456). -/
def execFrayMeasure (s : State) : Host.Outcome State Fault Refusal :=
  .next (if s.stage = 5 then
    (s.onRas (fun r => { r with measuring := (allEngines.filter (fun e => s.engState e = 1)).foldl addNum r.measuring })).setF F.engFrayCtrl_BUSY R.engFrayCtrl 1
  else s)

/-- The frequency that a measurement leaves an engine: MEAS_MHZ - GUARD_MHZ (R457). -/
def State.frayMhz (s : State) (e : Nat) : Nat :=
  s.fld F.engFrayMargin_MEAS_MHZ (R.engFrayMargin e) - s.fld F.engFrayCtrl_GUARD_MHZ R.engFrayCtrl

/-- The cap that R457 gives an engine. -/
def State.frayCap (s : State) (e : Nat) : Nat :=
  min (min (s.fld F.engFreq_FUSED_MHZ (R.engFreq e)) (s.fld F.engFrayLimit_LIMIT_MHZ (R.engFrayLimit e))) (s.frayMhz e) / 5 * 5

/-- The cap of an engine is set, never below 1,250 MHz; a fall is reported (R457). -/
def State.setCap (e : Nat) (s : State) : State :=
  let cap := max 1250 (s.frayCap e)
  let old := s.fld F.engFreq_CAP_MHZ (R.engFreq e)
  let s := s.setF F.engFreq_CAP_MHZ (R.engFreq e) cap
  if cap < old then s.ras0 0x13 4 e 0xFFFF (engDie e) else s

/-- What a measurement found: none where it failed (R456). -/
def State.frayNote (e : Nat) (r : Option Nat) (s : State) : State :=
  let off := R.engFrayMargin e
  match r with
  | none => s.setF F.engFrayMargin_STALE off 1
  | some m =>
    let low := if s.bit F.engFrayMargin_VALID off then min m (s.fld F.engFrayMargin_MEAS_MHZ off) else m
    ((s.setF F.engFrayMargin_MEAS_MHZ off (min 0x7FF low)).setF F.engFrayMargin_VALID off 1).setF F.engFrayMargin_STALE off 0

/-- Whether R457 would darn an engine: below 1,275 MHz while a spare remains, or below 1,250 MHz. -/
def State.frays (s : State) (e : Nat) : Bool :=
  decide (s.frayMhz e < 1275) && ((s.spareOf e).isSome || decide (s.frayCap e < 1250))

/-- What follows one measurement: a spare that passes takes work, one that fails is retired in favour of the next; an engine in
service takes its cap, or is darned (R449, R457). -/
def State.frayJudge (e : Nat) (r : Option Nat) (s : State) : State :=
  let s := s.frayNote e r
  match s.ras.darnings.find? (fun d => d.spare = some e) with
  | some d =>
    if r.isNone || s.frays e then s.swapEngine d.unit e
    else
      let s := ((s.setCap e).setEng e 1).darnDrop (fun x => x.kind = 0 && x.unit = d.unit)
      ((s.ras0 0x01 1 d.unit 0xFFFF (engDie d.unit)).newDarning).rebind
  | none =>
    if r.isNone || s.engState e != 1 then s
    else if s.frays e && s.bit F.wndDarnCtrl_AUTO R.wndDarnCtrl then s.engineDarn e false
    else s.setCap e

/-- FRAY_MEASURE_END: the measurement of the engines that `results` names ends; the others' goes on (R456, R457). -/
def frayMeasureEnd (results : List (Nat × Option Nat)) (s : State) : State :=
  let ms := results.filter (fun p => s.ras.measuring.contains p.1)
  if ms.isEmpty then s
  else
    let s := s.onRas (fun r => { r with measuring := r.measuring.filter (fun e => !ms.any (fun p => p.1 = e)) })
    let s := if s.ras.measuring.isEmpty then s.setF F.engFrayCtrl_START R.engFrayCtrl 0 else s
    let s := each ms (fun p t => t.frayJudge p.1 p.2) s
    s.setF F.engFrayCtrl_BUSY R.engFrayCtrl (if s.ras.measuring.isEmpty then 0 else 1)

def execFrayMeasureEnd (results : List (Nat × Option Nat)) (s : State) : Host.Outcome State Fault Refusal := .next (frayMeasureEnd results s)

/-! ### Losing a compute die (R459, R460) -/

/-- The contexts with a resident group, or a bound queue whose set has members, on a compute die. -/
def State.ctxsOfDie (s : State) (n : Nat) : List Nat :=
  let gs := (s.engs.filter (fun p => engDie p.1 = n)).flatMap (fun p => p.2.groups.map (·.2.ctx))
  let qs := (s.objs.queues.filter (fun p => p.2.bound && p.2.kind != .copy && p.2.members.any (fun e => engDie e = n))).map (·.2.ctx)
  (gs ++ qs).foldl addNum []

/-- The bucket map entries that a lost compute die leaves behind name another die, in the ranges of the exchanges enabled at the
loss (R460). -/
def State.rehome (n : Nat) (s : State) : State :=
  let to_ := if s.computeLost ((n + 4) % 8) then (List.range 8).find? (fun d => !s.computeLost d) else some ((n + 4) % 8)
  let xs := s.shx.xchs.map (fun p => (s.rd (R.shxXMap (p.1 / 4) (p.1 % 4)), p.2.buckets))
  let es := xs.flatMap (fun x => (List.range (Fget F.shxXMap_MAP_COUNT x.1)).map (fun k => ((Fget F.shxXMap_MAP_FIRST x.1 + k) % 4096, x.2)))
  each (es.foldl (fun a p => if a.any (fun q => q.1 = p.1) then a else a ++ [p]) []) (fun p t =>
    let w := t.rd (R.shxMap p.1)
    if Fbit F.shxMap_VALID w && !Fbit F.shxMap_REMOTE w && Fget F.shxMap_DIE w == n then
      let b := Fget F.shxMap_BUCKET w + p.2 / 2
      match to_ with
      | some d => t.wr (R.shxMap p.1) (if b < p.2 then Fset F.shxMap_DIE d (Fset F.shxMap_BUCKET b w) else Fset F.shxMap_VALID 0 w)
      | none => t
    else t) s

/-- What a lost compute die held of engine state is gone. -/
def State.clearEngines (n : Nat) (s : State) : State :=
  (s.onEngs (fun m => SMap.keep m (fun e _ => engDie e != n))).onTxns (fun m => SMap.mapVals m (fun _ t =>
    if t.issuer.engine.any (fun e => engDie e = n) then { t with dead := true } else t))

/-- A compute die is declared lost (R459, R460, R462). -/
def State.loseCompute (n : Nat) (s : State) : State :=
  if s.computeLost n then s
  else
    let cs := s.ctxsOfDie n
    let killed := cs.filter (fun c => (s.ctx? c).any (fun x => x.st = .live))
    let s := s.setF F.wndDieStat_COMPUTE_LOST R.wndDieStat (s.fld F.wndDieStat_COMPUTE_LOST R.wndDieStat ||| 2 ^ n)
    let s := if s.bit F.wndDarnCtrl_REHOME R.wndDarnCtrl then s.rehome n else s
    let s := each cs (fun c t => t.unitFault c 0 n false (trouble 0x11 n 0) 0) s
    let s := each (allEngines.filter (fun e => engDie e = n)) (fun e t => t.setEng e 2) s
    let s := (s.clearEngines n).darnDrop (fun d => d.kind = 0 && engDie d.unit == n)
    let s := s.onRas (fun r => { r with measuring := r.measuring.filter (fun e => engDie e != n) })
    let s := if s.ras.measuring.isEmpty then s.setF F.engFrayCtrl_BUSY R.engFrayCtrl 0 else s
    (s.ras0 0x0E 4 n (match killed with | [c] => c | _ => 0xFFFF) n).newDarning

/-- COMPUTE_DIE_LOST (R459). -/
def execComputeDieLost (die : Nat) (s : State) : Host.Outcome State Fault Refusal := .next (s.powered (fun s => if die < 8 then s.loseCompute die else s))

/-! ### Losing a base die (R175, R461) -/

/-- The ledger regions with a count of a home die. -/
def State.ledgerRegions (s : State) (n : Nat) : List Nat :=
  (s.cache.ledger.filter (fun p => p.1 / 2 ^ 20 = n && p.2 != 0)).map (fun p => p.1 % 2 ^ 20)

/-- The ranges that enabled windows homed on a die. -/
def State.homedRanges (s : State) (idxs : List Nat) : List (Nat × Nat) :=
  ((List.range 1024).filter (fun w => s.bit F.cshWinCtrl_EN (R.cshWinCtrl w) && s.bit F.cshWinCtrl_HOMING (R.cshWinCtrl w) &&
    idxs.contains (32 * s.fld F.cshWinCtrl_HOME_DIE (R.cshWinCtrl w)))).map (fun w => (s.winLo w, s.winHi w))

/-- Step 3 of R175: the lines homed on a lost die carry the poison mark in every region that its ledger counted, or in every
region where the ledger was lost too. -/
def State.spoilRegions (n : Nat) (idxs : List Nat) (s : State) : State :=
  let lost := s.baseLost (s.ledgerOf n) || s.ledgerOf n == n || s.cache.ledgerWalk.contains n
  let rs := s.ledgerRegions n
  let count := if lost then s.stackEnd / 2 ^ 21 else rs.length
  let s := s.onMem (fun m => { m with spoiled := m.spoiled ++
    [{ regions := if lost then none else some rs, idxs := idxs, wins := s.homedRanges idxs, clean := [], cleared := [], chans := [] }] })
  let s := s.bump F.cshDeadStat_REGIONS R.cshDeadStat count
  if lost then s.setF F.cshDeadStat_LEDGER_LOST R.cshDeadStat (s.fld F.cshDeadStat_LEDGER_LOST R.cshDeadStat ||| 2 ^ n) else s

/-- Steps 1 and 2 of R175: surviving near slices drop their shared copies of lines homed on the die, and send the dirty bytes of
those that they own to the new home; the indices are remapped to die n XOR 4, or unreachable where it is lost too. -/
def State.remapDie (n : Nat) (idxs : List Nat) (s : State) : State :=
  let near := (s.cache.slices.filter (fun q => q.1 / 33 != n)).flatMap (fun q =>
    (q.2.lines.filter (fun l => l.role != .home && idxs.contains l.idx)).map (fun l => (q.1, l)))
  let s := s.onCache (fun c => { c with
    slices := SMap.keep c.slices (fun q _ => q / 33 != n)
    ledger := SMap.keep c.ledger (fun j _ => j / 2 ^ 20 != n)
    ledgerWalk := delNum c.ledgerWalk n })
  let k := (n + 4) % 8
  let gone := fun (t : State) (i : Nat) => t.baseLost k || t.fld F.cshSliceMap_STATE (R.cshSliceMap (32 * k + i % 32)) == 3
  let s := (each idxs (fun i t => if gone t i then t.setF F.cshSliceMap_STATE (R.cshSliceMap i) 3
    else t.mapSlice i (s.physSlice (32 * k + i % 32)) 2) s).markShared
  each near (fun x t => if gone t x.2.idx || x.2.role != .owned then (t.copyLeaves x.1 x.2.addr x.2.idx).dropLine x.1 x.2.addr x.2.idx
    else t.vacate x.1 x.2) s

/-- What was on its way through a lost die, or waited there, is lost (R461, R462). -/
def State.loseTraffic (n : Nat) (idxs : List Nat) (s : State) : State :=
  let s := s.onMem (fun m => { m with reqs := m.reqs.filter (fun p => match p.2.who with | .fill sl _ _ _ => sl / 33 != n | _ => true) })
  let s := each (s.mesh.flits.filter (fun p => p.2.die = n)) (fun p t =>
    (t.onMesh (fun m => { m with flits := SMap.del m.flits p.1 })).loseCargo p.2.cargo) s
  let s := each (s.msgs.filter (fun p => p.2.dst = n && p.2.arrived)) (fun p t => t.loseCargo (.msg p.1)) s
  let s := each (s.txns.map (·.1)) (fun i t =>
    match t.txn? i with
    | none => t
    | some x =>
      if x.die = n then t.onTxn i (fun x => { x with dead := true })
      else if x.space == .toile && x.stage == .toile && toileDie x.addr == n then
        (t.onTxn i (fun x => { x with poison := x.secs })).answerNow i 0
      else if x.space == .stack && idxs.contains x.idx &&
          (x.stage == .home || x.stage == .queued || x.stage == .alloc || x.stage == .fill || x.stage == .acks) then t.answerNow i 0x40
      else t) s
  s.onObjs (fun o => { o with waits := o.waits.filter (fun w => w.slice / 33 != n) })

/-- The scheduler and the roll of the hoops managed from a lost die move to the lowest surviving die (R340). -/
def State.moveHoops (n : Nat) (s : State) : State :=
  match (List.range 8).find? (fun d => !s.baseLost d) with
  | none => s
  | some d => each ((List.range 16).filter (fun h => s.fld F.hoopStat_STATE (R.hoopStat h) != 0 && s.mgrDie h == n)) (fun h t =>
      let t := t.onHoop h (fun x => { x with rollDie := d })
      if t.bit F.rollCtrl_EN (R.rollCtrl h) then t.rollStart h else t) s

/-- The pillows report the entries of a lost die: one LEFT report for each server, and their pages are not returned (R461). -/
def State.leftDie (n : Nat) (s : State) : State :=
  each s.pil.hoops (fun p t =>
    let vs := ((p.2.entries.filter (fun e => e.1 / 2048 = n)).map (·.2.server)).eraseDups
    let t := each vs (fun v t => t.report p.1 v 5 (t.rd64 (R.pilStepLo p.1)) 0 4 0 0 0xFFFF n) t
    t.onPilH p.1 (fun x => { x with entries := x.entries.filter (fun e => e.1 / 2048 != n) })) s

/-- Waits that began in reclaim mode end as in it, whatever DEAD_MODE is at the loss (R177, R182). -/
def State.reclaimWaits (n : Nat) (s : State) : State :=
  each s.cache.slices (fun p t => each (p.2.lines.filter (fun l => l.role = .home && (match l.dir with | .recall .. => true | _ => false)))
    (fun l t => t.reclaimLine p.1 l n) t) s

/-- A base die is declared lost, and its compute die with it (R458, R461). -/
def State.loseBase (n : Nat) (s : State) : State :=
  if s.baseLost n then s
  else
    let s := s.loseCompute n
    let idxs := (List.range 256).filter (fun i => s.idxDie i = n && s.fld F.cshSliceMap_STATE (R.cshSliceMap i) != 3)
    let s := s.setF F.wndDieStat_BASE_LOST R.wndDieStat (s.fld F.wndDieStat_BASE_LOST R.wndDieStat ||| 2 ^ n)
    let s := s.darnDrop (fun d => d.kind = 1 && idxs.contains d.unit)
    let s := (s.loseTraffic n idxs).recompute
    let s := (s.spoilRegions n idxs).remapDie n idxs
    let s := s.onCache (fun c => { c with dead := addNum c.dead n
                                          reclaim := if s.fld F.cshCtrl_DEAD_MODE R.cshCtrl = 0 then addNum c.reclaim n else c.reclaim })
    let s := if s.fld F.cshCtrl_DEAD_MODE R.cshCtrl = 0 then s else s.reclaimWaits n
    let s := s.setF F.cshDeadStat_LOST R.cshDeadStat (s.fld F.cshDeadStat_LOST R.cshDeadStat ||| 2 ^ n)
    let s := each (List.range 128) (fun c t => t.chanOut (128 * n + c)) s
    let s := if s.gmpState n = 0 then s else s.portFail n 0
    let s := (s.moveHoops n).leftDie n
    let s := if n = 4 then
        (if s.winder = 4 then s.winderFail else s.setF F.wndDieStat_STBY_WINDER_OK R.wndDieStat 0)
      else s
    let s := if n = 0 then (s.mgmt 8 0 3).endContexts 0x11 0 |> hostLinkDown else s
    (s.ras0 0x0F 4 n 0xFFFF n).newDarning

/-- BASE_DIE_LOST (R461). -/
def execBaseDieLost (die : Nat) (s : State) : Host.Outcome State Fault Refusal := .next (s.powered (fun s => if die < 8 then s.loseBase die else s))

end Sys2Proof.Machine
end

