-- ==== Sys2Proof/Machine/Security.lean ====
section
/-!
DEFINITION. Boot, identity, attestation and the Winder's mailbox: the choice of firmware, entropy, SPDM, IDE and TDISP, physical
presence, the pins, the commands of the mailbox, and the test port (R465 to R497).
-/
namespace Sys2Proof.Machine

/-! ### The array (R466 to R470) -/

/-- The number of bits set in SVN_FUSES. -/
def State.svnCount (s : State) : Nat := ((List.range 64).filter (fun i => s.sec.svnFuses.testBit i)).length

/-- The floor of R473, from the fuses and the current generation. -/
def State.svnFloor (s : State) : Nat := s.svnCount - numAt s.sec.settings 8 1

/-- The 256 bytes of a settings generation; those of a spoiled one past its body are open (R468, R469). -/
def Gen.bytes (g : Gen) : Bytes := cut g.body 0 224 ++ (if g.whole then shake 32 (cut g.body 0 224) else cut (Config.derive 9 g.body) 0 32)

/-- The 2,048 bytes of the array as every path reads them: SEED reads as zero (R466). -/
def State.otpBytes (s : State) : Bytes :=
  leBytes 8 s.part.serial ++ cut s.sec.factory 0 56 ++ zeros 64 ++ cut (s.sec.fwKeys.getD 0 []) 0 64 ++ cut (s.sec.fwKeys.getD 1 []) 0 64 ++
  leBytes 1 s.sec.revoked ++ zeros 7 ++ leBytes 8 s.sec.svnFuses ++ zeros 240 ++
  (List.range 4).flatMap (fun g => match SMap.get? s.sec.gens g with | some x => x.bytes | none => zeros 256) ++ zeros 512

/-- Whether generation `g` holds MARK, GEN and a good DIGEST (R469). -/
def goodGen (g : Nat) (x : Gen) : Bool := x.whole && numAt x.body 0 2 == 0xC35A && numAt x.body 2 1 == g

/-- The settings that the boot ROM takes as current: the highest-numbered good generation; zero for every setting where none is
(R469, R476). -/
def State.chooseGen (s : State) : State :=
  let good := s.sec.gens.filter (fun p => goodGen p.1 p.2)
  match good.getLast? with
  | some p => s.onSec (fun c => { c with current := some p.1, settings := cut p.2.body 0 224 })
  | none => s.onSec (fun c => { c with current := none, settings := zeros 224 })

/-- The lowest generation that holds no programmed bit. -/
def State.freeGen (s : State) : Option Nat := (List.range 4).find? (fun g => (SMap.get? s.sec.gens g).isNone)

/-- OTP_GEN (R497). -/
def State.otpGenView (s : State) : Word :=
  let mask := fun (p : Nat → Bool) => (List.range 4).foldl (fun a g => a + (if p g then 2 ^ g else 0)) 0
  Fset F.otpGen_CURRENT (s.sec.current.getD 0) (Fset F.otpGen_PROGRAMMED (mask (fun g => (SMap.get? s.sec.gens g).isSome))
    (Fset F.otpGen_SPOILED (mask (fun g => match SMap.get? s.sec.gens g with | some x => !goodGen g x | none => false))
    (Fset F.otpGen_SVN_COUNT s.svnCount (Fset F.otpGen_REVOKED (s.sec.revoked % 4) 0))))

/-- PWR_PKG_STAT with the die of the active power manager (R434, R443). -/
def State.pkgView (s : State) : Word := Fset F.pwrPkgStat_MGR_DIE s.winder (s.rd R.pwrPkgStat)

/-- WND_MBX_STAT with the number of event records queued (R497). -/
def State.mbxView (s : State) : Word := Fset F.wndMbxStat_EVENTS s.sec.events.length (s.rd R.wndMbxStat)

/-! ### Firmware boot (R471 to R476) -/

/-- One sector of a firmware slot; one that nothing has programmed reads as ones. -/
def State.slotSector (s : State) (slot k : Nat) : Bytes :=
  SMap.getD (SMap.getD s.sec.slots slot []) (4096 * k) (List.replicate 4096 0xFF)

/-- `n` bytes of a firmware slot from an offset. -/
def State.slotBytes (s : State) (slot off n : Nat) : Bytes :=
  cut ((List.range ((off % 4096 + n + 4095) / 4096)).flatMap (fun k => s.slotSector slot (off / 4096 + k))) (off % 4096) n

/-- The body of a firmware slot (R472). -/
def State.slotBody (s : State) (slot : Nat) : Bytes := s.slotBytes slot 29920 (min 8358688 (numAt (s.slotBytes slot 0 128) 4 4))

/-- FW_KEYS in force: 0 is treated as 0b01 (R470). -/
def State.fwKeysOk (s : State) : Nat := let k := numAt s.sec.settings 3 1 % 4; if k = 0 then 1 else k

/-- The checks of R473 on a slot. -/
def State.slotGood (s : State) (slot : Nat) : Bool :=
  let h := s.slotBytes slot 0 128
  let len := numAt h 4 4
  let key := numAt h 2 1
  numAt h 0 1 == 1 && len != 0 && decide (len ≤ 8358688) && len % 16 == 0 && decide (key ≤ 1) && !s.sec.revoked.testBit key &&
  s.fwKeysOk.testBit key && decide (s.svnFloor ≤ numAt h 1 1) && decide (numAt h 1 1 ≤ 64) && decide (numAt h 20 1 ≤ s.part.rev) &&
  decide (numAt h 16 4 < len) && Config.slhVerify (s.sec.fwKeys.getD key []) h (s.slotBytes slot 128 29792) &&
  shake 64 (s.slotBody slot) == cut h 64 64

/-- The package stays in recovery (R476). -/
def State.recover (s : State) : State :=
  (((s.setStage 7).setF F.secStat_RECOVERY R.secStat 1).onHost (fun h => { h with rrs := false })).mgmt 7 0 0

/-- FIRMWARE_START: the boot ROM starts the first slot that passes, or stays in recovery (R473, R476). -/
def firmwareStart (s : State) : State :=
  if s.stage ≠ 0 ∨ !s.runs 0 then s
  else
    let s := s.setF F.secBoot_FLOOR R.secBoot s.svnFloor
    match s.sec.current, [s.sec.first % 2, 1 - s.sec.first % 2].find? s.slotGood with
    | some _, some k =>
      let h := s.slotBytes k 0 128
      let s := ((s.setF F.secBoot_SLOT R.secBoot k).setF F.secBoot_KEY_SLOT R.secBoot (numAt h 2 1)).setF F.secBoot_SVN R.secBoot (numAt h 1 1)
      (s.setStage 1).onSec (fun c => { c with copies := [1, 2, 3, 4, 5, 6, 7] })
    | _, _ => s.recover

def execFirmwareStart (s : State) : Host.Outcome State Fault Refusal := .next (firmwareStart s)

/-- FIRMWARE_COPY_CHECK: a die's Winder runs its copy, or its base die is declared lost; after the last the stack channels are
trained (R475). -/
def firmwareCopyCheck (d : Nat) (ok : Bool) (s : State) : State :=
  if !s.sec.copies.contains d then s
  else
    let s := s.onSec (fun c => { c with copies := delNum c.copies d })
    let s := if ok then s else s.loseBase d
    if s.sec.copies.isEmpty then (s.setStage 2).bootSettle else s

def execFirmwareCopyCheck (die : Nat) (ok : Bool) (s : State) : Host.Outcome State Fault Refusal := .next (firmwareCopyCheck die ok s)

/-! ### Entropy (R479) -/

/-- ENTROPY_TEST_FAIL: the source restarts; after 16 failures in a row it is declared failed. -/
def entropyTestFail (d : Nat) (s : State) : State :=
  if 8 ≤ d ∨ 16 ≤ SMap.getD s.sec.rngRow d 0 ∨ !s.clk.pwrok then s
  else
    let s := s.onSec (fun c => { c with rngRow := SMap.upd c.rngRow d 0 (· + 1) })
    if SMap.getD s.sec.rngRow d 0 = 16 then (s.setF F.secStat_RNG_FAIL R.secStat 1).mgmt 6 d 0 else s

def execEntropyTestFail (die : Nat) (s : State) : Host.Outcome State Fault Refusal := .next (entropyTestFail die s)

/-! ### Measurements (R482) -/

/-- A SHA3-512 digest. -/
def sha3 (b : Bytes) : Bytes := cut (Config.sha3 b) 0 64

/-- The measured value of block `i`. The digest of the boot ROM depends on SILICON_REV alone. -/
def State.measured (s : State) (i : Nat) : Bytes :=
  match i with
  | 1 => sha3 (Config.derive 10 (leBytes 1 s.part.rev))
  | 2 => sha3 (s.slotBytes (s.fld F.secBoot_SLOT R.secBoot) 0 128 ++ s.slotBody (s.fld F.secBoot_SLOT R.secBoot))
  | 3 => sha3 s.sec.settings
  | 4 =>
    leBytes 1 (s.sec.current.getD 0) ++ leBytes 1 (s.fld F.secBoot_FLOOR R.secBoot) ++ leBytes 1 s.svnCount ++ leBytes 1 s.sec.revoked ++
    leBytes 1 (s.fld F.secStat_DEBUG R.secStat + 2 * s.fld F.secStat_SEAL_BROKEN R.secStat + 4 * s.fld F.secStat_RNG_FAIL R.secStat) ++
    leBytes 1 (s.fld F.secBoot_SLOT R.secBoot) ++ zeros 10
  | _ => sha3 s.darningBody

/-- A measurement block in the DMTF format: index, specification, size, and type, size and value. Block 1 is immutable ROM, 2
firmware, 3 and 5 configuration; block 4 is a raw bit stream. -/
def State.block (s : State) (i : Nat) : Bytes :=
  let v := s.measured i
  leBytes 1 i ++ leBytes 1 1 ++ leBytes 2 (v.length + 3) ++ leBytes 1 (if i = 1 then 0 else if i = 2 then 1 else if i = 4 then 0x83 else 3) ++
  leBytes 2 v.length ++ v

/-- The blocks that a request for measurements names: one, or with 0xFF all five. -/
def State.blocks (s : State) (which : Nat) : Bytes :=
  if which = 0xFF then [1, 2, 3, 4, 5].flatMap s.block else if 1 ≤ which ∧ which ≤ 5 then s.block which else []

/-! ### SPDM (R480, R481, R483) -/

/-- A message of the SPDM responder: response code and what follows it. -/
def State.spdmReply (code : Nat) (b : Bytes) (s : State) : State := s.post (.reply 0 code b)

/-- ERROR with an error code: 1 InvalidRequest, 2 InvalidSession, 3 Busy, 4 UnexpectedRequest, 7 UnsupportedRequest, 10
SessionLimitExceeded. -/
def State.spdmError (code : Nat) (s : State) : State := s.spdmReply 0x7F (leBytes 1 code)

/-- The responder answers while a Winder is in service, its firmware runs, and the configuration space that holds its DOE mailbox is
not answered with Request Retry Status (R475, R480). -/
def State.spdmOn (k : State → State) (s : State) : State := if s.sec.dead || s.stage == 0 || s.host.rrs then s else k s

/-- A request that needs the asymmetric algorithm (R481). -/
def State.needsSlh (k : State → State) (s : State) : State :=
  if !s.sec.spdm.algs then s.spdmError 4 else if !s.sec.spdm.slh then s.spdmError 7 else k s

/-- A request that comes inside a secure session. -/
def State.inSession (n : Nat) (k : State → State) (s : State) : State :=
  if (SMap.get? s.sec.spdm.sessions n).isSome then k s else s.spdmError 2

def State.onSpdm (f : Spdm → Spdm) (s : State) : State := s.onSec (fun c => { c with spdm := f c.spdm })

/-- Whether the signing unit refuses a request: with a failed entropy source, or with 16 waiting (R479, R483). -/
def State.signFull (s : State) : Bool := s.bit F.secStat_RNG_FAIL R.secStat || decide (16 ≤ s.sec.waiting.length)

/-- A signature for SPDM is asked for. -/
def State.spdmSign (who arg : Nat) (m : Bytes) (s : State) : State :=
  if s.signFull then s.spdmError 3 else s.askSign { who := who, arg := arg, message := m }

/-- GET_VERSION: 1.2, and the connection starts again. -/
def execGetVersion (s : State) : Host.Outcome State Fault Refusal :=
  .next (s.spdmOn (fun s => (s.onSpdm (fun p => { p with version := true, caps := false, algs := false, slh := false })).spdmReply 0x04
    ([0, 0, 0, 1] ++ leBytes 2 0x1200)) )

/-- GET_CAPABILITIES: CTExponent 18, the flags and the sizes of R480. -/
def execGetCapabilities (s : State) : Host.Outcome State Fault Refusal :=
  .next (s.spdmOn (fun s => if !s.sec.spdm.version then s.spdmError 4
    else (s.onSpdm (fun p => { p with caps := true })).spdmReply 0x61
      ([0, 0, 0, 18, 0, 0] ++ leBytes 4 0x62D6 ++ leBytes 4 65536 ++ leBytes 4 65536)))

/-- NEGOTIATE_ALGORITHMS: SLH-DSA is selected where it is offered, by its extended entry (R481). -/
def execNegotiateAlgorithms (offersSlh : Bool) (s : State) : Host.Outcome State Fault Refusal :=
  .next (s.spdmOn (fun s => if !s.sec.spdm.caps then s.spdmError 4
    else (s.onSpdm (fun p => { p with algs := true, slh := offersSlh })).spdmReply 0x63 (if offersSlh then [4, 0, 1, 0] else [])))

/-- GET_DIGESTS: the digest of slot 0. -/
def execGetDigests (s : State) : Host.Outcome State Fault Refusal :=
  .next (s.spdmOn (State.needsSlh (fun s => s.spdmReply 0x01 (sha3 s.sec.chain))))

/-- GET_CERTIFICATE: a portion of the chain, with its length and that of the remainder (R478). -/
def execGetCertificate (off len : Nat) (s : State) : Host.Outcome State Fault Refusal :=
  .next (s.spdmOn (State.needsSlh (fun s =>
    if s.sec.chain.length < off then s.spdmError 1
    else
      let b := (s.sec.chain.drop off).take len
      s.spdmReply 0x02 (leBytes 2 b.length ++ leBytes 2 (s.sec.chain.length - off - b.length) ++ b))))

/-- CHALLENGE: answered once the signature is made (R481). -/
def execChallenge (nonce : Bytes) (s : State) : Host.Outcome State Fault Refusal :=
  .next (s.spdmOn (State.needsSlh (State.spdmSign 1 0 nonce)))

/-- GET_MEASUREMENTS: the number of blocks, one block or all, signed where asked (R481, R482). -/
def execGetMeasurements (which : Nat) (signed : Bool) (nonce : Bytes) (s : State) : Host.Outcome State Fault Refusal :=
  .next (s.spdmOn (fun s =>
    if !s.sec.spdm.algs then s.spdmError 4
    else if 6 ≤ which ∧ which ≠ 0xFF then s.spdmError 1
    else if signed then s.needsSlh (State.spdmSign 2 which (s.blocks which ++ nonce))
    else s.spdmReply 0x60 (leBytes 1 (if which = 0 then 5 else 0) ++ s.blocks which)))

/-- Sessions open, and those whose KEY_EXCHANGE waits for its signature. -/
def State.sessionsTaken (s : State) : Nat :=
  s.sec.spdm.sessions.length + (s.sec.waiting.filter (fun r => r.who = 3)).length + (if s.sec.signing.any (fun r => r.who = 3) then 1 else 0)

/-- KEY_EXCHANGE: a fifth session is refused (R480). -/
def execKeyExchange (s : State) : Host.Outcome State Fault Refusal :=
  .next (s.spdmOn (State.needsSlh (fun s => if 4 ≤ s.sessionsTaken then s.spdmError 10 else s.spdmSign 3 0 [])))

/-- HEARTBEAT of a session. -/
def execHeartbeat (session : Nat) (s : State) : Host.Outcome State Fault Refusal :=
  .next (s.spdmOn (State.inSession session (fun s =>
    (s.onSpdm (fun p => { p with sessions := SMap.modify p.sessions session (fun x => { x with heartbeats := x.heartbeats + 1 }) })).spdmReply 0x68 [])))

/-- KEY_UPDATE of a session. -/
def execKeyUpdateSpdm (session : Nat) (s : State) : Host.Outcome State Fault Refusal :=
  .next (s.spdmOn (State.inSession session (fun s =>
    (s.onSpdm (fun p => { p with sessions := SMap.modify p.sessions session (fun x => { x with epoch := x.epoch + 1 }) })).spdmReply 0x69 [])))

/-- END_SESSION: the place is free again (R480). -/
def execEndSession (session : Nat) (s : State) : Host.Outcome State Fault Refusal :=
  .next (s.spdmOn (State.inSession session (fun s => (s.onSpdm (fun p => { p with sessions := SMap.del p.sessions session })).spdmReply 0x6C [])))

/-- The number of a session that a KEY_EXCHANGE opens: the lowest free one of four. -/
def State.newSession (s : State) : Nat := ((List.range 4).find? (fun n => (SMap.get? s.sec.spdm.sessions n).isNone)).getD 0

/-! ### IDE and TDISP (R280, R484) -/

/-- A vendor-defined answer: the stream or the function, and 0 where the request was done. -/
def State.vendorReply (k : Nat) (done : Bool) (s : State) : State := s.spdmReply 0x7E (leBytes 2 k ++ leBytes 1 (if done then 0 else 1))

/-- IDE_KM: the key of one of up to 8 selective streams (R484). -/
def execIdeKm (session stream : Nat) (key : Bytes) (s : State) : Host.Outcome State Fault Refusal :=
  .next (s.spdmOn (State.inSession session (fun s =>
    if (SMap.get? s.sec.ide stream).isNone && decide (8 ≤ s.sec.ide.length) then s.vendorReply stream false
    else
      let s := s.onSec (fun c => { c with ide := SMap.put c.ide stream (session, key) })
      (s.setF F.hifLinkStat_IDE_STREAMS R.hifLinkStat s.sec.ide.length).vendorReply stream true)))

/-- A TDI moves from one of the given states to another, or the request is refused. -/
def State.tdiMove (fn : Nat) (ok : Tdi → Bool) (to_ : Tdi) (s : State) : State :=
  if decide (1 ≤ fn) && decide (fn < 128) && ok (s.tdi fn) then
    (s.onHost (fun h => { h with tdi := SMap.put h.tdi fn to_ })).vendorReply fn true
  else s.vendorReply fn false

/-- LOCK_INTERFACE: refused while DEBUG is 1 (R484). -/
def execLockInterface (session fn : Nat) (s : State) : Host.Outcome State Fault Refusal :=
  .next (s.spdmOn (State.inSession session (fun s =>
    if s.bit F.secStat_DEBUG R.secStat then s.vendorReply fn false else s.tdiMove fn (· == .unlocked) .locked)))

/-- START_INTERFACE: a locked TDI runs. -/
def execStartInterface (session fn : Nat) (s : State) : Host.Outcome State Fault Refusal :=
  .next (s.spdmOn (State.inSession session (State.tdiMove fn (· == .locked) .run)))

/-- STOP_INTERFACE: a TDI returns to CONFIG_UNLOCKED (R280). -/
def execStopInterface (session fn : Nat) (s : State) : Host.Outcome State Fault Refusal :=
  .next (s.spdmOn (State.inSession session (State.tdiMove fn (fun _ => true) .unlocked)))

/-! ### Responses of the mailbox (R491 to R495) -/

def viaNo : Transport → Nat
  | .pcie => 1
  | .smbus => 2

/-- A response (R492). -/
def State.answer (via cmd seq status : Nat) (b : Bytes) (s : State) : State :=
  s.post (.reply via cmd (leBytes 1 cmd ++ leBytes 1 seq ++ leBytes 1 status ++ [0] ++ leBytes 4 b.length ++ b))

/-- A request reaches the mailbox: none is answered where no Winder is in service or the firmware does not run yet; a busy mailbox
and one being taken over answer STAT_BUSY, and recovery serves five commands (R452, R476, R493, R496). -/
def State.request (via : Transport) (cmd seq : Nat) (k : State → State) (s : State) : State :=
  if s.sec.dead || s.stage == 0 then s
  else if s.ras.takeover || s.sec.longOp.isSome then s.answer (viaNo via) cmd seq 0x47 []
  else if s.stage == 7 && !([0x01, 0x02, 0x20, 0x21, 0x50] : List Nat).contains cmd then s.answer (viaNo via) cmd seq 0x49 []
  else k s

/-- A long operation has ended with a status; its response is sent and the mailbox is free (R493). -/
def State.endOp (l : LongOp) (status : Nat) (b : Bytes) (s : State) : State :=
  let s := (s.onSec (fun c => { c with longOp := none })).wr R.wndMbxStat (Fset F.wndMbxStat_BUSY 0 (Fset F.wndMbxStat_OP 0
    (Fset F.wndMbxStat_LAST_OP l.cmd (Fset F.wndMbxStat_LAST_STATUS status (s.rd R.wndMbxStat)))))
  s.answer l.via l.cmd l.seq status b

/-- A long operation is accepted in a phase: 0 working, 1 waiting for a press, 3 waiting for a signature. -/
def State.takeOp (via : Transport) (cmd seq : Nat) (b : Bytes) (phase : Nat) (s : State) : State :=
  (s.onSec (fun c => { c with longOp := some { cmd := cmd, via := viaNo via, seq := seq, payload := b, phase := phase, status := 0 } })).wr R.wndMbxStat
    (Fset F.wndMbxStat_BUSY 1 (Fset F.wndMbxStat_OP cmd (s.rd R.wndMbxStat)))

/-- A long operation that a check ends before it starts. -/
def State.failOp (via : Transport) (cmd seq status : Nat) (s : State) : State :=
  s.endOp { cmd := cmd, via := viaNo via, seq := seq, payload := [], phase := 0, status := status } status []

/-- An operation that needs presence waits for a press, or ends at once where the seal is broken (R485). -/
def State.presenceOp (via : Transport) (cmd seq : Nat) (b : Bytes) (s : State) : State :=
  if s.bit F.secStat_SEAL_BROKEN R.secStat then s.failOp via cmd seq 0x48 else s.takeOp via cmd seq b 1

/-! ### Short commands (R494) -/

/-- GET_STATUS. -/
def execGetStatus (via : Transport) (seq : Nat) (s : State) : Host.Outcome State Fault Refusal :=
  .next (s.request via 0x01 seq (fun s => s.answer (viaNo via) 0x01 seq 0
    ([s.rd R.secStat, s.rd R.secBoot, s.otpGenView, s.rd R.wndDieStat, s.pkgView, s.mbxView].flatMap (fun w => leBytes 4 w.toNat))))

/-- GET_EVENT: the oldest event record; with the last one the alert is released (R496). -/
def getEvent (via : Transport) (seq : Nat) (s : State) : State :=
  s.request via 0x02 seq (fun s =>
    match s.sec.events with
    | [] => s.answer (viaNo via) 0x02 seq 0 []
    | e :: r =>
      let s := (s.onSec (fun c => { c with events := r })).answer (viaNo via) 0x02 seq 0 e
      if r.isEmpty then s.post (.pin pinAlert s.winder true) else s)

def execGetEvent (via : Transport) (seq : Nat) (s : State) : Host.Outcome State Fault Refusal := .next (getEvent via seq s)

/-- SET_CEIL: CEIL_W within its limits (R436). -/
def execSetCeil (via : Transport) (seq watts : Nat) (s : State) : Host.Outcome State Fault Refusal :=
  .next (s.request via 0x03 seq (fun s =>
    (s.setF F.pwrCeil_CEIL_W R.pwrCeil (max 1100 (min s.maxW watts))).answer (viaNo via) 0x03 seq 0 []))

/-- GET_TELEMETRY. -/
def execGetTelemetry (via : Transport) (seq : Nat) (s : State) : Host.Outcome State Fault Refusal :=
  .next (s.request via 0x04 seq (fun s => s.answer (viaNo via) 0x04 seq 0 ((List.range 8).flatMap (fun d =>
    leBytes 4 (s.rd (R.pwrDieStat d)).toNat ++ leBytes 4 (s.rd (R.pwrDiePower d)).toNat ++ leBytes 4 (s.rd (R.pwrTemp d)).toNat))))

/-- DARN_PUT: a good record becomes the darning map while the boot waits for it (R455). -/
def darnPut (via : Transport) (seq : Nat) (b : Bytes) (s : State) : State :=
  s.request via 0x10 seq (fun s =>
    let say := fun st (t : State) => t.answer (viaNo via) 0x10 seq st []
    if b.length ≠ 1024 then say 0x4A s
    else if !s.ras.recordWait then say 0x49 s
    else if s.recordGood b then say 0 (s.applyRecord b)
    else say 0x4A (s.setF F.wndDarnStat_RECORD_BAD R.wndDarnStat 1))

def execDarnPut (via : Transport) (seq : Nat) (rec_ : Bytes) (s : State) : Host.Outcome State Fault Refusal := .next (darnPut via seq rec_ s)

/-- DARN_GET. -/
def execDarnGet (via : Transport) (seq : Nat) (s : State) : Host.Outcome State Fault Refusal :=
  .next (s.request via 0x11 seq (fun s => s.answer (viaNo via) 0x11 seq 0 s.darningRecord))

/-- GET_CERT: a portion of the chain. -/
def execGetCert (via : Transport) (seq off len : Nat) (s : State) : Host.Outcome State Fault Refusal :=
  .next (s.request via 0x41 seq (fun s =>
    if 1 ≤ len ∧ len ≤ 4096 then s.answer (viaNo via) 0x41 seq 0 ((s.sec.chain.drop off).take len)
    else s.answer (viaNo via) 0x41 seq 0x4A []))

/-- OTP_READ: 64 bytes from a word of the array. -/
def execOtpRead (via : Transport) (seq word : Nat) (s : State) : Host.Outcome State Fault Refusal :=
  .next (s.request via 0x50 seq (fun s =>
    if word ≤ 511 then s.answer (viaNo via) 0x50 seq 0 (cut s.otpBytes (4 * word) 64) else s.answer (viaNo via) 0x50 seq 0x4A []))

/-- MCTP_CONTROL: answered; what the MCTP standard puts into the answer is open (R491). -/
def execMctpControl (transport : Transport) (req : Bytes) (s : State) : Host.Outcome State Fault Refusal :=
  .next (if s.sec.dead || s.stage == 0 then s else s.post (.reply (viaNo transport) 0 (Config.derive 8 req)))

/-! ### Long commands (R486, R494) -/

/-- The slot not booted. -/
def State.spareSlot (s : State) : Nat := 1 - s.fld F.secBoot_SLOT R.secBoot

/-- Flash offset of a firmware slot (R471). -/
def slotBase (k : Nat) : Nat := 0x0100000 + 0x0800000 * k

/-- FW_WRITE: one sector of the slot not booted. -/
def fwWrite (via : Transport) (seq off : Nat) (data : Bytes) (s : State) : State :=
  s.request via 0x20 seq (fun s =>
    if data.length ≠ 4096 ∨ off % 4096 ≠ 0 ∨ off < slotBase 0 ∨ slotBase 2 ≤ off then s.failOp via 0x20 seq 0x4A
    else
      let k := (off - slotBase 0) / 0x0800000
      if k ≠ s.spareSlot then s.failOp via 0x20 seq 0x49
      else s.takeOp via 0x20 seq (leBytes 4 (off - slotBase k) ++ zeros 4 ++ leBytes 1 k ++ data) 0)

def execFwWrite (via : Transport) (seq off : Nat) (data : Bytes) (s : State) : Host.Outcome State Fault Refusal := .next (fwWrite via seq off data s)

/-- FW_ACTIVATE: the slot not booted will be checked. -/
def execFwActivate (via : Transport) (seq : Nat) (s : State) : Host.Outcome State Fault Refusal :=
  .next (s.request via 0x21 seq (State.takeOp via 0x21 seq [] 0))

/-- The fuses with `n` of the lowest unset bits set. -/
def fuseMore : Nat → List Nat → Nat → Nat
  | 0, _, v => v
  | _, [], v => v
  | n + 1, i :: r, v => if v.testBit i then fuseMore (n + 1) r v else fuseMore n r (v + 2 ^ i)

/-- SVN_RAISE: the floor rises to the value asked for (R474). -/
def svnRaise (via : Transport) (seq floor : Nat) (s : State) : State :=
  s.request via 0x22 seq (fun s =>
    let want := floor + numAt s.sec.settings 8 1
    if floor ≤ s.fld F.secBoot_FLOOR R.secBoot ∨ s.fld F.secBoot_SVN R.secBoot < floor ∨ 64 < want then s.failOp via 0x22 seq 0x4A
    else s.takeOp via 0x22 seq (leBytes 8 (fuseMore (want - s.svnCount) (List.range 64) s.sec.svnFuses) ++ leBytes 1 floor) 0)

def execSvnRaise (via : Transport) (seq floor : Nat) (s : State) : Host.Outcome State Fault Refusal := .next (svnRaise via seq floor s)

/-- KEY_REVOKE: neither the booted key slot nor the last one. -/
def keyRevoke (via : Transport) (seq slot : Nat) (s : State) : State :=
  s.request via 0x23 seq (fun s =>
    if 2 ≤ slot then s.failOp via 0x23 seq 0x4A
    else if slot = s.fld F.secBoot_KEY_SLOT R.secBoot ∨ s.sec.revoked.testBit (1 - slot) then s.failOp via 0x23 seq 0x49
    else s.takeOp via 0x23 seq (leBytes 1 slot) 0)

def execKeyRevoke (via : Transport) (seq slot : Nat) (s : State) : Host.Outcome State Fault Refusal := .next (keyRevoke via seq slot s)

/-- SETTINGS_ADVANCE: bytes 3 to 223 of a new generation, after presence (R486). -/
def settingsAdvance (via : Transport) (seq : Nat) (gen : Bytes) (s : State) : State :=
  s.request via 0x30 seq (fun s =>
    if gen.length ≠ 221 then s.failOp via 0x30 seq 0x4A
    else if s.freeGen.isNone then s.failOp via 0x30 seq 0x4B
    else if numAt gen 1 2 < 1100 ∨ 2000 < numAt gen 1 2 ∨ numAt gen 5 1 ≠ numAt s.sec.settings 8 1 then s.failOp via 0x30 seq 0x4A
    else s.presenceOp via 0x30 seq gen)

def execSettingsAdvance (via : Transport) (seq : Nat) (gen : Bytes) (s : State) : Host.Outcome State Fault Refusal :=
  .next (settingsAdvance via seq gen s)

/-- SVN_ROLLBACK: a new generation with a larger SVN_ROLLBACK, after presence (R474, R486). -/
def svnRollback (via : Transport) (seq floor : Nat) (s : State) : State :=
  s.request via 0x31 seq (fun s =>
    if s.freeGen.isNone then s.failOp via 0x31 seq 0x4B
    else if s.fld F.secBoot_FLOOR R.secBoot ≤ floor then s.failOp via 0x31 seq 0x4A
    else s.presenceOp via 0x31 seq (cut (putAt s.sec.settings 8 (leBytes 1 (s.svnCount - floor))) 3 221))

def execSvnRollback (via : Transport) (seq floor : Nat) (s : State) : Host.Outcome State Fault Refusal := .next (svnRollback via seq floor s)

/-- Whether every hoop's STATE is 0. -/
def State.noHoops (s : State) : Bool := (List.range 16).all (fun h => s.fld F.hoopStat_STATE (R.hoopStat h) == 0)

/-- DEBUG_UNLOCK: after presence (R486, R487). -/
def debugUnlock (via : Transport) (seq : Nat) (s : State) : State :=
  s.request via 0x32 seq (fun s =>
    if !(numAt s.sec.settings 7 1).testBit 0 || !s.noHoops then s.failOp via 0x32 seq 0x49 else s.presenceOp via 0x32 seq [])

def execDebugUnlock (via : Transport) (seq : Nat) (s : State) : Host.Outcome State Fault Refusal := .next (debugUnlock via seq s)

/-- The five digests that ATTEST returns; block 4 by the digest of its value. -/
def State.digests (s : State) : Bytes :=
  s.measured 1 ++ s.measured 2 ++ s.measured 3 ++ sha3 (s.measured 4) ++ s.measured 5

/-- ATTEST: the digests and the nonce wait for their signature (R483). -/
def attest (via : Transport) (seq : Nat) (nonce : Bytes) (s : State) : State :=
  s.request via 0x40 seq (fun s =>
    if nonce.length ≠ 32 then s.failOp via 0x40 seq 0x4A
    else if s.signFull then s.failOp via 0x40 seq 0x4B
    else
      let b := s.digests ++ nonce
      (s.takeOp via 0x40 seq b 3).askSign { who := 4, arg := 0, message := b })

def execAttest (via : Transport) (seq : Nat) (nonce : Bytes) (s : State) : Host.Outcome State Fault Refusal := .next (attest via seq nonce s)

/-- What a working long operation has done when it ends, and its status. -/
def State.opEffect (l : LongOp) (s : State) : Nat × State :=
  if l.cmd = 0x20 then
    (0, s.onSec (fun c => { c with
      slots := SMap.upd c.slots (numAt l.payload 8 1) [] (fun m => SMap.put m (numAt l.payload 0 4) (cut l.payload 9 4096)) }))
  else if l.cmd = 0x21 then
    if s.slotGood s.spareSlot then
      let s := s.onSec (fun c => { c with first := s.spareSlot })
      (0, if s.stage = 7 then s.onClk (fun c => { c with recovering := true }) else s)
    else (0x4A, s)
  else if l.cmd = 0x22 then (0, (s.onSec (fun c => { c with svnFuses := numAt l.payload 0 8 })).setF F.secBoot_FLOOR R.secBoot (numAt l.payload 8 1))
  else if l.cmd = 0x23 then (0, s.onSec (fun c => { c with revoked := c.revoked ||| 2 ^ numAt l.payload 0 1 }))
  else if l.cmd = 0x30 ∨ l.cmd = 0x31 then
    match s.freeGen with
    | some g => (0, s.onSec (fun c => { c with gens := SMap.put c.gens g { body := [0x5A, 0xC3] ++ leBytes 1 g ++ cut l.payload 0 221, whole := true } }))
    | none => (0x4B, s)
  else if l.cmd = 0x32 then (0, s.setF F.secStat_DEBUG R.secStat 1)
  else (l.status, s)

/-- MAILBOX_LONG_OP_END (R493). -/
def mailboxLongOpEnd (s : State) : State :=
  match s.sec.longOp with
  | none => s
  | some l =>
    if l.phase ≠ 0 then s
    else
      let x := s.opEffect l
      x.2.endOp l x.1 (if l.cmd = 0x40 then l.payload else [])

def execMailboxLongOpEnd (s : State) : Host.Outcome State Fault Refusal := .next (mailboxLongOpEnd s)

/-! ### Signatures (R481, R483) -/

/-- A finished signature goes to the one who asked for it. -/
def State.signed (r : SignReq) (sig : Bytes) (s : State) : State :=
  match r.who with
  | 0 => if (s.port r.arg).step = 4 then s.post (.gimp r.arg 0x104 [] sig) else s
  | 1 => s.spdmReply 0x03 (sha3 s.sec.chain ++ r.message ++ sig)
  | 2 => s.spdmReply 0x60 (leBytes 1 (if r.arg = 0 then 5 else 0) ++ r.message ++ sig)
  | 3 =>
    let n := s.newSession
    (s.onSpdm (fun p => { p with sessions := SMap.put p.sessions n { heartbeats := 0, epoch := 0 } })).spdmReply 0x64 (leBytes 1 n ++ sig)
  | _ => match s.sec.longOp with
    | some l => if l.cmd = 0x40 ∧ l.phase = 3 then
        s.onSec (fun c => { c with longOp := some { l with phase := 0, payload := l.payload ++ sig } }) else s
    | none => s

/-- SIGNATURE_COMPLETE: the signing unit of the active Winder's die ends a signature and takes the next request (R483). -/
def signatureComplete (d : Nat) (s : State) : State :=
  if d ≠ s.winder then s
  else match s.sec.signing with
  | none => s
  | some r =>
    let sig := cut (Config.sign s.free r.message) 0 49856
    let s := (s.random d).2
    let s := s.onSec (fun c => { c with signing := c.waiting.head?, waiting := c.waiting.drop 1 })
    s.signed r sig

def execSignatureComplete (die : Nat) (s : State) : Host.Outcome State Fault Refusal := .next (signatureComplete die s)

/-! ### Presence and the seal (R485) -/

/-- An operation that waits for presence ends without it. -/
def State.noPresence (status : Nat) (phases : List Nat) (s : State) : State :=
  match s.sec.longOp with
  | some l => if phases.contains l.phase then s.endOp l status [] else s
  | none => s

/-- A waiting operation goes from one phase to another. -/
def State.phase (a b : Nat) (s : State) : State :=
  s.onSec (fun c => { c with longOp := c.longOp.map (fun l => if l.phase = a then { l with phase := b } else l) })

/-- PRESENCE_PRESS: PRES_N goes low, and the hold starts. -/
def execPresencePress (s : State) : Host.Outcome State Fault Refusal :=
  .next (if s.bit F.secStat_PRES R.secStat || !s.clk.pwrok then s else (s.setF F.secStat_PRES R.secStat 1).phase 1 2)

/-- PRESENCE_RELEASE: PRES_N goes high; a hold in progress ends, and a fresh press is needed, for which the 10 s must not have passed. -/
def execPresenceRelease (s : State) : Host.Outcome State Fault Refusal :=
  .next (s.powered (fun s => ((s.setF F.secStat_PRES R.secStat 0).phase 2 1).noPresence 0x48 [4]))

/-- PRESENCE_HOLD_END: presence is obtained where the seal is intact; DEBUG_UNLOCK checks the hoops again (R485, R495). -/
def presenceHoldEnd (s : State) : State :=
  match s.sec.longOp with
  | none => s
  | some l =>
    if l.phase ≠ 2 ∧ l.phase ≠ 4 then s
    else if s.bit F.secStat_SEAL_BROKEN R.secStat then s.endOp l 0x48 []
    else if l.cmd = 0x32 ∧ !s.noHoops then s.endOp l 0x49 []
    else s.phase l.phase 0

def execPresenceHoldEnd (s : State) : Host.Outcome State Fault Refusal := .next (presenceHoldEnd s)

/-- PRESENCE_WAIT_EXPIRY: 10 s have passed since acceptance; a hold that has begun goes on, but no further press counts. -/
def execPresenceWaitExpiry (s : State) : Host.Outcome State Fault Refusal := .next ((s.noPresence 0x48 [1]).phase 2 4)

/-- SEAL_CHECK: a mismatch breaks the seal until PWROK rises again, and presence is not obtained. -/
def sealCheck (follows : Bool) (s : State) : State :=
  if !s.clk.pwrok then s
  else if follows then s.setF F.secStat_SEAL_OK R.secStat 1
  else ((s.setF F.secStat_SEAL_OK R.secStat 0).setF F.secStat_SEAL_BROKEN R.secStat 1).noPresence 0x48 [1, 2, 4]

def execSealCheck (follows : Bool) (s : State) : Host.Outcome State Fault Refusal := .next (sealCheck follows s)

/-! ### Pins and the test port (R488 to R490) -/

/-- The die of a bit of SEC_PIN_STAT. -/
def pinDie (b : Nat) : Nat := if 8 ≤ b then b % 8 else 0

/-- PIN_CHECK: each new fault is an event record; an open or shorted seal loop is a broken seal, and a PRES_N shorted low reads as
pressed, without a press (R490). -/
def pinCheck (pins : Word) (s : State) : State :=
  if !s.clk.pwrok then s
  else
    let w := pins &&& 0x00FFFF1F#32
    let old := (s.rd R.secPinStat).toNat
    let s := each ((List.range 24).filter (fun b => w.toNat.testBit b && !old.testBit b)) (fun b t => t.mgmt 1 (pinDie b) b) (s.wr R.secPinStat w)
    let s := if w.toNat.testBit 0 then s.setF F.secStat_PRES R.secStat 1 else s
    if w.toNat.testBit 1 then sealCheck false s else s

def execPinCheck (pins : Word) (s : State) : Host.Outcome State Fault Refusal := .next (pinCheck pins s)

/-- BYPASS. -/
def execBypass (s : State) : Host.Outcome State Fault Refusal := .next (s.onSec (fun c => { c with jtag := 0 }))

/-- IDCODE: version SILICON_REV[3:0], part 0xD080; the manufacturer's number is open (R488). -/
def execIdcode (s : State) : Host.Outcome State Fault Refusal :=
  .next ((s.onSec (fun c => { c with jtag := 1 })).post (.reply 3 1
    (leBytes 4 (1 + 2 * (Config.freeNat 0 % 2 ^ 11) + 2 ^ 12 * 0xD080 + 2 ^ 28 * (s.part.rev % 16)))))

/-- SAMPLE/PRELOAD: the boundary register captures the pins, whose levels are open, or is loaded. -/
def execSamplePreload (preload : Option Bytes) (s : State) : Host.Outcome State Fault Refusal :=
  .next (match preload with
    | some b => s.onSec (fun c => { c with jtag := 2, boundary := b })
    | none =>
      let b := Config.random s.free
      ({ s with free := s.free + 1 }.onSec (fun c => { c with jtag := 2, boundary := b })).post (.reply 3 2 b))

/-- An instruction that drives the pins takes effect only while PWROK is low (R488). -/
def State.drivePins (n : Nat) (s : State) : State :=
  if s.clk.pwrok then s
  else
    let s := s.onSec (fun c => { c with jtag := n })
    s.post (.reply 3 n (if n = 5 then [] else s.sec.boundary))

/-- EXTEST. -/
def execExtest (s : State) : Host.Outcome State Fault Refusal := .next (s.drivePins 3)

/-- CLAMP. -/
def execClamp (s : State) : Host.Outcome State Fault Refusal := .next (s.drivePins 4)

/-- HIGHZ. -/
def execHighz (s : State) : Host.Outcome State Fault Refusal := .next (s.drivePins 5)

end Sys2Proof.Machine
end

