-- ==== Sys2Proof/Machine/Registers.lean ====
section
/-!
DEFINITION. The registers as the host reaches them: what an offset of a function's BAR0 names, what a read returns, and what
a write does, pairs and locks included (R8 to R12, R164, R245, R277 to R280, R317, R337, R378, R415, R423, R476).
-/
namespace Sys2Proof.Machine

/-! ### What an offset names (R245) -/

/-- What an offset of a function's BAR0 names: a register, a word of an MSI-X entry, a word of the pending bits, or nothing.
`ro` is set where the function may only read the register. -/
inductive BarSpot where
  | reg (off : Nat) (ro : Bool)
  | msix (vector word : Nat)
  | pending (word : Nat)
  | nothing
  deriving DecidableEq, Repr

/-- The spot of an aligned offset. -/
def barSpot (fn off : Nat) : BarSpot :=
  if fn = 0 then
    if 0x03F00000 ≤ off ∧ off < 0x03F08000 then .msix ((off - 0x03F00000) / 16) (off % 16 / 4)
    else if 0x03F10000 ≤ off ∧ off < 0x03F10100 then .pending ((off - 0x03F10000) / 4)
    else .reg off false
  else if off = 0 then .reg R.hifPartId true
  else if 0x100 ≤ off ∧ off < 0x140 then .reg (R.qfeFnQgrp fn + (off - 0x100)) (off == 0x100 || off == 0x124)
  else if 0x8000 ≤ off ∧ off < 0x8400 then .msix ((off - 0x8000) / 16) (off % 16 / 4)
  else if 0x9000 ≤ off ∧ off < 0x9008 then .pending ((off - 0x9000) / 4)
  else .nothing

/-! ### Reads -/

/-- ENG_STAT: the counts of what is resident now (R137). -/
def State.engStatView (s : State) (e : Nat) : Word :=
  let g := s.eng e
  Fset F.engStat_CTX (min 4 (s.ctxsOn e).length)
    (Fset F.engStat_GROUPS g.groups.length (Fset F.engStat_FILET g.filet.length (s.rd (R.engStat e))))

/-- HOOP_STAT: the engines in service of the hoop (R347). -/
def State.hoopStatView (s : State) (h : Nat) : Word :=
  let es := (s.hoopEngines h).filter (fun e => s.fld F.engStat_STATE (R.engStat e) = 1)
  Fset F.hoopStat_ENGINES es.length (Fset F.hoopStat_RT_ENGINES
    (es.filter (fun e => s.bit F.hoopEngMap_RT (R.hoopEngMap e))).length (s.rd (R.hoopStat h)))

/-- PIL_SRV_STAT: the entries of a server, and those deferred (R378). -/
def State.srvStatView (s : State) (h v : Nat) : Word :=
  let es := (s.pilH h).entries.filter (fun p => p.2.server = v && p.2.st != .free)
  Fset F.pilSrvStat_LIVE es.length (Fset F.pilSrvStat_DEFERRED (es.filter (fun p => p.2.st == .deferred)).length 0)

/-- Registers whose value the device computes: first offset, step, count, and the value. -/
def regViews : List (Nat × Nat × Nat × (State → Nat → Word)) :=
  [(R.hifPartId, 4, 1, fun s _ => partId s.part),
   (R.engStat 0, 0x40, 2048, fun s e => s.engStatView e),
   (R.cshSliceErr 0, 0x10, 256, fun s i =>
      let x := s.slice (s.physSlice i)
      Fset F.cshSliceErr_CORRECTED x.corrected (Fset F.cshSliceErr_POISONED x.poisoned 0)),
   (R.memSetCtrl 0, 0x10, 16, fun s j =>
      Fset F.memSetCtrl_CLEAR (s.fld F.memSetStat_CLEARING (R.memSetStat j)) (s.rd (R.memSetCtrl j))),
   (R.hoopStat 0, 0x1000, 16, fun s h => s.hoopStatView h),
   (R.hoopSaveStat 0, 0x1000, 16, fun s h =>
      Fset F.hoopSaveStat_FREE (s.hoop h).freeSlots.length (s.rd (R.hoopSaveStat h))),
   (R.pilPoolFree 0, 0x1000, 16, fun s h => Fset F.pilPoolFree_FREE (s.pilH h).free.length 0),
   (R.shxMoves, 4, 1, fun s _ => Fset F.shxMoves_IN_FLIGHT (min 0x1FFFF s.shx.moves.length) 0),
   (R.clkCountLo 0, 0x40, 8, fun s d => BitVec.ofNat 32 (s.count d)),
   (R.clkCountHi 0, 0x40, 8, fun s d => BitVec.ofNat 32 (s.count d / 2 ^ 32)),
   (R.pwrPkgStat, 4, 1, fun s _ => s.pkgView),
   (R.wndMbxStat, 4, 1, fun s _ => s.mbxView),
   (R.otpGen, 4, 1, fun s _ => s.otpGenView),
   (R.otpReadData, 4, 1, fun s _ => BitVec.ofNat 32 (numAt s.otpBytes (4 * s.fld F.otpReadSel_WORD R.otpReadSel) 4)),
   (R.engFrayMargin 0, 4, 2048, fun s e =>
      Fset F.engFrayMargin_CAP_MHZ (s.fld F.engFreq_CAP_MHZ (R.engFreq e)) (s.rd (R.engFrayMargin e)))] ++
  (List.range 4).map (fun v => (R.pilSrvStat 0 v, 0x1000, 16, fun s h => s.srvStatView h v))

/-- What a read of a register returns; 0 where the offset names none or its block does not answer (R10). -/
def State.look (s : State) (off : Nat) : Word :=
  if (regRow off).isNone || !s.regLive off then 0
  else match regViews.findSome? (fun v => (rowOf v.1 v.2.1 v.2.2.1 off).map (v.2.2.2 s)) with
  | some w => w
  | none => s.rd off

/-- 0 for a register of its own, 1 and 2 for the halves of a pair (R12). -/
def pairHalf (off : Nat) : Nat := ((regRow off).map (·.pair)).getD 0

/-- A word of an MSI-X table entry (R240): address, data, and the vector control. -/
def State.msixWord (s : State) (fn v k : Nat) : Word :=
  let e := s.msixEntry fn v
  if k = 0 then BitVec.ofNat 32 e.addr
  else if k = 1 then BitVec.ofNat 32 (e.addr / 2 ^ 32)
  else if k = 2 then e.data
  else if e.masked then 1 else 0

/-- 32 pending bits. -/
def State.pendWord (s : State) (fn k : Nat) : Word :=
  BitVec.ofNat 32 ((List.range 32).foldl (fun a i => if (s.msixEntry fn (32 * k + i)).pending then a + 2 ^ i else a) 0)

/-- A read of 4 bytes of a function's BAR0, and the captured halves that it leaves: a read of a _LO register captures the
high half at the same instant, and the next read of its _HI register returns what was captured (R12). -/
def State.barRead (fn off : Nat) (s : State) : Word × State :=
  if s.inReset fn then (0, s)
  else match barSpot fn off with
  | .msix v k => (s.msixWord fn v k, s)
  | .pending k => (s.pendWord fn k, s)
  | .nothing => (0, s)
  | .reg r _ =>
    let s := if (rowOf (R.clkCountLo 0) 0x40 8 r).isSome ∨ (rowOf (R.clkCountHi 0) 0x40 8 r).isSome then s.passTime else s
    if pairHalf r = 1 then (s.look r, s.onCapt (fun m => SMap.put m r (s.look (r + 4))))
    else if pairHalf r = 2 then
      match SMap.get? s.capt (r - 4) with
      | some w => (if s.regLive r then w else 0, s.onCapt (fun m => SMap.del m (r - 4)))
      | none => (s.look r, s)
    else (s.look r, s)

/-- The completion of a read of BAR0. -/
def barReadDone (fn off : Nat) (s : State) : State :=
  if s.barDead fn || off % 4 != 0 then s
  else
    let r := s.barRead fn off
    r.2.post (.completion fn (leBytes 4 r.1.toNat) false)

/-- PAIR_LO_READ (R12). -/
def execPairLoRead (fn off : Nat) (s : State) : Host.Outcome State Fault Refusal := .next (barReadDone fn off s)

/-- PAIR_HI_READ (R12). -/
def execPairHiRead (fn off : Nat) (s : State) : Host.Outcome State Fault Refusal := .next (barReadDone fn off s)

/-! ### Writes -/

/-- A value kept between two bounds. -/
def clampTo (lo hi v : Nat) : Nat := max lo (min hi v)

/-- A field of a written value kept between two bounds. -/
def clampF (f : Field) (lo hi : Nat) (w : Word) : Word := Fset f (clampTo lo hi (Fget f w)) w

/-- PWR_THERM: T_CRIT is at least 5 degrees above T_THROTTLE (R443). -/
def clampTherm (w : Word) : Word :=
  let w := clampF F.pwrTherm_T_THROTTLE 60 105 w
  clampF F.pwrTherm_T_STACK 80 95 (clampF F.pwrTherm_T_CRIT (Fget F.pwrTherm_T_THROTTLE w + 5) 110 w)

/-- Registers whose field tables clamp what is written. -/
def regClamps : List (Nat × Nat × Nat × (State → Word → Word)) :=
  [(R.hifWaitLimit, 4, 1, fun _ => clampF F.hifWaitLimit_LIMIT_MS 10 60000),
   (R.cshHomeTimeout, 4, 1, fun _ => clampF F.cshHomeTimeout_TIMEOUT_US 50 5000),
   (R.hoopSlice 0, 0x1000, 16, fun _ => clampF F.hoopSlice_SLICE_US 50 100000),
   (R.hoopKnotWait 0, 0x1000, 16, fun _ => clampF F.hoopKnotWait_KNOT_US 10 10000),
   (R.rollLead 0, 0x1000, 16, fun _ => clampF F.rollLead_LEAD 512 0xFFFF),
   (R.pilBudget 0, 0x1000, 16, fun _ w => clampF F.pilBudget_CHUNK 1 8192 (clampF F.pilBudget_BUDGET 1 8192 w)),
   (R.pilPoll 0, 0x1000, 16, fun _ => clampF F.pilPoll_POLL_US 1 0xFFFF),
   (R.pwrCtrl, 4, 1, fun _ => clampF F.pwrCtrl_DROOP_MV 15 100),
   (R.pwrCeil, 4, 1, fun s => clampF F.pwrCeil_CEIL_W 1100 s.maxW),
   (R.pwrTherm, 4, 1, fun _ => clampTherm),
   (R.engFrayLimit 0, 4, 2048, fun _ => clampF F.engFrayLimit_LIMIT_MHZ 1250 0x7FF)]

/-- The value that a register keeps of what is written to its fields. -/
def State.clamped (s : State) (off : Nat) (w : Word) : Word :=
  match regClamps.find? (fun c => (rowOf c.1 c.2.1 c.2.2.1 off).isSome) with
  | some c => c.2.2.2 s w
  | none => w

/-- What a write makes of a register's value: RW fields take the written bits, W1C bits written 1 clear, W1S bits written 1
are set, and all others keep theirs (R11). -/
def State.written (s : State) (off : Nat) (r : RegRow) (w : Word) : Word :=
  let old := s.rd off
  let new := s.clamped off ((old &&& ~~~r.rw) ||| (w &&& r.rw))
  (new &&& ~~~(w &&& r.w1c)) ||| (w &&& r.w1s)

/-- A write that a lock turns away: the state that it leaves (R164, R180, R278, R317, R337, R378, R415). -/
def State.lockedOut (s : State) (off : Nat) : Option State :=
  let hoopRegs := [R.hoopStat 0, R.hoopChsets 0, R.hoopPil 0, R.hoopSaveBaseLo 0, R.hoopSaveBaseHi 0, R.hoopSaveSlots 0]
  if 0x00300000 ≤ off ∧ off < 0x00304000 ∧ off % 0x10 < 8 then
    if s.bit F.cshWinCtrl_EN (R.cshWinCtrl ((off - 0x00300000) / 0x10)) then some s else none
  else if off = R.cshFlushBase ∨ off = R.cshFlushLimit then
    if s.bit F.cshFlushCtrl_START R.cshFlushCtrl then some s else none
  else if 0x00600000 ≤ off ∧ off < 0x00602000 ∧ pairHalf off ≠ 0 then
    if s.bit F.qfeFnAdmqCtrl_EN (R.qfeFnAdmqCtrl ((off - 0x00600000) / 0x40)) then some s else none
  else if 0x00700000 ≤ off ∧ off < 0x00710000 then
    let h := (off - 0x00700000) / 0x1000
    let o := off % 0x1000 + 0x00700000
    if (hoopRegs.contains o ∨ R.hoopEset 0 0 ≤ o) ∧ s.hoopSt h ≠ 0 then some (s.hoopRefuse h 8) else none
  else if 0x00780000 ≤ off ∧ off < 0x00790000 then
    let h := (off - 0x00780000) / 0x1000
    let o := off % 0x1000
    if (o = 4 ∨ o = 8 ∨ 0x800 ≤ o) ∧ s.bit F.rollCtrl_EN (R.rollCtrl h) then some (s.setF F.rollCtrl_REFUSED (R.rollCtrl h) 1) else none
  else if 0x00800000 ≤ off ∧ off < 0x00810000 then
    let h := (off - 0x00800000) / 0x1000
    let o := off % 0x1000
    if o = 0x8 ∨ o = 0xC ∨ o = 0x10 then (if s.bit F.pilCtrl_EN (R.pilCtrl h) then some s else none)
    else if 0x100 ≤ o ∧ o < 0x200 ∧ pairHalf off ≠ 0 then
      if s.bit F.pilSrvCtrl_EN (R.pilSrvCtrl h ((o - 0x100) / 0x40)) then some s else none
    else none
  else if 0x00908000 ≤ off ∧ off < 0x00909000 then
    let h := (off - 0x00908000) / 0x100
    if s.bit F.shxXCtrl_EN (R.shxXCtrl h (off % 0x100 / 0x40)) then some s else none
  else none

/-- A write of a register without a behaviour of its own: a _LO half goes to its holding register, a _HI half commits the
pair from the holding register and the written half (R12), and any other register takes its fields. -/
def State.plainWrite (off : Nat) (w : Word) (s : State) : State :=
  match regRow off with
  | none => s
  | some r =>
    match s.lockedOut off with
    | some s' => s'
    | none =>
      if r.pair = 1 then (if r.rw = 0 then s else s.onHold (fun h => SMap.put h off (w &&& r.rw)))
      else if r.pair = 2 then
        if r.rw = 0 then s
        else s.wr64 (off - 4) (((SMap.get? s.hold (off - 4)).getD (s.resetReg (off - 4))).toNat + 2 ^ 32 * (w &&& r.rw).toNat)
      else s.wr off (s.written off r w)

/-- Offsets of the registers whose bit 31 is CLEAR and clears every counter of the register. -/
def clearRegs : List (Nat × Nat × Nat) :=
  [(R.mshLinkErr 0, 0x100, 10), (R.hifErrCnt, 4, 1), (R.hifWakeDrop, 4, 1), (R.cshWinOver 0, 0x10, 1024), (R.cshSaddSat 0, 4, 16),
   (R.memChErr 0, 0x20, 1024), (R.memMirrorStat, 4, 1), (R.hoopSaveStat 0, 0x1000, 16), (R.hoopPreempt 0, 0x1000, 16),
   (R.rollStat 0, 0x1000, 16), (R.pilStat 0, 0x1000, 16), (R.pilStat2 0, 0x1000, 16), (R.shxDrop, 4, 1),
   (R.gmpErr 0, 0x100, 8), (R.gmpSecErr 0, 0x100, 8), (R.pwrDroop 0, 0x10, 8), (R.wndRasCnt, 4, 1)] ++
  (List.range 4).map (fun x => (R.shxXStat 0 x, 0x100, 16))

/-- A write of a control register that has the EN of another command: only its CTX and REFUSED change. -/
def keepEn (en : Field) (on : Bool) (w : Word) : Word := if on then w else Fset en 0 w

/-- Registers with a behaviour of their own, and what a write of each does. -/
def regActs : List (Nat × Nat × Nat × (Nat → Word → State → State)) :=
  [(R.mshLinkCtrl 0, 0x100, 10, fun l w s => linkRetrainRequest l w (linkDisable l w (linkEnable l w
      (s.setF F.mshLinkCtrl_SWAP_THRESH (R.mshLinkCtrl l) (Fget F.mshLinkCtrl_SWAP_THRESH w))))),
   (R.mshTestCtrl 0, 0x40, 8, fun d w s => mshTestStart d w (mshTestModeWrite d w s)),
   (R.engFault 0, 0x40, 2048, fun e w s => if Fbit F.engFault_VALID w then engFaultClear e s else s),
   (R.cshWinCtrl 0, 0x10, 1024, windowControlWrite),
   (R.cshSliceErr 0, 0x10, 256, fun i w s =>
      if Fbit F.cshSliceErr_CLEAR w then s.onSlice (s.physSlice i) (fun x => { x with corrected := 0, poisoned := 0 }) else s),
   (R.cshFlushCtrl, 4, 1, fun _ w s =>
      let op := Fget F.cshFlushCtrl_OP w
      if s.bit F.cshFlushCtrl_START R.cshFlushCtrl then s.setF F.cshFlushCtrl_OP R.cshFlushCtrl op
      else if Fbit F.cshFlushCtrl_START w ∧ (op = 1 ∨ op = 2) then flushStart op s
      else s.setF F.cshFlushCtrl_OP R.cshFlushCtrl op),
   (R.memChCtrl 0, 0x20, 1024, fun c w s =>
      let s := if Fbit F.memChCtrl_REFUSED w then s.setF F.memChCtrl_REFUSED (R.memChCtrl c) 0 else s
      if Fbit F.memChCtrl_TEST w then memChTestEnter c s else memChTestExit c s),
   (R.memSetCtrl 0, 0x10, 16, memSetCtrlWrite),
   (R.tgcCtrl 0, 0x20, 1024, tgcStop),
   (R.qfeFnAdmqCtrl 0, 0x40, 128, fun f w s => s.admCtrl f w),
   (R.qfeFnAdmqWake 0, 0x40, 128, fun f _ s => admqWake f s),
   (R.hoopCtrl 0, 0x1000, 16, fun h w s => s.hoopCtrlWrite h w),
   (R.hoopEngMap 0, 4, 2048, hoopEngMapWrite),
   (R.hoopFnMap 0, 4, 128, hoopFnMapWrite),
   (R.rollCtrl 0, 0x1000, 16, fun h w s => s.rollCtrlWrite h w),
   (R.pilCtrl 0, 0x1000, 16, fun h w s => s.pilCtrlWrite h w),
   (R.pilEntSel, 4, 1, fun _ w s => pilEntSelWrite w s),
   (R.shxMap 0, 4, 4096, fun i w s => s.wr (R.shxMap i) (w &&& 0x8003FF7F)),
   (R.gmpCtrl 0, 0x100, 8, fun p w s => if Fbit F.gmpCtrl_RETRAIN w then portRetrainRequest p w s else s.gmpCtrlWrite p w),
   (R.clkGate 0, 0x40, 8, clkGateWrite),
   (R.wndDarnReq, 4, 1, fun _ w s => darnRequest w s)] ++
  (List.range 4).flatMap (fun v =>
    [(R.pilSrvCtrl 0 v, 0x1000, 16, fun h w s =>
        s.srvCtrlWrite h v (keepEn F.pilSrvCtrl_EN (s.bit F.pilSrvCtrl_EN (R.pilSrvCtrl h v)) w) []),
     (R.shxXCtrl 0 v, 0x100, 16, fun h w s =>
        s.shxCtrlWrite h v (keepEn F.shxXCtrl_EN (s.bit F.shxXCtrl_EN (R.shxXCtrl h v)) w) [])]) ++
  clearRegs.map (fun c => (c.1, c.2.1, c.2.2, fun i w s => if w.toNat.testBit 31 then s.wr (c.1 + c.2.1 * i) 0 else s))

/-- The function whose window, queue groups or hoop a register holds (R280). -/
def tdiTarget (off : Nat) : Option Nat :=
  (rowOf (R.hifBar4WinLo 0) 8 128 off).orElse (fun _ => (rowOf (R.hifBar4WinHi 0) 8 128 off).orElse (fun _ =>
    (rowOf (R.qfeFnQgrp 0) 0x40 128 off).orElse (fun _ => rowOf (R.hoopFnMap 0) 4 128 off)))

/-- A write of a register. -/
def State.regWrite (off : Nat) (w : Word) (s : State) : State :=
  match (tdiTarget off).filter s.tdiHeld with
  | some f => s.tdiError f
  | none =>
    match regActs.findSome? (fun a => (rowOf a.1 a.2.1 a.2.2.1 off).map (fun i => a.2.2.2 i w)) with
    | some f => f s
    | none => s.plainWrite off w

/-- A word of an MSI-X table entry takes a value; clearing the mask sends what was pending (R240). -/
def State.msixPut (fn v k : Nat) (w : Word) (s : State) : State :=
  let put := fun (f : MsixEntry → MsixEntry) => s.onHost (fun h => { h with msix := SMap.upd h.msix (2048 * fn + v) MsixEntry.start f })
  if k = 0 then put (fun e => { e with addr := e.addr / 2 ^ 32 * 2 ^ 32 + w.toNat / 4 * 4 })
  else if k = 1 then put (fun e => { e with addr := e.addr % 2 ^ 32 + 2 ^ 32 * w.toNat })
  else if k = 2 then put (fun e => { e with data := w })
  else if w.toNat % 2 = 1 then put (fun e => { e with masked := true })
  else msixUnmask fn (some v) s

/-- A write of 4 bytes of a function's BAR0. -/
def barWrite (fn off : Nat) (w : Word) (s : State) : State :=
  if s.barDead fn || s.inReset fn || off % 4 != 0 then s
  else match barSpot fn off with
  | .msix v k => s.msixPut fn v k w
  | .reg r ro => if ro || (regRow r).isNone then s else s.atReg r (State.regWrite r w)
  | .pending _ => s
  | .nothing => s

/-- REGISTER_WRITE (R8, R11). -/
def execRegisterWrite (fn off : Nat) (w : Word) (s : State) : Host.Outcome State Fault Refusal := .next (barWrite fn off w s)

/-- PAIR_HI_WRITE (R12). -/
def execPairHiWrite (fn off : Nat) (w : Word) (s : State) : Host.Outcome State Fault Refusal := .next (barWrite fn off w s)

/-- TDI_LOCKED_WRITE: the write of a locked function's window, groups or hoop (R280). -/
def execTdiLockedWrite (fn off : Nat) (w : Word) (s : State) : Host.Outcome State Fault Refusal := .next (barWrite fn off w s)

/-- BAR0_BAD_ACCESS: an access of another size or alignment reads as zero, changes nothing, and is counted (R9). -/
def bar0BadAccess (fn off size : Nat) (write : Bool) (s : State) : State :=
  if s.barDead fn || (size == 4 && off % 4 == 0) then s
  else
    let s := s.bump F.hifErrCnt_BAD_SIZE R.hifErrCnt 1
    if write then s else s.post (.completion fn (zeros size) false)

def execBar0BadAccess (fn off size : Nat) (write : Bool) (s : State) : Host.Outcome State Fault Refusal :=
  .next (bar0BadAccess fn off size write s)

end Sys2Proof.Machine
end

