-- ==== Sys2Proof/Machine/Resets.lean ====
section
/-!
DEFINITION. The resets of R16: power-on, recovery, device, and function-level (R15, R16, R232, R233, R344 to R346, R410, R420,
R427, R443, R469, R497).
-/
namespace Sys2Proof.Machine

/-! ### Device reset -/

/-- DEVICE_RESET: PE_PERST_N is asserted (R16). -/
def deviceReset (s : State) : State := if s.clk.pwrok then s.resetDevice else s

def execDeviceReset (s : State) : Host.Outcome State Fault Refusal := .next (deviceReset s)

/-- TOILE_ZERO_END: toile, and with it the tables of R282, hold zeros (R16). -/
def execToileZeroEnd (s : State) : Host.Outcome State Fault Refusal :=
  .next (s.powered (fun s => s.onMem (fun m => { m with toileZeroing := false })))

/-! ### Power-on and recovery resets -/

/-- The channels after a power-off: repairs that only the controller's remap held are lost, and their spare rows are free
(R227). -/
def Memory.afterPowerOff (m : Memory) : Memory :=
  { m with
    toileZeroing := false
    chans := SMap.mapVals m.chans (fun _ c =>
      let lost := c.remap.filter (fun r => !c.log.contains r)
      { c with
        remap := c.remap.filter (fun r => c.log.contains r)
        spares := SMap.mapVals c.spares (fun b n => n - (lost.filter (fun r => r.1 = b)).length) }) }

/-- The security units as the boot ROM finds them: what the array and the flash hold stays (R469, R475 to R497). -/
def Security.atBoot (c : Security) : Security :=
  { c with
    copies := []
    rngRow := []
    spdm := Spdm.empty
    waiting := []
    signing := none
    ide := []
    longOp := none
    events := []
    jtag := 1
    boundary := []
    dead := false }

/-- Every register takes its reset value, every unit starts afresh, the clear of every channel set begins under a new common key, and the
boot ROM takes the current settings (R15, R16, R232, R233, R469, R475). The device reset that ends the boot follows the darning map (`State.settleMap`). -/
def State.boot (s : State) : State :=
  let s := match s.sec.longOp with | some l => s.otpBroken l | none => s
  let s := { s.endAll with
    regs := []
    hold := []
    mesh := { Mesh.empty with nextFlit := s.mesh.nextFlit }
    gmp := { s.gmp with ports := SMap.mapVals s.gmp.ports (fun _ q => { Port.empty with nextId := q.nextId }) }
    cache := Cache.empty
    ras := Ras.empty
    sec := s.sec.atBoot }
  each (List.range 16) (fun j t => t.setF F.memSetStat_CLEARING (R.memSetStat j) 1) s.chooseGen

/-- PWROK_FALL: the whole package enters the safe states and is held in reset: nothing goes on, and THERMTRIP_N goes high (R19, R428,
R440). -/
def pwrokFall (s : State) : State :=
  let s := each (List.range 8) (fun d t =>
    let t := if (t.dieClk d).tripped then t.post (.pin 0 d true) else t
    (t.enterSafe d).onDie d (fun x => { x with stage := .low, tripped := false })) s
  let s := s.stopWork.onClk (fun c => { c with pwrok := false, recovering := false })
  { s with
    ras := Ras.empty
    sec := s.sec.atBoot
    gmp := { s.gmp with ports := [] } }

def execPwrokFall (s : State) : Host.Outcome State Fault Refusal := .next (pwrokFall s)

/-- POWER_ON_RESET: PWROK rises. Every die waits for its oscillator with its outputs in the safe states (R16, R420, R428). -/
def powerOnReset (s : State) : State :=
  { (s.onMem Memory.afterPowerOff).boot with clk := Clocks.start }

def execPowerOnReset (s : State) : Host.Outcome State Fault Refusal := .next (powerOnReset s)

/-- A die's clocks after the recovery: counter 0, L0, safe states released. -/
def DieClk.recovered (d : DieClk) : DieClk :=
  if d.tripped then d
  else { DieClk.start with
    stage := .running
    safe := false
    freq := levelMhz 0
    temps := d.temps }

/-- Whether the source of every die has come back: its PLL has locked again, or it has tripped and waits for PWROK (R427, R440). -/
def State.sourcesBack (s : State) : Bool :=
  (List.range 8).all (fun d => (s.dieClk d).stage == .running || (s.dieClk d).tripped)

/-- RECOVERY_RESET: as a power-on reset from the lock onward; SRC_FAILS keeps its value (R16, R427, R443). A seal once broken and an
entropy source once failed stay so until PWROK rises (R479, R485). -/
def recoveryReset (s : State) : State :=
  if !s.clk.recovering || !s.sourcesBack then s
  else
    let fails := (List.range 8).map (fun d => (d, s.fld F.clkStat_SRC_FAILS (R.clkStat d)))
    let stays := s.rd R.secStat &&& (Fmask F.secStat_SEAL_BROKEN ||| Fmask F.secStat_RNG_FAIL)
    let rng := s.sec.rngRow
    let clk : Clocks := { Clocks.start with dies := (List.range 8).map (fun d => (d, (s.dieClk d).recovered)) }
    let s := ({ s.boot with clk := clk }.wr R.secStat stays).onSec (fun c => { c with rngRow := rng })
    each fails (fun p t => t.wr (R.clkStat p.1) (Fset F.clkStat_SRC_FAILS p.2 (Fset F.clkStat_PLL_LOCK 1 (Fset F.clkStat_REF_OK 1 0)))) s

def execRecoveryReset (s : State) : Host.Outcome State Fault Refusal := .next (recoveryReset s)

/-! ### Function-level resets (R344 to R346) -/

/-- A virtual function's reset starts, or joins one under way: its contexts are destroyed and its admin queue stops. -/
def State.vfResetStart (f : Nat) (s : State) : State :=
  if s.inReset f then s else (s.onHost (fun h => { h with vfReset := addNum h.vfReset f })).stopFn f

/-- VF_FUNCTION_RESET: a reset or removal of a virtual function. -/
def vfFunctionReset (f : Nat) (s : State) : State := if 1 ≤ f ∧ f < 128 then s.vfResetStart f else s

def execVfFunctionReset (fn : Nat) (s : State) : Host.Outcome State Fault Refusal := .next (s.powered (vfFunctionReset fn))

/-- The transfers issued for a function: its accesses of host memory and its BAR4 accesses. -/
def State.fnTransfers (s : State) (f : Nat) : List Nat :=
  (s.txns.filter (fun p => p.2.issuer == .host f ||
    (p.2.space == .host && (p.2.ctx.bind s.ctx?).any (fun c => c.fn = f)))).map (·.1)

/-- Whether step 2 of a function's reset has ended: no context of it is still being destroyed. -/
def State.fnStopped (s : State) (f : Nat) : Bool := s.objs.ctxs.all (fun p => p.2.fn != f || p.2.st != .destroying)

/-- Steps 4 and 5: the function's admin-queue registers, MSI-X state and TDI take their reset values, and the record of kind
0xF3 is written for the physical function. -/
def State.vfDone (f status detail : Nat) (s : State) : State :=
  let s := (s.resetRange (R.qfeFnAdmqCtrl f) (R.qfeFnLimit f)).resetRange (R.qfeFnAdmqHeadLo f) (R.qfeFnAdmqHeadHi f + 4)
  let s := (s.onHost (fun h => { h with
    msix := h.msix.filter (fun p => p.1 / 2048 != f)
    fnMask := delNum h.fnMask f
    tdi := SMap.del h.tdi f
    vfReset := delNum h.vfReset f })).onAdm f (fun _ => AdminQ.empty)
  s.admRec 0 (kindRec 0xF3 0 f status detail 0) 0 true

/-- VF_DRAIN_END: every transfer issued for the function has been drained (R344). -/
def vfDrainEnd (f : Nat) (s : State) : State :=
  if s.inReset f && s.fnStopped f && (s.fnTransfers f).isEmpty then s.vfDone f 0 0 else s

def execVfDrainEnd (fn : Nat) (s : State) : Host.Outcome State Fault Refusal := .next (vfDrainEnd fn s)

/-- VF_DRAIN_EXPIRY: the transfers that are still outstanding are squashed and counted (R345). -/
def vfDrainExpiry (f : Nat) (s : State) : State :=
  let ts := s.fnTransfers f
  if s.inReset f && s.fnStopped f && !ts.isEmpty then
    let s := (s.onTxns (fun m => SMap.keep m (fun i _ => !ts.contains i))).onMesh (fun m => { m with
      flits := SMap.keep m.flits (fun _ x => match x.cargo with | .txn i => !ts.contains i | _ => true) })
    s.vfDone f 0x43 (min 0xFFFF ts.length)
  else s

def execVfDrainExpiry (fn : Nat) (s : State) : Host.Outcome State Fault Refusal := .next (vfDrainExpiry fn s)

/-- Objects that are free-pending are freed without records (R346). -/
def State.freePending (n : Nat) (s : State) : State :=
  match s.ctx? n with
  | none => s
  | some c =>
    (each (s.objsIn c (fun k => k == 2)) (fun i t => t.setMobj c i { t.mobj c i with st := 0 })
      (s.onObjs (fun o => { o with freeRec := SMap.keep o.freeRec (fun k _ => k / 65536 != n) }))).ctxGone n

/-- The CSH registers, but CSH_SLICE_MAP, take their reset values (R181). -/
def State.resetCsh (s : State) : State :=
  (((s.resetRange 0x00300000 (R.cshSliceMap 0)).onRegs (fun r => r.filter (fun p =>
    decide (p.1 < R.cshSliceMap 0) || decide (0x00400000 ≤ p.1) || (rowOf (R.cshSliceMap 0) 0x10 256 p.1).isSome))).onCache
      (fun c => { c with
        winWalks := []
        flushing := none
        slices := SMap.mapVals c.slices (fun _ x => { x with
          corrected := 0
          poisoned := 0 }) }))

/-- PF_RESET: the virtual functions 1 to `vfs` are reset, the contexts of the physical function are destroyed, rolls and hoops
are disabled, free-pending objects are freed, and the HOOP, ROLL and CSH registers take their reset values (R346). -/
def pfReset (vfs : Nat) (s : State) : State :=
  let s := each ((List.range (min vfs 127)).map (· + 1)) State.vfResetStart s
  let mine := (s.objs.ctxs.filter (fun p => p.2.fn = 0 && (p.2.st == .live || p.2.st == .faulted))).map (·.1)
  let s := each mine (fun n t => t.destroyCtx n 0 0 true) s
  let s := each ((List.range 16).filter (fun h => s.hoopSt h = 1 || s.hoopSt h = 2)) State.hoopDown s
  let s := each (s.objs.ctxs.map (·.1)) State.freePending s
  let s := (s.resetRange 0x00700000 0x00800000).resetCsh.onSched (fun x => { Sched.empty with nextAligned := x.nextAligned })
  s.takeEngMap

def execPfReset (vfs : Nat) (s : State) : Host.Outcome State Fault Refusal := .next (s.powered (pfReset vfs))

end Sys2Proof.Machine
end

