-- ==== Sys2Proof/Machine/Dispatch.lean ====
section
/-!
DEFINITION. The dispatcher: one arm for each command.
-/
namespace Sys2Proof.Machine

/-- The effect of a command on everything but the queue. -/
def exec (i : Instr) (s : State) : Host.Outcome State Fault Refusal :=
  match i with
  | .powerOnReset => Sys2Proof.Machine.execPowerOnReset s
  | .pwrokFall => Sys2Proof.Machine.execPwrokFall s
  | .trimmedOscillatorStable die => Sys2Proof.Machine.execTrimmedOscillatorStable die s
  | .referenceCountPass die => Sys2Proof.Machine.execReferenceCountPass die s
  | .rootPllLock die => Sys2Proof.Machine.execRootPllLock die s
  | .pllLockTimeout die => Sys2Proof.Machine.execPllLockTimeout die s
  | .deviceReset => Sys2Proof.Machine.execDeviceReset s
  | .toileZeroEnd => Sys2Proof.Machine.execToileZeroEnd s
  | .recoveryReset => Sys2Proof.Machine.execRecoveryReset s
  | .sourceFailure die kind => Sys2Proof.Machine.execSourceFailure die kind s
  | .dieIsolate die => Sys2Proof.Machine.execDieIsolate die s
  | .thermalTrip die => Sys2Proof.Machine.execThermalTrip die s
  | .registerWrite fn off w => Sys2Proof.Machine.execRegisterWrite fn off w s
  | .bar0BadAccess fn off size write => Sys2Proof.Machine.execBar0BadAccess fn off size write s
  | .pairLoRead fn off => Sys2Proof.Machine.execPairLoRead fn off s
  | .pairHiWrite fn off w => Sys2Proof.Machine.execPairHiWrite fn off w s
  | .linkEnable link w => Sys2Proof.Machine.execLinkEnable link w s
  | .linkDisable link w => Sys2Proof.Machine.execLinkDisable link w s
  | .linkRetrainRequest link w => Sys2Proof.Machine.execLinkRetrainRequest link w s
  | .mshLinkErrClear link => Sys2Proof.Machine.execMshLinkErrClear link s
  | .linkTrained link delay scan => Sys2Proof.Machine.execLinkTrained link delay scan s
  | .linkTrainTimeout link => Sys2Proof.Machine.execLinkTrainTimeout link s
  | .linkCrcErrorReplay link low group bundle again => Sys2Proof.Machine.execLinkCrcErrorReplay link low group bundle again s
  | .bundleErrorThreshold link bundle => Sys2Proof.Machine.execBundleErrorThreshold link bundle s
  | .linkRetrainEnd link scan => Sys2Proof.Machine.execLinkRetrainEnd link scan s
  | .routeRecompute => Sys2Proof.Machine.execRouteRecompute s
  | .mshTestModeWrite die w => Sys2Proof.Machine.execMshTestModeWrite die w s
  | .mshTestStart die w => Sys2Proof.Machine.execMshTestStart die w s
  | .mshTestPatternEnd die errors bundle => Sys2Proof.Machine.execMshTestPatternEnd die errors bundle s
  | .meshFlitForward flit err => Sys2Proof.Machine.execMeshFlitForward flit err s
  | .crossbarRequest txn => Sys2Proof.Machine.execCrossbarRequest txn s
  | .i32Simple eng grp opc op rd a b => Sys2Proof.Machine.execI32Simple eng grp opc op rd a b s
  | .i32Multiply eng grp opc rd a b c => Sys2Proof.Machine.execI32Multiply eng grp opc rd a b c s
  | .laneExchange eng grp opc op rd ra b => Sys2Proof.Machine.execLaneExchange eng grp opc op rd ra b s
  | .conditionalBranch eng grp opc cond target rpc => Sys2Proof.Machine.execConditionalBranch eng grp opc cond target rpc s
  | .join eng grp opc => Sys2Proof.Machine.execJoin eng grp opc s
  | .exit eng grp opc => Sys2Proof.Machine.execExit eng grp opc s
  | .jump eng grp opc target => Sys2Proof.Machine.execJump eng grp opc target s
  | .specialRead eng grp opc what rd => Sys2Proof.Machine.execSpecialRead eng grp opc what rd s
  | .aflagsClear eng grp opc mask => Sys2Proof.Machine.execAflagsClear eng grp opc mask s
  | .load eng grp opc size acq scope rd addrs => Sys2Proof.Machine.execLoad eng grp opc size acq scope rd addrs s
  | .store eng grp opc size rel scope rs addrs => Sys2Proof.Machine.execStore eng grp opc size rel scope rs addrs s
  | .atomic eng grp opc aop size order scope rd rs rt addrs => Sys2Proof.Machine.execAtomic eng grp opc aop size order scope rd rs rt addrs s
  | .fragLoad eng grp opc rb base errs => Sys2Proof.Machine.execFragLoad eng grp opc rb base errs s
  | .fragLoadS eng grp opc rb base stride errs => Sys2Proof.Machine.execFragLoadS eng grp opc rb base stride errs s
  | .fragStore eng grp opc rb base => Sys2Proof.Machine.execFragStore eng grp opc rb base s
  | .fragStoreS eng grp opc rb base stride => Sys2Proof.Machine.execFragStoreS eng grp opc rb base stride s
  | .motifEvaluate eng grp opc slot rd ra => Sys2Proof.Machine.execMotifEvaluate eng grp opc slot rd ra s
  | .motifLoad eng grp opc slot va => Sys2Proof.Machine.execMotifLoad eng grp opc slot va s
  | .motifClear eng grp opc slot => Sys2Proof.Machine.execMotifClear eng grp opc slot s
  | .filet eng grp opc vb rd => Sys2Proof.Machine.execFilet eng grp opc vb rd s
  | .fwait eng grp opc mask => Sys2Proof.Machine.execFwait eng grp opc mask s
  | .barrier eng grp opc num scope => Sys2Proof.Machine.execBarrier eng grp opc num scope s
  | .acquire eng grp opc scope => Sys2Proof.Machine.execAcquire eng grp opc scope s
  | .release eng grp opc scope => Sys2Proof.Machine.execRelease eng grp opc scope s
  | .fenceSignalInsn eng grp opc scope va value => Sys2Proof.Machine.execFenceSignalInsn eng grp opc scope va value s
  | .fenceWaitInsn eng grp opc scope va target => Sys2Proof.Machine.execFenceWaitInsn eng grp opc scope va target s
  | .knot eng grp opc krec => Sys2Proof.Machine.execKnot eng grp opc krec s
  | .trap eng grp opc code => Sys2Proof.Machine.execTrap eng grp opc code s
  | .faultPicotArrive msg => Sys2Proof.Machine.execFaultPicotArrive msg s
  | .faultDrainEnd eng ctx => Sys2Proof.Machine.execFaultDrainEnd eng ctx s
  | .engFaultClear eng => Sys2Proof.Machine.execEngFaultClear eng s
  | .loadReturn txn => Sys2Proof.Machine.execLoadReturn txn s
  | .storeAckReturn txn => Sys2Proof.Machine.execStoreAckReturn txn s
  | .atomicReply txn => Sys2Proof.Machine.execAtomicReply txn s
  | .motifLoadComplete eng ctx slot => Sys2Proof.Machine.execMotifLoadComplete eng ctx slot s
  | .mmaStart eng entry errs => Sys2Proof.Machine.execMmaStart eng entry errs s
  | .outStart eng entry errs => Sys2Proof.Machine.execOutStart eng entry errs s
  | .filetLoadStart eng entry => Sys2Proof.Machine.execFiletLoadStart eng entry s
  | .filetStoreStart eng entry errs => Sys2Proof.Machine.execFiletStoreStart eng entry errs s
  | .filetPageTranslate eng entry => Sys2Proof.Machine.execFiletPageTranslate eng entry s
  | .filetComplete eng entry => Sys2Proof.Machine.execFiletComplete eng entry s
  | .kernelStart eng queue => Sys2Proof.Machine.execKernelStart eng queue s
  | .windowZeroEnd eng queue => Sys2Proof.Machine.execWindowZeroEnd eng queue s
  | .groupStart eng queue => Sys2Proof.Machine.execGroupStart eng queue s
  | .homeRead txn err => Sys2Proof.Machine.execHomeRead txn err s
  | .homeStore txn => Sys2Proof.Machine.execHomeStore txn s
  | .homeMirroredStore txn => Sys2Proof.Machine.execHomeMirroredStore txn s
  | .waitingRequestServe req err => Sys2Proof.Machine.execWaitingRequestServe req err s
  | .allocationRetry txn => Sys2Proof.Machine.execAllocationRetry txn s
  | .stackFillReturn req => Sys2Proof.Machine.execStackFillReturn req s
  | .nearRead txn err => Sys2Proof.Machine.execNearRead txn err s
  | .nearStore txn => Sys2Proof.Machine.execNearStore txn s
  | .ownershipRequest msg => Sys2Proof.Machine.execOwnershipRequest msg s
  | .ownershipGrant msg => Sys2Proof.Machine.execOwnershipGrant msg s
  | .invalidate msg => Sys2Proof.Machine.execInvalidate msg s
  | .recall msg => Sys2Proof.Machine.execRecall msg s
  | .directoryAnswer msg => Sys2Proof.Machine.execDirectoryAnswer msg s
  | .nearEvict slice line => Sys2Proof.Machine.execNearEvict slice line s
  | .homeEvict slice line err => Sys2Proof.Machine.execHomeEvict slice line err s
  | .homeAtomic txn err => Sys2Proof.Machine.execHomeAtomic txn err s
  | .lineReduction txn err => Sys2Proof.Machine.execLineReduction txn err s
  | .ledgerIncrement msg => Sys2Proof.Machine.execLedgerIncrement msg s
  | .ledgerDecrement msg => Sys2Proof.Machine.execLedgerDecrement msg s
  | .ledgerAnswer msg => Sys2Proof.Machine.execLedgerAnswer msg s
  | .homeTimeoutExpiry slice line die => Sys2Proof.Machine.execHomeTimeoutExpiry slice line die s
  | .reclaimWalkEnd die => Sys2Proof.Machine.execReclaimWalkEnd die s
  | .ledgerDieChange die => Sys2Proof.Machine.execLedgerDieChange die s
  | .ledgerWalkEnd die => Sys2Proof.Machine.execLedgerWalkEnd die s
  | .windowControlWrite win w => Sys2Proof.Machine.execWindowControlWrite win w s
  | .windowPropagated win => Sys2Proof.Machine.execWindowPropagated win s
  | .flushWalkEnd win => Sys2Proof.Machine.execFlushWalkEnd win s
  | .demotionWalkEnd win => Sys2Proof.Machine.execDemotionWalkEnd win s
  | .cshWinOverClear win => Sys2Proof.Machine.execCshWinOverClear win s
  | .cshSliceErrClear index => Sys2Proof.Machine.execCshSliceErrClear index s
  | .cshSaddSatClear hoop => Sys2Proof.Machine.execCshSaddSatClear hoop s
  | .flushWriteBack => Sys2Proof.Machine.execFlushWriteBack s
  | .flushWriteBackInvalidate => Sys2Proof.Machine.execFlushWriteBackInvalidate s
  | .flushEnd => Sys2Proof.Machine.execFlushEnd s
  | .barrierArrival msg => Sys2Proof.Machine.execBarrierArrival msg s
  | .barrierRelease msg => Sys2Proof.Machine.execBarrierRelease msg s
  | .controllerRead req err => Sys2Proof.Machine.execControllerRead req err s
  | .controllerWrite req err => Sys2Proof.Machine.execControllerWrite req err s
  | .mirrorReadReturn req => Sys2Proof.Machine.execMirrorReadReturn req s
  | .rowIdleClose chan bank => Sys2Proof.Machine.execRowIdleClose chan bank s
  | .perBankRefresh chan => Sys2Proof.Machine.execPerBankRefresh chan s
  | .scrubRead chan err => Sys2Proof.Machine.execScrubRead chan err s
  | .rowRepair chan bank row => Sys2Proof.Machine.execRowRepair chan bank row s
  | .rowRepairEnd chan bad => Sys2Proof.Machine.execRowRepairEnd chan bad s
  | .stackTemperatureReport stack temp => Sys2Proof.Machine.execStackTemperatureReport stack temp s
  | .channelTraining chan ok => Sys2Proof.Machine.execChannelTraining chan ok s
  | .setClear set => Sys2Proof.Machine.execSetClear set s
  | .setClearEnd set => Sys2Proof.Machine.execSetClearEnd set s
  | .memSetCtrlWrite set w => Sys2Proof.Machine.execMemSetCtrlWrite set w s
  | .memChTestEnter chan => Sys2Proof.Machine.execMemChTestEnter chan s
  | .memChTestExit chan => Sys2Proof.Machine.execMemChTestExit chan s
  | .testClearEnd chan => Sys2Proof.Machine.execTestClearEnd chan s
  | .memChErrClear chan => Sys2Proof.Machine.execMemChErrClear chan s
  | .memMirrorStatClear => Sys2Proof.Machine.execMemMirrorStatClear s
  | .tgcStart chan w => Sys2Proof.Machine.execTgcStart chan w s
  | .tgcStop chan w => Sys2Proof.Machine.execTgcStop chan w s
  | .tgcRunEnd chan result => Sys2Proof.Machine.execTgcRunEnd chan result s
  | .hostLinkTrain width rate flit => Sys2Proof.Machine.execHostLinkTrain width rate flit s
  | .wake fn off size write => Sys2Proof.Machine.execWake fn off size write s
  | .queuePoll queue => Sys2Proof.Machine.execQueuePoll queue s
  | .eyeletReadReturn who hm => Sys2Proof.Machine.execEyeletReadReturn who hm s
  | .descriptorReadReturn who hm => Sys2Proof.Machine.execDescriptorReadReturn who hm s
  | .nop queue => Sys2Proof.Machine.execNop queue s
  | .launch queue => Sys2Proof.Machine.execLaunch queue s
  | .copy queue => Sys2Proof.Machine.execCopy queue s
  | .fill queue => Sys2Proof.Machine.execFill queue s
  | .reduceCopy queue => Sys2Proof.Machine.execReduceCopy queue s
  | .fenceSignal queue => Sys2Proof.Machine.execFenceSignal queue s
  | .fenceWait queue => Sys2Proof.Machine.execFenceWait queue s
  | .flush queue => Sys2Proof.Machine.execFlush queue s
  | .event queue => Sys2Proof.Machine.execEvent queue s
  | .engineDonePicot eng queue => Sys2Proof.Machine.execEngineDonePicot eng queue s
  | .commandComplete queue => Sys2Proof.Machine.execCommandComplete queue s
  | .eventRingHeadReread ring hm => Sys2Proof.Machine.execEventRingHeadReread ring hm s
  | .waitLimitExpiry timer => Sys2Proof.Machine.execWaitLimitExpiry timer s
  | .bar4Access fn off len write => Sys2Proof.Machine.execBar4Access fn off len write s
  | .hostCompletion txn lane data poison => Sys2Proof.Machine.execHostCompletion txn lane data poison s
  | .hostReadTimeout txn => Sys2Proof.Machine.execHostReadTimeout txn s
  | .hifErrCntClear => Sys2Proof.Machine.execHifErrCntClear s
  | .hifWakeDropClear => Sys2Proof.Machine.execHifWakeDropClear s
  | .admqEnable fn w => Sys2Proof.Machine.execAdmqEnable fn w s
  | .admqWake fn => Sys2Proof.Machine.execAdmqWake fn s
  | .admqHeadReread fn hm => Sys2Proof.Machine.execAdmqHeadReread fn hm s
  | .tdiLockedWrite fn off w => Sys2Proof.Machine.execTdiLockedWrite fn off w s
  | .ctxCreate fn => Sys2Proof.Machine.execCtxCreate fn s
  | .ctxDestroy fn => Sys2Proof.Machine.execCtxDestroy fn s
  | .ctxQuery fn => Sys2Proof.Machine.execCtxQuery fn s
  | .ctxInvalidate fn => Sys2Proof.Machine.execCtxInvalidate fn s
  | .evrCreate fn => Sys2Proof.Machine.execEvrCreate fn s
  | .evrDestroy fn => Sys2Proof.Machine.execEvrDestroy fn s
  | .queueCreate fn => Sys2Proof.Machine.execQueueCreate fn s
  | .queueDestroy fn => Sys2Proof.Machine.execQueueDestroy fn s
  | .destroyDrainEnd queue => Sys2Proof.Machine.execDestroyDrainEnd queue s
  | .destroyForceClear queue eng => Sys2Proof.Machine.execDestroyForceClear queue eng s
  | .mobjCreate fn => Sys2Proof.Machine.execMobjCreate fn s
  | .mobjFree fn => Sys2Proof.Machine.execMobjFree fn s
  | .mobjFreed ctx obj => Sys2Proof.Machine.execMobjFreed ctx obj s
  | .mobjImport fn => Sys2Proof.Machine.execMobjImport fn s
  | .fenceArm fn => Sys2Proof.Machine.execFenceArm fn s
  | .fenceSignalApply msg => Sys2Proof.Machine.execFenceSignalApply msg s
  | .fenceWaitRegister msg => Sys2Proof.Machine.execFenceWaitRegister msg s
  | .fenceWaitRelease msg => Sys2Proof.Machine.execFenceWaitRelease msg s
  | .fenceValuePoll msg => Sys2Proof.Machine.execFenceValuePoll msg s
  | .hoopEnable hoop w => Sys2Proof.Machine.execHoopEnable hoop w s
  | .hoopEnableDone hoop => Sys2Proof.Machine.execHoopEnableDone hoop s
  | .hoopDisable hoop w => Sys2Proof.Machine.execHoopDisable hoop w s
  | .hoopDisableDone hoop => Sys2Proof.Machine.execHoopDisableDone hoop s
  | .hoopEngMapWrite eng w => Sys2Proof.Machine.execHoopEngMapWrite eng w s
  | .hoopFnMapWrite fn w => Sys2Proof.Machine.execHoopFnMapWrite fn w s
  | .hoopSaveStatClear hoop => Sys2Proof.Machine.execHoopSaveStatClear hoop s
  | .hoopPreemptClear hoop => Sys2Proof.Machine.execHoopPreemptClear hoop s
  | .sliceEnd queue => Sys2Proof.Machine.execSliceEnd queue s
  | .preemptPicotArrive eng queue => Sys2Proof.Machine.execPreemptPicotArrive eng queue s
  | .knotWaitExpiry eng queue => Sys2Proof.Machine.execKnotWaitExpiry eng queue s
  | .saveWritesAcked eng queue failed => Sys2Proof.Machine.execSaveWritesAcked eng queue failed s
  | .saveComplete queue => Sys2Proof.Machine.execSaveComplete queue s
  | .restore eng queue failed => Sys2Proof.Machine.execRestore eng queue failed s
  | .rollEnable hoop w => Sys2Proof.Machine.execRollEnable hoop w s
  | .rollDisable hoop w => Sys2Proof.Machine.execRollDisable hoop w s
  | .rollEntryDue hoop => Sys2Proof.Machine.execRollEntryDue hoop s
  | .rollStatClear hoop => Sys2Proof.Machine.execRollStatClear hoop s
  | .alignedLaunchArrive launch die elapsed => Sys2Proof.Machine.execAlignedLaunchArrive launch die elapsed s
  | .alignedLaunchRelease launch die => Sys2Proof.Machine.execAlignedLaunchRelease launch die s
  | .vfFunctionReset fn => Sys2Proof.Machine.execVfFunctionReset fn s
  | .vfDrainEnd fn => Sys2Proof.Machine.execVfDrainEnd fn s
  | .vfDrainExpiry fn => Sys2Proof.Machine.execVfDrainExpiry fn s
  | .pfReset vfs => Sys2Proof.Machine.execPfReset vfs s
  | .pillowStepBuild hoop hm => Sys2Proof.Machine.execPillowStepBuild hoop hm s
  | .pillowIdlePoll hoop hm => Sys2Proof.Machine.execPillowIdlePoll hoop hm s
  | .reportRingHeadReread hoop srv hm => Sys2Proof.Machine.execReportRingHeadReread hoop srv hm s
  | .serverContextRelease hoop srv => Sys2Proof.Machine.execServerContextRelease hoop srv s
  | .pilEnable hoop w => Sys2Proof.Machine.execPilEnable hoop w s
  | .pilFreeListBuilt hoop => Sys2Proof.Machine.execPilFreeListBuilt hoop s
  | .pilServerEnable hoop srv w hm => Sys2Proof.Machine.execPilServerEnable hoop srv w hm s
  | .pilEntSelWrite w => Sys2Proof.Machine.execPilEntSelWrite w s
  | .pilStatClear hoop => Sys2Proof.Machine.execPilStatClear hoop s
  | .pilStat2Clear hoop => Sys2Proof.Machine.execPilStat2Clear hoop s
  | .dispatchStart hoop xch hm => Sys2Proof.Machine.execDispatchStart hoop xch hm s
  | .count port msg => Sys2Proof.Machine.execCount port msg s
  | .grant port msg => Sys2Proof.Machine.execGrant port msg s
  | .slotLine port msg => Sys2Proof.Machine.execSlotLine port msg s
  | .slotRecord port msg => Sys2Proof.Machine.execSlotRecord port msg s
  | .filled port msg => Sys2Proof.Machine.execFilled port msg s
  | .expertLaunchComplete hoop xch die hm => Sys2Proof.Machine.execExpertLaunchComplete hoop xch die hm s
  | .done port msg => Sys2Proof.Machine.execDone port msg s
  | .abort port msg => Sys2Proof.Machine.execAbort port msg s
  | .dispatchWaitLimit hoop xch => Sys2Proof.Machine.execDispatchWaitLimit hoop xch s
  | .exchangeEnable hoop xch w hm => Sys2Proof.Machine.execExchangeEnable hoop xch w hm s
  | .exchangeDisable hoop xch w => Sys2Proof.Machine.execExchangeDisable hoop xch w s
  | .shxMapWrite index w => Sys2Proof.Machine.execShxMapWrite index w s
  | .shxXStatClear hoop xch => Sys2Proof.Machine.execShxXStatClear hoop xch s
  | .shxDropClear => Sys2Proof.Machine.execShxDropClear s
  | .portEnable port w => Sys2Proof.Machine.execPortEnable port w s
  | .portDisable port w => Sys2Proof.Machine.execPortDisable port w s
  | .portElectricalTrained port lanes flight => Sys2Proof.Machine.execPortElectricalTrained port lanes flight s
  | .serialExchange port serial => Sys2Proof.Machine.execSerialExchange port serial s
  | .kemEncapsulationKey port key => Sys2Proof.Machine.execKemEncapsulationKey port key s
  | .kemCiphertext port ct => Sys2Proof.Machine.execKemCiphertext port ct s
  | .identityChainSignature port verdict => Sys2Proof.Machine.execIdentityChainSignature port verdict s
  | .bringupTimeout port => Sys2Proof.Machine.execBringupTimeout port s
  | .portRetrainRequest port w => Sys2Proof.Machine.execPortRetrainRequest port w s
  | .flitReceive port flit => Sys2Proof.Machine.execFlitReceive port flit s
  | .nakReplay port ack => Sys2Proof.Machine.execNakReplay port ack s
  | .replayTimerExpiry port => Sys2Proof.Machine.execReplayTimerExpiry port s
  | .portRetrainEnd port lanes => Sys2Proof.Machine.execPortRetrainEnd port lanes s
  | .keyUpdate port => Sys2Proof.Machine.execKeyUpdate port s
  | .counterResume port counter => Sys2Proof.Machine.execCounterResume port counter s
  | .sectorWrite port msg => Sys2Proof.Machine.execSectorWrite port msg s
  | .lineWrite port msg => Sys2Proof.Machine.execLineWrite port msg s
  | .lineReduce port msg => Sys2Proof.Machine.execLineReduce port msg s
  | .gmpFenceSignal port msg => Sys2Proof.Machine.execGmpFenceSignal port msg s
  | .ack port ids status => Sys2Proof.Machine.execAck port ids status s
  | .barrierMessage port tag num queue inst => Sys2Proof.Machine.execBarrierMessage port tag num queue inst s
  | .peerFenceHoldEnd port id => Sys2Proof.Machine.execPeerFenceHoldEnd port id s
  | .gmpErrClear port => Sys2Proof.Machine.execGmpErrClear port s
  | .gmpSecErrClear port => Sys2Proof.Machine.execGmpSecErrClear port s
  | .clkGateWrite die w => Sys2Proof.Machine.execClkGateWrite die w s
  | .levelTarget die target => Sys2Proof.Machine.execLevelTarget die target s
  | .voltageReached die regFault => Sys2Proof.Machine.execVoltageReached die regFault s
  | .frequencyStep die => Sys2Proof.Machine.execFrequencyStep die s
  | .droopTrip die quad => Sys2Proof.Machine.execDroopTrip die quad s
  | .droopClear die quad => Sys2Proof.Machine.execDroopClear die quad s
  | .railTelemetry die cmpW baseW temps => Sys2Proof.Machine.execRailTelemetry die cmpW baseW temps s
  | .powerLoop moved => Sys2Proof.Machine.execPowerLoop moved s
  | .levelWatchdog die => Sys2Proof.Machine.execLevelWatchdog die s
  | .forceStart die cause => Sys2Proof.Machine.execForceStart die cause s
  | .forceEnd die => Sys2Proof.Machine.execForceEnd die s
  | .pwrDroopClear die => Sys2Proof.Machine.execPwrDroopClear die s
  | .rasRecordRelease => Sys2Proof.Machine.execRasRecordRelease s
  | .wndRasCntClear => Sys2Proof.Machine.execWndRasCntClear s
  | .engineInternalError eng => Sys2Proof.Machine.execEngineInternalError eng s
  | .darnThreshold unit => Sys2Proof.Machine.execDarnThreshold unit s
  | .darnRequest w => Sys2Proof.Machine.execDarnRequest w s
  | .engineDarnSwap eng => Sys2Proof.Machine.execEngineDarnSwap eng s
  | .frayMeasure => Sys2Proof.Machine.execFrayMeasure s
  | .frayMeasureEnd results => Sys2Proof.Machine.execFrayMeasureEnd results s
  | .sliceDarn index => Sys2Proof.Machine.execSliceDarn index s
  | .sliceDarnWalkEnd index => Sys2Proof.Machine.execSliceDarnWalkEnd index s
  | .channelRetire chan => Sys2Proof.Machine.execChannelRetire chan s
  | .winderHeartbeat => Sys2Proof.Machine.execWinderHeartbeat s
  | .winderTakeover => Sys2Proof.Machine.execWinderTakeover s
  | .winderTakeoverEnd => Sys2Proof.Machine.execWinderTakeoverEnd s
  | .hostControllerSwap => Sys2Proof.Machine.execHostControllerSwap s
  | .darningRecordWaitExpiry => Sys2Proof.Machine.execDarningRecordWaitExpiry s
  | .computeDieLost die => Sys2Proof.Machine.execComputeDieLost die s
  | .baseDieLost die => Sys2Proof.Machine.execBaseDieLost die s
  | .firmwareStart => Sys2Proof.Machine.execFirmwareStart s
  | .firmwareCopyCheck die ok => Sys2Proof.Machine.execFirmwareCopyCheck die ok s
  | .entropyTestFail die => Sys2Proof.Machine.execEntropyTestFail die s
  | .signatureComplete die => Sys2Proof.Machine.execSignatureComplete die s
  | .getVersion => Sys2Proof.Machine.execGetVersion s
  | .getCapabilities => Sys2Proof.Machine.execGetCapabilities s
  | .negotiateAlgorithms offersSlh => Sys2Proof.Machine.execNegotiateAlgorithms offersSlh s
  | .getDigests => Sys2Proof.Machine.execGetDigests s
  | .getCertificate off len => Sys2Proof.Machine.execGetCertificate off len s
  | .challenge nonce => Sys2Proof.Machine.execChallenge nonce s
  | .getMeasurements which signed nonce => Sys2Proof.Machine.execGetMeasurements which signed nonce s
  | .keyExchange => Sys2Proof.Machine.execKeyExchange s
  | .heartbeat session => Sys2Proof.Machine.execHeartbeat session s
  | .keyUpdateSpdm session => Sys2Proof.Machine.execKeyUpdateSpdm session s
  | .ideKm session stream key => Sys2Proof.Machine.execIdeKm session stream key s
  | .lockInterface session fn => Sys2Proof.Machine.execLockInterface session fn s
  | .presencePress => Sys2Proof.Machine.execPresencePress s
  | .presenceHoldEnd => Sys2Proof.Machine.execPresenceHoldEnd s
  | .presenceWaitExpiry => Sys2Proof.Machine.execPresenceWaitExpiry s
  | .sealCheck follows => Sys2Proof.Machine.execSealCheck follows s
  | .pinCheck pins => Sys2Proof.Machine.execPinCheck pins s
  | .mctpControl transport req => Sys2Proof.Machine.execMctpControl transport req s
  | .getStatus via seq => Sys2Proof.Machine.execGetStatus via seq s
  | .getEvent via seq => Sys2Proof.Machine.execGetEvent via seq s
  | .setCeil via seq watts => Sys2Proof.Machine.execSetCeil via seq watts s
  | .getTelemetry via seq => Sys2Proof.Machine.execGetTelemetry via seq s
  | .darnPut via seq rec => Sys2Proof.Machine.execDarnPut via seq rec s
  | .darnGet via seq => Sys2Proof.Machine.execDarnGet via seq s
  | .fwWrite via seq off data => Sys2Proof.Machine.execFwWrite via seq off data s
  | .fwActivate via seq => Sys2Proof.Machine.execFwActivate via seq s
  | .svnRaise via seq floor => Sys2Proof.Machine.execSvnRaise via seq floor s
  | .keyRevoke via seq slot => Sys2Proof.Machine.execKeyRevoke via seq slot s
  | .settingsAdvance via seq gen => Sys2Proof.Machine.execSettingsAdvance via seq gen s
  | .svnRollback via seq floor => Sys2Proof.Machine.execSvnRollback via seq floor s
  | .debugUnlock via seq => Sys2Proof.Machine.execDebugUnlock via seq s
  | .attest via seq nonce => Sys2Proof.Machine.execAttest via seq nonce s
  | .getCert via seq off len => Sys2Proof.Machine.execGetCert via seq off len s
  | .otpRead via seq word => Sys2Proof.Machine.execOtpRead via seq word s
  | .mailboxLongOpEnd => Sys2Proof.Machine.execMailboxLongOpEnd s
  | .bypass => Sys2Proof.Machine.execBypass s
  | .idcode => Sys2Proof.Machine.execIdcode s
  | .samplePreload preload => Sys2Proof.Machine.execSamplePreload preload s
  | .extest => Sys2Proof.Machine.execExtest s
  | .clamp => Sys2Proof.Machine.execClamp s
  | .highz => Sys2Proof.Machine.execHighz s
  | .pairHiRead fn off => Sys2Proof.Machine.execPairHiRead fn off s
  | .toileBankRequest txn errs => Sys2Proof.Machine.execToileBankRequest txn errs s
  | .pageWalkReadReturn txn => Sys2Proof.Machine.execPageWalkReadReturn txn s
  | .instructionFetchReturn txn => Sys2Proof.Machine.execInstructionFetchReturn txn s
  | .bulkMoverResponse txn => Sys2Proof.Machine.execBulkMoverResponse txn s
  | .hostLinkDown => Sys2Proof.Machine.execHostLinkDown s
  | .presenceRelease => Sys2Proof.Machine.execPresenceRelease s
  | .endSession session => Sys2Proof.Machine.execEndSession session s
  | .startInterface session fn => Sys2Proof.Machine.execStartInterface session fn s
  | .stopInterface session fn => Sys2Proof.Machine.execStopInterface session fn s
  | .msiXVectorUnmask fn vector => Sys2Proof.Machine.execMsiXVectorUnmask fn vector s

end Sys2Proof.Machine
end

