-- ==== Sys2Proof/WellFormed.lean ====
section
/-!
DEFINITION. Which commands are well formed: every operand that numbers a unit of the package names one (R6, R7). An operand
that names a waiting transaction, message or request is any number.
-/
namespace Sys2Proof

/-- An engine identifier: die, quadrant and slot, of which slots 36 to 63 name no engine (R7). -/
def engOk (e : Nat) : Bool := decide (e < 2048) && decide (e % 64 < 36)

/-- A die or a gimp port. -/
def dieOk (d : Nat) : Bool := decide (d < 8)

/-- A function: 0 the physical one, 1 to 127 the virtual ones (R240). -/
def fnOk (f : Nat) : Bool := decide (f < 128)

/-- A hoop, a resident group, a channel set, a stack or a bank. -/
def hexOk (n : Nat) : Bool := decide (n < 16)

/-- A quadrant, a server slot or an exchange of a hoop. -/
def quadOk (n : Nat) : Bool := decide (n < 4)

/-- A queue (R246). -/
def queueOk (q : Nat) : Bool := decide (q < 262144)

/-- A stack channel, or a couching window. -/
def chanOk (c : Nat) : Bool := decide (c < 1024)

/-- A die-to-die link. -/
def linkOk (l : Nat) : Bool := decide (l < 10)

/-- A context (R286). -/
def ctxOk (c : Nat) : Bool := decide (c < 65536)

/-- A lane. -/
def laneOk (l : Nat) : Bool := decide (l < 32)

/-- A register number or an OPCODE value. -/
def byteOk (n : Nat) : Bool := decide (n < 256)

/-- Whether a command is well formed. -/
def Instr.wf (i : Instr) : Bool :=
  match i with
  | .powerOnReset => true
  | .pwrokFall => true
  | .trimmedOscillatorStable x1 => dieOk x1
  | .referenceCountPass x1 => dieOk x1
  | .rootPllLock x1 => dieOk x1
  | .pllLockTimeout x1 => dieOk x1
  | .deviceReset => true
  | .toileZeroEnd => true
  | .recoveryReset => true
  | .sourceFailure x1 _ => dieOk x1
  | .dieIsolate x1 => dieOk x1
  | .thermalTrip x1 => dieOk x1
  | .registerWrite x1 _ _ => fnOk x1
  | .bar0BadAccess x1 _ _ _ => fnOk x1
  | .pairLoRead x1 _ => fnOk x1
  | .pairHiWrite x1 _ _ => fnOk x1
  | .linkEnable x1 _ => linkOk x1
  | .linkDisable x1 _ => linkOk x1
  | .linkRetrainRequest x1 _ => linkOk x1
  | .mshLinkErrClear x1 => linkOk x1
  | .linkTrained x1 _ _ => linkOk x1
  | .linkTrainTimeout x1 => linkOk x1
  | .linkCrcErrorReplay x1 _ _ _ _ => linkOk x1
  | .bundleErrorThreshold x1 _ => linkOk x1
  | .linkRetrainEnd x1 _ => linkOk x1
  | .routeRecompute => true
  | .mshTestModeWrite x1 _ => dieOk x1
  | .mshTestStart x1 _ => dieOk x1
  | .mshTestPatternEnd x1 _ _ => dieOk x1
  | .meshFlitForward _ _ => true
  | .crossbarRequest _ => true
  | .i32Simple x1 x2 x3 _ x4 _ _ => engOk x1 && hexOk x2 && byteOk x3 && byteOk x4
  | .i32Multiply x1 x2 x3 x4 _ _ _ => engOk x1 && hexOk x2 && byteOk x3 && byteOk x4
  | .laneExchange x1 x2 x3 _ x4 x5 _ => engOk x1 && hexOk x2 && byteOk x3 && byteOk x4 && byteOk x5
  | .conditionalBranch x1 x2 x3 _ _ _ => engOk x1 && hexOk x2 && byteOk x3
  | .join x1 x2 x3 => engOk x1 && hexOk x2 && byteOk x3
  | .exit x1 x2 x3 => engOk x1 && hexOk x2 && byteOk x3
  | .jump x1 x2 x3 _ => engOk x1 && hexOk x2 && byteOk x3
  | .specialRead x1 x2 x3 _ x4 => engOk x1 && hexOk x2 && byteOk x3 && byteOk x4
  | .aflagsClear x1 x2 x3 _ => engOk x1 && hexOk x2 && byteOk x3
  | .load x1 x2 x3 _ _ _ x4 _ => engOk x1 && hexOk x2 && byteOk x3 && byteOk x4
  | .store x1 x2 x3 _ _ _ x4 _ => engOk x1 && hexOk x2 && byteOk x3 && byteOk x4
  | .atomic x1 x2 x3 _ _ _ _ x4 x5 _ _ => engOk x1 && hexOk x2 && byteOk x3 && byteOk x4 && byteOk x5
  | .fragLoad x1 x2 x3 x4 _ _ => engOk x1 && hexOk x2 && byteOk x3 && byteOk x4
  | .fragLoadS x1 x2 x3 x4 _ _ _ => engOk x1 && hexOk x2 && byteOk x3 && byteOk x4
  | .fragStore x1 x2 x3 x4 _ => engOk x1 && hexOk x2 && byteOk x3 && byteOk x4
  | .fragStoreS x1 x2 x3 x4 _ _ => engOk x1 && hexOk x2 && byteOk x3 && byteOk x4
  | .motifEvaluate x1 x2 x3 _ x4 x5 => engOk x1 && hexOk x2 && byteOk x3 && byteOk x4 && byteOk x5
  | .motifLoad x1 x2 x3 _ _ => engOk x1 && hexOk x2 && byteOk x3
  | .motifClear x1 x2 x3 _ => engOk x1 && hexOk x2 && byteOk x3
  | .filet x1 x2 x3 _ x4 => engOk x1 && hexOk x2 && byteOk x3 && byteOk x4
  | .fwait x1 x2 x3 _ => engOk x1 && hexOk x2 && byteOk x3
  | .barrier x1 x2 x3 _ _ => engOk x1 && hexOk x2 && byteOk x3
  | .acquire x1 x2 x3 _ => engOk x1 && hexOk x2 && byteOk x3
  | .release x1 x2 x3 _ => engOk x1 && hexOk x2 && byteOk x3
  | .fenceSignalInsn x1 x2 x3 _ _ _ => engOk x1 && hexOk x2 && byteOk x3
  | .fenceWaitInsn x1 x2 x3 _ _ _ => engOk x1 && hexOk x2 && byteOk x3
  | .knot x1 x2 x3 _ => engOk x1 && hexOk x2 && byteOk x3
  | .trap x1 x2 x3 _ => engOk x1 && hexOk x2 && byteOk x3
  | .faultPicotArrive _ => true
  | .faultDrainEnd x1 x2 => engOk x1 && ctxOk x2
  | .engFaultClear x1 => engOk x1
  | .loadReturn _ => true
  | .storeAckReturn _ => true
  | .atomicReply _ => true
  | .motifLoadComplete x1 x2 _ => engOk x1 && ctxOk x2
  | .mmaStart x1 _ _ => engOk x1
  | .outStart x1 _ _ => engOk x1
  | .filetLoadStart x1 _ => engOk x1
  | .filetStoreStart x1 _ _ => engOk x1
  | .filetPageTranslate x1 _ => engOk x1
  | .filetComplete x1 _ => engOk x1
  | .kernelStart x1 x2 => engOk x1 && queueOk x2
  | .windowZeroEnd x1 x2 => engOk x1 && queueOk x2
  | .groupStart x1 x2 => engOk x1 && queueOk x2
  | .homeRead _ _ => true
  | .homeStore _ => true
  | .homeMirroredStore _ => true
  | .waitingRequestServe _ _ => true
  | .allocationRetry _ => true
  | .stackFillReturn _ => true
  | .nearRead _ _ => true
  | .nearStore _ => true
  | .ownershipRequest _ => true
  | .ownershipGrant _ => true
  | .invalidate _ => true
  | .recall _ => true
  | .directoryAnswer _ => true
  | .nearEvict _ _ => true
  | .homeEvict _ _ _ => true
  | .homeAtomic _ _ => true
  | .lineReduction _ _ => true
  | .ledgerIncrement _ => true
  | .ledgerDecrement _ => true
  | .ledgerAnswer _ => true
  | .homeTimeoutExpiry _ _ x1 => dieOk x1
  | .reclaimWalkEnd x1 => dieOk x1
  | .ledgerDieChange x1 => dieOk x1
  | .ledgerWalkEnd x1 => dieOk x1
  | .windowControlWrite x1 _ => chanOk x1
  | .windowPropagated x1 => chanOk x1
  | .flushWalkEnd x1 => chanOk x1
  | .demotionWalkEnd x1 => chanOk x1
  | .cshWinOverClear x1 => chanOk x1
  | .cshSliceErrClear _ => true
  | .cshSaddSatClear x1 => hexOk x1
  | .flushWriteBack => true
  | .flushWriteBackInvalidate => true
  | .flushEnd => true
  | .barrierArrival _ => true
  | .barrierRelease _ => true
  | .controllerRead _ _ => true
  | .controllerWrite _ _ => true
  | .mirrorReadReturn _ => true
  | .rowIdleClose x1 x2 => chanOk x1 && hexOk x2
  | .perBankRefresh x1 => chanOk x1
  | .scrubRead x1 _ => chanOk x1
  | .rowRepair x1 x2 _ => chanOk x1 && hexOk x2
  | .rowRepairEnd x1 _ => chanOk x1
  | .stackTemperatureReport x1 _ => hexOk x1
  | .channelTraining x1 _ => chanOk x1
  | .setClear x1 => hexOk x1
  | .setClearEnd x1 => hexOk x1
  | .memSetCtrlWrite x1 _ => hexOk x1
  | .memChTestEnter x1 => chanOk x1
  | .memChTestExit x1 => chanOk x1
  | .testClearEnd x1 => chanOk x1
  | .memChErrClear x1 => chanOk x1
  | .memMirrorStatClear => true
  | .tgcStart x1 _ => chanOk x1
  | .tgcStop x1 _ => chanOk x1
  | .tgcRunEnd x1 _ => chanOk x1
  | .hostLinkTrain _ _ _ => true
  | .wake x1 _ _ _ => fnOk x1
  | .queuePoll x1 => queueOk x1
  | .eyeletReadReturn _ _ => true
  | .descriptorReadReturn _ _ => true
  | .nop x1 => queueOk x1
  | .launch x1 => queueOk x1
  | .copy x1 => queueOk x1
  | .fill x1 => queueOk x1
  | .reduceCopy x1 => queueOk x1
  | .fenceSignal x1 => queueOk x1
  | .fenceWait x1 => queueOk x1
  | .flush x1 => queueOk x1
  | .event x1 => queueOk x1
  | .engineDonePicot x1 x2 => engOk x1 && queueOk x2
  | .commandComplete x1 => queueOk x1
  | .eventRingHeadReread _ _ => true
  | .waitLimitExpiry _ => true
  | .bar4Access x1 _ _ _ => fnOk x1
  | .hostCompletion _ x1 _ _ => laneOk x1
  | .hostReadTimeout _ => true
  | .hifErrCntClear => true
  | .hifWakeDropClear => true
  | .admqEnable x1 _ => fnOk x1
  | .admqWake x1 => fnOk x1
  | .admqHeadReread x1 _ => fnOk x1
  | .tdiLockedWrite x1 _ _ => fnOk x1
  | .ctxCreate x1 => fnOk x1
  | .ctxDestroy x1 => fnOk x1
  | .ctxQuery x1 => fnOk x1
  | .ctxInvalidate x1 => fnOk x1
  | .evrCreate x1 => fnOk x1
  | .evrDestroy x1 => fnOk x1
  | .queueCreate x1 => fnOk x1
  | .queueDestroy x1 => fnOk x1
  | .destroyDrainEnd x1 => queueOk x1
  | .destroyForceClear x1 x2 => queueOk x1 && engOk x2
  | .mobjCreate x1 => fnOk x1
  | .mobjFree x1 => fnOk x1
  | .mobjFreed x1 _ => ctxOk x1
  | .mobjImport x1 => fnOk x1
  | .fenceArm x1 => fnOk x1
  | .fenceSignalApply _ => true
  | .fenceWaitRegister _ => true
  | .fenceWaitRelease _ => true
  | .fenceValuePoll _ => true
  | .hoopEnable x1 _ => hexOk x1
  | .hoopEnableDone x1 => hexOk x1
  | .hoopDisable x1 _ => hexOk x1
  | .hoopDisableDone x1 => hexOk x1
  | .hoopEngMapWrite x1 _ => engOk x1
  | .hoopFnMapWrite x1 _ => fnOk x1
  | .hoopSaveStatClear x1 => hexOk x1
  | .hoopPreemptClear x1 => hexOk x1
  | .sliceEnd x1 => queueOk x1
  | .preemptPicotArrive x1 x2 => engOk x1 && queueOk x2
  | .knotWaitExpiry x1 x2 => engOk x1 && queueOk x2
  | .saveWritesAcked x1 x2 _ => engOk x1 && queueOk x2
  | .saveComplete x1 => queueOk x1
  | .restore x1 x2 _ => engOk x1 && queueOk x2
  | .rollEnable x1 _ => hexOk x1
  | .rollDisable x1 _ => hexOk x1
  | .rollEntryDue x1 => hexOk x1
  | .rollStatClear x1 => hexOk x1
  | .alignedLaunchArrive _ x1 _ => dieOk x1
  | .alignedLaunchRelease _ x1 => dieOk x1
  | .vfFunctionReset x1 => fnOk x1
  | .vfDrainEnd x1 => fnOk x1
  | .vfDrainExpiry x1 => fnOk x1
  | .pfReset x1 => fnOk x1
  | .pillowStepBuild x1 _ => hexOk x1
  | .pillowIdlePoll x1 _ => hexOk x1
  | .reportRingHeadReread x1 x2 _ => hexOk x1 && quadOk x2
  | .serverContextRelease x1 x2 => hexOk x1 && quadOk x2
  | .pilEnable x1 _ => hexOk x1
  | .pilFreeListBuilt x1 => hexOk x1
  | .pilServerEnable x1 x2 _ _ => hexOk x1 && quadOk x2
  | .pilEntSelWrite _ => true
  | .pilStatClear x1 => hexOk x1
  | .pilStat2Clear x1 => hexOk x1
  | .dispatchStart x1 x2 _ => hexOk x1 && quadOk x2
  | .count x1 _ => dieOk x1
  | .grant x1 _ => dieOk x1
  | .slotLine x1 _ => dieOk x1
  | .slotRecord x1 _ => dieOk x1
  | .filled x1 _ => dieOk x1
  | .expertLaunchComplete x1 x2 x3 _ => hexOk x1 && quadOk x2 && dieOk x3
  | .done x1 _ => dieOk x1
  | .abort x1 _ => dieOk x1
  | .dispatchWaitLimit x1 x2 => hexOk x1 && quadOk x2
  | .exchangeEnable x1 x2 _ _ => hexOk x1 && quadOk x2
  | .exchangeDisable x1 x2 _ => hexOk x1 && quadOk x2
  | .shxMapWrite _ _ => true
  | .shxXStatClear x1 x2 => hexOk x1 && quadOk x2
  | .shxDropClear => true
  | .portEnable x1 _ => dieOk x1
  | .portDisable x1 _ => dieOk x1
  | .portElectricalTrained x1 _ _ => dieOk x1
  | .serialExchange x1 _ => dieOk x1
  | .kemEncapsulationKey x1 _ => dieOk x1
  | .kemCiphertext x1 _ => dieOk x1
  | .identityChainSignature x1 _ => dieOk x1
  | .bringupTimeout x1 => dieOk x1
  | .portRetrainRequest x1 _ => dieOk x1
  | .flitReceive x1 _ => dieOk x1
  | .nakReplay x1 _ => dieOk x1
  | .replayTimerExpiry x1 => dieOk x1
  | .portRetrainEnd x1 _ => dieOk x1
  | .keyUpdate x1 => dieOk x1
  | .counterResume x1 _ => dieOk x1
  | .sectorWrite x1 _ => dieOk x1
  | .lineWrite x1 _ => dieOk x1
  | .lineReduce x1 _ => dieOk x1
  | .gmpFenceSignal x1 _ => dieOk x1
  | .ack x1 _ _ => dieOk x1
  | .barrierMessage x1 _ _ x2 _ => dieOk x1 && queueOk x2
  | .peerFenceHoldEnd x1 _ => dieOk x1
  | .gmpErrClear x1 => dieOk x1
  | .gmpSecErrClear x1 => dieOk x1
  | .clkGateWrite x1 _ => dieOk x1
  | .levelTarget x1 _ => dieOk x1
  | .voltageReached x1 _ => dieOk x1
  | .frequencyStep x1 => dieOk x1
  | .droopTrip x1 x2 => dieOk x1 && quadOk x2
  | .droopClear x1 x2 => dieOk x1 && quadOk x2
  | .railTelemetry x1 _ _ _ => dieOk x1
  | .powerLoop _ => true
  | .levelWatchdog x1 => dieOk x1
  | .forceStart x1 _ => dieOk x1
  | .forceEnd x1 => dieOk x1
  | .pwrDroopClear x1 => dieOk x1
  | .rasRecordRelease => true
  | .wndRasCntClear => true
  | .engineInternalError x1 => engOk x1
  | .darnThreshold _ => true
  | .darnRequest _ => true
  | .engineDarnSwap x1 => engOk x1
  | .frayMeasure => true
  | .frayMeasureEnd _ => true
  | .sliceDarn _ => true
  | .sliceDarnWalkEnd _ => true
  | .channelRetire x1 => chanOk x1
  | .winderHeartbeat => true
  | .winderTakeover => true
  | .winderTakeoverEnd => true
  | .hostControllerSwap => true
  | .darningRecordWaitExpiry => true
  | .computeDieLost x1 => dieOk x1
  | .baseDieLost x1 => dieOk x1
  | .firmwareStart => true
  | .firmwareCopyCheck x1 _ => dieOk x1
  | .entropyTestFail x1 => dieOk x1
  | .signatureComplete x1 => dieOk x1
  | .getVersion => true
  | .getCapabilities => true
  | .negotiateAlgorithms _ => true
  | .getDigests => true
  | .getCertificate _ _ => true
  | .challenge _ => true
  | .getMeasurements _ _ _ => true
  | .keyExchange => true
  | .heartbeat _ => true
  | .keyUpdateSpdm _ => true
  | .ideKm _ _ _ => true
  | .lockInterface _ x1 => fnOk x1
  | .presencePress => true
  | .presenceHoldEnd => true
  | .presenceWaitExpiry => true
  | .sealCheck _ => true
  | .pinCheck _ => true
  | .mctpControl _ _ => true
  | .getStatus _ _ => true
  | .getEvent _ _ => true
  | .setCeil _ _ _ => true
  | .getTelemetry _ _ => true
  | .darnPut _ _ _ => true
  | .darnGet _ _ => true
  | .fwWrite _ _ _ _ => true
  | .fwActivate _ _ => true
  | .svnRaise _ _ _ => true
  | .keyRevoke _ _ _ => true
  | .settingsAdvance _ _ _ => true
  | .svnRollback _ _ _ => true
  | .debugUnlock _ _ => true
  | .attest _ _ _ => true
  | .getCert _ _ _ _ => true
  | .otpRead _ _ _ => true
  | .mailboxLongOpEnd => true
  | .bypass => true
  | .idcode => true
  | .samplePreload _ => true
  | .extest => true
  | .clamp => true
  | .highz => true
  | .pairHiRead x1 _ => fnOk x1
  | .toileBankRequest _ _ => true
  | .pageWalkReadReturn _ => true
  | .instructionFetchReturn _ => true
  | .bulkMoverResponse _ => true
  | .hostLinkDown => true
  | .presenceRelease => true
  | .endSession _ => true
  | .startInterface _ x1 => fnOk x1
  | .stopInterface _ x1 => fnOk x1
  | .msiXVectorUnmask x1 _ => fnOk x1

end Sys2Proof
end

