-- ==== Sys2Proof/Safety.lean ====
section
/-!
DEFINITION. What counts as a safe run, in the terms that claims use: the parts of the state that a command leaves alone, and
the invariant that every step keeps.
-/
namespace Sys2Proof.Machine

/-- The two states agree in everything but their registers: what a command that only writes registers leaves alone. The holding
registers and the captured halves of pairs count as registers. -/
def State.sameButRegs (s t : State) : Prop :=
  t = { s with regs := t.regs, hold := t.hold, capt := t.capt }

/-- Every register but those of the list reads as before. -/
def State.keepsRegsBut (offs : List Nat) (s t : State) : Prop := ∀ o, o ∉ offs → t.rd o = s.rd o

/-- A command changes the registers of the list and nothing else. -/
def State.onlyRegs (offs : List Nat) (s t : State) : Prop := s.sameButRegs t ∧ s.keepsRegsBut offs t

/-- No byte of memory changes: every address reads from the stacks and the toile as before. -/
def State.keepsBytes (s t : State) : Prop := ∀ a, cellAt t.mem.cells a = cellAt s.mem.cells a

/-- A command changes the engine `e` and nothing else. -/
def State.onlyEngine (e : Nat) (s t : State) : Prop :=
  t = { s with engs := t.engs } ∧ ∀ k, k ≠ e → t.eng k = s.eng k

/-- What walks have delivered to the other groups of an engine without installing it stays (R293). -/
def State.keepsGiven (e g : Nat) (s t : State) : Prop :=
  (t.eng e).given.filter (fun p => p.1 != g) = (s.eng e).given.filter (fun p => p.1 != g)

/-- A command changes the group `g` of the engine `e`, with what walks have delivered to it, and nothing else. -/
def State.onlyGroup (e g : Nat) (s t : State) : Prop :=
  s.onlyEngine e t ∧ t.eng e = { s.eng e with groups := (t.eng e).groups, given := (t.eng e).given } ∧ s.keepsGiven e g t ∧
  ∀ k, k ≠ g → t.grp? e k = s.grp? e k

/-! ### Words of the claims about clocks and power -/

/-- A command changes the clocks of die `d`, its CLK_STAT, and nothing else. -/
def State.onlyClock (d : Nat) (s t : State) : Prop :=
  t = { s with regs := t.regs, clk := t.clk } ∧ t.clk = { s.clk with dies := t.clk.dies } ∧
  s.keepsRegsBut [R.clkStat d] t ∧ ∀ k, k ≠ d → t.dieClk k = s.dieClk k

/-- The safe states of R426, as the registers and the level controller show them. -/
def State.inSafeStates (s : State) (d : Nat) : Prop :=
  (s.dieClk d).safe = true ∧ (s.dieClk d).freq = 400 ∧ (s.dieClk d).change = none ∧ (s.dieClk d).forces = [] ∧ s.level d = 0 ∧
  s.fld F.clkStat_PLL_LOCK (R.clkStat d) = 0 ∧ s.fld F.clkStat_REF_OK (R.clkStat d) = 0 ∧ s.fld F.clkStat_ON_OSC (R.clkStat d) = 1

/-- From `s`, level `i` is asked of die `d`, and `t` follows (R430): it waits for a change or a force under way; otherwise a raise starts
with its voltage frame, a lowering with its frequency steps, and the level in force starts nothing. -/
def State.asksLevel (d i : Nat) (s t : State) : Prop :=
  ((s.dieClk d).change ≠ none ∨ (s.dieClk d).forces ≠ [] → (t.dieClk d).next = some i ∧ t.posted = s.posted) ∧
  ((s.dieClk d).change = none → (s.dieClk d).forces = [] →
    (i = s.level d → t.dieClk d = s.dieClk d ∧ t.posted = s.posted) ∧
    (s.level d < i → (t.dieClk d).change = some { level := i, raise := true, volt := true, stepping := false } ∧
      t.fld F.pwrDieStat_CHANGING (R.pwrDieStat d) = 1 ∧ t.posted = s.posted ++ [.avs d (s.voltMv d i)]) ∧
    (i < s.level d → (t.dieClk d).change = some { level := i, raise := false, volt := false, stepping := true } ∧
      t.fld F.pwrDieStat_CHANGING (R.pwrDieStat d) = 1 ∧ t.posted = s.posted))

/-- Nothing of the objects, the engines, the caches or the memory remains, and every channel set is being cleared (R16). -/
def State.holdsNothing (s : State) : Prop :=
  s.objs.ctxs = [] ∧ s.objs.queues = [] ∧ s.objs.rings = [] ∧ s.objs.waits = [] ∧ s.sched.hoops = [] ∧ s.sched.aligned = [] ∧
  s.pil.hoops = [] ∧ s.shx.xchs = [] ∧ s.txns = [] ∧ s.msgs = [] ∧ s.engs = [] ∧ s.cache.slices = [] ∧ s.mem.cells = [] ∧
  ∀ j, j < 16 → s.fld F.memSetStat_CLEARING (R.memSetStat j) = 1

/-! ### Words of the claims about registers -/

/-- A function's BAR0 takes aligned accesses: it is one of the 128, its TDI is not in ERROR and it is not being reset. -/
def State.barOpen (s : State) (fn : Nat) : Prop := s.barDead fn = false ∧ s.inReset fn = false

/-- An offset that names a register without a behaviour of its own: no command of the table is a write of it, no lock turns it away, and
its fields are not clamped. -/
def State.plainReg (s : State) (off : Nat) (r : RegRow) : Prop :=
  off % 4 = 0 ∧ barSpot 0 off = .reg off false ∧ s.regLive off = true ∧ regRow off = some r ∧ tdiTarget off = none ∧
  (∀ a ∈ regActs, rowOf a.1 a.2.1 a.2.2.1 off = none) ∧ s.lockedOut off = none ∧
  ∀ c ∈ regClamps, rowOf c.1 c.2.1 c.2.2.1 off = none

/-! ### Words of the claims about engines -/

/-- Group `g` of engine `e` is `u`; the clocks of its die run, it is ready, its context does not drain, its next instruction lies unpoisoned
in the L1, and the part assigns the OPCODE (R19, R93, R103, R107, R133, R426, R499). -/
def State.fetched (e g opc : Nat) (u : Group) (s : State) : Prop :=
  s.grp? e g = some u ∧ s.runs (engDie e) = true ∧ u.st = .ready ∧ u.ctx ∉ (s.eng e).draining ∧ s.opcodeOk opc = true ∧
  ∃ l m c, s.page e g u.ctx .fetch u.pc.toNat = .ok l m ∧
    ((s.eng e).l1Find u.ctx l.space (lineOf (l.phys u.pc.toNat))).bind (fun x => x.sec (l.phys u.pc.toNat % 128 / 32)) = some c ∧
    c.poison.testBit (u.pc.toNat % 32 / 8) = false

/-- And the registers that the instruction names are the group's and available: it issues (R94, R103). -/
def State.mayIssue (e g opc : Nat) (rs : List Nat) (u : Group) (s : State) : Prop :=
  s.fetched e g opc u ∧ u.owns rs = true ∧ u.free rs = true

/-- A command makes group `g` of engine `e` into `v` and changes nothing else. -/
def State.setsGroup (e g : Nat) (v : Group) (s t : State) : Prop := s.onlyGroup e g t ∧ t.grp? e g = some v

/-- Group `u` after an instruction that writes register `rd` of each of its active lanes with `f` of the lane, and nothing else:
register 255 takes nothing (R91, R93). -/
def Group.wrote (rd : Nat) (f : Nat → Word) (u v : Group) : Prop :=
  v = { u with regs := v.regs, pc := u.pc + 8, krec := none } ∧
  ∀ r l, l < 32 → v.reg r l = if r = rd ∧ r ≠ 255 ∧ u.active.toNat.testBit l = true then f l else u.reg r l

/-- The instruction writes `rd` of every active lane and changes nothing else of the package. -/
def State.writesLanes (e g rd : Nat) (u : Group) (f : Nat → Word) (s t : State) : Prop :=
  s.onlyGroup e g t ∧ ∃ v, t.grp? e g = some v ∧ u.wrote rd f v

/-- The state `t` in which group `u` of engine `e` has faulted at `pc` (R133 to R136, R287, R288): its context holds the fault where it held
none, and is FAULTED where it was live, else it counts one more; ENG_FAULT holds it where VALID was 0; the group has stopped and its
context drains. -/
def State.faultTakenAt (pc e g lane code detail addr : Nat) (u : Group) (s t : State) : Prop :=
  (∀ x, s.ctx? u.ctx = some x → x.fault = none → ∃ y f, t.ctx? u.ctx = some y ∧ y.fault = some f ∧ f.code = code ∧
    f.detail = detail ∧ f.addr = addr ∧ f.engine = e ∧ f.group = g ∧ f.lane = lane ∧ f.queue = u.queue ∧ f.pc = pc ∧
    (x.st = .live → y.st = .faulted)) ∧
  (∀ x, s.ctx? u.ctx = some x → x.fault.isSome = true → ∃ y, t.ctx? u.ctx = some y ∧ y.fault = x.fault ∧
    y.lost = min 0xFFFFFFFF (x.lost + 1)) ∧
  (engineId e = true → s.bit F.engFault_VALID (R.engFault e) = false → t.bit F.engFault_VALID (R.engFault e) = true ∧
    (code < 256 → t.fld F.engFault_CODE (R.engFault e) = code) ∧ (g < 16 → t.fld F.engFault_GROUP (R.engFault e) = g)) ∧
  u.ctx ∈ (t.eng e).draining ∧ (t.grp? e g).map (·.st) = some .stopped

/-- The same at the group's own instruction. -/
def State.faultTaken (e g lane code detail addr : Nat) (u : Group) (s t : State) : Prop :=
  s.faultTakenAt u.pc.toNat e g lane code detail addr u t

/-- The sector of the L1 from which an access of a context may be served. -/
def State.l1Sec (s : State) (e c : Nat) (sp : Space) (pa : Nat) : Option L1Sector :=
  ((s.eng e).l1Find c sp (lineOf pa)).bind (fun l => l.sec (pa % 128 / 32))

/-- A request of a group for these sectors of a line is on its way. -/
def State.asked (t : State) (e g : Nat) (op : MemOp) (sp : Space) (line secs : Nat) : Prop :=
  ∃ i y, t.txn? i = some y ∧ y.issuer = .lane e g ∧ y.op = op ∧ y.space = sp ∧ y.addr = line ∧ y.secs = secs

/-- A command changes engines and requests, and of the engines `e` alone, and there no group but `g`. -/
def State.onlyAccess (e g : Nat) (s t : State) : Prop :=
  t = { s with engs := t.engs, txns := t.txns, nextId := t.nextId } ∧ (∀ k, k ≠ e → t.eng k = s.eng k) ∧
  ∀ k, k ≠ g → t.grp? e k = s.grp? e k

/-! ### Words of the claims about the cache -/

/-- Transaction `i` is `x`, it has reached its home slice, whose die runs, and waits for nothing; its line is free, nothing waits for it and
nothing came earlier for it (R158). -/
def State.readyAtHome (i : Nat) (x : Txn) (s : State) : Prop :=
  s.txn? i = some x ∧ x.stage = .home ∧ x.moving = false ∧ x.waitAns = false ∧ x.waitLedger = false ∧ x.waitStack = 0 ∧ s.lineBusy x.addr x.idx false = false ∧
  s.runs (s.physSlice x.idx / 33) = true ∧ s.cameFirst (s.physSlice x.idx) x.addr x.idx x.came = false ∧
  s.firstWaiting (s.physSlice x.idx) x.addr x.idx = none

/-- A fence's message `m` that has arrived is the next that its home serves for the fence's line, and the line is free (R158, R199). -/
def State.fenceNext (m : Nat) (x : Msg) (c pa : Nat) (s : State) : Prop :=
  s.msg? m = some x ∧ x.arrived = true ∧ x.lost = false ∧ s.lineBusy (lineOf pa) (s.fenceIdx c x.src pa) false = false ∧
  Waiter.msg m ∉ (s.slice (s.physSlice (s.fenceIdx c x.src pa))).waiting ∧
  s.cameFirst (s.physSlice (s.fenceIdx c x.src pa)) (lineOf pa) (s.fenceIdx c x.src pa) x.came = false ∧
  s.firstWaiting (s.physSlice (s.fenceIdx c x.src pa)) (lineOf pa) (s.fenceIdx c x.src pa) = none

/-- The home line of a transaction. -/
def State.homeLine (s : State) (x : Txn) : Option Line := (s.slice (s.physSlice x.idx)).find x.addr x.idx

/-- A request for a sector waits at a controller. -/
def State.asksSector (t : State) (sector : Nat) (write : Bool) (who : CtlFor) : Prop :=
  ∃ r q, SMap.get? t.mem.reqs r = some q ∧ q.sector = sector ∧ q.write = write ∧ q.who = who

/-- The die runs, and no transaction of the same engine to the same line waits at the crossbar before `i`. -/
def State.firstAtCrossbar (i : Nat) (x : Txn) (s : State) : Prop :=
  s.runs x.die = true ∧
  ∀ p ∈ s.txns, p.1 < i → p.2.stage = .crossbar → p.2.issuer.engine = x.issuer.engine → x.issuer.engine.isSome = true →
    p.2.space = x.space → p.2.addr ≠ x.addr

/-! ### Words of the claims about queues and contexts -/

/-- A context holds a fault of this code, DETAIL and address (R286, R287). -/
def State.holdsFault (t : State) (c code detail addr : Nat) : Prop :=
  ∃ y f, t.ctx? c = some y ∧ y.fault = some f ∧ f.code = code ∧ f.detail = detail ∧ f.addr = addr

/-- A context that can take a first fault. -/
def State.faultFree (s : State) (c : Nat) : Prop := ∃ x, s.ctx? c = some x ∧ x.fault = none

/-- The eyelet of queue `u` of number `q` is asked for: read, or read once more after the read under way (R252, R253). -/
def State.eyeletAsked (q : Nat) (u : Queue) (t : State) : Prop :=
  ∃ y, t.queue? q = some y ∧ y.eyeletOut = true ∧ (u.eyeletOut = true → y.wake = true) ∧ y.run = u.run ∧ y.c = u.c ∧ y.pSeen = u.pSeen

/-- The command `r` of queue `q`, of opcode `op`, is held and may start: the queue is bound and live, its context `c` live, and every member
of its engine set as it stands has room for the queue (R256, R319). -/
def State.mayStart (q op : Nat) (u : Queue) (c : Ctx) (r : Run) (s : State) : Prop :=
  s.queue? q = some u ∧ s.ctx? u.ctx = some c ∧ u.run = some r ∧ r.phase = .held ∧ descOp r.desc = op ∧ u.bound = true ∧ u.st = .live ∧
  c.st = .live ∧ (u.kind = .copy ∨ s.setNow q u ≠ []) ∧ ∀ e ∈ s.setNow q u, u.members.contains e = true ∨ s.engFits u e = true

/-- Its queue runs the command, on the members `ms`. -/
def Queue.started (u : Queue) (ms : List Nat) (r : Run) : Queue :=
  { u with members := ms, run := some { r with phase := .running, members := ms } }

/-- The state in which the command of queue `u` of number `q` has left it with a status and its consumer count is written (R249). -/
def State.consumed (q status : Nat) (u : Queue) (s : State) : State :=
  ((s.onQueue q (fun x => { x with last := status })).dropRun q).unitPut u.ctx (s.queueDie u) (u.eyelet + 64) (leBytes 8 (u.c + 1))

/-- A request of the bulk mover of queue `q`, at the crossbar. -/
def State.bulkAsks (q : Nat) (op : MemOp) (va line : Nat) (sp : Space) (t : State) : Prop :=
  ∃ i y, t.txn? i = some y ∧ y.issuer = .bulk q ∧ y.op = op ∧ y.addr = line ∧ y.space = sp ∧ y.va + va % 128 = va ∧ y.stage = .crossbar

/-- A message for the home of the fence at a physical address is on its way. -/
def State.fenceAsked (t : State) (kind : MsgKind) : Prop := ∃ i m, t.msg? i = some m ∧ m.kind = kind

/-- Function `fn` has the admin command `d`, of opcode `op` (R305, R306). -/
def State.adminCmd (fn op : Nat) (d : Bytes) (s : State) : Prop := (s.adm fn).cmd = some d ∧ descOp d = op ∧ fn < 128

/-- The record `r` has been written at the next place of the function's admin completion ring (R269, R278). -/
def State.adminWrote (fn : Nat) (r : Rec) (s t : State) : Prop :=
  ∃ time, .write fn (s.rd64 (R.qfeFnAdmqCplLo fn) + 32 * ((s.adm fn).w % 2 ^ s.admCplLog fn))
    (recordBytes r time 0 (phaseOf (s.adm fn).w (s.admCplLog fn))) ∈ t.posted

/-- The function's admin queue runs, and its ring has room with nothing before. -/
def State.adminFree (s : State) (fn : Nat) : Prop := s.admOn fn = true ∧ s.admRoom fn = true ∧ (s.adm fn).held = []

/-- The admin command `d` has ended with a status, a DETAIL and a context number: it has left the queue, the consumer count covers it (but for a
command that was read before the queue was started afresh) and is written while the queue runs, and
under CPL its record is written where the ring has room (R271, R278, R305). -/
def State.adminEnds (fn : Nat) (d : Bytes) (status detail ctx : Nat) (s t : State) : Prop :=
  (t.adm fn).cmd = none ∧ (t.adm fn).c = (s.adm fn).c + (if (s.adm fn).stale then 0 else 1) ∧
  ((s.adm fn).stale = false → s.admOn fn = true →
    .write fn (s.rd64 (R.qfeFnAdmqEyeletLo fn) + 64) (leBytes 8 ((s.adm fn).c + 1)) ∈ t.posted) ∧
  (descCpl d = true → s.adminFree fn → s.adminWrote fn (admCmdRec d status detail ctx) t)

/-- An address lies in the memory-object table entry of one of the objects (R294). -/
def State.entryOf (s : State) (ps : List (Nat × Nat)) (a : Nat) : Prop :=
  ∃ p ∈ ps, ∃ x, s.ctx? p.1 = some x ∧ x.motBase + 64 * p.2 ≤ a ∧ a < x.motBase + 64 * p.2 + 64

/-- Every byte of memory outside the tables of contexts, queues and event rings (R282) and outside the entries of the objects that are pinned
or released reads as before. -/
def State.keepsMemBut (ps : List (Nat × Nat)) (s t : State) : Prop :=
  s.mem.wf = true → ∀ a, inTables a = false → ¬ s.entryOf ps a → t.peek a 1 = s.peek a 1

/-- Every byte of memory outside the tables of contexts, queues and event rings reads as before. -/
def State.keepsMemory (s t : State) : Prop := s.keepsMemBut [] t

/-- A write of these bytes of memory is taken: they lie in toile, or behind channels that are in service and not in test (R234, R237). -/
def State.writable (s : State) (pa n : Nat) : Prop :=
  ∀ a, pa ≤ a → a < pa + n → isToile a = true ∨ (s.isStack a = true ∧ s.chanState (s.locOf a).chan < 2)

/-- The stacks and the toile hold these bytes at an address, and hold everywhere else what they held (R294). -/
def State.wroteBytes (pa : Nat) (bs : Bytes) (s t : State) : Prop :=
  cellsAt t.mem.cells pa bs.length = bs ∧ ∀ a, a < pa ∨ pa + bs.length ≤ a → cellAt t.mem.cells a = cellAt s.mem.cells a

/-- An entry of the tables reads as these bytes, in the toile of die 0 and of die 4, but for a die that is lost (R282). -/
def State.tableHolds (off : Nat) (bs : Bytes) (s t : State) : Prop :=
  s.mem.wf = true → ∀ k, k = 0 ∨ k = 4 → s.baseLost k = false → t.peek (tableAddr k off) bs.length = (bs, false)

/-! ### Words of the claims about the pillow -/

/-- The pages of a hoop's pool that its free list and its entries hold (R367 to R370). -/
def PilHoop.pages (p : PilHoop) : List Nat :=
  p.free ++ p.entries.flatMap (fun e => e.2.data ++ e.2.leaves ++ (if e.2.root = 0xFFFFFFFF then [] else [e.2.root]))

/-- No entry number stands twice, and no page has the number that says "no root". -/
def State.poolSound (s : State) (h : Nat) : Prop := ((s.pilH h).entries.map (·.1)).Nodup ∧ 0xFFFFFFFF ∉ (s.pilH h).pages

/-- A step build has given no page to two holders and lost none (R353, R367, R370): the free list and the entries hold the same pages before and
after, and no done entry stays unless the free list read as poison. -/
def State.builtFrom (h : Nat) (s t : State) : Prop :=
  (t.pilH h).pages.Perm (s.pilH h).pages ∧ ((t.pilH h).stopped = false → ∀ p ∈ (t.pilH h).entries, p.2.st ≠ .done)

/-- The counters of channels and mirrors: what a unit's read of memory may add to (R229, R230, R234). -/
def readCounters : List Nat := R.memMirrorStat :: (List.range 1024).map R.memChErr

/-! ### Words of the claims about the exchange -/

/-- The message is delivered to the enabled exchange `key`, sent by the member `p` (R383): it has come over the mesh, unharmed, the first between
its two dies on its channel, or the port is up and its tag and its XID name that exchange, the lowest of its hoop. -/
def State.delivers (s : State) (port : Nat) (m : ShxMsg) (key : Nat) (p : Peer) : Prop :=
  (s.xch? key).isSome = true ∧
  ((port = 8 ∧ key = 4 * m.hoop + m.xch ∧ p = { die := m.src, port := none } ∧
      ∃ i x, s.xFirst m = some (i, x) ∧ x.lost = false ∧ x.poison = false) ∨
   (port < 8 ∧ s.gmpUp port = true ∧ p = { die := m.src % 8, port := some (s.partner port) } ∧
      Fbit F.gmpInMap_VALID (s.rd (R.gmpInMap port (m.tag % 256))) = true ∧ key / 4 = Fget F.gmpInMap_HOOP (s.rd (R.gmpInMap port (m.tag % 256))) ∧
      s.xchXid key = m.xid ∧
      ∀ x, x < key % 4 → (s.xch? (4 * (key / 4) + x)).isSome = true → s.xchXid (4 * (key / 4) + x) ≠ m.xid))

/-- A message between units of the package leaves the mesh's messages when it is taken. -/
def State.took (port : Nat) (m : ShxMsg) (s : State) : State :=
  if port = 8 then (match s.xFirst m with | some (i, _) => s.delMsg i | none => s) else s

/-- A message between units of the package has left for its die (R383). -/
def State.xSent (m : ShxMsg) (t : State) : Prop :=
  ∃ i x, t.msg? i = some x ∧ x.kind = .shx m ∧ x.src = m.src ∧ x.dst = m.dst ∧ x.lost = false

/-- A command changes the exchange units, the messages of the package and the mesh that carries them, and nothing else. -/
def State.onlyExchange (s t : State) : Prop := t = { s with shx := t.shx, msgs := t.msgs, nextId := t.nextId, mesh := t.mesh }

/-! ### Words of the claims about the gimp ports -/

/-- A port has failed for a reason (R407): it carries nothing and holds no flit. -/
def State.portFailed (p reason : Nat) (t : State) : Prop :=
  t.gmpState p = 4 ∧ t.fld F.gmpStat_WIDTH (R.gmpStat p) = 0 ∧ t.fld F.gmpStat_FAIL_REASON (R.gmpStat p) = reason ∧
  t.bit F.gmpCtrl_RETRAIN (R.gmpCtrl p) = false ∧ (t.port p).step = 0 ∧ (t.port p).queue = [] ∧ (t.port p).replay = []

/-- No exchange and no barrier of this package waits for the partner behind a port, and the port is not its own pair. -/
def State.portQuiet (p : Nat) (s : State) : Prop :=
  (∀ x ∈ s.shx.xchs, s.partner p ∉ s.xchPartners x.1) ∧ s.openBarriers (s.partner p) = [] ∧ s.bondOf p ≠ some p

/-- What leaves the package when a port sends a flit. -/
def flitOut (p : Nat) (f : PFlit) : List Posted :=
  if f.fkind = 0 then f.msgs.map (fun m => .gimp p m.kind [m.tag, m.xid, m.id, m.addr, m.dst, m.src, m.aux] m.body)
  else [.gimp p (0x200 + f.fkind) [] []]

/-- A port has a message to send: it waits in the transmit queue, or its flit has been sent and is held for replay. -/
def State.portHas (k : Nat) (t : State) (m : PMsg) : Prop := m ∈ (t.port k).queue ∨ ∃ f ∈ (t.port k).replay, m ∈ f.msgs

/-- The partner's message `id` is answered with a status on the port that answers it (R401). -/
def State.ackSent (port id status : Nat) (t : State) : Prop :=
  ∃ m, m.kind = 5 ∧ m.body = [5, 1, BitVec.ofNat 8 status, 0] ++ leBytes 4 id ∧ t.portHas (t.portFor port none) m

/-- The flits of the replay buffer after the one that carries a sequence number; all of them where none does. -/
def afterSeq (seq : Nat) (l : List PFlit) : List PFlit :=
  match l.findIdx? (fun f => f.seq = seq) with
  | some i => l.drop (i + 1)
  | none => l

/-- A port takes flits: it is one of the eight, it is up and it does not retrain. -/
def State.portTakes (s : State) (p : Nat) : Prop := p < 8 ∧ s.gmpUp p = true ∧ s.bit F.gmpCtrl_RETRAIN (R.gmpCtrl p) = false

/-! ### Words of the claims about reliability -/

/-- The event has been reported (R445, R446): its record waits for the physical function's admin ring, or has been written there. Nothing is
said where 64 records waited already. -/
def State.reported (code cls unit ctx die : Nat) (s t : State) : Prop :=
  s.ras.hold.length < 60 → ∃ q, heldBytes (rasRec q code cls unit ctx) die true ∈ t.ras.hold ∨
    ∃ a time ph, Posted.write 0 a (recordBytes (rasRec q code cls unit ctx) time die ph) ∈ t.posted

/-- The darning of a unit has begun (R448): it stands among the darnings, and BUSY of WND_DARN_STAT reads 1. -/
def State.darningBegun (kind unit : Nat) (req : Bool) (s t : State) : Prop :=
  t.ras.darnings = s.ras.darnings ++ [{ kind := kind, unit := unit, spare := none, fromReq := req }] ∧ t.bit F.wndDarnStat_BUSY R.wndDarnStat = true ∧
  (req = true → t.bit F.wndDarnReq_GO R.wndDarnReq = true)

/-- The command changes the darnings in progress and the two darning registers and nothing else. -/
def State.onlyDarning (s t : State) : Prop :=
  t = { s with regs := t.regs, ras := { s.ras with darnings := t.ras.darnings } } ∧ s.keepsRegsBut [R.wndDarnStat, R.wndDarnReq] t

/-! ### Words of the claims about boot, attestation and the mailbox -/

/-- A Winder is in service, and its firmware runs or the boot ROM serves in recovery (R476, R496). -/
def State.served (s : State) : Prop := s.sec.dead = false ∧ s.stage ≠ 0

/-- And configuration requests, which reach the DOE mailbox, are answered normally (R475, R480). -/
def State.spdmServed (s : State) : Prop := s.served ∧ s.host.rrs = false

/-- The requests of the SPDM responder (R480). -/
def spdmRequest : Instr → Bool
  | .getVersion | .getCapabilities | .negotiateAlgorithms _ | .getDigests | .getCertificate _ _ | .challenge _ | .getMeasurements _ _ _ => true
  | .keyExchange | .heartbeat _ | .keyUpdateSpdm _ | .endSession _ | .ideKm _ _ _ | .lockInterface _ _ | .startInterface _ _ | .stopInterface _ _ => true
  | _ => false

/-- The session in which a request comes, for those that come in one (R480). -/
def sessionOf : Instr → Option Nat
  | .heartbeat n | .keyUpdateSpdm n | .endSession n | .ideKm n _ _ | .lockInterface n _ | .startInterface n _ | .stopInterface n _ => some n
  | _ => none

/-- The request changes the SPDM responder into `p` and is answered with a code and what follows it; nothing else changes. -/
def State.spdmTold (s : State) (p : Spdm) (code : Nat) (b : Bytes) (t : State) : Prop :=
  t = { s with sec := { s.sec with spdm := p }, posted := s.posted ++ [.reply 0 code b] }

/-- The request is answered with ERROR and its code; nothing else changes. -/
def State.spdmRefused (s : State) (code : Nat) (t : State) : Prop := s.spdmTold s.sec.spdm 0x7F (leBytes 1 code) t

/-- The asymmetric algorithm has been selected (R481). -/
def State.algsOn (s : State) : Prop := s.spdmServed ∧ s.sec.spdm.algs = true ∧ s.sec.spdm.slh = true

/-- The signing unit takes no request: the entropy source has failed, or 16 wait (R479, R483). -/
def State.signsNot (s : State) : Prop := s.bit F.secStat_RNG_FAIL R.secStat = true ∨ 16 ≤ s.sec.waiting.length

/-- A request stands in the signing unit, at work where the unit was free, else behind those that wait; nothing else changes (R483). -/
def State.signAsked (r : SignReq) (s t : State) : Prop :=
  t = { s with sec := t.sec } ∧
  (s.sec.signing = none → t.sec = { s.sec with signing := some r }) ∧ (s.sec.signing.isSome = true → t.sec = { s.sec with waiting := s.sec.waiting ++ [r] })

/-- An event record has been queued; with the first one the alert pin goes low, and with 32 before it the event is lost (R496). -/
def State.eventQueued (kind die detail : Nat) (s t : State) : Prop :=
  s.sec.dead = false →
    (s.sec.events.length < 32 → (∃ time, t.sec.events = s.sec.events ++ [leBytes 1 kind ++ leBytes 1 die ++ leBytes 2 detail ++ zeros 4 ++ leBytes 8 time]) ∧
      (s.sec.events = [] → .pin pinAlert s.winder false ∈ t.posted)) ∧
    (32 ≤ s.sec.events.length → t.sec.events = s.sec.events ∧ t.bit F.wndMbxStat_EVT_LOST R.wndMbxStat = true)

/-- A request of the mailbox: its transport, CMD and SEQ (R492, R494). -/
def mailboxRequest : Instr → Option (Transport × Nat × Nat)
  | .getStatus v q => some (v, 0x01, q)
  | .getEvent v q => some (v, 0x02, q)
  | .setCeil v q _ => some (v, 0x03, q)
  | .getTelemetry v q => some (v, 0x04, q)
  | .darnPut v q _ => some (v, 0x10, q)
  | .darnGet v q => some (v, 0x11, q)
  | .fwWrite v q _ _ => some (v, 0x20, q)
  | .fwActivate v q => some (v, 0x21, q)
  | .svnRaise v q _ => some (v, 0x22, q)
  | .keyRevoke v q _ => some (v, 0x23, q)
  | .settingsAdvance v q _ => some (v, 0x30, q)
  | .svnRollback v q _ => some (v, 0x31, q)
  | .debugUnlock v q => some (v, 0x32, q)
  | .attest v q _ => some (v, 0x40, q)
  | .getCert v q _ _ => some (v, 0x41, q)
  | .otpRead v q _ => some (v, 0x50, q)
  | _ => none

/-- The commands that are served in recovery (R476). -/
def recoveryCmds : List Nat := [0x01, 0x02, 0x20, 0x21, 0x50]

/-- The mailbox takes the command: it is served, not busy and not being taken over, and in recovery the command is one of five (R452, R476, R493). -/
def State.mailboxFree (s : State) (cmd : Nat) : Prop :=
  s.served ∧ s.ras.takeover = false ∧ s.sec.longOp = none ∧ (s.stage = 7 → cmd ∈ recoveryCmds)

/-- The response of R492 on transport `via` (1 the host link, 2 the management pins). -/
def response (via cmd seq status : Nat) (b : Bytes) : Posted :=
  .reply via cmd (leBytes 1 cmd ++ leBytes 1 seq ++ leBytes 1 status ++ [0] ++ leBytes 4 b.length ++ b)

/-- The request is answered with a status and a payload, and nothing else changes. -/
def State.answered (s : State) (via cmd seq status : Nat) (b : Bytes) (t : State) : Prop := t = { s with posted := s.posted ++ [response via cmd seq status b] }

/-- A long operation has ended: the mailbox is free, WND_MBX_STAT holds the command and its status, and its response is the last that is sent (R493). -/
def State.opEnded (s : State) (via cmd seq status : Nat) (b : Bytes) (t : State) : Prop :=
  t.sec.longOp = none ∧ t.bit F.wndMbxStat_BUSY R.wndMbxStat = false ∧ t.fld F.wndMbxStat_OP R.wndMbxStat = 0 ∧
  t.fld F.wndMbxStat_LAST_OP R.wndMbxStat = cmd ∧ t.fld F.wndMbxStat_LAST_STATUS R.wndMbxStat = status ∧
  t.posted = s.posted ++ [response via cmd seq status b]

/-- A long operation ends without an effect. -/
def State.opFailed (s : State) (via cmd seq status : Nat) (t : State) : Prop :=
  s.opEnded via cmd seq status [] t ∧ t = { s with regs := t.regs, sec := { s.sec with longOp := none }, posted := t.posted } ∧
  s.keepsRegsBut [R.wndMbxStat] t

/-- The mailbox is busy with the long operation `l`, and nothing else of the package has changed (R493). -/
def State.opTaken (l : LongOp) (s t : State) : Prop :=
  t = { s with regs := t.regs, sec := { s.sec with longOp := some l } } ∧ s.keepsRegsBut [R.wndMbxStat] t ∧
  t.bit F.wndMbxStat_BUSY R.wndMbxStat = true ∧ t.fld F.wndMbxStat_OP R.wndMbxStat = l.cmd

/-- The long operation of the request is at work with what it took (phase 0), or waits for a press of PRES_N (phase 1). -/
def State.opStarted (via : Transport) (cmd seq : Nat) (b : Bytes) (phase : Nat) (s t : State) : Prop :=
  s.opTaken { cmd := cmd, via := viaNo via, seq := seq, payload := b, phase := phase, status := 0 } t

/-! ### The invariant and a safe run -/

/-- What holds of the state after reset and is kept by every step: memory and every tile store are in their canonical form. -/
def State.Inv (s : State) : Prop := s.mem.wf = true ∧ ∀ p ∈ s.engs, Memory.wfCells p.2.tile = true

/-- A run of the waiting commands is safe where every command that it meets is well formed and no step stops: the device goes on. -/
def State.safeRun : Nat → State → Prop
  | 0, _ => True
  | n + 1, s => (∀ c ∈ s.pending.head?, c.wf = true) ∧ ∃ t, step s = .next t ∧ State.safeRun n t

end Sys2Proof.Machine
end

