-- ==== Sys2Proof/Certificates/Slice0/Obligations.lean ====
section
/-!
DEFINITION. The statements for the provers. Each says in Lean what its docstring says of the commands that it names; `exec` is the
meaning of a command on a state, `step` takes the command at the front of the queue.
-/
open Sys2Proof Sys2Proof.Machine

/-- A die whose clocks wait for the trimmed oscillator starts counting on the oscillator (ON_OSC 1); a passed count of the reference starts the root PLL's acquisition
(REF_OK 1); a lock starts the dividers (PLL_LOCK 1, ON_OSC 0), and outside a recovery of a die that is not isolated the counter starts at 0, the engine clock at 400 MHz
and the safe states end, but on a die that has tripped; a lock that does not come in time starts the count again (REF_OK 0). No other die, no other register, no engine
and no byte of memory changes. Completes (a next state is the conclusion): `trimmedOscillatorStable`, `referenceCountPass`, `rootPllLock`, `pllLockTimeout`. -/
def Obligations.ClockStartUpRows : Prop :=
  ∀ (s : State) (d : Nat), d < 8 →
    ((s.dieClk d).stage = .waiting → ∃ t, exec (.trimmedOscillatorStable d) s = .next t ∧
      (t.dieClk d).stage = .counting ∧ t.fld F.clkStat_ON_OSC (R.clkStat d) = 1 ∧ s.onlyClock d t) ∧
    ((s.dieClk d).stage = .counting → ∃ t, exec (.referenceCountPass d) s = .next t ∧
      (t.dieClk d).stage = .acquiring ∧ t.fld F.clkStat_REF_OK (R.clkStat d) = 1 ∧ s.onlyClock d t) ∧
    ((s.dieClk d).stage = .acquiring → ∃ t, exec (.rootPllLock d) s = .next t ∧
      (t.dieClk d).stage = .running ∧ t.fld F.clkStat_PLL_LOCK (R.clkStat d) = 1 ∧ t.fld F.clkStat_ON_OSC (R.clkStat d) = 0 ∧
      (s.clk.recovering = false → s.fld F.clkStat_ISOLATED (R.clkStat d) = 0 →
        t.count d = 0 ∧ (t.dieClk d).freq = 400 ∧ (t.dieClk d).safe = (s.dieClk d).tripped) ∧ s.onlyClock d t) ∧
    ((s.dieClk d).stage = .acquiring → ∃ t, exec (.pllLockTimeout d) s = .next t ∧
      (t.dieClk d).stage = .counting ∧ t.fld F.clkStat_REF_OK (R.clkStat d) = 0 ∧ s.onlyClock d t)

/-- A lost reference brings every die, a lost root its own die and with die 0 every die, into the safe states: L0, PLL_LOCK and REF_OK 0, ON_OSC 1, no change of level and
no force left, the counting of the reference begun again; SRC_FAILS of the dies concerned rises by 1 and stops at 255, and where the whole package is concerned nothing
goes on and it waits for a recovery. A die other than die 0 that has lost its root is marked ISOLATED. A thermal trip drives THERMTRIP_N of the die low and holds its
clocks until PWROK falls. A fall of PWROK brings every die into the safe states with its clocks held, and no transaction, message or engine's work is left. No byte of
memory changes. Completes (a next state is the conclusion): `pwrokFall`, `sourceFailure`, `dieIsolate`, `thermalTrip`. Rests on choices of the model: log 23, 159. -/
def Obligations.SourceLossEntersSafeStates : Prop :=
  (∀ (s : State) (d k : Nat) (f : SourceFault), d < 8 → k < 8 → s.clk.pwrok = true → ∃ t, exec (.sourceFailure d f) s = .next t ∧ t.mem = s.mem ∧
    (f = .refLost ∨ d = 0 ∨ k = d →
      t.inSafeStates k ∧ (t.dieClk k).stage = .counting) ∧
    (f = .refLost ∨ d = 0 → t.clk.recovering = true ∧ t.txns = [] ∧ t.msgs = [] ∧ t.engs = [] ∧ t.objs.ctxs = []) ∧
    t.fld F.clkStat_SRC_FAILS (R.clkStat k) =
      (if f = .refLost ∨ k = d then min 255 (s.fld F.clkStat_SRC_FAILS (R.clkStat k) + 1) else s.fld F.clkStat_SRC_FAILS (R.clkStat k))) ∧
  (∀ (s : State) (d : Nat), 1 ≤ d → d < 8 → (s.dieClk d).safe = true → s.clk.recovering = false →
    s.fld F.clkStat_SRC_FAILS (R.clkStat d) ≠ 0 →
    ∃ t, exec (.dieIsolate d) s = .next t ∧ t.fld F.clkStat_ISOLATED (R.clkStat d) = 1) ∧
  (∀ (s : State) (d : Nat), d < 8 → s.clk.pwrok = true → ∃ t, exec (.thermalTrip d) s = .next t ∧ t.mem = s.mem ∧
    t.inSafeStates d ∧ (t.dieClk d).stage = .low ∧ (t.dieClk d).tripped = true ∧ Posted.pin 0 d false ∈ t.posted) ∧
  (∀ (s : State), ∃ t, exec .pwrokFall s = .next t ∧ t.mem = s.mem ∧ t.clk.pwrok = false ∧ t.clk.recovering = false ∧
    t.txns = [] ∧ t.msgs = [] ∧ t.engs = [] ∧ t.objs.ctxs = [] ∧ ∀ k, k < 8 → t.inSafeStates k ∧ (t.dieClk k).stage = .low ∧ (t.dieClk k).tripped = false)

/-- On a die outside the safe states a target whose message has arrived is shown in TARGET and clears WATCHDOG; with no change and no force under way a higher target starts
a change by its voltage frame, a lower one by frequency steps, and its own level starts none; otherwise it waits. A watchdog sets WATCHDOG and asks in the same way for
the lower of the level and SAFE_LEVEL. A force that finds none under way moves the die to L0 at 400 MHz, sends the L0 voltage frame, sets the bit of its cause and
counts in FORCES. The end of the forces clears both bits and asks for the target that waits, or for TARGET. Completes (a next state is the conclusion): `levelTarget`,
`levelWatchdog`, `forceStart`, `forceEnd`. -/
def Obligations.LevelTargetsAndForces : Prop :=
  (∀ (s : State) (d i : Nat), d < 8 → i < 16 → (s.dieClk d).safe = false → (∃ p ∈ s.msgs, p.2.arrived = true ∧ p.2.kind = .level d i) → ∃ t, exec (.levelTarget d i) s = .next t ∧
    t.fld F.pwrDieStat_TARGET (R.pwrDieStat d) = i ∧ t.fld F.pwrDieStat_WATCHDOG (R.pwrDieStat d) = 0 ∧ t.mem = s.mem ∧
    s.asksLevel d i t) ∧
  (∀ (s : State) (d : Nat), d < 8 → (s.dieClk d).safe = false → ∃ t, exec (.levelWatchdog d) s = .next t ∧
    t.fld F.pwrDieStat_WATCHDOG (R.pwrDieStat d) = 1 ∧ t.mem = s.mem ∧
    s.asksLevel d (min (s.level d) (s.fld F.pwrCtrl_SAFE_LEVEL R.pwrCtrl)) t) ∧
  (∀ (s : State) (d : Nat) (c : ForceCause), d < 8 → (s.dieClk d).safe = false → ∃ t, exec (.forceStart d c) s = .next t ∧
    (c = .alert → t.fld F.pwrDieStat_ALERT (R.pwrDieStat d) = 1) ∧ (c = .tcrit → t.fld F.pwrDieStat_TCRIT (R.pwrDieStat d) = 1) ∧
    ((s.dieClk d).forces = [] → t.level d = 0 ∧ (t.dieClk d).freq = 400 ∧ t.posted = s.posted ++ [.avs d (s.voltMv d 0)] ∧
      t.fld F.pwrDroop_FORCES (R.pwrDroop d) = min 32767 (s.fld F.pwrDroop_FORCES (R.pwrDroop d) + 1)) ∧
    ((s.dieClk d).forces ≠ [] → t.posted = s.posted ∧ t.level d = s.level d) ∧ t.mem = s.mem) ∧
  (∀ (s : State) (d : Nat), d < 8 → (s.dieClk d).forces ≠ [] → ∃ t, exec (.forceEnd d) s = .next t ∧
    t.fld F.pwrDieStat_ALERT (R.pwrDieStat d) = 0 ∧ t.fld F.pwrDieStat_TCRIT (R.pwrDieStat d) = 0 ∧ (t.dieClk d).forces = [] ∧
    ((s.dieClk d).change ≠ none →
      (t.dieClk d).next = some (((s.dieClk d).next).getD (s.fld F.pwrDieStat_TARGET (R.pwrDieStat d)))) ∧ t.mem = s.mem)

/-- A frequency step of a change moves the die's clock towards the level's frequency by at most 25 MHz: it stops the model where an engine would then run above half the
mesh clock, and it waits while a droop detector is tripped. The step that reaches the goal of a raise ends the change at its level; that of a lowering sends the voltage
frame. A reached voltage of a raise without a regulator fault begins the steps; that of a lowering ends the change. A droop trip sets the die's DROOP and counts in
EVENTS, and the end of the last trip clears DROOP. Completes (a next state is the conclusion): `voltageReached`, `frequencyStep`, `droopTrip`, `droopClear`. Rests on
choices of the model: log 22, 28. -/
def Obligations.LevelStepsAndDroop : Prop :=
  (∀ (s : State) (d : Nat) (c : Change), d < 8 → (s.dieClk d).change = some c → c.stepping = true → (s.dieClk d).droops = [] →
    let g := if c.raise then min (levelMhz c.level) ((s.dieClk d).freq + 25) else max (levelMhz c.level) ((s.dieClk d).freq - 25)
    (s.meshMhz < 2 * s.topEngine d g → exec (.frequencyStep d) s = .fault .clockRatioUndefined) ∧
    (2 * s.topEngine d g ≤ s.meshMhz → ∃ t, exec (.frequencyStep d) s = .next t ∧ t.mem = s.mem ∧
      (g ≠ levelMhz c.level → (t.dieClk d).freq = g ∧ (t.dieClk d).change = some c ∧ t.posted = s.posted) ∧
      (g = levelMhz c.level → c.raise = false → (t.dieClk d).freq = g ∧
        (t.dieClk d).change = some { c with stepping := false, volt := true } ∧ t.posted = s.posted ++ [.avs d (s.voltMv d c.level)]) ∧
      (g = levelMhz c.level → c.raise = true → (s.dieClk d).next = none → c.level < 16 →
        (t.dieClk d).freq = g ∧ t.level d = c.level ∧ (t.dieClk d).change = none))) ∧
  (∀ (s : State) (d : Nat) (c : Change), d < 8 → (s.dieClk d).change = some c → (s.dieClk d).droops ≠ [] →
    exec (.frequencyStep d) s = .next s) ∧
  (∀ (s : State) (d : Nat) (c : Change), d < 8 → (s.dieClk d).change = some c → c.volt = true → ∃ t,
    exec (.voltageReached d false) s = .next t ∧ t.mem = s.mem ∧
    (c.raise = true → (t.dieClk d).change = some { c with volt := false, stepping := true } ∧ (t.dieClk d).droopRef = c.level) ∧
    (c.raise = false → (s.dieClk d).next = none → c.level < 16 → t.level d = c.level ∧ (t.dieClk d).change = none ∧
      t.fld F.pwrDieStat_CHANGING (R.pwrDieStat d) = 0)) ∧
  (∀ (s : State) (d : Nat) (c : Change), d < 8 → (s.dieClk d).change = some c → c.volt = true → (s.dieClk d).forces = [] → ∃ t,
    exec (.voltageReached d true) s = .next t ∧ t.level d = 0 ∧ (t.dieClk d).freq = 400 ∧ (t.dieClk d).forces = [.alert]) ∧
  (∀ (s : State) (d q : Nat), d < 8 → q < 4 → s.clk.pwrok = true → q ∉ (s.dieClk d).droops → ∃ t, exec (.droopTrip d q) s = .next t ∧
    q ∈ (t.dieClk d).droops ∧ t.fld F.pwrDieStat_DROOP (R.pwrDieStat d) = 1 ∧
    t.fld F.pwrDroop_EVENTS (R.pwrDroop d) = min 65535 (s.fld F.pwrDroop_EVENTS (R.pwrDroop d) + 1) ∧ t.mem = s.mem) ∧
  (∀ (s : State) (d q : Nat), d < 8 → q ∈ (s.dieClk d).droops → ∃ t, exec (.droopClear d q) s = .next t ∧
    q ∉ (t.dieClk d).droops ∧
    t.fld F.pwrDieStat_DROOP (R.pwrDieStat d) = (if (t.dieClk d).droops = [] then 0 else 1) ∧ t.mem = s.mem)

/-- A gate write sets each enable that it names, clears that of a block not in use, and refuses a 0 for a block in use, which keeps its enable and sets REFUSED. Telemetry
keeps the two powers and shows four temperatures. A clear of the droop counters makes both 0. A loop of the power manager shows each die's power and its thermal limit,
which falls by 1 at a limit temperature, rises by 1 five degrees below both, and stops at 15; a picot carries each die's target to it, every target of the first loop is
0, and CAP_UNMET is 1 only where every target is 0. Completes (a next state is the conclusion): `clkGateWrite`, `railTelemetry`, `powerLoop`, `pwrDroopClear`. Rests on
choices of the model: log 31. -/
def Obligations.PowerManagement : Prop :=
  (∀ (s : State) (d : Nat) (w : Word), d < 8 → s.regLive (R.clkGate d) = true → ∃ t, exec (.clkGateWrite d w) s = .next t ∧
    s.sameButRegs t ∧ s.keepsRegsBut [R.clkGate d] t ∧
    (Fbit F.clkGate_GMP w = true → t.fld F.clkGate_GMP (R.clkGate d) = 1) ∧
    (Fbit F.clkGate_GMP w = false → s.gmpState d = 0 → s.bit F.gmpCtrl_EN (R.gmpCtrl d) = false →
      t.fld F.clkGate_GMP (R.clkGate d) = 0) ∧
    (Fbit F.clkGate_GMP w = false → s.gmpState d ≠ 0 → s.bit F.clkGate_GMP (R.clkGate d) = true →
      t.fld F.clkGate_GMP (R.clkGate d) = 1 ∧ t.fld F.clkGate_REFUSED (R.clkGate d) = 1)) ∧
  (∀ (s : State) (d a b c0 c1 c2 c3 : Nat), d < 8 → c0 < 256 → c1 < 256 → c2 < 256 → c3 < 256 → s.clk.pwrok = true →
    ∃ t, exec (.railTelemetry d a b [c0, c1, c2, c3]) s = .next t ∧
    (t.dieClk d).cmpW = a ∧ (t.dieClk d).baseW = b ∧ t.fld F.pwrTemp_CMP_C (R.pwrTemp d) = c0 ∧ t.fld F.pwrTemp_BASE_C (R.pwrTemp d) = c1 ∧
    t.fld F.pwrTemp_STACK0_C (R.pwrTemp d) = c2 ∧ t.fld F.pwrTemp_STACK1_C (R.pwrTemp d) = c3 ∧ s.keepsRegsBut [R.pwrTemp d] t ∧
    t.mem = s.mem) ∧
  (∀ (s : State) (d : Nat), d < 8 → s.regLive (R.pwrDroop d) = true → ∃ t, exec (.pwrDroopClear d) s = .next t ∧
    t.fld F.pwrDroop_EVENTS (R.pwrDroop d) = 0 ∧ t.fld F.pwrDroop_FORCES (R.pwrDroop d) = 0 ∧ s.onlyRegs [R.pwrDroop d] t) ∧
  (∀ (s : State) (moved : List Nat), s.sec.dead = false → s.clk.pwrok = true → ∃ t, exec (.powerLoop moved) s = .next t ∧ t.mem = s.mem ∧
    (s.clk.firstLoop = true → t.clk.targets = List.replicate 8 0) ∧ t.clk.firstLoop = false ∧
    (t.fld F.pwrPkgStat_CAP_UNMET R.pwrPkgStat = 1 → ∀ x ∈ t.clk.targets, x = 0) ∧
    ∀ d, d < 8 → (∃ p ∈ t.msgs, p.2.kind = .level d (t.clk.targets.getD d 0) ∧ p.2.dst = d) ∧
      t.fld F.pwrDieStat_THERM_LIMIT (R.pwrDieStat d) = s.newLimit d ∧
      ((s.dieClk d).cmpW < 4096 → (s.dieClk d).baseW < 4096 →
        t.fld F.pwrDiePower_CMP_W (R.pwrDiePower d) = (s.dieClk d).cmpW ∧ t.fld F.pwrDiePower_BASE_W (R.pwrDiePower d) = (s.dieClk d).baseW))

/-- A device reset while PWROK is high ends every context, queue, event ring, hoop, roll, server and exchange, every transaction and every message, empties the engines, the
caches, the stacks and the toile, starts the clear of all sixteen channel sets, keeps STATE of every engine and every CLK and PWR register, leaves the channels out of
service so, zeroes the toile, answers configuration requests with Retry Status, and sends nothing out of the package. The end of the zeroing of the toile changes that
mark alone. A power-on reset does the same after every register has taken its reset value and starts the clocks of every die at the first row of R420. A recovery reset,
once the sources of every die have come back, does the same and keeps SRC_FAILS. Completes (a next state is the conclusion): `powerOnReset`, `deviceReset`,
`toileZeroEnd`, `recoveryReset`. Rests on choices of the model: log 24, 25. -/
def Obligations.PackageResets : Prop :=
  (∀ (s : State), s.clk.pwrok = true → (∀ c ∈ s.ras.chanOut, c < 1024) → (∀ p k, p < 8 → s.bondOf p = some k → k < 8) → ∃ t, exec .deviceReset s = .next t ∧ t.holdsNothing ∧ t.clk = s.clk ∧ t.posted = s.posted ∧
    (∀ o, 0x00B00000 ≤ o → o < 0x00D00000 → t.rd o = s.rd o) ∧
    (∀ e, e < 2048 → t.fld F.engStat_STATE (R.engStat e) = s.fld F.engStat_STATE (R.engStat e)) ∧
    (∀ h, h < 16 → t.rd (R.hoopStat h) = t.resetReg (R.hoopStat h)) ∧ t.mem.toileZeroing = true ∧ t.host.rrs = true ∧
    (∀ c ∈ s.ras.chanOut, t.chanState c = 3)) ∧
  (∀ (s : State), s.clk.pwrok = true → ∃ t, exec .toileZeroEnd s = .next t ∧ t = { s with mem := { s.mem with toileZeroing := false } }) ∧
  (∀ (s : State), ∃ t, exec .powerOnReset s = .next t ∧ t.holdsNothing ∧ t.clk = Clocks.start ∧
    (∀ o, 0x00B00000 ≤ o → o < 0x00D00000 → t.rd o = t.resetReg o)) ∧
  (∀ (s : State), s.clk.recovering = true → s.sourcesBack = true → ∃ t, exec .recoveryReset s = .next t ∧ t.holdsNothing ∧
    t.clk.recovering = false ∧ (∀ d, d < 8 → t.fld F.clkStat_SRC_FAILS (R.clkStat d) = s.fld F.clkStat_SRC_FAILS (R.clkStat d)) ∧
    (∀ o, 0x00C00000 ≤ o → o < 0x00D00000 → t.rd o = t.resetReg o))

/-- A reset of a virtual function marks it as being reset and stops its admin queue. When its contexts have been destroyed and its transfers have drained the reset ends:
the function is in reset no longer, its TDI and its MSI-X entries are as after a device reset, and its admin-queue enable reads 0; a drain that expires squashes the
transfers that are left. A reset of the physical function gives every HOOP and ROLL register its reset value and leaves no hoop's scheduler state. Completes (a next
state is the conclusion): `vfFunctionReset`, `vfDrainEnd`, `vfDrainExpiry`, `pfReset`. Rests on choices of the model: log 26, 27. -/
def Obligations.FunctionResets : Prop :=
  (∀ (s : State) (f : Nat), 1 ≤ f → f < 128 → s.clk.pwrok = true → s.inReset f = false → ∃ t, exec (.vfFunctionReset f) s = .next t ∧
    t.inReset f = true ∧ t.fld F.qfeFnAdmqCtrl_EN (R.qfeFnAdmqCtrl f) = 0 ∧ (t.adm f).cmd = none ∧ (t.adm f).held = []) ∧
  (∀ (s : State) (f : Nat), 1 ≤ f → f < 128 → s.inReset f = true → s.fnStopped f = true → s.fnTransfers f = [] →
    ∃ t, exec (.vfDrainEnd f) s = .next t ∧ t.inReset f = false ∧ t.tdi f = .unlocked ∧
      t.fld F.qfeFnAdmqCtrl_EN (R.qfeFnAdmqCtrl f) = 0) ∧
  (∀ (s : State) (f : Nat), 1 ≤ f → f < 128 → s.inReset f = true → s.fnStopped f = true → s.fnTransfers f ≠ [] →
    ∃ t, exec (.vfDrainExpiry f) s = .next t ∧ t.inReset f = false ∧ ∀ i ∈ s.fnTransfers f, t.txn? i = none) ∧
  (∀ (s : State) (n : Nat), s.clk.pwrok = true → ∃ t, exec (.pfReset n) s = .next t ∧ t.sched.hoops = [] ∧
    ∀ o, 0x00700000 ≤ o → o < 0x00800000 → t.rd o = t.resetReg o)

/-- A 32-bit write of the physical function to an unlocked register without a behaviour of its own changes that register alone: a bit that is W1S and written 1 reads 1, a
bit that is W1C and written 1 reads 0, an RW bit takes the written bit, every other bit keeps its value. A written wait limit is kept between 10 ms and 60,000 ms. An
access of another size or alignment changes no register but HIF_ERR_CNT, where BAD_SIZE rises by 1 up to its largest value, and a read of that kind completes with
zeros. Completes (a next state is the conclusion): `registerWrite`, `bar0BadAccess`. Rests on choices of the model: log 17. -/
def Obligations.RegisterWritesByFieldAccess : Prop :=
  (∀ (s : State) (off : Nat) (w : Word) (r : RegRow), s.barOpen 0 → s.plainReg off r → r.pair = 0 →
    ∃ t, exec (.registerWrite 0 off w) s = .next t ∧ s.onlyRegs [off] t ∧ ∀ i, i < 32 →
      (t.rd off).getLsbD i =
        (if r.w1s.getLsbD i && w.getLsbD i then true
         else if r.w1c.getLsbD i && w.getLsbD i then false
         else if r.rw.getLsbD i then w.getLsbD i else (s.rd off).getLsbD i)) ∧
  (∀ (s : State) (w : Word), s.barOpen 0 → s.regLive R.hifWaitLimit = true →
    ∃ t, exec (.registerWrite 0 R.hifWaitLimit w) s = .next t ∧ s.onlyRegs [R.hifWaitLimit] t ∧
      t.fld F.hifWaitLimit_LIMIT_MS R.hifWaitLimit = max 10 (min 60000 (Fget F.hifWaitLimit_LIMIT_MS w))) ∧
  (∀ (s : State) (fn off size : Nat) (wr : Bool), s.barDead fn = false → ¬(size = 4 ∧ off % 4 = 0) →
    ∃ t, exec (.bar0BadAccess fn off size wr) s = .next t ∧ s.keepsRegsBut [R.hifErrCnt] t ∧ t.mem = s.mem ∧
      t.fld F.hifErrCnt_BAD_SIZE R.hifErrCnt =
        min (2 ^ F.hifErrCnt_BAD_SIZE.len - 1) (s.fld F.hifErrCnt_BAD_SIZE R.hifErrCnt + 1) ∧
      t.posted = s.posted ++ (if wr then [] else [.completion fn (List.replicate size 0) false]))

/-- A read of the low half of a pair of the physical function other than CLK_COUNT returns it and captures the high half; the next read of the high half returns what was
captured, whatever the register has become, and uses it up. A write of the high half of a pair without a behaviour of its own commits both halves together, the low one
from its holding register. A write of a window, the queue groups or the hoop of a function whose TDI is locked or running moves that TDI to ERROR and stops its admin
queue, and, where the function has no context, leaves the register. Completes (a next state is the conclusion): `pairLoRead`, `pairHiWrite`, `tdiLockedWrite`,
`pairHiRead`. Rests on choices of the model: log 9, 82. -/
def Obligations.PairsAndLockedInterfaces : Prop :=
  (∀ (s : State) (off : Nat), s.barOpen 0 → off % 4 = 0 → barSpot 0 off = .reg off false → pairHalf off = 1 →
    rowOf (R.clkCountLo 0) 0x40 8 off = none → rowOf (R.clkCountHi 0) 0x40 8 off = none →
    ∃ t, exec (.pairLoRead 0 off) s = .next t ∧ t.posted = s.posted ++ [.completion 0 (leBytes 4 (s.look off).toNat) false] ∧
      SMap.get? t.capt off = some (s.look (off + 4)) ∧ s.onlyRegs [] { t with posted := s.posted }) ∧
  (∀ (s : State) (off : Nat) (w : Word), s.barOpen 0 → off % 4 = 0 → barSpot 0 off = .reg off false → pairHalf off = 2 →
    rowOf (R.clkCountLo 0) 0x40 8 off = none → rowOf (R.clkCountHi 0) 0x40 8 off = none → s.regLive off = true →
    SMap.get? s.capt (off - 4) = some w →
    ∃ t, exec (.pairHiRead 0 off) s = .next t ∧ t.posted = s.posted ++ [.completion 0 (leBytes 4 w.toNat) false] ∧
      SMap.get? t.capt (off - 4) = none ∧ s.onlyRegs [] { t with posted := s.posted }) ∧
  (∀ (s : State) (off : Nat) (w lo : Word) (r : RegRow), s.barOpen 0 → s.plainReg off r → r.pair = 2 → r.rw ≠ 0 → 4 ≤ off →
    SMap.get? s.hold (off - 4) = some lo →
    ∃ t, exec (.pairHiWrite 0 off w) s = .next t ∧ t.rd (off - 4) = lo ∧ t.rd off = (w &&& r.rw) ∧ s.onlyRegs [off - 4, off] t) ∧
  (∀ (s : State) (off f : Nat) (w : Word), s.barOpen 0 → off % 4 = 0 → barSpot 0 off = .reg off false → (regRow off).isSome →
    s.regLive off = true → tdiTarget off = some f → s.tdiHeld f = true →
    ∃ t, exec (.tdiLockedWrite 0 off w) s = .next t ∧ t.tdi f = .error ∧ t.fld F.qfeFnAdmqCtrl_EN (R.qfeFnAdmqCtrl f) = 0 ∧
      ((∀ p ∈ s.objs.ctxs, p.2.fn ≠ f) → t.rd off = s.rd off))

/-- For every state, function and offset of its BAR0 that names no register, or a register of a block whose clock is gated, a read returns zero and a write leaves the whole
state as it was. Completes (a next state is the conclusion): `registerWrite`. -/
def Obligations.NoRegisterReadsZeroIgnoresWrites : Prop :=
  ∀ (s : State) (fn off : Nat),
    (barSpot fn off = .nothing ∨ ∃ r ro, barSpot fn off = .reg r ro ∧ (regRow r = none ∨ s.gated r = true)) →
    (s.barRead fn off).1 = 0 ∧ ∀ w, exec (.registerWrite fn off w) s = .next s

/-- Setting EN of a link starts its training, in STATE 1, or in STATE 3 until it has trained. Training whose scan leaves 20 bundles or more, with a delay of 48 to 56 root
cycles, brings the link up with its width, spares and delay shown; no bundle and no spare wire comes back. Training that does not end in time declares the link failed:
STATE 3, no training, and every transaction that a flit of its replay buffer carries on a channel other than the picots' is answered with STAT_LINK_FAILED. Clearing EN
takes the link to STATE 0, but a failed one stays in STATE 3. A written RETRAIN of a link that is up starts its retraining. A clear of the error counters makes both 0
and changes nothing else. Completes (a next state is the conclusion): `linkEnable`, `linkDisable`, `linkRetrainRequest`, `mshLinkErrClear`, `linkTrained`,
`linkTrainTimeout`. Rests on choices of the model: log 5. -/
def Obligations.LinkTrainingAndFailure : Prop :=
  (∀ (s : State) (l : Nat) (w : Word), l < 10 → s.regLive (R.mshLinkCtrl l) = true → Fbit F.mshLinkCtrl_EN w = true →
    s.bit F.mshLinkCtrl_EN (R.mshLinkCtrl l) = false → ∃ t, exec (.linkEnable l w) s = .next t ∧
    t.bit F.mshLinkCtrl_EN (R.mshLinkCtrl l) = true ∧ l ∈ t.mesh.training ∧ t.linkState l = (if s.linkState l = 3 then 3 else 1) ∧
    s.keepsRegsBut [R.mshLinkCtrl l, R.mshLinkStat l] t ∧ t = { s with regs := t.regs, mesh := t.mesh }) ∧
  (∀ (s : State) (l d : Nat) (c : LinkScan), l < 10 → s.bit F.mshLinkCtrl_EN (R.mshLinkCtrl l) = true → s.linkState l = 1 →
    20 ≤ (s.putScan l c).bundlesOn l → 48 ≤ d → d ≤ 56 →
    s.inTest (linkEnds l).1 = false → s.inTest (linkEnds l).2 = false → ∃ t, exec (.linkTrained l d c) s = .next t ∧
    t.linkState l = 2 ∧ l ∉ t.mesh.training ∧ t.fld F.mshLinkStat_BUNDLES (R.mshLinkStat l) = t.bundlesOn l ∧
    t.fld F.mshLinkStat_SPARES_LO (R.mshLinkStat l) = t.sparesIn l 0 ∧ t.fld F.mshLinkStat_SPARES_HI (R.mshLinkStat l) = t.sparesIn l 1 ∧
    t.bundlesOn l ≤ s.bundlesOn l ∧ (∀ dir b, s.wiresOut l dir b ≤ t.wiresOut l dir b) ∧
    t.fld F.mshLinkDelay_DELAY (R.mshLinkDelay l) = d ∧ s.keepsRegsBut [R.mshLinkStat l, R.mshLinkDelay l] t) ∧
  (∀ (s : State) (l : Nat), l < 10 → s.clk.pwrok = true → s.bit F.mshLinkCtrl_EN (R.mshLinkCtrl l) = true → s.linkState l = 1 →
    ∃ t, exec (.linkTrainTimeout l) s = .next t ∧ t.linkState l = 3 ∧ l ∉ t.mesh.training ∧ t.mem.cells = s.mem.cells ∧
    ∀ p ∈ s.mesh.flits, p.2.link = some l → p.2.vc ≠ .picot → ∀ i, p.2.cargo = .txn i → (s.txn? i).isSome →
      (t.txn? i).map (·.status) = some 0x40) ∧
  (∀ (s : State) (l : Nat) (w : Word), l < 10 → s.regLive (R.mshLinkCtrl l) = true → Fbit F.mshLinkCtrl_EN w = false →
    s.bit F.mshLinkCtrl_EN (R.mshLinkCtrl l) = true → ∃ t, exec (.linkDisable l w) s = .next t ∧
    t.bit F.mshLinkCtrl_EN (R.mshLinkCtrl l) = false ∧ t.linkState l = (if s.linkState l = 3 then 3 else 0) ∧ t.mem = s.mem) ∧
  (∀ (s : State) (l : Nat) (w : Word), l < 10 → s.regLive (R.mshLinkCtrl l) = true → Fbit F.mshLinkCtrl_RETRAIN w = true →
    s.linkState l = 2 → ∃ t, exec (.linkRetrainRequest l w) s = .next t ∧ t.bit F.mshLinkCtrl_RETRAIN (R.mshLinkCtrl l) = true ∧
    l ∈ t.mesh.training ∧ t.linkState l = 2 ∧ s.keepsRegsBut [R.mshLinkCtrl l] t) ∧
  (∀ (s : State) (l : Nat), l < 10 → s.regLive (R.mshLinkErr l) = true → ∃ t, exec (.mshLinkErrClear l) s = .next t ∧
    t.rd (R.mshLinkErr l) = 0 ∧ s.onlyRegs [R.mshLinkErr l] t)

/-- A CRC error on a link that is up and not retraining is counted; the fourth failure of one slot group, in its direction, starts a retraining and counts in REPLAY_FAIL. A
bundle at its threshold starts a retraining. A retraining that leaves 20 bundles or more returns the link to service at that width, one that leaves fewer declares it
failed. The active Winder's routes follow the best edges, which are the row-first ones where every link may be used. A flit that holds a credit, is granted and waits
first leaves at its stop, goes to the next router's input, into a link's replay buffer or across the link, in the detour set where the route says so; an error of one
bit changes nothing of that, and an error of two bits inside a die marks it poisoned and is counted. Completes (a next state is the conclusion): `linkCrcErrorReplay`,
`bundleErrorThreshold`, `linkRetrainEnd`, `routeRecompute`, `meshFlitForward`. Rests on choices of the model: log 34, 35, 36, 56, 123, 124, 135, 136. -/
def Obligations.LinkErrorsRoutesAndFlits : Prop :=
  (∀ (s : State) (l g b n key : Nat) (low again : Bool), l < 10 → g < 64 → b < 25 → s.linkState l = 2 → l ∉ s.mesh.training →
    key = 64 * (2 * l + if low then 0 else 1) + g → n = (if again then SMap.getD s.mesh.groupFails key 0 + 1 else 1) →
    ∃ t, exec (.linkCrcErrorReplay l low g b again) s = .next t ∧ t.linkState l = 2 ∧ t.mem = s.mem ∧
    t.fld F.mshLinkErr_CRC_ERR (R.mshLinkErr l) =
      min (2 ^ F.mshLinkErr_CRC_ERR.len - 1) (s.fld F.mshLinkErr_CRC_ERR (R.mshLinkErr l) + 1) ∧
    (n < 4 → l ∉ t.mesh.training ∧ SMap.getD t.mesh.groupFails key 0 = n) ∧
    (4 ≤ n → l ∈ t.mesh.training ∧ t.bit F.mshLinkCtrl_RETRAIN (R.mshLinkCtrl l) = true ∧
      t.fld F.mshLinkErr_REPLAY_FAIL (R.mshLinkErr l) =
        min (2 ^ F.mshLinkErr_REPLAY_FAIL.len - 1) (s.fld F.mshLinkErr_REPLAY_FAIL (R.mshLinkErr l) + 1))) ∧
  (∀ (s : State) (l b : Nat), l < 10 → b < 25 → s.linkState l = 2 → s.fld F.mshLinkCtrl_SWAP_THRESH (R.mshLinkCtrl l) ≠ 0 →
    s.fld F.mshLinkCtrl_SWAP_THRESH (R.mshLinkCtrl l) ≤ SMap.getD s.mesh.bundleErrs (32 * l + b) 0 →
    ∃ t, exec (.bundleErrorThreshold l b) s = .next t ∧ l ∈ t.mesh.training ∧ t.bit F.mshLinkCtrl_RETRAIN (R.mshLinkCtrl l) = true) ∧
  (∀ (s : State) (l : Nat) (c : LinkScan), l < 10 → l ∈ s.mesh.training → s.linkState l = 2 →
    ∃ t, exec (.linkRetrainEnd l c) s = .next t ∧ l ∉ t.mesh.training ∧
    t.linkState l = (if t.bundlesOn l < 20 then 3 else 2) ∧ t.fld F.mshLinkStat_BUNDLES (R.mshLinkStat l) = t.bundlesOn l ∧
    t.bundlesOn l ≤ s.bundlesOn l ∧ (∀ dir b, s.wiresOut l dir b ≤ t.wiresOut l dir b) ∧ t.bit F.mshLinkCtrl_RETRAIN (R.mshLinkCtrl l) = false) ∧
  (∀ (s : State), s.clk.pwrok = true → ∃ t, exec .routeRecompute s = .next t ∧ s.onlyRegs ((List.range 8).map R.mshRoute) t ∧
    ∀ d k, d < 8 → k < 8 → t.edge d k = s.bestEdge d k ∧ ((∀ l, l < 10 → s.linkUsable l = true) → t.edge d k = rowFirst d k)) ∧
  (∀ (s : State) (i : Nat) (f : Flit) (e : CodeError), SMap.get? s.mesh.flits i = some f → s.runs f.die = true → s.hasCredit f = true → s.granted f = true →
    s.isHead f = true → ∃ t, exec (.meshFlitForward i e) s = .next t ∧ t.mem.cells = s.mem.cells ∧
    (e ≠ .double ∨ f.link ≠ none →
      (∀ r c p, s.hopOf f = .router r c p →
        ∃ g, SMap.get? t.mesh.flits i = some g ∧ g = { s.onRoute f with row := r, col := c, port := p, since := g.since }) ∧
      (∀ l, s.hopOf f = .enter l →
        ∃ g, SMap.get? t.mesh.flits i = some g ∧ g = { s.onRoute f with link := some l, slot := g.slot, since := g.since }) ∧
      (∀ d r c p, s.hopOf f = .arrive d r c p →
        ∃ g, SMap.get? t.mesh.flits i = some g ∧ g = { f with die := d, row := r, col := c, port := p, link := none, since := g.since }) ∧
      (∀ j x, s.hopOf f = .leave → f.vc ≠ .picot → f.cargo = .txn j → s.txn? j = some x → x.stage ≠ .host → x.stage ≠ .port →
        SMap.get? t.mesh.flits i = none ∧ ∃ y, t.txn? j = some y ∧ y.moving = false ∧
          y.poison = (if f.poison then x.poison ||| x.secs else x.poison) ∧ y.data = x.data ∧ y.stage = x.stage)) ∧
    (e = .double → f.link = none → SMap.getD t.mesh.poisoned f.die 0 = SMap.getD s.mesh.poisoned f.die 0 + 1 ∧
      ∀ r c p, s.hopOf f = .router r c p → ∃ g, SMap.get? t.mesh.flits i = some g ∧
        g = { s.onRoute f with row := r, col := c, port := p, since := g.since, poison := true }))

/-- A write that changes MODE of a die to a mode that is not reserved takes effect while debug is unlocked and every link that ends at the die has EN at 0 and STATE at 0;
otherwise MODE keeps its value and REFUSED is set. On a die in test mode a written START starts the pattern and clears the results; the end of the pattern clears START,
sets DONE, and shows PASS, the errors up to 65,535 and the first bad bundle. Completes (a next state is the conclusion): `mshTestModeWrite`, `mshTestStart`,
`mshTestPatternEnd`. Rests on choices of the model: log 125, 126. -/
def Obligations.MeshTestMode : Prop :=
  (∀ (s : State) (d : Nat) (w : Word), d < 8 → s.regLive (R.mshTestCtrl d) = true → Fget F.mshTestCtrl_MODE w ≠ 3 →
    Fget F.mshTestCtrl_MODE w ≠ s.fld F.mshTestCtrl_MODE (R.mshTestCtrl d) →
    ∃ t, exec (.mshTestModeWrite d w) s = .next t ∧ s.onlyRegs [R.mshTestCtrl d, R.mshTestStat d] t ∧
    (s.bit F.secStat_DEBUG R.secStat = true ∧
        (∀ l ∈ linksOf d, s.bit F.mshLinkCtrl_EN (R.mshLinkCtrl l) = false ∧ s.linkState l = 0) →
      t.fld F.mshTestCtrl_MODE (R.mshTestCtrl d) = Fget F.mshTestCtrl_MODE w) ∧
    (¬(s.bit F.secStat_DEBUG R.secStat = true ∧
        (∀ l ∈ linksOf d, s.bit F.mshLinkCtrl_EN (R.mshLinkCtrl l) = false ∧ s.linkState l = 0)) →
      t.fld F.mshTestCtrl_MODE (R.mshTestCtrl d) = s.fld F.mshTestCtrl_MODE (R.mshTestCtrl d) ∧
      t.bit F.mshTestStat_REFUSED (R.mshTestStat d) = true)) ∧
  (∀ (s : State) (d : Nat) (w : Word), d < 8 → s.regLive (R.mshTestCtrl d) = true → Fbit F.mshTestCtrl_START w = true →
    s.inTest d = true → s.bit F.mshTestCtrl_START (R.mshTestCtrl d) = false →
    ∃ t, exec (.mshTestStart d w) s = .next t ∧ t.bit F.mshTestCtrl_START (R.mshTestCtrl d) = true ∧
    t.bit F.mshTestStat_DONE (R.mshTestStat d) = false ∧ t.fld F.mshTestStat_ERRORS (R.mshTestStat d) = 0 ∧
    s.onlyRegs [R.mshTestCtrl d, R.mshTestStat d] t) ∧
  (∀ (s : State) (d e b : Nat), d < 8 → s.bit F.mshTestCtrl_START (R.mshTestCtrl d) = true →
    ∃ t, exec (.mshTestPatternEnd d e b) s = .next t ∧ t.bit F.mshTestCtrl_START (R.mshTestCtrl d) = false ∧
    t.bit F.mshTestStat_DONE (R.mshTestStat d) = true ∧ t.bit F.mshTestStat_PASS (R.mshTestStat d) = decide (e = 0) ∧
    t.fld F.mshTestStat_ERRORS (R.mshTestStat d) = min e 65535 ∧
    t.fld F.mshTestStat_BUNDLE (R.mshTestStat d) = (if e = 0 then 0 else b % 32) ∧ s.onlyRegs [R.mshTestCtrl d, R.mshTestStat d] t)

/-- An integer operation, a multiply or a lane exchange that issues writes its destination in every active lane with the result of that lane's sources, goes on to the next
instruction, and changes nothing else: no flag, no other register, no other group, no byte of memory, no register of the device. Register 255 takes nothing and reads 0
in every lane. A register number from N to 254 names no register: the instruction faults, in the name of the lowest active lane. The results are the low 32 bits of the
exact ones, shifts use five bits of their amount, and comparisons give the two values that the part uses for true and false. Completes (a next state is the conclusion):
`i32Simple`, `i32Multiply`, `laneExchange`. Rests on choices of the model: log 7, 11, 12, 13, 131, 132. -/
def Obligations.LaneArithmetic : Prop :=
  (∀ (s : State) (e g opc rd : Nat) (op : I32Op) (a b : Src) (u : Group),
    s.mayIssue e g opc (rd :: selReg op ++ srcRegs a ++ srcRegs b) u → ∃ t, exec (.i32Simple e g opc op rd a b) s = .next t ∧
    s.writesLanes e g rd u (fun l => i32Op op (u.src a l) (u.src b l) (u.reg ((selReg op).headD 255) l)) t) ∧
  (∀ (s : State) (e g opc rd : Nat) (a b c : Src) (u : Group),
    s.mayIssue e g opc (rd :: srcRegs a ++ srcRegs b ++ srcRegs c) u → ∃ t, exec (.i32Multiply e g opc rd a b (some c)) s = .next t ∧
    s.writesLanes e g rd u (fun l => BitVec.ofNat 32 ((u.src a l).toNat * (u.src b l).toNat + (u.src c l).toNat)) t) ∧
  (∀ (s : State) (e g opc rd : Nat) (a b : Src) (u : Group),
    s.mayIssue e g opc (rd :: srcRegs a ++ srcRegs b) u → ∃ t, exec (.i32Multiply e g opc rd a b none) s = .next t ∧
    s.writesLanes e g rd u (fun l => BitVec.ofNat 32 ((u.src a l).toNat * (u.src b l).toNat)) t) ∧
  (∀ (s : State) (e g opc rd ra : Nat) (op : LaneOp) (b : Src) (u : Group),
    s.mayIssue e g opc (rd :: ra :: srcRegs b) u → ∃ t, exec (.laneExchange e g opc op rd ra b) s = .next t ∧
    s.writesLanes e g rd u (laneOp u op ra b) t) ∧
  (∀ (u : Group) (l : Nat), u.reg 255 l = 0) ∧
  (∀ (s : State) (e g opc rd : Nat) (op : I32Op) (a b : Src) (u : Group), s.fetched e g opc u →
    (∃ r, r ∈ rd :: selReg op ++ srcRegs a ++ srcRegs b ∧ r ≠ 255 ∧ u.n ≤ r) → ∃ t, exec (.i32Simple e g opc op rd a b) s = .next t ∧
    s.faultTaken e g u.lane0 0x05 2 u.pc.toNat u t) ∧
  (∀ a b c : Word, (i32Op .add a b c).toNat = (a.toNat + b.toNat) % 2 ^ 32 ∧
    (i32Op .sub a b c).toNat = (2 ^ 32 + a.toNat - b.toNat) % 2 ^ 32 ∧
    (i32Op .shl a b c).toNat = a.toNat * 2 ^ (b.toNat % 32) % 2 ^ 32 ∧ (i32Op .shr a b c).toNat = a.toNat / 2 ^ (b.toNat % 32) ∧
    (i32Op .sar a b c).toInt = a.toInt / 2 ^ (b.toNat % 32) ∧
    i32Op (.cmp .lts) a b c = (if a.toInt < b.toInt then Config.cmpTrue else Config.cmpFalse) ∧
    i32Op (.cmp .geu) a b c = (if b.toNat ≤ a.toNat then Config.cmpTrue else Config.cmpFalse))

/-- A conditional branch jumps where no active lane stays, falls through where none branches, and otherwise runs the lanes that branch and keeps the others in the top entry
of the stack, where that waits at this reconvergence address for the next instruction, or in a new entry; a push onto 32 entries faults, and a target that is not a
multiple of 8 does. A JOIN runs the pending path of a top entry that waits at its address, or reconverges and pops it, going on as EXIT does where no lane is left; with
no matching entry it acts as a no-operation. EXIT ends the active lanes: with lanes left the group continues at the top entry's reconvergence address, and otherwise it
ends with its flags kept for the launch. A jump goes to its target. Nothing else changes. Completes (a next state is the conclusion): `conditionalBranch`, `join`,
`exit`, `jump`. Rests on choices of the model: log 7, 8, 132, 133. -/
def Obligations.ControlFlow : Prop :=
  (∀ (s : State) (e g opc : Nat) (c : Mask32) (to_ rpc : VAddr) (u : Group), s.mayIssue e g opc [] u → to_.toNat % 8 = 0 →
    u.stack.length ≤ 32 →
    let k := u.active &&& c
    let f := u.active &&& ~~~c
    (f = 0 → ∃ t, exec (.conditionalBranch e g opc c to_ rpc) s = .next t ∧ s.setsGroup e g { u with pc := to_, krec := none } t) ∧
    (f ≠ 0 → k = 0 → ∃ t, exec (.conditionalBranch e g opc c to_ rpc) s = .next t ∧
      s.setsGroup e g { u with pc := u.pc + 8, krec := none } t) ∧
    (f ≠ 0 → k ≠ 0 → ∀ top r, u.stack = top :: r → top.rpc = rpc → top.ppc = u.pc + 8 →
      ∃ t, exec (.conditionalBranch e g opc c to_ rpc) s = .next t ∧ s.setsGroup e g
        { u with active := k, pc := to_, krec := none, stack := { top with pmask := top.pmask ||| f } :: r } t) ∧
    (f ≠ 0 → k ≠ 0 → (∀ top, u.stack.head? = some top → ¬(top.rpc = rpc ∧ top.ppc = u.pc + 8)) →
      (u.stack.length < 32 → ∃ t, exec (.conditionalBranch e g opc c to_ rpc) s = .next t ∧ s.setsGroup e g
        { u with active := k, pc := to_, krec := none,
                 stack := { rpc := rpc, saved := u.active, ppc := u.pc + 8, pmask := f } :: u.stack } t) ∧
      (u.stack.length = 32 → ∃ t, exec (.conditionalBranch e g opc c to_ rpc) s = .next t ∧
        s.faultTaken e g u.lane0 0x08 0 u.pc.toNat u t))) ∧
  (∀ (s : State) (e g opc : Nat) (u : Group), s.mayIssue e g opc [] u →
    (∀ top r, u.stack = top :: r → top.rpc = u.pc → top.pmask ≠ 0 → top.ppc ≠ u.pc → ∃ t, exec (.join e g opc) s = .next t ∧
      s.setsGroup e g { u with active := top.pmask, pc := top.ppc, krec := none, stack := { top with pmask := 0 } :: r } t) ∧
    (∀ top r, u.stack = top :: r → top.rpc = u.pc → (top.pmask = 0 ∨ top.ppc = u.pc) → top.saved ≠ 0 →
      ∃ t, exec (.join e g opc) s = .next t ∧ s.setsGroup e g { u with active := top.saved, pc := u.pc + 8, krec := none, stack := r } t) ∧
    (∀ top next r, u.stack = top :: next :: r → top.rpc = u.pc → (top.pmask = 0 ∨ top.ppc = u.pc) → top.saved = 0 →
      ∃ t, exec (.join e g opc) s = .next t ∧ s.setsGroup e g { u with active := 0, pc := next.rpc, krec := none, stack := next :: r } t) ∧
    (∀ top, u.stack = [top] → top.rpc = u.pc → (top.pmask = 0 ∨ top.ppc = u.pc) → top.saved = 0 → u.busy = [] →
      ∃ t, exec (.join e g opc) s = .next t ∧ t.grp? e g = none ∧ t.mem = s.mem) ∧
    ((∀ top, u.stack.head? = some top → top.rpc ≠ u.pc) → ∃ t, exec (.join e g opc) s = .next t ∧
      s.setsGroup e g { u with pc := u.pc + 8, krec := none } t)) ∧
  (∀ (s : State) (e g opc : Nat) (u : Group), s.mayIssue e g opc [] u →
    (∀ top r, u.stack = top :: r → ∃ t, exec (.exit e g opc) s = .next t ∧ s.setsGroup e g
      { u with active := 0, pc := top.rpc, krec := none,
               stack := u.stack.map (fun x => { x with saved := x.saved &&& ~~~u.active, pmask := x.pmask &&& ~~~u.active }) } t) ∧
    (u.stack = [] → u.busy = [] → ∃ t, exec (.exit e g opc) s = .next t ∧ t.grp? e g = none ∧ t.mem = s.mem ∧ t.regs = s.regs ∧
      (t.share? e u.queue).map (·.aflags) = (s.share? e u.queue).map (fun h => h.aflags ||| u.aflags))) ∧
  (∀ (s : State) (e g opc : Nat) (to_ : VAddr) (u : Group), s.mayIssue e g opc [] u →
    (to_.toNat % 8 = 0 → ∃ t, exec (.jump e g opc to_) s = .next t ∧ s.setsGroup e g { u with pc := to_, krec := none } t) ∧
    (to_.toNat % 8 ≠ 0 → ∃ t, exec (.jump e g opc to_) s = .next t ∧ s.faultTaken e g u.lane0 0x04 0xFF to_.toNat u t))

/-- A special read writes the lane number, the group slot, the engine, the die's counter, the token register or AFLAGS. A clear of AFLAGS clears the named bits of the five.
A trap faults its context with its 16-bit code. The fault picot has the launching front end stop the context on every engine that holds something of it. The end of a
drain frees what the context held there. A written 1 clears VALID and LOST of the engine's syndrome and changes nothing else. Completes (a next state is the
conclusion): `specialRead`, `aflagsClear`, `trap`, `faultPicotArrive`, `faultDrainEnd`, `engFaultClear`. Rests on choices of the model: log 9. -/
def Obligations.FlagsTrapsAndSyndromes : Prop :=
  (∀ (s : State) (e g opc rd : Nat) (w : Special) (u : Group), s.mayIssue e g opc [rd] u → ∃ t, exec (.specialRead e g opc w rd) s = .next t ∧
    t = { s with engs := t.engs, clk := t.clk, free := t.free } ∧ (∀ k, k ≠ e → t.eng k = s.eng k) ∧
    (∀ k, k ≠ g → t.grp? e k = s.grp? e k) ∧ ∃ v, t.grp? e g = some v ∧
    u.wrote rd (fun l => match w with
      | .lane => BitVec.ofNat 32 l
      | .slot => BitVec.ofNat 32 g
      | .engine => BitVec.ofNat 32 e
      | .counterLo => BitVec.ofNat 32 (t.count (e / 256))
      | .counterHi => BitVec.ofNat 32 (t.count (e / 256) / 2 ^ 32)
      | .ftr => BitVec.ofNat 32 u.ftr
      | .aflags => u.aflags) v) ∧
  (∀ (s : State) (e g opc m : Nat) (u : Group), s.mayIssue e g opc [] u → m < 32 → ∃ t, exec (.aflagsClear e g opc m) s = .next t ∧
    s.setsGroup e g { u with pc := u.pc + 8, krec := none, aflags := u.aflags &&& ~~~(BitVec.ofNat 32 m) } t) ∧
  (∀ (s : State) (e g opc c : Nat) (u : Group), s.mayIssue e g opc [] u → c < 65536 → ∃ t, exec (.trap e g opc c) s = .next t ∧
    s.faultTaken e g u.lane0 0x0F c u.pc.toNat u t) ∧
  (∀ (s : State) (m c q k e : Nat) (x : Msg) (y : Ctx), s.msg? m = some x → x.kind = .fault c q k → x.arrived = true →
    s.ctx? c = some y → y.fault.isSome = true → (∃ n, (e, n) ∈ s.engs ∧ n.holdsCtx c = true) →
    ∃ t, exec (.faultPicotArrive m) s = .next t ∧ t.msg? m = none ∧ c ∈ (t.eng e).draining) ∧
  (∀ (s : State) (e c : Nat), c ∈ (s.eng e).draining → s.drained e c = true → ∃ t, exec (.faultDrainEnd e c) s = .next t ∧
    t = { s with engs := t.engs } ∧ (∀ k, k ≠ e → t.eng k = s.eng k) ∧ c ∉ (t.eng e).draining ∧
    (∀ g u, s.grp? e g = some u → u.ctx ≠ c → t.grp? e g = some u) ∧ ∀ g u, t.grp? e g = some u → u.ctx ≠ c) ∧
  (∀ (s : State) (e : Nat), engineId e = true → s.regLive (R.engFault e) = true → ∃ t, exec (.engFaultClear e) s = .next t ∧
    t.bit F.engFault_VALID (R.engFault e) = false ∧ t.fld F.engFaultCnt_LOST (R.engFaultCnt e) = 0 ∧
    t.fld F.engFault_CODE (R.engFault e) = s.fld F.engFault_CODE (R.engFault e) ∧ s.onlyRegs [R.engFault e, R.engFaultCnt e] t)

/-- A load that issues, with every active lane's address good, no store or atomic of the engine to its sectors outstanding and tags free, gives each lane whose sector the
L1 holds its zero-extended value, and asks for each other sector once, or for all of them where it is an acquire of die scope or wider; the registers that wait for one
are unavailable. A store asks that each sector take the bytes of its lanes, of several lanes at one place those of any one. An atomic sends one request to each line,
with the operands of its lanes, and drops the L1's copy of the line. Each goes on to the next instruction; no byte of memory, no register of the device, no other group
and no other engine changes. A lane's address that is not a multiple of the size faults in the lowest such lane, and so does one whose bytes the L1 holds poisoned,
before anything is asked. Completes (a next state is the conclusion): `load`, `store`, `atomic`. Rests on choices of the model: log 7, 39, 129, 132. -/
def Obligations.LaneAccesses : Prop :=
  (∀ (s : State) (e g opc size scope rd : Nat) (acq past : Bool) (addrs : List VAddr) (u : Group) (ls : List (Nat × Leaf × Mobj × Nat)),
    s.mayIssue e g opc [] u → sizeBad u rd size = 0 → (acq = true → scope ≤ 4) → u.free (sizeRegs rd size) = true →
    s.laneAddrs e g u.ctx size .read addrs (lanesOf u.active) = .ok ls →
    (∀ x ∈ sectorsOf ls, s.storeOut e x.1 x.2.1 x.2.2 = false) → past = (acq && decide (2 ≤ scope)) →
    let asks := (sectorsOf ls).filter (fun x => past || (s.l1Sec e u.ctx x.1 (x.2.1 + 32 * x.2.2)).isNone)
    s.sectorsOut e + asks.length ≤ 256 → s.groupSectorsOut e g + asks.length ≤ 128 →
    (past = true ∨ s.l1Bad e u.ctx size ls = none → ∃ t, exec (.load e g opc size acq scope rd addrs) s = .next t ∧ s.onlyAccess e g t ∧
      ∃ v, t.grp? e g = some v ∧ v.pc = u.pc + 8 ∧ v.active = u.active ∧ v.aflags = u.aflags ∧
      (∀ r l, r ∉ sizeRegs rd size → l < 32 → v.reg r l = u.reg r l) ∧
      (∀ y ∈ ls, past = true ∨ s.l1Sec e u.ctx y.2.1.space y.2.2.2 = none →
        t.asked e g .read y.2.1.space (lineOf y.2.2.2) (2 ^ (y.2.2.2 % 128 / 32)) ∧ ∀ r ∈ sizeRegs rd size, r ∈ v.busy) ∧
      (∀ y ∈ ls, ∀ c, s.l1Sec e u.ctx y.2.1.space y.2.2.2 = some c → past = false → rd ≠ 255 →
        let b := cut (zeros (32 * (y.2.2.2 % 128 / 32)) ++ c.data) (y.2.2.2 % 128) (2 ^ size)
        (size ≤ 2 → v.reg rd y.1 = BitVec.ofNat 32 (leNat b)) ∧
        (3 ≤ size → ∀ i, i < 2 ^ size / 4 → rd + i < 255 → v.reg (rd + i) y.1 = BitVec.ofNat 32 (numAt b (4 * i) 4)))) ∧
    (∀ b, past = false → s.l1Bad e u.ctx size ls = some b → ∃ t, exec (.load e g opc size acq scope rd addrs) s = .next t ∧
      (∀ i, s.txn? i = none → t.txn? i = none) ∧ s.faultTaken e g b.1 0x09 0 b.2 u t)) ∧
  (∀ (s : State) (e g opc size scope rs : Nat) (rel : Bool) (addrs : List VAddr) (u : Group) (ls : List (Nat × Leaf × Mobj × Nat)),
    s.mayIssue e g opc [] u → sizeBad u rs size = 0 → (rel = true → scope ≤ 4 ∧ s.releaseDone e g scope = true) →
    u.free (sizeRegs rs size) = true → s.laneAddrs e g u.ctx size .store addrs (lanesOf u.active) = .ok ls →
    s.sectorsOut e + (sectorsOf ls).length ≤ 256 → s.groupSectorsOut e g + (sectorsOf ls).length ≤ 128 →
    ∃ t, exec (.store e g opc size rel scope rs addrs) s = .next t ∧ s.onlyAccess e g t ∧
      t.grp? e g = some { u with pc := u.pc + 8, krec := none } ∧
      ∀ x ∈ sectorsOf ls, ∃ i y, t.txn? i = some y ∧ y.issuer = .lane e g ∧ y.op = .store ∧ y.space = x.1 ∧ y.addr = x.2.1 ∧
        y.secs = 2 ^ x.2.2 ∧ (y.data, y.mask) = lineStore i u rs size (ls.filter (fun z =>
          z.2.1.space = x.1 && lineOf z.2.2.2 = x.2.1 && z.2.2.2 % 128 / 32 = x.2.2))) ∧
  (∀ (s : State) (e g opc aop size order scope rd rs rt : Nat) (addrs : List VAddr) (u : Group) (ls : List (Nat × Leaf × Mobj × Nat)),
    s.mayIssue e g opc [] u → aop ≤ 6 → size ≤ 4 → (order ≠ 0 → scope ≤ 4) → aopSizeOk aop size = true → u.owns (aopRegs aop size rd rs rt) = true →
    u.free (aopRegs aop size rd rs rt) = true → u.owns (u.a48Source aop rs rt) = true → u.free (u.a48Source aop rs rt) = true → (2 ≤ order → s.releaseDone e g scope = true) →
    s.laneAddrs e g u.ctx size .atomic addrs (lanesOf u.active) = .ok ls →
    (∀ y ∈ ls, y.2.1.space ≠ .toile ∧ (y.2.1.space = .host → aop = 0 ∨ aop = 3 ∨ aop = 4)) →
    s.atomicsOut e + (ls.map (fun y => (y.2.1.space, lineOf y.2.2.2))).eraseDups.length ≤ 64 →
    s.groupAtomicsOut e g + (ls.map (fun y => (y.2.1.space, lineOf y.2.2.2))).eraseDups.length ≤ 32 →
    ∃ t, exec (.atomic e g opc aop size order scope rd rs rt addrs) s = .next t ∧ s.onlyAccess e g t ∧
      (t.grp? e g).map (·.pc) = some (u.pc + 8) ∧
      ∀ z ∈ ls, (∀ c, (t.eng e).l1Find c z.2.1.space (lineOf z.2.2.2) = none) ∧
        ∃ i y, t.txn? i = some y ∧ y.issuer = .lane e g ∧ y.op = .atomic aop size ∧ y.space = z.2.1.space ∧ y.addr = lineOf z.2.2.2 ∧
          y.lanes = (ls.filter (fun x => x.2.1.space = z.2.1.space && lineOf x.2.2.2 = lineOf z.2.2.2)).map (fun x =>
            laneReq u aop size rd rs rt x.1 (x.2.2.2 % 128))) ∧
  (∀ (s : State) (e g opc size scope rd k : Nat) (addrs : List VAddr) (u : Group), s.mayIssue e g opc [] u → sizeBad u rd size = 0 →
    u.free (sizeRegs rd size) = true → (lanesOf u.active).head? = some k → (addrs.getD k 0).toNat % 2 ^ size ≠ 0 →
    ∃ t, exec (.load e g opc size false scope rd addrs) s = .next t ∧
      s.faultTaken e g k 0x04 0xFF (addrs.getD k 0).toNat u t)

/-- The answer to a lane load writes the registers of its lanes, is installed in the L1 unless it may not be, and its request is gone. The answer to a filet LOAD puts its
bytes into the tile store. The acknowledgment of a store of a lane or of the mover frees its request and does nothing else. The reply to an atomic gives each lane that
takes a value its own, zero-extended. A load whose poisoned bytes reach a lane, or a poisoned atomic, faults the group at the instruction that asked. No byte of memory
changes. Completes (a next state is the conclusion): `loadReturn`, `storeAckReturn`, `atomicReply`. -/
def Obligations.AccessAnswers : Prop :=
  (∀ (s : State) (i e g : Nat) (x : Txn) (u : Group), s.txn? i = some x → x.issuer = .lane e g → x.op = .read → x.stage = .reply →
    x.moving = false → x.dead = false → x.status = 0 → s.grp? e g = some u → u.st = .ready → g < 16 →
    (x.badLane = none → ∃ t, exec (.loadReturn i) s = .next t ∧ t.txn? i = none ∧ t.mem = s.mem ∧ t.regs = s.regs ∧
      (∀ l o, (l, o) ∈ x.offs → (∀ o', (l, o') ∈ x.offs → o' = o) → l < 32 → (∀ p ∈ x.offs, p.1 < 32) → x.rd ≠ 255 →
        (x.size ≤ 2 → (t.grp? e g).map (fun v => v.reg x.rd l) = some (BitVec.ofNat 32 (leNat (cut x.data o (2 ^ x.size))))) ∧
        (3 ≤ x.size → ∀ i, i < 2 ^ x.size / 4 → x.rd + i < 255 →
          (t.grp? e g).map (fun v => v.reg (x.rd + i) l) = some (BitVec.ofNat 32 (numAt (cut x.data o (2 ^ x.size)) (4 * i) 4)))) ∧
      (∀ c, x.noInstall = false → x.ctx = some c → ((t.eng e).l1Find c x.space x.addr).isSome = true)) ∧
    (∀ b, x.badLane = some b → x.ctx = some u.ctx → x.queue = u.queue → ∃ t, exec (.loadReturn i) s = .next t ∧ t.mem = s.mem ∧
      s.faultTakenAt x.pc e g b.1 0x09 0 (x.va + b.2) u t)) ∧
  (∀ (s : State) (i e k : Nat) (x : Txn), s.Inv → s.txn? i = some x → x.issuer = .mover e k → x.op = .read → x.stage = .reply →
    x.moving = false → x.dead = false → x.status = 0 → x.badAt 0 128 = none →
    ∃ t, exec (.loadReturn i) s = .next t ∧ t.txn? i = none ∧ t.mem = s.mem ∧
      (∀ o ∈ x.offs, (∀ o' ∈ x.offs, o' ≠ o → o.1 + 32 ≤ o'.1 ∨ o'.1 + 32 ≤ o.1) → (t.eng e).tileAt o.1 32 = cut x.data o.2 32) ∧
      ∀ a, (∀ o ∈ x.offs, a < o.1 ∨ o.1 + 32 ≤ a) → cellAt (t.eng e).tile a = cellAt (s.eng e).tile a) ∧
  (∀ (s : State) (i : Nat) (x : Txn), s.txn? i = some x → ((∃ e g, x.issuer = .lane e g) ∨ (∃ e k, x.issuer = .mover e k) ∨ ∃ e g b, x.issuer = .past e g b) → x.op = .store →
    x.stage = .reply → x.moving = false → (x.status = 0 ∨ x.dead = true) →
    ∃ t, exec (.storeAckReturn i) s = .next t ∧ t.txn? i = none ∧ (∀ j, j ≠ i → t.txn? j = s.txn? j) ∧ t = { s with txns := t.txns }) ∧
  (∀ (s : State) (i e g aop sz : Nat) (x : Txn) (u : Group), s.txn? i = some x → x.issuer = .lane e g → x.op = .atomic aop sz →
    x.stage = .reply → x.moving = false → x.dead = false → x.status = 0 → s.grp? e g = some u → g < 16 →
    (x.poison = 0 → u.st = .ready → ∃ t, exec (.atomicReply i) s = .next t ∧ t.txn? i = none ∧ t.mem = s.mem ∧ t.regs = s.regs ∧
      ∀ l w, (l, w) ∈ x.results → (∀ w', (l, w') ∈ x.results → w' = w) → (∀ p ∈ x.results, p.1 < 32) → x.rd ≠ 255 →
        (t.grp? e g).map (fun v => v.reg x.rd l) = some (BitVec.ofNat 32 (w % 2 ^ 32)) ∧
        (x.size = 3 → x.rd + 1 < 255 → (t.grp? e g).map (fun v => v.reg (x.rd + 1) l) = some (BitVec.ofNat 32 (w / 2 ^ 32 % 2 ^ 32)))) ∧
    (x.poison ≠ 0 → x.ctx = some u.ctx → x.queue = u.queue → ∃ t, exec (.atomicReply i) s = .next t ∧ t.mem = s.mem ∧
      s.faultTakenAt x.pc e g ((x.lanes.map (·.lane)).headD 0) 0x09 4 (x.va + 32 * (x.badSector.getD 0)) u t))

/-- A motif evaluation writes the result of the slot's table in every active lane and sets the flags of clamped inputs and results; an empty slot faults. A motif load asks
for the seven lines of the image together and marks the slot as loading. When all have come unpoisoned with VERSION 1 the slot holds the image's 784 bytes; another
VERSION faults. A clear empties the slot and drops a load under way. An acquire at die scope or wider drops the context's lines from the L1 once no load or atomic of
the group is outstanding, and waits until then. A release goes on once no store or atomic of the group to the package is outstanding, and waits until then. Completes (a
next state is the conclusion): `motifEvaluate`, `motifLoad`, `motifClear`, `acquire`, `release`, `motifLoadComplete`. Rests on choices of the model: log 7. -/
def Obligations.MotifsAcquireRelease : Prop :=
  (∀ (s : State) (e g opc slot rd ra : Nat) (u : Group), s.mayIssue e g opc [rd, ra] u →
    (∀ m img, SMap.get? (s.eng e).motifs (8 * u.ctx + slot % 8) = some m → m.loading = false → m.image = some img →
      ∃ t, exec (.motifEvaluate e g opc slot rd ra) s = .next t ∧ s.onlyGroup e g t ∧ ∃ v, t.grp? e g = some v ∧
        v.aflags = setFlag ((lanesOf u.active).any (fun l => (motifEval img (u.reg ra l)).2.2)) .motifOutSat
          (setFlag ((lanesOf u.active).any (fun l => (motifEval img (u.reg ra l)).2.1)) .motifInSat u.aflags) ∧
        u.wrote rd (fun l => (motifEval img (u.reg ra l)).1) { v with aflags := u.aflags }) ∧
    (SMap.get? (s.eng e).motifs (8 * u.ctx + slot % 8) = none → ∃ t, exec (.motifEvaluate e g opc slot rd ra) s = .next t ∧
      s.faultTaken e g u.lane0 0x0B (slot % 8) u.pc.toNat u t)) ∧
  (∀ (s : State) (e g opc slot : Nat) (va : VAddr) (u : Group) (l l2 : Leaf) (m m2 : Mobj), s.mayIssue e g opc [] u →
    va.toNat % 256 = 0 → s.page e g u.ctx .read va.toNat = .ok l m → s.page e g u.ctx .read (va.toNat + 783) = .ok l2 m2 →
    va.toNat + 784 ≤ m.va + m.size → s.motifBusy e u.ctx slot = false →
    ∃ t, exec (.motifLoad e g opc slot va) s = .next t ∧ s.onlyAccess e g t ∧
      t.grp? e g = some { u with pc := u.pc + 8, krec := none } ∧
      (∃ x, SMap.get? (t.eng e).motifs (8 * u.ctx + slot % 8) = some x ∧ x.loading = true ∧ x.src = va.toNat) ∧
      ∀ i, i < 7 → ∃ j y, t.txn? j = some y ∧ y.issuer = .motif e u.ctx (slot % 8) ∧ y.op = .read ∧ y.size = i ∧
        y.va = va.toNat + 128 * i ∧ y.secs = if i = 6 then 1 else 15) ∧
  (∀ (s : State) (e c slot k : Nat) (y : Nat → Txn) (x : Motif), slot < 8 → SMap.get? (s.eng e).motifs (8 * c + slot) = some x →
    s.txns.filter (fun p => p.2.issuer == .motif e c slot) = (List.range 7).map (fun i => (k + i, y i)) →
    (∀ i, i < 7 → (y i).size = i ∧ (y i).stage = .reply ∧ (y i).moving = false ∧ (y i).dead = false ∧ (y i).status = 0 ∧
      (y i).poison = 0 ∧ (y i).words = 0 ∧ (y i).data.length = 128) →
    let img := ((List.range 7).flatMap (fun i => (y i).data)).take 784
    (motifVersion img = 1 → ∃ t, exec (.motifLoadComplete e c slot) s = .next t ∧ t.mem = s.mem ∧
      SMap.get? (t.eng e).motifs (8 * c + slot) = some { x with loading := false, image := some img }) ∧
    (motifVersion img ≠ 1 → ∀ z, s.ctx? c = some z → z.fault = none → ∃ t w f, exec (.motifLoadComplete e c slot) s = .next t ∧
      t.ctx? c = some w ∧ w.fault = some f ∧ f.code = 0x0C ∧ f.detail = 1)) ∧
  (∀ (s : State) (e g opc slot : Nat) (u : Group), s.mayIssue e g opc [] u → ∃ t, exec (.motifClear e g opc slot) s = .next t ∧
    s.onlyAccess e g t ∧ t.grp? e g = some { u with pc := u.pc + 8, krec := none } ∧
    SMap.get? (t.eng e).motifs (8 * u.ctx + slot % 8) = none ∧
    ∀ i y, t.txn? i = some y → y.issuer = .motif e u.ctx (slot % 8) → y.dead = true) ∧
  (∀ (s : State) (e g opc scope : Nat) (u : Group), s.mayIssue e g opc [] u → scope ≤ 4 →
    ∃ t, exec (.acquire e g opc scope) s = .next t ∧ s.onlyAccess e g t ∧
      (s.readsOut e g = true → t.eng e = { s.eng e with groups := (t.eng e).groups, given := (t.eng e).given } ∧
        t.grp? e g = some { u with pc := u.pc + 8, krec := none, st := .acquire scope, fenceElapsed := 0 }) ∧
      (s.readsOut e g = false → t.grp? e g = some { u with pc := u.pc + 8, krec := none, st := .ready, fenceElapsed := 0 } ∧
        (scope < 2 → (t.eng e).l1 = (s.eng e).l1) ∧ (2 ≤ scope → ∀ x ∈ (t.eng e).l1, x.ctx ≠ u.ctx))) ∧
  (∀ (s : State) (e g opc scope : Nat) (u : Group), s.mayIssue e g opc [] u → scope ≤ 4 →
    (scope < 2 ∨ s.writesOut e g scope = false → ∃ t, exec (.release e g opc scope) s = .next t ∧
      s.setsGroup e g { u with pc := u.pc + 8, krec := none } t) ∧
    (2 ≤ scope → s.writesOut e g scope = true → exec (.release e g opc scope) s = .next s))

/-- A FILET whose operation is good takes the lowest free entry, with the eight words of the lowest active lane, sets the entry's bit of the token register and writes that
bit in every active lane; a fault of its decode is taken before anything moves. FWAIT goes on where the token register holds none of the mask's bits, and waits
otherwise, or parks where its command is being preempted. An operation that may start does so: an MMA replaces its accumulator tile by the result of the accumulation
and notes a saturation, an OUT writes its image or blocks into the tile store, or has them to write to memory, a LOAD has its rows to read and a STORE its rows to
write. A poisoned word that it would read gives the entry up instead. Bytes of the tile store outside the result, memory and the registers of the device keep their
values. Completes (a next state is the conclusion): `filet`, `fwait`, `mmaStart`, `outStart`, `filetLoadStart`, `filetStoreStart`. Rests on choices of the model: log 7,
56, 130, 134, 143. -/
def Obligations.FiletIssueAndStart : Prop :=
  (∀ (s : State) (e g opc vb rd : Nat) (u : Group), s.mayIssue e g opc [rd] u → u.ownsBlock vb 8 8 = true → u.free (blockRegs vb 8) = true →
    let lane := u.lane0
    let ws := (List.range 8).map (fun i => (u.reg (vb + i) lane).toNat)
    ∀ k, freeNum 8 ((s.eng e).filet.map (·.1)) = some k →
    ((s.eng e).filet.filter (fun p => p.2.group = g && u.ftr.testBit p.1)).length < 4 →
    (filetCheck ((s.eng e).winBS u.queue).2 u.pc.toNat ws = none → s.extentsBad e g u.ctx (filetExtents ws) = none →
      ∃ t, exec (.filet e g opc vb rd) s = .next t ∧ t = { s with engs := t.engs } ∧
        (∃ v, t.grp? e g = some v ∧ v.ftr = u.ftr ||| 2 ^ k ∧ u.wrote rd (fun _ => BitVec.ofNat 32 (2 ^ k)) { v with ftr := u.ftr }) ∧
        ∃ f, t.entry? e k = some f ∧ f.words = ws ∧ f.group = g ∧ f.ctx = u.ctx ∧ f.queue = u.queue ∧ f.pc = u.pc ∧ f.lane = lane ∧ f.started = false) ∧
    (∀ f, filetCheck ((s.eng e).winBS u.queue).2 u.pc.toNat ws = some f → ∃ t, exec (.filet e g opc vb rd) s = .next t ∧
      s.faultTaken e g lane f.code f.detail f.addr u t)) ∧
  (∀ (s : State) (e g opc : Nat) (m : Src) (u : Group), s.mayIssue e g opc (srcRegs m) u →
    let mask := (u.src m u.lane0).toNat % 256
    (u.ftr &&& mask = 0 → ∃ t, exec (.fwait e g opc m) s = .next t ∧ s.setsGroup e g { u with pc := u.pc + 8, krec := none } t) ∧
    (u.ftr &&& mask ≠ 0 → (∀ h, s.share? e u.queue = some h → h.saving = none) →
      ∃ t, exec (.fwait e g opc m) s = .next t ∧ s.setsGroup e g { u with st := .fwait mask } t) ∧
    (u.ftr &&& mask ≠ 0 → ∀ h, s.share? e u.queue = some h → h.saving.isSome = true → u.krec = none →
      ∃ t v p, exec (.fwait e g opc m) s = .next t ∧ t.grp? e g = some v ∧ v.st = .parked p ∧ p.why = 4 ∧ p.live = 2 ^ u.n - 1 ∧
        v.pc = u.pc ∧ v.regs = u.regs)) ∧
  (∀ (s : State) (e k : Nat) (f : FEntry) (errs : List (Nat × CodeError)), s.Inv → s.entry? e k = some f → fKind f.words = 1 →
    s.runs (engDie e) = true → (s.eng e).mayStart k f = true → ((s.eng e).tileErrs errs).readBad f = none →
    let at_ := fun i => s.winAt e f ((mmaOperands f.words).getD i { lo := 0, len := 0 })
    let r := mmaResult f.words (at_ 0) (at_ 1) (at_ 2) (at_ 3) (s.winAt e f (mmaAcc f.words))
    let b := ((s.eng e).winBS f.queue).1 + off20 f.words 5
    ∃ t, exec (.mmaStart e k errs) s = .next t ∧ t = { s with engs := t.engs } ∧ (t.eng e).tileAt b r.1.length = r.1 ∧
      (∀ a, (a < b ∨ b + r.1.length ≤ a) → cellAt (t.eng e).tile a = cellAt (s.eng e).tile a) ∧
      t.entry? e k = some { f with started := true, flags := setFlag r.2 .accSat f.flags } ∧
      t.eng e = { s.eng e with tile := (t.eng e).tile, tilePoison := (t.eng e).tilePoison, filet := (t.eng e).filet }) ∧
  (∀ (s : State) (e k : Nat) (f : FEntry) (errs : List (Nat × CodeError)), s.Inv → s.entry? e k = some f → fKind f.words = 2 →
    s.runs (engDie e) = true → (s.eng e).mayStart k f = true → ((s.eng e).tileErrs errs).readBad f = none →
    let ls := (List.range 32).map (outLineOf f.words (s.winAt e f { lo := off20 f.words 1, len := 8192 }))
    let b := ((s.eng e).winBS f.queue).1
    ∃ t h, exec (.outStart e k errs) s = .next t ∧ t = { s with engs := t.engs } ∧ t.entry? e k = some h ∧ h.started = true ∧
      h.flags = setFlag (ls.any (·.2.2.2)) .narrowSat (setFlag (ls.any (·.2.2.1)) .packClamp f.flags) ∧
      (outMem f.words = false → outMode f.words = 0 → (t.eng e).tileAt (b + off20 f.words 2) (ls.flatMap (·.1)).length = ls.flatMap (·.1)) ∧
      (outMem f.words = false → outMode f.words ≠ 0 → (t.eng e).tileAt (b + off20 f.words 3) 64 = ls.flatMap (fun l => leBytes 2 l.2.1)) ∧
      (outMem f.words = true → (t.eng e).tile = (s.eng e).tile ∧ h.todo = lineGroups ((List.range 32).flatMap (fun i =>
          partsOf (va57 f.words 2 + i * outDpitch f.words) 0 ((ls.getD i ([], 0, false, false)).1)) ++
        (if outMode f.words = 0 then [] else (List.range 32).flatMap (fun i =>
          partsOf (va57 f.words 4 + i * outSpitch f.words) 0 (leBytes 2 (ls.getD i ([], 0, false, false)).2.1)))))) ∧
  (∀ (s : State) (e k : Nat) (f : FEntry) (errs : List (Nat × CodeError)), s.entry? e k = some f → s.runs (engDie e) = true →
    (s.eng e).mayStart k f = true →
    (fKind f.words = 3 → ∃ t, exec (.filetLoadStart e k) s = .next t ∧ t = { s with engs := t.engs } ∧
      t.entry? e k = some { f with started := true, todo := lineGroups ((List.range (mvRows f.words)).flatMap (fun r =>
        partsOf (va57 f.words 2 + r * mvMpitch f.words) (((s.eng e).winBS f.queue).1 + off20 f.words 1 + r * mvTpitch f.words)
          (zeros (mvLen f.words)))) }) ∧
    (fKind f.words = 4 → ((s.eng e).tileErrs errs).readBad f = none →
      ∃ t, exec (.filetStoreStart e k errs) s = .next t ∧ t = { s with engs := t.engs } ∧
      t.entry? e k = some { f with started := true, todo := lineGroups ((List.range (mvRows f.words)).flatMap (fun r =>
        partsOf (va57 f.words 2 + r * mvMpitch f.words) 0
          (s.winAt e f { lo := off20 f.words 1 + r * mvTpitch f.words, len := mvLen f.words }))) })) ∧
  (∀ (s : State) (e k w : Nat) (f : FEntry) (errs : List (Nat × CodeError)) (x : Ctx), s.entry? e k = some f → fKind f.words = 1 →
    s.runs (engDie e) = true → (s.eng e).mayStart k f = true → ((s.eng e).tileErrs errs).readBad f = some w →
    s.ctx? f.ctx = some x → x.fault = none → ∃ t y z, exec (.mmaStart e k errs) s = .next t ∧
    t.entry? e k = none ∧ t.ctx? f.ctx = some y ∧ y.fault = some z ∧ z.code = 0x09 ∧ z.detail = 2 ∧ z.pc = f.pc.toNat)

/-- A fragment load or store of all lanes, its block and its range good and no operation in the way, moves 16 bytes between each lane's four registers and the tile store,
16 bytes or the stride apart; a load that meets a poisoned word faults instead, in the lowest such lane. An operation that reaches a page asks for the first part that
lies on it. An operation whose reads have come back and whose writes have left leaves the queue, clears its token bit and gives its flags to the group, which goes on
where its FWAIT is satisfied; its writes count as the group's. A kernel starts once the context's writes on the engine are acknowledged: the context's L1 lines and
stale translations go, and its window is taken; the window then reads as zeros, and nothing outside it changes. A group is placed in a free slot with the launch's
values in its first six registers and zero in the others. Completes (a next state is the conclusion): `fragLoad`, `fragLoadS`, `fragStore`, `fragStoreS`,
`filetPageTranslate`, `filetComplete`, `kernelStart`, `windowZeroEnd`, `groupStart`. Rests on choices of the model: log 56, 66, 128, 132, 142. -/
def Obligations.FragmentsMoverAndKernels : Prop :=
  (∀ (s : State) (e g opc rb base stride : Nat) (u : Group) (errs : List (Nat × CodeError)), s.Inv → s.mayIssue e g opc [] u → u.n ≤ 255 → u.ownsBlock rb 4 4 = true →
    u.active = 0xFFFFFFFF#32 → base % 16 = 0 → stride % 16 = 0 → 16 ≤ stride →
    base + 31 * stride + 16 ≤ ((s.eng e).winBS u.queue).2 → u.free (blockRegs rb 4) = true →
    (∀ p ∈ (s.eng e).filet, ∀ r ∈ filetReads p.2.words ++ filetWrites p.2.words,
      Range.meets { lo := ((s.eng e).winBS u.queue).1 + base, len := 31 * stride + 16 } { r with lo := ((s.eng e).winBS p.2.queue).1 + r.lo } = false) →
    let at_ := fun l => ((s.eng e).winBS u.queue).1 + base + l * stride
    ((∀ l, l < 32 → ((s.eng e).tileErrs errs).tileBad { lo := at_ l, len := 16 } = none) → (∀ x ∈ errs, x.2 ≠ .double) →
      ∀ c, (c = .fragLoadS e g opc rb base stride errs ∨ (stride = 16 ∧ c = .fragLoad e g opc rb base errs)) → ∃ t, exec c s = .next t ∧
        s.onlyGroup e g t ∧ ∃ v, t.grp? e g = some v ∧ v = { u with regs := v.regs, pc := u.pc + 8, krec := none } ∧
        (∀ l i, l < 32 → i < 4 → v.reg (rb + i) l = BitVec.ofNat 32 (numAt ((s.eng e).tileAt (at_ l) 16) (4 * i) 4)) ∧
        ∀ r l, l < 32 → r ∉ blockRegs rb 4 → v.reg r l = u.reg r l) ∧
    (∀ l w, l < 32 → (∀ k, k < l → ((s.eng e).tileErrs errs).tileBad { lo := at_ k, len := 16 } = none) →
      ((s.eng e).tileErrs errs).tileBad { lo := at_ l, len := 16 } = some w →
      ∀ c, (c = .fragLoadS e g opc rb base stride errs ∨ (stride = 16 ∧ c = .fragLoad e g opc rb base errs)) → ∃ t, exec c s = .next t ∧
        s.faultTaken e g l 0x09 2 (8 * w - ((s.eng e).winBS u.queue).1) u t) ∧
    (∀ c, (c = .fragStoreS e g opc rb base stride ∨ (stride = 16 ∧ c = .fragStore e g opc rb base)) → ∃ t, exec c s = .next t ∧ t = { s with engs := t.engs } ∧
      t.grp? e g = some { u with pc := u.pc + 8, krec := none } ∧
      (∀ l i, l < 32 → i < 4 → numAt ((t.eng e).tileAt (at_ l) 16) (4 * i) 4 = (u.reg (rb + i) l).toNat) ∧
      ∀ a, (∀ l, l < 32 → a < at_ l ∨ at_ l + 16 ≤ a) → cellAt (t.eng e).tile a = cellAt (s.eng e).tile a)) ∧
  (∀ (s : State) (e k : Nat) (f : FEntry) (p : Piece) (ps : List Piece) (c : Ctx) (l : Leaf) (m : Mobj), s.entry? e k = some f →
    f.started = true → f.todo = p :: ps → s.ctx? f.ctx = some c →
    s.translate c (if fKind f.words = 3 then .read else .store) p.first = .ok (l, m) → l.va ≤ p.va → p.va < l.va + l.size →
    (fKind f.words = 3 → ∀ i, i < 4 → (maskSecs p.mask).testBit i = true → s.storeOut e l.space (lineOf (l.phys p.va)) i = false) →
    s.sectorsOut e + popcount (maskSecs p.mask) ≤ 256 → s.moverSectorsOut e + popcount (maskSecs p.mask) ≤ 128 →
    ∃ t i y, exec (.filetPageTranslate e k) s = .next t ∧ t = { s with engs := t.engs, txns := t.txns, nextId := t.nextId } ∧
      t.txn? i = some y ∧ y.issuer = .mover e k ∧ y.op = (if fKind f.words = 3 then .read else .store) ∧ y.space = l.space ∧
      y.addr = lineOf (l.phys p.va) ∧ y.secs = maskSecs p.mask ∧ (fKind f.words ≠ 3 → y.data = p.data ∧ y.mask = p.mask)) ∧
  (∀ (s : State) (e k : Nat) (f : FEntry) (u : Group), s.entry? e k = some f → f.started = true → f.todo = [] →
    (∀ p ∈ s.txns, p.2.issuer = .mover e k → p.2.op ≠ .read) → s.grp? e f.group = some u → u.queue = f.queue → u.ftr.testBit k = true →
    ∃ t v, exec (.filetComplete e k) s = .next t ∧ t = { s with engs := t.engs, txns := t.txns } ∧
      (∀ i y, s.txn? i = some y → t.txn? i = some (if y.issuer = .mover e k then { y with issuer := .past e f.group true } else y)) ∧
      t.entry? e k = none ∧ t.grp? e f.group = some v ∧
      v.ftr = u.ftr - 2 ^ k ∧ v.aflags = u.aflags ||| f.flags ∧ v.regs = u.regs ∧
      (∀ w, u.st = .fwait w → (u.ftr - 2 ^ k) &&& w = 0 → v.st = .ready ∧ v.pc = u.pc + 8) ∧ (u.st = .ready → v.st = .ready ∧ v.pc = u.pc)) ∧
  (∀ (s : State) (e q : Nat) (h : Share), s.share? e q = some h → h.started = false → h.restore = false →
    (∀ w ∈ (s.eng e).wins, w.queue ≠ q) → s.ctxWrites e h.ctx = false → h.ctx ∉ (s.eng e).draining →
    s.fld F.engStat_STATE (R.engStat e) = 1 →
    (h.twin = 0 → ∃ t, exec (.kernelStart e q) s = .next t ∧ (t.share? e q).map (·.started) = some true ∧ t.mem = s.mem ∧
      (∀ x ∈ (t.eng e).l1, x.ctx ≠ h.ctx) ∧ ∀ z, s.ctx? h.ctx = some z → ∀ y ∈ (t.eng e).tlb, y.ctx = h.ctx → y.gen = z.gen) ∧
    (h.twin ≠ 0 → ∀ b, (s.eng e).freeWin s.free (h.twin * 8192) = some b → ∃ t, exec (.kernelStart e q) s = .next t ∧ t.mem = s.mem ∧
      (t.eng e).wins = (s.eng e).wins ++ [{ queue := q, base := b, size := h.twin * 8192, zeroed := false }] ∧
      t.share? e q = some h ∧ ∀ x ∈ (t.eng e).l1, x.ctx ≠ h.ctx)) ∧
  (∀ (s : State) (e q : Nat) (w : Win) (h : Share), s.Inv → (s.eng e).winOf q = some w → s.share? e q = some h → w.zeroed = false →
    h.started = false → h.restore = false → ∃ t, exec (.windowZeroEnd e q) s = .next t ∧ t = { s with engs := t.engs, free := t.free } ∧
      (t.share? e q).map (·.started) = some true ∧ (∀ a, w.base ≤ a → a < w.base + w.size → cellAt (t.eng e).tile a = 0) ∧
      ∀ a, (a < w.base ∨ w.base + w.size ≤ a) → cellAt (t.eng e).tile a = cellAt (s.eng e).tile a) ∧
  (∀ (s : State) (e q g : Nat) (h : Share) (z : Ctx), s.share? e q = some h → g < 16 → s.grp? e g = none →
    h.started = true → h.next ≤ h.last → h.saving = none → h.restore = false → h.ctx ∉ (s.eng e).draining →
    (s.eng e).rows + rowsFor h.n ≤ 2048 → s.ctx? h.ctx = some z → z.st = .live →
    ∃ t g v, exec (.groupStart e q) s = .next t ∧ t = { s with engs := t.engs, free := s.free + 1 } ∧ g < 16 ∧ s.grp? e g = none ∧ t.grp? e g = some v ∧ v.queue = q ∧ v.ctx = h.ctx ∧
      v.n = h.n ∧ v.index = h.next ∧ v.pc = BitVec.ofNat 57 h.kernel ∧ v.active = 0xFFFFFFFF#32 ∧ v.st = .ready ∧
      (t.share? e q).map (·.next) = some (h.next + 1) ∧
      ∀ l, l < 32 → v.reg 0 l = BitVec.ofNat 32 h.args ∧ v.reg 1 l = BitVec.ofNat 32 (h.args / 2 ^ 32) ∧
        v.reg 2 l = BitVec.ofNat 32 h.next ∧ v.reg 3 l = BitVec.ofNat 32 (h.gpe * h.e) ∧ v.reg 4 l = BitVec.ofNat 32 h.k ∧
        v.reg 5 l = BitVec.ofNat 32 h.e ∧ ∀ r, 6 ≤ r → v.reg r l = 0)

/-- A BARRIER at group scope acts as an acquire of the group. At a wider scope, once its release is done, the group waits at the barrier and its arrival leaves for the unit
at which the scope gathers: its quadrant's, its die's, or die 0's; where its command is being preempted it parks instead. An arrival is counted for its launch; while
participants are missing nothing else happens, and with the last one a release leaves for every engine of the launch that lies in the scope. A release makes each group
of the launch that waits there acquire and go on behind the instruction; no other group changes. An arrival after a freeze is kept. No byte of memory and no register of
the device changes. Completes (a next state is the conclusion): `barrier`, `barrierArrival`, `barrierRelease`. Rests on choices of the model: log 78, 140, 144. -/
def Obligations.Barriers : Prop :=
  (∀ (s : State) (e g opc num scope : Nat) (u : Group), s.mayIssue e g opc [] u → 1 ≤ scope → scope ≤ 4 → s.releaseDone e g scope = true →
    s.picotFree e = true →
    ((∀ h, s.share? e u.queue = some h → h.saving = none) → ∃ t, exec (.barrier e g opc num scope) s = .next t ∧ t = { s with engs := t.engs, msgs := t.msgs, nextId := t.nextId, mesh := t.mesh } ∧
      t.grp? e g = some { u with st := .barrier (num % 4) scope } ∧ (∀ k, k ≠ g → t.grp? e k = s.grp? e k) ∧ ∃ i y, t.msg? i = some y ∧
      y.kind = .arrive u.queue (num % 4) scope e u.index ∧ y.src = e / 256 ∧ y.dst = (if scope ≤ 2 then e / 256 else 0)) ∧
    (∀ h, s.share? e u.queue = some h → h.saving.isSome = true → u.krec = none → ∃ t v p, exec (.barrier e g opc num scope) s = .next t ∧
      t.grp? e g = some v ∧ v.st = .parked p ∧ p.why = 2 ∧ p.arg = num % 4 + 4 * scope ∧ v.pc = u.pc ∧ v.regs = u.regs)) ∧
  (∀ (s : State) (e g opc num : Nat) (u : Group), s.mayIssue e g opc [] u → s.readsOut e g = false →
    ∃ t, exec (.barrier e g opc num 0) s = .next t ∧ s.setsGroup e g { u with pc := u.pc + 8, krec := none, st := .ready, fenceElapsed := 0 } t) ∧
  (∀ (s : State) (m q num scope e i : Nat) (x : Msg) (u : Queue) (r : Run), s.msg? m = some x → x.kind = .arrive q num scope e i →
    x.arrived = true → s.queue? q = some u → u.run = some r → r.frozen = false →
    let r' := { r with arrivals := SMap.upd r.arrivals (8 * num + scope) [] (fun l => addNum l i) }
    (barrierFull r' num scope e = false → ∃ t, exec (.barrierArrival m) s = .next t ∧
      t = { s with objs := t.objs, msgs := SMap.del s.msgs m } ∧ t.queue? q = some { u with run := some r' }) ∧
    (barrierFull r' num scope e = true → scope ≠ 4 → ∃ t, exec (.barrierArrival m) s = .next t ∧ t.mem = s.mem ∧ t.regs = s.regs ∧
      ∀ k ∈ r.members, (scope = 1 → k = e) → (scope = 2 → k / 256 = e / 256) →
        ∃ j y, t.msg? j = some y ∧ y.kind = .release q num scope k ∧ y.dst = k / 256)) ∧
  (∀ (s : State) (m q num scope e i : Nat) (x : Msg) (u : Queue) (r : Run), s.msg? m = some x → x.kind = .arrive q num scope e i →
    s.queue? q = some u → u.run = some r → r.frozen = true → exec (.barrierArrival m) s = .next s) ∧
  (∀ (s : State) (m q num scope e : Nat) (x : Msg), s.msg? m = some x → x.kind = .release q num scope e → x.arrived = true →
    ∃ t, exec (.barrierRelease m) s = .next t ∧ t.mem = s.mem ∧ t.regs = s.regs ∧ t.msg? m = none ∧
      (∀ g u, s.grp? e g = some u → u.queue = q → u.st = .barrier num scope → ((s.eng e).groups.map (·.1)).count g = 1 →
        s.readsOut e g = false → t.grp? e g = some { u with pc := u.pc + 8, krec := none, st := .ready, fenceElapsed := 0 }) ∧
      ∀ g u, s.grp? e g = some u → ((s.eng e).groups.map (·.1)).count g = 1 → (u.queue ≠ q ∨ u.st ≠ .barrier num scope) →
        t.grp? e g = some u)

/-- A fence signal of a group, its address good, sends its value to the fence's home, or to the port of a partner, and the group goes on; a fence wait sends its target
there and the group stalls. The home of a fence applies a signal of a larger value: the record takes it, every registered wait that it satisfies is released, and where
it meets an armed event the event's record goes into the fence's ring and ARMED clears; a smaller value sets the record's error flag alone, and an equal one changes
nothing. A wait that is satisfied is released at once; another is registered while the slice holds fewer than 256, and reads the fence again otherwise. A release lets a
group acquire and go on, and completes a waiting command. Completes (a next state is the conclusion): `fenceSignalInsn`, `fenceWaitInsn`, `fenceSignalApply`,
`fenceWaitRegister`, `fenceWaitRelease`, `fenceValuePoll`. Rests on choices of the model: log 38, 71. -/
def Obligations.Fences : Prop :=
  (∀ (s : State) (e g opc scope v : Nat) (va : VAddr) (u : Group) (l : Leaf) (m : Mobj) (c : Ctx), s.mayIssue e g opc [] u → scope ≤ 4 →
    s.releaseDone e g scope = true → s.fencePage e g u.ctx .signal va.toNat = .ok l m → s.ctx? u.ctx = some c →
    ((∀ p, l.space ≠ .peer p) → s.fenceBar c.hoop (e / 256) va.toNat (l.phys va.toNat) true = none →
      ∃ t i y, exec (.fenceSignalInsn e g opc scope va v) s = .next t ∧
        t = { s with engs := t.engs, msgs := t.msgs, nextId := t.nextId, mesh := t.mesh } ∧
        t.grp? e g = some { u with pc := u.pc + 8, krec := none } ∧ t.msg? i = some y ∧
        y.kind = .signal u.ctx (l.phys va.toNat) (v % 2 ^ 64) none
          (some { queue := u.queue, unit := e, group := g, lane := u.lane0, pc := u.pc.toNat })) ∧
    (∀ p, l.space = .peer p → scope = 4 → s.peerOut e g p = false → ∃ t i y, exec (.fenceSignalInsn e g opc scope va v) s = .next t ∧ s.onlyAccess e g t ∧
        t.grp? e g = some { u with pc := u.pc + 8, krec := none } ∧ t.txn? i = some y ∧ y.op = .signal ∧ y.space = .peer p ∧
        y.addr = lineOf (l.phys va.toNat) ∧ y.mask = maskOf (va.toNat % 128) 8 ∧
        y.data = zeros (va.toNat % 128) ++ leBytes 8 v ++ zeros (120 - va.toNat % 128))) ∧
  (∀ (s : State) (e g opc scope v : Nat) (va : VAddr) (u : Group) (l : Leaf) (m : Mobj) (c : Ctx), s.mayIssue e g opc [] u → scope ≤ 4 →
    s.fencePage e g u.ctx .wait va.toNat = .ok l m → s.ctx? u.ctx = some c → (∀ h, s.share? e u.queue = some h → h.saving = none) →
    s.fenceBar c.hoop (e / 256) va.toNat (l.phys va.toNat) false = none → ∃ t i y, exec (.fenceWaitInsn e g opc scope va v) s = .next t ∧
      t = { s with engs := t.engs, msgs := t.msgs, nextId := t.nextId, mesh := t.mesh } ∧
      t.grp? e g = some { u with st := .fence va.toNat (v % 2 ^ 64) scope true } ∧ t.msg? i = some y ∧
      y.kind = .register u.ctx (l.phys va.toNat) (v % 2 ^ 64) (1, 16 * e + g)) ∧
  (∀ (s : State) (m c pa v : Nat) (x : Msg) (who : Option Sender), s.fenceNext m x c pa → x.kind = .signal c pa v none who →
    (s.peek pa 32).2 = false →
    let f := fenceOf (s.peek pa 32).1
    (f.value < v → (f.armed = false ∨ v < f.event) → ∃ t, exec (.fenceSignalApply m) s = .next t ∧
      t.mem = (s.poke pa { f with value := v }.bytes).mem ∧ t.cache = (s.poke pa { f with value := v }.bytes).cache ∧
      (∀ w ∈ t.objs.waits, w.addr = pa → v < w.target) ∧
      ∀ w ∈ s.objs.waits, w.addr = pa → w.target ≤ v → w.who.1 = 1 → ∃ j y, t.msg? j = some y ∧ y.kind = .fenceRelease w.who) ∧
    (f.value < v → f.armed = true → f.event ≤ v → ∀ r z, s.ring? f.evring = some r → r.live = true → r.ctx = c → r.room false = true →
      r.heldEvents = [] → s.ctx? c = some z →
      State.vaRefuse (s.poke pa { f with value := v, flags := f.flags - 1 }.bytes) z r.recVa 32 = none → ∃ t, exec (.fenceSignalApply m) s = .next t ∧
      (t.ring? f.evring).map (·.w) = some (r.w + 1)) ∧
    (v = f.value → exec (.fenceSignalApply m) s = .next (s.delMsg m)) ∧
    (v < f.value → f.flags ||| 2 ≠ f.flags → exec (.fenceSignalApply m) s =
      .next ((s.delMsg m).poke pa { f with flags := f.flags ||| 2 }.bytes))) ∧
  (∀ (s : State) (m c pa v : Nat) (who : Nat × Nat) (x : Msg), s.fenceNext m x c pa → (s.peek pa 32).2 = false →
    ∀ i, ((x.kind = .register c pa v who ∧ i = .fenceWaitRegister m) ∨ (x.kind = .poll c pa v who ∧ i = .fenceValuePoll m)) → ∃ t, exec i s = .next t ∧
      (v ≤ (fenceOf (s.peek pa 32).1).value → who.1 = 1 → t.objs = s.objs ∧ ∃ j y, t.msg? j = some y ∧ y.kind = .fenceRelease who) ∧
      ((fenceOf (s.peek pa 32).1).value < v →
        ((s.objs.waits.filter (fun w => w.slice = s.physSlice (s.fenceIdx c x.src pa))).length < 256 → t.msg? m = none ∧
          t.objs.waits = s.objs.waits ++ [{ slice := s.physSlice (s.fenceIdx c x.src pa), addr := pa, target := v, who := who }]) ∧
        (256 ≤ (s.objs.waits.filter (fun w => w.slice = s.physSlice (s.fenceIdx c x.src pa))).length →
          t.objs = s.objs ∧ (t.msg? m).map (·.kind) = some (.poll c pa v who)))) ∧
  (∀ (s : State) (m e g a v sc : Nat) (b : Bool) (x : Msg) (u : Group), s.msg? m = some x → x.kind = .fenceRelease (1, 16 * e + g) → g < 16 →
    x.arrived = true → s.grp? e g = some u → u.st = .fence a v sc b → s.readsOut e g = false → ∃ t, exec (.fenceWaitRelease m) s = .next t ∧
    t.msg? m = none ∧ t.mem = s.mem ∧ t.grp? e g = some { u with pc := u.pc + 8, krec := none, st := .ready, fenceElapsed := 0 }) ∧
  (∀ (s : State) (m q : Nat) (x : Msg) (u : Queue) (r : Run), s.msg? m = some x → x.kind = .fenceRelease (0, q) → x.arrived = true →
    s.queue? q = some u → u.run = some r → r.phase = .running → descOp r.desc = 7 → ∃ t, exec (.fenceWaitRelease m) s = .next t ∧
    t.queue? q = some { u with run := some { r with phase := .completing, status := 0, detail := 0 } })

/-- A stack request that its hoop may make leaves the crossbar for its home index, or for the near slice of its die where its window says so; it waits while its set clears
or a window or a slice changes, and is answered with a refusal where the hoop may not reach the set, or with a lost link where its home is out of reach. Toile, host and
peer requests leave for the bank, the host controller and the port; the tables of toile are refused. A toile bank answers a read with its bytes, its uncorrectable words
marked, and writes exactly the masked bytes of a store. A home answers a read from a line that holds its sectors, counting what its code finds, asks the controller for
each missing one, and first calls an owner back. A store's bytes enter the line; the answer waits for the ledger where the line was not counted. A mirrored store goes
to both stack copies. An allocation tried again takes the free way. A returned sector is installed, and the last one answers the read. Completes (a next state is the
conclusion): `crossbarRequest`, `homeRead`, `homeStore`, `homeMirroredStore`, `allocationRetry`, `stackFillReturn`, `toileBankRequest`. Rests on choices of the model:
log 48, 56, 64. -/
def Obligations.HomeRequests : Prop :=
  (∀ (s : State) (i : Nat) (x : Txn), s.txn? i = some x → x.stage = .crossbar → s.firstAtCrossbar i x →
    (∀ h, x.space = .stack → x.hoop = some h → (∀ f, x.issuer ≠ .host f) → s.isStack x.addr = true → s.inSavePool x.addr = false →
      let wr := match x.op with | .read => false | _ => true
      let win := s.winFor (some h) x.addr
      let idx := s.idxOn x.die win x.addr
      (s.setAllowed h x.addr wr = false → ∃ t, exec (.crossbarRequest i) s = .next t ∧ t = { s with txns := t.txns } ∧
        t.txn? i = some { x with stage := .reply, moving := false, status := 1 }) ∧
      (s.setAllowed h x.addr wr = true →
        (s.bit F.memSetStat_CLEARING (R.memSetStat (s.setOf x.addr)) = true ∨ s.winBusy (some h) x.addr = true ∨ s.darningSlice idx = true →
          exec (.crossbarRequest i) s = .next s) ∧
        (s.bit F.memSetStat_CLEARING (R.memSetStat (s.setOf x.addr)) = false → s.winBusy (some h) x.addr = false →
          s.darningSlice idx = false → s.fld F.cshSliceMap_STATE (R.cshSliceMap idx) ≠ 3 →
          s.canReach x.die (s.idxDie idx) = true → ∃ t y, exec (.crossbarRequest i) s = .next t ∧
          t = { s with txns := t.txns, mesh := t.mesh } ∧ t.txn? i = some y ∧ y.idx = idx ∧ y.win = win ∧
          y.stage = (if s.goesNear x win idx = true then .near else .home)) ∧
        (s.bit F.memSetStat_CLEARING (R.memSetStat (s.setOf x.addr)) = false → s.winBusy (some h) x.addr = false →
          s.darningSlice idx = false → (s.fld F.cshSliceMap_STATE (R.cshSliceMap idx) = 3 ∨ s.canReach x.die (s.idxDie idx) = false) →
          ∃ t, exec (.crossbarRequest i) s = .next t ∧
            t.txn? i = some { x with stage := .reply, moving := false, status := 0x40, idx := idx, win := win })))  ∧
    (x.space = .toile → (inTables x.addr = true → ∃ t, exec (.crossbarRequest i) s = .next t ∧
        t.txn? i = some { x with stage := .reply, moving := false, status := 1 }) ∧
      (inTables x.addr = false → s.inSavePool x.addr = false → s.mem.toileZeroing = false → s.baseLost (toileDie x.addr) = false →
        s.canReach x.die (toileDie x.addr) = true → ∃ t, exec (.crossbarRequest i) s = .next t ∧
        (t.txn? i).map (·.stage) = some .toile)) ∧
    (x.space = .host → s.canReach x.die 0 = true → ∃ t, exec (.crossbarRequest i) s = .next t ∧ (t.txn? i).map (·.stage) = some .host) ∧
    (∀ p h, x.space = .peer p → x.hoop = some h → (s.fld F.gmpOutTag_PORTS (R.gmpOutTag h)).testBit p = true → s.canReach x.die p = true →
      ∃ t, exec (.crossbarRequest i) s = .next t ∧ (s.fld F.gmpStat_STATE (R.gmpStat p) = 3 → (t.txn? i).map (·.stage) = some .port) ∧
      (s.fld F.gmpStat_STATE (R.gmpStat p) ≠ 3 → (t.txn? i).map (·.status) = some 0x45))) ∧
  (∀ (s : State) (i : Nat) (x : Txn) (errs : List (Nat × CodeError)), s.txn? i = some x → x.stage = .toile → x.moving = false →
    isToile x.addr = true → x.addr % 128 = 0 → s.runs (toileDie x.addr) = true →
    (∀ p ∈ s.txns, p.2.came < x.came → p.2.stage = .toile → p.2.moving = false → p.2.space = .toile → p.2.addr ≠ x.addr) →
    (x.op = .read → ∃ t y, exec (.toileBankRequest i errs) s = .next t ∧ t.mem.cells = s.mem.cells ∧ t.txn? i = some y ∧ y.stage = .reply ∧
      y.data = cellsAt s.mem.cells x.addr 128 ∧ ∀ w, w < 16 → x.secs.testBit (w / 4) = true →
        y.words.testBit w = (x.words.testBit w || s.mem.toileBad.contains (x.addr / 8 + w) || errs.contains (w, .double))) ∧
    (x.op = .store → s.Inv → ∃ t, exec (.toileBankRequest i errs) s = .next t ∧ (t.txn? i).map (·.stage) = some .reply ∧
      (∀ k, k < 128 → cellAt t.mem.cells (x.addr + k) =
        if x.secs.testBit (k / 32) && x.mask.testBit k then x.data.getD k 0 else cellAt s.mem.cells (x.addr + k)) ∧
      ∀ a, (a < x.addr ∨ x.addr + 128 ≤ a) → cellAt t.mem.cells a = cellAt s.mem.cells a)) ∧
  (∀ (s : State) (i : Nat) (x : Txn) (l : Line) (err : SliceError), s.readyAtHome i x → x.op = .read → x.near = false → s.homeLine x = some l →
    ((∀ d, l.dir ≠ .owned d) → l.needs x.secs = [] → ∃ t y, exec (.homeRead i err) s = .next t ∧ t.mem = s.mem ∧ t.txn? i = some y ∧
      y.stage = .reply ∧ y.data = l.secs.flatMap (·.data) ∧
      ((∀ k, k < 4 → x.secs.testBit k = true → (secAt l.secs k).poison = false ∧ err ≠ .double k) → y.poison = x.poison) ∧
      ∀ k, k < 4 → x.secs.testBit k = true → ((secAt l.secs k).poison = true ∨ err = .double k → y.poison.testBit k = true) ∧
        (err = .single k → (t.slice (s.physSlice x.idx)).corrected = min 0xFFFF ((s.slice (s.physSlice x.idx)).corrected + 1)) ∧
        (err = .double k → (t.slice (s.physSlice x.idx)).poisoned = min 0xFFF ((s.slice (s.physSlice x.idx)).poisoned + 1))) ∧
    ((∀ d, l.dir ≠ .owned d) → l.needs x.secs ≠ [] → ∃ t y, exec (.homeRead i err) s = .next t ∧ t.mem.cells = s.mem.cells ∧ t.txn? i = some y ∧
      y.stage = .fill ∧ y.waitStack = (l.needs x.secs).length ∧
      ∀ k ∈ l.needs x.secs, t.asksSector (x.addr / 32 + k) false (.fill (s.physSlice x.idx) x.addr x.idx k)) ∧
    (∀ d, d < 8 → l.dir = .owned d → s.baseLost d = false → ∃ t j m, exec (.homeRead i err) s = .next t ∧
      (t.txn? i).map (·.stage) = some .queued ∧ t.msg? j = some m ∧ m.kind = .recall x.idx x.addr ∧ m.dst = d)) ∧
  (∀ (s : State) (i : Nat) (x : Txn) (l : Line), s.readyAtHome i x → x.op = .store → s.homeLine x = some l → l.dir = .none →
    s.cache.ledgerWalk.contains (s.physSlice x.idx / 33) = false →
    (x.mirrored = false → ∃ t m y, exec (.homeStore i) s = .next t ∧ t.mem = s.mem ∧ t.homeLine x = some m ∧ m.secs = (Line.store x l).secs ∧
      t.txn? i = some y ∧ (l.counted = true → y.stage = .reply) ∧
      (l.counted = false → (Line.store x l).isDirty = true → s.ledgerUp (s.physSlice x.idx / 33) = true →
        y.stage = .acks ∧ y.waitLedger = true ∧ m.counted = true)) ∧
    (x.mirrored = true → ∃ t, exec (.homeMirroredStore i) s = .next t ∧ t.mem.cells = s.mem.cells ∧ ∀ k, k < 4 → x.secs.testBit k = true →
      (s.chanState (s.chanFor (s.physSlice x.idx / 33) (32 * (x.addr / 32 + k))) ≠ 3 →
        s.canReach (s.physSlice x.idx / 33) (chanDie (s.chanFor (s.physSlice x.idx / 33) (32 * (x.addr / 32 + k)))) = true →
        t.asksSector (x.addr / 32 + k) true (.mirror i)) ∧
      (s.chanState (s.chanFor (s.physSlice x.idx / 33) (32 * (s.mirrorOf (x.addr + 32 * k) / 32))) ≠ 3 →
        s.canReach (s.physSlice x.idx / 33) (chanDie (s.chanFor (s.physSlice x.idx / 33) (32 * (s.mirrorOf (x.addr + 32 * k) / 32)))) = true →
        t.asksSector (s.mirrorOf (x.addr + 32 * k) / 32) true (.mirror i)))) ∧
  (∀ (s : State) (i k w : Nat) (x : Txn) (c : Machine.Class) (b : Bool), s.txn? i = some x → x.stage = .alloc → x.op = .read → s.homeLine x = none →
    s.roomFor (s.physSlice x.idx) x.addr x.win x.hoop = .way w c none b → k < 4 → x.secs.testBit k = true →
    ∃ t m, exec (.allocationRetry i) s = .next t ∧ t.homeLine x = some m ∧ m.way = w ∧ m.cls = c ∧ m.role = .home ∧
      (t.txn? i).map (·.stage) = some .fill ∧ t.asksSector (x.addr / 32 + k) false (.fill (s.physSlice x.idx) x.addr x.idx k)) ∧
  (∀ (s : State) (r i p k : Nat) (q : CtlReq) (x : Txn) (l : Line), SMap.get? s.mem.reqs r = some q → q.who = .fill p x.addr x.idx k → q.done = true → q.moving = false → q.status = 0 →
    x.status = 0 →
    p = s.physSlice x.idx → s.homeLine x = some l → s.txns.find? (fun y => y.2.onLine x.addr x.idx && y.2.stage == .fill) = some (i, x) →
    s.txn? i = some x → x.op = .read → x.near = false → x.stage = .fill →
    ∃ t m y, exec (.stackFillReturn r) s = .next t ∧ SMap.get? t.mem.reqs r = none ∧ t.mem.cells = s.mem.cells ∧ t.homeLine x = some m ∧
      m.secs = setNth l.secs k (Sector.fill q.data q.poison) ∧ t.txn? i = some y ∧
      (x.waitStack ≤ 1 → y.stage = .reply ∧ y.data = m.secs.flatMap (·.data)) ∧
      (1 < x.waitStack → y = { x with waitStack := x.waitStack - 1 }))

/-- An atomic or a line reduction whose line holds every sector that it names, unpoisoned and without near copies, changes exactly the bytes of its result, lane after lane
(contributions to one target in any order), gives each lane that takes a value the old one, counts clamped elements of its hoop, and ends its hold of the line. ADD
wraps at 32 bits, MIN and MAX compare as signed words, XCHG stores, and CAS stores only where the old value is the compared one. Where a sector that it names is
poisoned the line keeps its bytes and the answer is poisoned. The first transaction, or fence's signal, that waits for a free line leaves the queue and is served.
Completes (a next state is the conclusion): `waitingRequestServe`, `homeAtomic`, `lineReduction`. Rests on choices of the model: log 56, 59, 61. -/
def Obligations.HomeAtomics : Prop :=
  (∀ (s : State) (i : Nat) (x : Txn) (l : Line) (err : SliceError), (∀ k, err ≠ .double k) → s.readyAtHome i x → x.isRmw = true → s.homeLine x = some l → l.dir = .none →
    s.reductionsAt (s.physSlice x.idx) < 128 → x.mirrored = false → s.cache.ledgerWalk.contains (s.physSlice x.idx / 33) = false →
    l.needs x.secs = [] →
    let r := x.rmw i (l.secs.flatMap (·.data))
    ∀ c, ((x.isAtomic = true ∧ c = .homeAtomic i err) ∨ (x.isAtomic = false ∧ c = .lineReduction i err)) → ∃ t m y, exec c s = .next t ∧
      t.mem = s.mem ∧ t.homeLine x = some m ∧ m.dir = .none ∧ t.txn? i = some y ∧
      ((∀ k, k < 4 → x.secs.testBit k = true → (secAt l.secs k).poison = false ∧ x.poison.testBit k = false) →
        m.secs = (List.range 4).map (fun k => (secAt l.secs k).store (cut r.line (32 * k) 32) (secMask r.mask k) false) ∧
        y.results = r.old ∧ (l.counted = true → y.stage = .reply) ∧
        ∀ h, h < 16 → x.hoop = some h → t.fld F.cshSaddSat_CLAMPED (R.cshSaddSat h) =
          min (2 ^ F.cshSaddSat_CLAMPED.len - 1) (s.fld F.cshSaddSat_CLAMPED (R.cshSaddSat h) + r.sats)) ∧
      ((∃ k, k < 4 ∧ x.secs.testBit k = true ∧ (secAt l.secs k).poison = true) → m.secs = l.secs ∧ y.poison ≠ 0 ∧
        y.results = x.results)) ∧
  (∀ (a : RmwRes) (r : LaneReq), r.off + 8 ≤ a.line.length → r.a < 2 ^ 32 → r.b < 2 ^ 32 →
    let old := numAt a.line r.off 4
    numAt (laneApply 0 2 a r).line r.off 4 = (old + r.a) % 2 ^ 32 ∧
    sInt 32 (numAt (laneApply 1 2 a r).line r.off 4) = min (sInt 32 old) (sInt 32 r.a) ∧
    sInt 32 (numAt (laneApply 2 2 a r).line r.off 4) = max (sInt 32 old) (sInt 32 r.a) ∧
    numAt (laneApply 3 2 a r).line r.off 4 = r.a ∧
    numAt (laneApply 4 2 a r).line r.off 4 = (if old = r.a then r.b else old) ∧
    (r.ret = true → (laneApply 0 2 a r).old = a.old ++ [(r.lane, old)]) ∧
    ∀ o n, (o + n ≤ r.off ∨ r.off + 4 ≤ o) → numAt (laneApply 0 2 a r).line o n = numAt a.line o n) ∧
  (∀ (s : State) (i : Nat) (x : Txn) (l : Line) (err : SliceError), s.txn? i = some x → x.stage = .queued → x.op = .read → x.near = false →
    s.firstWaiting (s.physSlice x.idx) x.addr x.idx = some (.txn i) → s.lineBusy x.addr x.idx false = false → s.homeLine x = some l →
    (∀ d, l.dir ≠ .owned d) → l.needs x.secs = [] → ∃ t y, exec (.waitingRequestServe (.txn i) err) s = .next t ∧ t.mem = s.mem ∧
    Waiter.txn i ∉ (t.slice (s.physSlice x.idx)).waiting ∧ t.txn? i = some y ∧ y.stage = .reply ∧ y.data = l.secs.flatMap (·.data)) ∧
  (∀ (s : State) (m c pa v : Nat) (x : Msg) (err : SliceError) (who : Option Sender), s.msg? m = some x → x.kind = .signal c pa v none who →
    x.arrived = true → x.lost = false → (s.peek pa 32).2 = false → (fenceOf (s.peek pa 32).1).value < v →
    (fenceOf (s.peek pa 32).1).armed = false → Waiter.msg m ∈ (s.slice (s.physSlice (s.fenceIdx c x.src pa))).waiting →
    s.firstWaiting (s.physSlice (s.fenceIdx c x.src pa)) (lineOf pa) (s.fenceIdx c x.src pa) = some (.msg m) →
    s.lineBusy (lineOf pa) (s.fenceIdx c x.src pa) false = false → ∃ t, exec (.waitingRequestServe (.msg m) err) s = .next t ∧
    t.mem = (s.poke pa { fenceOf (s.peek pa 32).1 with value := v }.bytes).mem ∧
    Waiter.msg m ∉ (t.slice (s.physSlice (s.fenceIdx c x.src pa))).waiting)

/-- A near slice answers a read from a copy that holds its sectors and passes every other on; an owned copy takes a store, and without one the slice asks the home for
ownership once. The home grants a line that no other near copy holds, once it is counted, and otherwise calls the other copies back and waits. A grant allocates the
line in the near slice, applies the store and acknowledges it. An invalidation drops the shared copy and a recall the owned one with its dirty bytes; both are answered.
An answer merges its bytes into the home line and leaves the list of those awaited, and the last one lets the transaction go on; an owner's eviction frees the
directory. An owned copy that leaves sends its dirty bytes home, and a home line without near copies that leaves has each dirty sector written back. Memory bytes do not
change. Completes (a next state is the conclusion): `nearRead`, `nearStore`, `ownershipRequest`, `ownershipGrant`, `invalidate`, `recall`, `directoryAnswer`,
`nearEvict`, `homeEvict`. Rests on choices of the model: log 50, 52, 135, 157. -/
def Obligations.NearCopies : Prop :=
  (∀ (s : State) (i : Nat) (x : Txn) (err : SliceError), s.txn? i = some x → x.stage = .near → x.moving = false → x.op = .read →
    (∀ l, (s.slice (s.nearSlice x.die x.idx)).find x.addr x.idx = some l → l.needs x.secs = [] → ∃ t y, exec (.nearRead i err) s = .next t ∧
      t.mem = s.mem ∧ t.txn? i = some y ∧ y.stage = .reply ∧ y.data = l.secs.flatMap (·.data) ∧
      ∀ k, k < 4 → x.secs.testBit k = true → ((secAt l.secs k).poison = true ∨ err = .double k) → y.poison.testBit k = true) ∧
    ((∀ l, (s.slice (s.nearSlice x.die x.idx)).find x.addr x.idx = some l → l.needs x.secs ≠ []) → ∃ t, exec (.nearRead i err) s = .next t ∧
      t = { s with txns := t.txns, mesh := t.mesh } ∧ (t.txn? i).map (·.stage) = some .home)) ∧
  (∀ (s : State) (i : Nat) (x : Txn), s.txn? i = some x → x.stage = .near → x.moving = false → x.op = .store → x.waitAns = false →
    (∀ l, x.mirrored = false → (s.slice (s.nearSlice x.die x.idx)).find x.addr x.idx = some l → l.role = .owned →
      ∃ t m, exec (.nearStore i) s = .next t ∧ t.mem = s.mem ∧ (t.slice (s.nearSlice x.die x.idx)).find x.addr x.idx = some m ∧
        m.secs = (Line.store x l).secs ∧ (t.txn? i).map (·.stage) = some .reply) ∧
    (x.mirrored = false → (∀ l, (s.slice (s.nearSlice x.die x.idx)).find x.addr x.idx = some l → l.role ≠ .owned) →
      (∀ p ∈ s.txns, p.2.onLine x.addr x.idx = true → p.2.stage = .near → p.2.die = x.die → p.2.waitAns = false) →
      ∃ t j m, exec (.nearStore i) s = .next t ∧ t.txn? i = some { x with waitAns := true } ∧ t.msg? j = some m ∧ m.kind = .ownRequest i ∧
        m.dst = s.idxDie x.idx) ∧
    (x.mirrored = true → ∃ t, exec (.nearStore i) s = .next t ∧ (t.txn? i).map (·.stage) = some .home)) ∧
  (∀ (s : State) (m i : Nat) (z : Msg) (x : Txn) (l : Line), s.msg? m = some z → z.kind = .ownRequest i → z.arrived = true → s.txn? i = some x →
    s.lineBusy x.addr x.idx false = false → s.firstWaiting (s.physSlice x.idx) x.addr x.idx = none →
    s.cameFirst (s.physSlice x.idx) x.addr x.idx z.came = false → Waiter.msg m ∉ (s.slice (s.physSlice x.idx)).waiting → s.homeLine x = some l →
    let ks := l.dir.copies.filter (fun k => k != x.die)
    (ks = [] → l.counted = true → x.waitLedger = false → s.cache.ledgerWalk.contains (s.physSlice x.idx / 33) = false →
      ∃ t j y, exec (.ownershipRequest m) s = .next t ∧ (t.homeLine x).map (·.dir) = some (.owned x.die) ∧ t.msg? j = some y ∧
        y.kind = .ownGrant i ∧ y.dst = x.die) ∧
    (ks ≠ [] → (∀ k ∈ ks, s.baseLost (k % 8) = false) → ∃ t, exec (.ownershipRequest m) s = .next t ∧
      (t.homeLine x).map (·.dir) = some (.recall ks (some i) (.owner x.die i)) ∧
      ∀ k ∈ ks, ∃ j y, t.msg? j = some y ∧ y.kind = (if k < 8 then .invalidate x.idx x.addr else .recall x.idx x.addr) ∧ y.dst = k % 8)) ∧
  (∀ (s : State) (m i w : Nat) (z : Msg) (x : Txn) (c : Machine.Class) (b : Bool), s.msg? m = some z → z.kind = .ownGrant i → z.arrived = true →
    s.txn? i = some x → (s.slice (s.nearSlice x.die x.idx)).find x.addr x.idx = none →
    s.roomFor (s.nearSlice x.die x.idx) x.addr x.win x.hoop = .way w c none b → ∃ t l, exec (.ownershipGrant m) s = .next t ∧
      (t.slice (s.nearSlice x.die x.idx)).find x.addr x.idx = some l ∧ l.role = .owned ∧ l.way = w ∧
      l.secs = (List.range 4).map (fun k => if x.secs.testBit k then
        Sector.empty.store (cut x.data (32 * k) 32) (secMask x.mask k) (x.poison.testBit k) else Sector.empty) ∧
      (t.txn? i).map (fun y => (y.stage, y.waitAns)) = some (.reply, false)) ∧
  (∀ (s : State) (m idx addr : Nat) (z : Msg), s.msg? m = some z → z.arrived = true →
    (z.kind = .invalidate idx addr → ∃ t j y, exec (.invalidate m) s = .next t ∧ (t.slice (s.nearSlice z.dst idx)).find addr idx = none ∧
      t.msg? j = some y ∧ y.kind = .answer idx addr z.dst [] ∧ y.dst = s.idxDie idx) ∧
    (z.kind = .recall idx addr → s.grantOut z.dst addr idx = false → ∃ t j y, exec (.recall m) s = .next t ∧
      (t.slice (s.nearSlice z.dst idx)).find addr idx = none ∧ t.msg? j = some y ∧ y.dst = s.idxDie idx ∧
      ∀ l, (s.slice (s.nearSlice z.dst idx)).find addr idx = some l → l.role = .owned → y.kind = .answer idx addr z.dst l.dirtySecs)) ∧
  (∀ (s : State) (m idx addr die : Nat) (secs : List (Nat × Bytes × Nat × Bool)) (z : Msg) (l : Line), s.msg? m = some z → z.arrived = true →
    (s.slice (s.physSlice idx)).find addr idx = some l →
    (z.kind = .answer idx addr die secs → ∀ left tx a, l.dir = .recall left tx a →
      (left.filter (fun k => k % 8 != die) ≠ [] → ∃ t n, exec (.directoryAnswer m) s = .next t ∧
        (t.slice (s.physSlice idx)).find addr idx = some n ∧ n.secs = (l.mergeSecs (z.marked secs)).secs ∧
        n.dir = .recall (left.filter (fun k => k % 8 != die)) tx a) ∧
      (left.filter (fun k => k % 8 != die) = [] → ∀ j y, tx = some j → a = .none → s.txn? j = some y →
        ∃ t n, exec (.directoryAnswer m) s = .next t ∧
        (t.slice (s.physSlice idx)).find addr idx = some n ∧ n.secs = (l.mergeSecs (z.marked secs)).secs ∧ n.dir = .none ∧ (t.txn? j).map (·.waitAns) = some false)) ∧
    (z.kind = .evicted idx addr die secs → l.dir = .owned die → ∃ t n, exec (.directoryAnswer m) s = .next t ∧
      (t.slice (s.physSlice idx)).find addr idx = some n ∧ n.secs = (l.mergeSecs (z.marked secs)).secs ∧ n.dir = .none)) ∧
  (∀ (s : State) (p addr : Nat) (l : Line),
    ((s.slice p).lines.find? (fun x => x.addr = addr && x.role = .owned) = some l → l.cls ≠ .persist → ∃ t j y, exec (.nearEvict p addr) s = .next t ∧
      (t.slice p).find addr l.idx = none ∧ t.msg? j = some y ∧ y.kind = .evicted l.idx addr (p / 33) l.dirtySecs ∧ t.mem = s.mem) ∧
    (∀ err : SliceError, (s.slice p).lines.find? (fun x => x.addr = addr && x.role = .home) = some l → (s.slice p).find addr l.idx = some l →
      s.locked l = false → l.dir.copies = [] → l.cls ≠ .persist → ∃ t, exec (.homeEvict p addr err) s = .next t ∧
      (t.slice p).find addr l.idx = none ∧ t.mem.cells = s.mem.cells ∧ ((∀ k, err ≠ .double k) →
      ∀ x ∈ l.dirtySecs, s.canReach (p / 33) (chanDie (s.chanFor (p / 33) (addr + 32 * x.1))) = true →
        ∃ r q, SMap.get? t.mem.reqs r = some q ∧ q.sector = addr / 32 + x.1 ∧ q.write = true ∧ q.data = x.2.1 ∧
        q.mask = x.2.2.1 ∧ q.poison = x.2.2.2)))

/-- A ledger counts a line of a region, stopping at 65,535, and answers; it lowers the count again, and lists no count of 0. An answer lets the store or the grant that
waited go on. Where the ledger die of a surviving die is lost, its neighbour takes its place, the loss is shown, and the counts of that die are started anew; its
messages to the old ledger are void; the end of the walk has counted its lines and ends the waiting. In timeout mode a home that gives up on a die marks every sector of
the line as lost and takes the die out of the list of those awaited; so it does on its ledger. The walks for a lost die take it out of every directory, and a line that
it owned is lost. Completes (a next state is the conclusion): `ledgerIncrement`, `ledgerDecrement`, `ledgerAnswer`, `homeTimeoutExpiry`, `reclaimWalkEnd`,
`ledgerDieChange`, `ledgerWalkEnd`. Rests on choices of the model: log 51, 54, 158. -/
def Obligations.LedgersAndDeadDies : Prop :=
  (∀ (s : State) (m h r : Nat) (tx : Option Nat) (z : Msg), s.msg? m = some z → z.arrived = true → z.kind = .ledgerInc h r tx →
    ∃ t, exec (.ledgerIncrement m) s = .next t ∧ t.mem = s.mem ∧ t.regs = s.regs ∧
      SMap.getD t.cache.ledger (2 ^ 20 * h + r) 0 = min 65535 (SMap.getD s.cache.ledger (2 ^ 20 * h + r) 0 + 1) ∧
      (∀ k, k ≠ 2 ^ 20 * h + r → SMap.getD t.cache.ledger k 0 = SMap.getD s.cache.ledger k 0) ∧
      ∀ i, tx = some i → ∃ j y, t.msg? j = some y ∧ y.kind = .ledgerAns i ∧ y.dst = h) ∧
  (∀ (s : State) (m h r : Nat) (z : Msg), s.msg? m = some z → z.arrived = true → z.kind = .ledgerDec h r →
    ∃ t, exec (.ledgerDecrement m) s = .next t ∧ t.mem = s.mem ∧ t.regs = s.regs ∧ t.msg? m = none ∧
      (∀ p ∈ t.cache.ledger, p.2 ≠ 0) ∧ t.cache = { s.cache with ledger := t.cache.ledger } ∧
      (1 < SMap.getD s.cache.ledger (2 ^ 20 * h + r) 0 →
        SMap.getD t.cache.ledger (2 ^ 20 * h + r) 0 = SMap.getD s.cache.ledger (2 ^ 20 * h + r) 0 - 1)) ∧
  (∀ (s : State) (m i : Nat) (z : Msg) (x : Txn), s.msg? m = some z → z.arrived = true → z.kind = .ledgerAns i → s.txn? i = some x →
    ∃ t y, exec (.ledgerAnswer m) s = .next t ∧ t.mem = s.mem ∧ t.txn? i = some y ∧ y.waitLedger = false ∧
      (x.stage = .acks → x.waitAns = false → x.waitStack = 0 → y.stage = .reply)) ∧
  (∀ (s : State) (n : Nat), n < 8 → s.baseLost (s.ledgerOf n) = true → s.baseLost n = false → ∃ t, exec (.ledgerDieChange n) s = .next t ∧
    t.ledgerOf n = (if n % 2 = 0 then n + 1 else n - 1) ∧ n ∈ t.cache.ledgerWalk ∧ (∀ p ∈ t.cache.ledger, p.1 / 2 ^ 20 ≠ n) ∧
    (∀ p ∈ t.msgs, ∀ r tx, p.2.kind ≠ .ledgerInc n r tx ∧ p.2.kind ≠ .ledgerDec n r) ∧
    (t.fld F.cshDeadStat_LEDGER_LOST R.cshDeadStat).testBit n = true ∧ s.keepsRegsBut [R.cshDeadStat] t ∧
    t.mem = { s.mem with reqs := t.mem.reqs }) ∧
  (∀ (s : State) (n : Nat), n ∈ s.cache.ledgerWalk → ∃ t, exec (.ledgerWalkEnd n) s = .next t ∧ n ∉ t.cache.ledgerWalk ∧ t.mem = s.mem ∧
    (∀ p ∈ s.cache.slices, p.1 / 33 = n → ∀ l ∈ p.2.lines, l.role = .home → l.counted = true →
      0 < SMap.getD t.cache.ledger (ledgerKey n (l.addr / 2 ^ 21)) 0) ∧
    ∀ i x, s.txn? i = some x → x.space = .stack → s.physSlice x.idx / 33 = n → (t.txn? i).map (·.waitLedger) = some false) ∧
  (∀ (s : State) (p addr die k : Nat) (l : Line) (left : List Nat) (tx : Option Nat) (a : After),
    (s.slice p).lines.find? (fun x => x.addr = addr && x.role = .home) = some l → (s.slice p).find addr l.idx = some l →
    l.dir = .recall left tx a → s.cache.timeoutMode.contains (lineKey addr l.idx) = true → left.find? (fun x => x % 8 = die) = some k →
    (∃ b ∈ left, b ≠ k) → ∃ t n, exec (.homeTimeoutExpiry p addr die) s = .next t ∧ (t.slice p).find addr l.idx = some n ∧
      n.dir = .recall (left.filter (fun x => x != k)) tx a ∧ ∀ c ∈ n.secs, c.poison = true) ∧
  (∀ (s : State) (p addr i : Nat) (l : Line) (x : Txn),
    (s.slice p).lines.find? (fun y => y.addr = addr && y.role = .home) = some l → (s.slice p).find addr l.idx = some l →
    (∀ left tx a, l.dir ≠ .recall left tx a) → s.txn? i = some x → x.onLine addr l.idx = true → x.waitLedger = true →
    i ∈ s.cache.ledgerTimed → ∃ t n, exec (.homeTimeoutExpiry p addr (s.ledgerOf (p / 33))) s = .next t ∧
    (t.slice p).find addr l.idx = some n ∧ (∀ c ∈ n.secs, c.poison = true) ∧ (t.txn? i).map (·.waitLedger) = some false) ∧
  (∀ (s : State) (n : Nat), n ∈ s.cache.reclaim → ∃ t, exec (.reclaimWalkEnd n) s = .next t ∧ n ∉ t.cache.reclaim ∧ t.mem.cells = s.mem.cells ∧
    ∀ p addr idx l, (s.slice p).find addr idx = some l → l.role = .home → l.dir = .owned n → s.cache.slices = [(p, s.slice p)] →
      (s.slice p).lines = [l] → ∃ m, (t.slice p).find addr idx = some m ∧ m.dir = .none ∧ ∀ c ∈ m.secs, c.poison = true)

/-- A write to the control register of a window that is not BUSY gives it its new fields, sets BUSY, and starts the walks that the change asks for; on a BUSY window it only
sets REFUSED. BUSY clears when the change has propagated and no walk of the window remains. The end of a flush walk leaves no line of the window's range in any slice
once none is in transition; the end of a demotion makes every persist line of the window normal. A flush by register notes its range and writes back every dirty sector,
and while one runs a second does nothing; its end, once the write-backs are accepted, clears START; under OP 2 no line of the range is left, and what had become dirty
is accepted before START clears. The three clears make their counters 0 and change nothing else. Completes (a next state is the conclusion): `windowControlWrite`,
`windowPropagated`, `flushWalkEnd`, `demotionWalkEnd`, `cshWinOverClear`, `cshSliceErrClear`, `cshSaddSatClear`, `flushWriteBack`, `flushWriteBackInvalidate`,
`flushEnd`. Rests on choices of the model: log 55. -/
def Obligations.WindowsAndFlushes : Prop :=
  (∀ (s : State) (k : Nat) (w : Word), k < 1024 → s.regLive (R.cshWinCtrl k) = true →
    (s.bit F.cshWinCtrl_BUSY (R.cshWinCtrl k) = true → ∃ t, exec (.windowControlWrite k w) s = .next t ∧
      t.bit F.cshWinCtrl_REFUSED (R.cshWinCtrl k) = true ∧ t.cache = s.cache ∧ s.onlyRegs [R.cshWinCtrl k] t ∧
      t.fld F.cshWinCtrl_CLASS (R.cshWinCtrl k) = s.fld F.cshWinCtrl_CLASS (R.cshWinCtrl k) ∧
      t.bit F.cshWinCtrl_EN (R.cshWinCtrl k) = s.bit F.cshWinCtrl_EN (R.cshWinCtrl k)) ∧
    (s.bit F.cshWinCtrl_BUSY (R.cshWinCtrl k) = false → ∃ t, exec (.windowControlWrite k w) s = .next t ∧
      t.bit F.cshWinCtrl_BUSY (R.cshWinCtrl k) = true ∧ t.fld F.cshWinCtrl_CLASS (R.cshWinCtrl k) = Fget F.cshWinCtrl_CLASS w ∧
      t.fld F.cshWinCtrl_NEAR (R.cshWinCtrl k) = Fget F.cshWinCtrl_NEAR w ∧
      t.fld F.cshWinCtrl_HOME_DIE (R.cshWinCtrl k) = Fget F.cshWinCtrl_HOME_DIE w ∧
      t.bit F.cshWinCtrl_EN (R.cshWinCtrl k) = Fbit F.cshWinCtrl_EN w ∧
      t.cache.winWalks = s.cache.winWalks ++ winWalksOf (s.rd (R.cshWinCtrl k)) (t.rd (R.cshWinCtrl k)) k ∧ t.mem = s.mem)) ∧
  (∀ (s : State) (k : Nat), k < 1024 → s.bit F.cshWinCtrl_BUSY (R.cshWinCtrl k) = true →
    (.flush k ∉ s.cache.winWalks → .demote k ∉ s.cache.winWalks → ∃ t, exec (.windowPropagated k) s = .next t ∧
      t.bit F.cshWinCtrl_BUSY (R.cshWinCtrl k) = false ∧ s.onlyRegs [R.cshWinCtrl k] t) ∧
    (.flush k ∈ s.cache.winWalks ∨ .demote k ∈ s.cache.winWalks → exec (.windowPropagated k) s = .next s)) ∧
  (∀ (s : State) (k : Nat), k < 1024 → .flush k ∈ s.cache.winWalks → s.rangeBusy (s.winLo k) (s.winHi k) = false →
    ∃ t, exec (.flushWalkEnd k) s = .next t ∧ .flush k ∉ t.cache.winWalks ∧ t.mem.cells = s.mem.cells ∧
      (∀ p, ∀ l ∈ (t.slice p).lines, inRange (s.winLo k) (s.winHi k) l.addr = false) ∧
      (.demote k ∉ s.cache.winWalks → t.bit F.cshWinCtrl_BUSY (R.cshWinCtrl k) = false)) ∧
  (∀ (s : State) (k : Nat), k < 1024 → .demote k ∈ s.cache.winWalks → ∃ t, exec (.demotionWalkEnd k) s = .next t ∧
    .demote k ∉ t.cache.winWalks ∧ t.mem = s.mem ∧ (∀ p ∈ t.cache.slices, ∀ l ∈ p.2.lines, l.cls = .persist → l.win ≠ some k) ∧
    (.flush k ∉ s.cache.winWalks → t.bit F.cshWinCtrl_BUSY (R.cshWinCtrl k) = false)) ∧
  (∀ (s : State), s.regLive R.cshFlushCtrl = true → s.bit F.cshFlushCtrl_START R.cshFlushCtrl = false →
    ∃ t u, exec .flushWriteBack s = .next t ∧ exec .flushWriteBackInvalidate s = .next u ∧
      t.bit F.cshFlushCtrl_START R.cshFlushCtrl = true ∧ u.bit F.cshFlushCtrl_START R.cshFlushCtrl = true ∧
      t.fld F.cshFlushCtrl_OP R.cshFlushCtrl = 1 ∧ u.fld F.cshFlushCtrl_OP R.cshFlushCtrl = 2 ∧ t.mem.cells = s.mem.cells ∧
      t.cache.flushing = some (1, s.fld F.cshFlushBase_BASE R.cshFlushBase * 2 ^ 16, s.fld F.cshFlushLimit_LIMIT R.cshFlushLimit * 2 ^ 16) ∧
      u.cache.flushing = some (2, s.fld F.cshFlushBase_BASE R.cshFlushBase * 2 ^ 16, s.fld F.cshFlushLimit_LIMIT R.cshFlushLimit * 2 ^ 16) ∧
      ∀ p l, (s.slice p).find l.addr l.idx = some l → l.role = .home → s.linePending l.addr l.idx = false →
        inRange (s.fld F.cshFlushBase_BASE R.cshFlushBase * 2 ^ 16) (s.fld F.cshFlushLimit_LIMIT R.cshFlushLimit * 2 ^ 16) l.addr = true →
        ((t.slice p).find l.addr l.idx).map Line.isDirty = some false ∧ ((u.slice p).find l.addr l.idx).map Line.isDirty = some false) ∧
  (∀ (s : State), s.regLive R.cshFlushCtrl = true → s.bit F.cshFlushCtrl_START R.cshFlushCtrl = true →
    exec .flushWriteBack s = .next s ∧ exec .flushWriteBackInvalidate s = .next s) ∧
  (∀ (s : State) (op lo hi : Nat), s.cache.flushing = some (op, lo, hi) → s.rangeWriting lo hi = false →
    (op = 2 → s.rangeBusy lo hi = false) → ∃ t, exec .flushEnd s = .next t ∧ t.mem.cells = s.mem.cells ∧
      (t.rangeWriting lo hi = false → t.cache.flushing = none ∧ t.bit F.cshFlushCtrl_START R.cshFlushCtrl = false) ∧
      (t.rangeWriting lo hi = true → op = 2 ∧ t.cache.flushing = some (1, lo, hi) ∧
        t.bit F.cshFlushCtrl_START R.cshFlushCtrl = s.bit F.cshFlushCtrl_START R.cshFlushCtrl) ∧
      (op = 2 → ∀ p, ∀ l ∈ (t.slice p).lines, inRange lo hi l.addr = false)) ∧
  (∀ (s : State) (k : Nat), s.regLive (R.cshWinOver k) = true → s.regLive (R.cshSaddSat k) = true → s.regLive (R.cshSliceErr k) = true →
    (k < 1024 → ∃ t, exec (.cshWinOverClear k) s = .next t ∧ t.fld F.cshWinOver_OVER (R.cshWinOver k) = 0 ∧ s.onlyRegs [R.cshWinOver k] t) ∧
    (k < 16 → ∃ t, exec (.cshSaddSatClear k) s = .next t ∧ t.fld F.cshSaddSat_CLAMPED (R.cshSaddSat k) = 0 ∧
      s.onlyRegs [R.cshSaddSat k] t) ∧
    (k < 256 → ∃ t, exec (.cshSliceErrClear k) s = .next t ∧ t = { s with cache := { s.cache with slices := t.cache.slices } } ∧
      t.slice (s.physSlice k) = { s.slice (s.physSlice k) with corrected := 0, poisoned := 0 } ∧
      ∀ p, p ≠ s.physSlice k → t.slice p = s.slice p))

/-- A read of a ready channel returns the sector under the writes that arrived before it: good data, one corrected error counted, or poisoned where it is uncorrectable,
marked, or the channel is out of service; a bad read of a mirrored line goes to the mirror's controller. A write is accepted once no earlier request to its sector
waits: the named bytes of its sector change and no others, its mark follows what it brings and, where it merges, what the merge reads; a channel out of service discards
it. The acceptance that comes back lets its store go on. The mirror's data goes back to the read that asked, and into the primary copy where no write has overtaken the
read; bad in both copies it is answered poisoned. A scrub read takes the next sector; an uncorrectable one is recorded with SCRUB set. A row repair that is due holds
the bank and takes a spare, or is refused and counted where the bank has none left; its end remaps and logs the row. The idle row of a bank closes, the next bank in
turn is refreshed with its row closed, and nothing else changes. A stack above 85 or below 80 degrees sets the refresh interval of its 64 channels. Completes (a next
state is the conclusion): `controllerRead`, `controllerWrite`, `mirrorReadReturn`, `rowIdleClose`, `perBankRefresh`, `scrubRead`, `rowRepair`, `rowRepairEnd`,
`stackTemperatureReport`. Rests on choices of the model: log 56, 62, 63, 135, 137, 138. -/
def Obligations.ControllersAndRows : Prop :=
  (∀ (s : State) (r : Nat) (q : CtlReq) (err : ReadError), SMap.get? s.mem.reqs r = some q → q.write = false → q.queued = true →
    q.waiting = false → s.readBehind r q = false → s.hitFirst r q = false → q.chan < 1024 → r ≠ s.mem.nextReq →
    s.chanReady q.chan (s.locOf (32 * q.sector)).bank = true → ∃ t, exec (.controllerRead r err) s = .next t ∧
      t.mem.cells = s.mem.cells ∧ t.mem.marks = s.mem.marks ∧ t.txns = s.txns ∧ t.cache = s.cache ∧
      (s.chanState q.chan = 1 → (err = .none ∨ err = .one) → (s.sectorFor q).2 = false → ∃ p, SMap.get? t.mem.reqs r = some p ∧
        p.done = true ∧ p.poison = false ∧ p.data = (s.sectorFor q).1 ∧
        (err = .one → t.fld F.memChErr_CORRECTED (R.memChErr q.chan) = min 0xFFFF (s.fld F.memChErr_CORRECTED (R.memChErr q.chan) + 1)) ∧
        (err = .none → t = { s with mem := t.mem, mesh := t.mesh })) ∧
      (2 ≤ s.chanState q.chan ∨ err = .many ∨ err = .wrongAddress ∨ (s.sectorFor q).2 = true →
        (q.mirrored = false → ∃ p, SMap.get? t.mem.reqs r = some p ∧ p.done = true ∧ p.poison = true) ∧
        (q.mirrored = true → ∃ p k m, SMap.get? t.mem.reqs r = some p ∧ p.waiting = true ∧ p.done = false ∧
          SMap.get? t.mem.reqs k = some m ∧ m.who = .redirect r ∧ m.write = false ∧ m.sector = s.mirrorOf (32 * q.sector) / 32)) ∧
      (2 ≤ s.chanState q.chan ∨ err = .many ∨ err = .wrongAddress → t.fld F.memChErr_UNCORRECTABLE (R.memChErr q.chan) =
        min 0xFFF (s.fld F.memChErr_UNCORRECTABLE (R.memChErr q.chan) + 1))) ∧
  (∀ (s : State) (r : Nat) (q : CtlReq) (err : ReadError), SMap.get? s.mem.reqs r = some q → q.write = true → q.queued = true → q.chan < 1024 →
    s.earlierReq r q (fun p => !p.waiting) = false → s.chanReady q.chan (s.locOf (32 * q.sector)).bank = true →
    ∃ t p, exec (.controllerWrite r err) s = .next t ∧ SMap.get? t.mem.reqs r = some p ∧ p.done = true ∧
      (2 ≤ s.chanState q.chan → t.mem.cells = s.mem.cells ∧ t.mem.marks = s.mem.marks) ∧
      (s.chanState q.chan = 1 → s.mem.wf = true → q.data.length = 32 →
        (∀ k, k < 32 → cellAt t.mem.cells (32 * q.sector + k) =
          if q.mask.testBit k then q.data.getD k 0 else cellAt s.mem.cells (32 * q.sector + k)) ∧
        (∀ a, a < 32 * q.sector ∨ 32 * q.sector + 32 ≤ a → cellAt t.mem.cells a = cellAt s.mem.cells a) ∧
        (q.mask = fullMask → t.marked q.sector = q.poison) ∧
        (q.mask ≠ fullMask → q.mask ≠ 0 → t.marked q.sector =
          (s.marked q.sector || err == .many || err == .wrongAddress || q.poison)))) ∧
  (∀ (s : State) (r i : Nat) (q : CtlReq) (x : Txn), SMap.get? s.mem.reqs r = some q → q.write = true → q.done = true → q.moving = false →
    q.who = .mirror i → q.status = 0 → s.txn? i = some x → 1 < x.waitStack →
    ∃ t, exec (.controllerWrite r .none) s = .next t ∧ SMap.get? t.mem.reqs r = none ∧ t.mem.cells = s.mem.cells ∧
      t.txn? i = some { x with waitStack := x.waitStack - 1 }) ∧
  (∀ (s : State) (r o : Nat) (q p : CtlReq), SMap.get? s.mem.reqs r = some q → q.who = .redirect o → SMap.get? s.mem.reqs o = some p →
    r ≠ o → q.done = true → q.moving = false → ∃ t y, exec (.mirrorReadReturn r) s = .next t ∧ SMap.get? t.mem.reqs r = none ∧
      SMap.get? t.mem.reqs o = some y ∧ y.done = true ∧ y.data = q.data ∧ y.poison = (q.poison || q.status != 0) ∧
      (y.poison = true → t.mem.cells = s.mem.cells ∧
        t.fld F.memMirrorStat_DOUBLE R.memMirrorStat = min 0xFF (s.fld F.memMirrorStat_DOUBLE R.memMirrorStat + 1)) ∧
      (y.poison = false →
        t.fld F.memMirrorStat_REDIRECTS R.memMirrorStat = min 0xFFFF (s.fld F.memMirrorStat_REDIRECTS R.memMirrorStat + 1) ∧
        (p.overtaken = true ∨ 2 ≤ s.chanState p.chan → t.mem.cells = s.mem.cells) ∧
        (p.overtaken = false → s.chanState p.chan < 2 → s.mem.wf = true → q.data.length = 32 →
          (∀ z ∈ s.mem.reqs, z.2.write = false) →
          t.marked p.sector = false ∧ ∀ k, k < 32 → cellAt t.mem.cells (32 * p.sector + k) = q.data.getD k 0))) ∧
  (∀ (s : State) (c : Nat) (err : ReadError), c < 1024 → s.chanState c = 1 → s.fld F.memScrubCtrl_PERIOD_H R.memScrubCtrl ≠ 0 → s.runs (chanDie c) = true →
    ∃ t, exec (.scrubRead c err) s = .next t ∧ (t.chan c).scrub = ((s.chan c).scrub + 1) % s.chanSectors ∧
      t.mem.cells = s.mem.cells ∧ t.mem.marks = s.mem.marks ∧ t.mem.reqs = s.mem.reqs ∧ t.engs = s.engs ∧
      (err = .many → t.fld F.memChUeAddr_SCRUB (R.memChUeAddr c) = 1 ∧ t.fld F.memChUeAddr_VALID (R.memChUeAddr c) = 1 ∧
        t.fld F.memChErr_UNCORRECTABLE (R.memChErr c) = min 0xFFF (s.fld F.memChErr_UNCORRECTABLE (R.memChErr c) + 1))) ∧
  (∀ (s : State) (c bank row : Nat), c < 1024 → bank < 16 → s.chanState c = 1 → s.bit F.memRepairCtrl_REPAIR_EN R.memRepairCtrl = true →
    (s.chan c).repairing = none → s.repairDue c bank row = true → s.runs (chanDie c) = true → ∃ t, exec (.rowRepair c bank row) s = .next t ∧ t.mem.cells = s.mem.cells ∧
      (4 ≤ SMap.getD (s.chan c).spares bank 0 → (t.chan c).repairing = none ∧
        s.onlyRegs [R.memChRepair c] { t with mem := s.mem } ∧
        t.fld F.memChRepair_REPAIR_REFUSED (R.memChRepair c) =
          min (2 ^ F.memChRepair_REPAIR_REFUSED.len - 1) (s.fld F.memChRepair_REPAIR_REFUSED (R.memChRepair c) + 1)) ∧
      (SMap.getD (s.chan c).spares bank 0 < 4 → (t.chan c).repairing = some (bank, row) ∧
        SMap.getD (t.chan c).spares bank 0 = SMap.getD (s.chan c).spares bank 0 + 1 ∧ s.onlyRegs [R.memChStat c] { t with mem := s.mem } ∧
        t.fld F.memChStat_SPARES_LEFT (R.memChStat c) = s.fld F.memChStat_SPARES_LEFT (R.memChStat c) - 1)) ∧
  (∀ (s : State) (c bank row : Nat) (bad : List Nat), c < 1024 → (s.chan c).repairing = some (bank, row) → s.chanState c = 1 → s.runs (chanDie c) = true →
    ∃ t, exec (.rowRepairEnd c bad) s = .next t ∧ (t.chan c).repairing = none ∧ (bank, row) ∈ (t.chan c).remap ∧
      ((s.chan c).log.length < 16 → (t.chan c).log = (s.chan c).log ++ [(bank, row)]) ∧ t.mem.cells = s.mem.cells ∧
      (∀ n ∈ bad, n < 64 → t.marked (s.sectorOf c (lineAt bank row (n / 4)) (n % 4)) = true)) ∧
  (∀ (s : State) (c b : Nat), s.runs (chanDie c) = true → ∃ t u, exec (.rowIdleClose c b) s = .next t ∧ exec (.perBankRefresh c) s = .next u ∧
    SMap.get? (t.chan c).openRows b = none ∧ SMap.get? (u.chan c).openRows (s.chan c).refreshBank = none ∧
    (u.chan c).refreshBank = ((s.chan c).refreshBank + 1) % 16 ∧ t = { s with mem := { s.mem with chans := t.mem.chans } } ∧
    u = { s with mem := { s.mem with chans := u.mem.chans } } ∧ ∀ k, k ≠ c → t.chan k = s.chan k ∧ u.chan k = s.chan k) ∧
  (∀ (s : State) (k temp : Nat), k < 16 → s.clk.pwrok = true → ∃ t, exec (.stackTemperatureReport k temp) s = .next t ∧
    t.mem = s.mem ∧ t.engs = s.engs ∧ s.keepsRegsBut ((List.range 64).map (fun c => R.memChStat (64 * k + c))) t ∧
    (85 < temp → ∀ c, c < 64 → t.fld F.memChStat_REFRESH_2X (R.memChStat (64 * k + c)) = 1) ∧
    (temp < 80 → ∀ c, c < 64 → t.fld F.memChStat_REFRESH_2X (R.memChStat (64 * k + c)) = 0) ∧
    (80 ≤ temp → temp ≤ 85 → t.regs = s.regs))

/-- A channel that trains enters service with its repair log written; one that fails leaves service, and the darning record gains a generation. A clear of a set makes every
byte of it read 0, lifts its poison marks and shows CLEARING; its end lowers CLEARING. A write to MEM_SET_CTRL changes MODE and COMMON, and clears the set, only where
the set has no owner and is not clearing, else it sets REFUSED; WRITE_OPEN is always taken. The test state is entered from and left for the states the manual gives,
refused otherwise, and its end clears the channel. The counter clears make their counters 0. A traffic run starts in the test state alone, with a good range and
pattern; a stop marks it; its end reports, PASS where nothing differed. Each changes nothing else that its clause names as kept. Completes (a next state is the
conclusion): `channelTraining`, `setClear`, `setClearEnd`, `memSetCtrlWrite`, `memChTestEnter`, `memChTestExit`, `testClearEnd`, `memChErrClear`, `memMirrorStatClear`,
`tgcStart`, `tgcStop`, `tgcRunEnd`. Rests on choices of the model: log 57, 58, 109, 163. -/
def Obligations.ChannelSetsAndTest : Prop :=
  (∀ (s : State) (c : Nat) (ok : Bool), c < 1024 → s.chanState c = 0 → (s.chan c).clearing = false → c ∉ s.ras.chanOut → s.runs (chanDie c) = true →
    ∃ t, exec (.channelTraining c ok) s = .next t ∧ t.mem.cells = s.mem.cells ∧ t.engs = s.engs ∧
      (ok = true → t.chanState c = 1 ∧ (t.chan c).log = [] ∧ t.fld F.memChRepair_LOGGED (R.memChRepair c) = 0 ∧
        t.ras.generation = s.ras.generation) ∧
      (ok = false → t.chanState c = 3 ∧ c ∈ t.ras.chanOut ∧ t.ras.generation = s.ras.generation + 1) ∧
      (s.stage = 2 → (∀ k, k < 1024 → k ≠ c → s.chanState k ≠ 0) → 3 ≤ t.stage)) ∧
  (∀ (s : State) (j : Nat), j < 16 →
    (s.bit F.memSetStat_CLEARING (R.memSetStat j) = true → exec (.setClear j) s = .next s) ∧
    (s.bit F.memSetStat_CLEARING (R.memSetStat j) = false → ∃ t, exec (.setClear j) s = .next t ∧
      s.onlyRegs [R.memSetStat j] { t with mem := s.mem } ∧ t.bit F.memSetStat_CLEARING (R.memSetStat j) = true ∧
      t.fld F.memSetStat_OWNER (R.memSetStat j) = s.fld F.memSetStat_OWNER (R.memSetStat j) ∧
      (∀ a, j * 2 ^ s.setBits ≤ a → a < (j + 1) * 2 ^ s.setBits → cellAt t.mem.cells a = 0 ∧ t.marked (a / 32) = false) ∧
      (s.mem.wf = true → ∀ a, a < j * 2 ^ s.setBits ∨ (j + 1) * 2 ^ s.setBits ≤ a → cellAt t.mem.cells a = cellAt s.mem.cells a)) ∧
    (s.clk.pwrok = true → ∃ t, exec (.setClearEnd j) s = .next t ∧ t.mem = s.mem ∧ t.bit F.memSetStat_CLEARING (R.memSetStat j) = false ∧
      s.keepsRegsBut [R.memSetStat j, R.secBoot] t ∧ ((∀ k, k < 16 → k ≠ j → s.bit F.memSetStat_CLEARING (R.memSetStat k) = false) →
        t.host.rrs = false ∧ (s.stage = 3 → t.stage = 4 ∧ t.ras.recordWait = true)))) ∧
  (∀ (s : State) (j : Nat) (w : Word), j < 16 → s.regLive (R.memSetCtrl j) = true → ∃ t, exec (.memSetCtrlWrite j w) s = .next t ∧
    s.onlyRegs [R.memSetCtrl j, R.memSetStat j] { t with mem := s.mem } ∧
    t.fld F.memSetCtrl_WRITE_OPEN (R.memSetCtrl j) = Fget F.memSetCtrl_WRITE_OPEN w ∧
    (Fbit F.memSetCtrl_CLEAR w = true → t.bit F.memSetStat_CLEARING (R.memSetStat j) = true) ∧
    (16 ≤ s.fld F.memSetStat_OWNER (R.memSetStat j) → s.bit F.memSetStat_CLEARING (R.memSetStat j) = false →
      t.fld F.memSetCtrl_MODE (R.memSetCtrl j) = Fget F.memSetCtrl_MODE w ∧
      t.fld F.memSetCtrl_COMMON (R.memSetCtrl j) = Fget F.memSetCtrl_COMMON w ∧
      (Fget F.memSetCtrl_COMMON w ≠ s.fld F.memSetCtrl_COMMON (R.memSetCtrl j) → t.bit F.memSetStat_CLEARING (R.memSetStat j) = true ∧
        t.fld F.memSetStat_OWNER (R.memSetStat j) = if Fbit F.memSetCtrl_COMMON w then 16 else 31)) ∧
    (s.fld F.memSetStat_OWNER (R.memSetStat j) < 16 ∨ s.bit F.memSetStat_CLEARING (R.memSetStat j) = true →
      t.fld F.memSetCtrl_MODE (R.memSetCtrl j) = s.fld F.memSetCtrl_MODE (R.memSetCtrl j) ∧
      t.fld F.memSetCtrl_COMMON (R.memSetCtrl j) = s.fld F.memSetCtrl_COMMON (R.memSetCtrl j) ∧
      (Fget F.memSetCtrl_MODE w ≠ s.fld F.memSetCtrl_MODE (R.memSetCtrl j) → t.bit F.memSetStat_REFUSED (R.memSetStat j) = true))) ∧
  (∀ (s : State) (c : Nat), c < 1024 → s.regLive (R.memChCtrl c) = true →
    (∃ t, exec (.memChTestEnter c) s = .next t ∧
      (¬((s.chanState c = 1 ∨ s.chanState c = 3) ∧ s.fld F.memSetStat_OWNER (R.memSetStat (chanSet c)) = 31) →
        t.bit F.memChCtrl_REFUSED (R.memChCtrl c) = true ∧ s.onlyRegs [R.memChCtrl c] t) ∧
      ((s.chanState c = 1 ∨ s.chanState c = 3) ∧ s.fld F.memSetStat_OWNER (R.memSetStat (chanSet c)) = 31 →
        t.chanState c = 2 ∧ t.bit F.memChCtrl_TEST (R.memChCtrl c) = true ∧ (t.chan c).before = s.chanState c ∧
        t.mem.cells = s.mem.cells)) ∧
    (s.chanState c = 2 → ∃ t, exec (.memChTestExit c) s = .next t ∧ t.chanState c = 0 ∧ (t.chan c).clearing = true ∧
      s.onlyRegs [R.memChCtrl c, R.memChStat c] { t with mem := s.mem } ∧
      (∀ a, isToile a = false → (s.locOf a).chan = c → cellAt t.mem.cells a = 0) ∧
      (s.mem.wf = true → ∀ a, isToile a = true ∨ (s.locOf a).chan ≠ c → cellAt t.mem.cells a = cellAt s.mem.cells a))) ∧
  (∀ (s : State) (c : Nat), c < 1024 → (s.chan c).clearing = true → (s.chan c).before < 4 → s.runs (chanDie c) = true → ∃ t, exec (.testClearEnd c) s = .next t ∧
    t.chanState c = (s.chan c).before ∧ (t.chan c).clearing = false ∧ s.onlyRegs [R.memChStat c] { t with mem := s.mem } ∧
    t.mem.cells = s.mem.cells) ∧
  (∀ (s : State) (c : Nat), c < 1024 → s.regLive (R.memChErr c) = true → ∃ t, exec (.memChErrClear c) s = .next t ∧
    t.fld F.memChErr_CORRECTED (R.memChErr c) = 0 ∧ t.fld F.memChErr_UNCORRECTABLE (R.memChErr c) = 0 ∧ s.onlyRegs [R.memChErr c] t) ∧
  (∀ (s : State), s.regLive R.memMirrorStat = true → ∃ t, exec .memMirrorStatClear s = .next t ∧
    t.fld F.memMirrorStat_REDIRECTS R.memMirrorStat = 0 ∧ t.fld F.memMirrorStat_DOUBLE R.memMirrorStat = 0 ∧
    t.fld F.memMirrorStat_SINGLE R.memMirrorStat = 0 ∧ s.onlyRegs [R.memMirrorStat] t) ∧
  (∀ (s : State) (c : Nat) (w : Word), c < 1024 → s.regLive (R.tgcCtrl c) = true → Fbit F.tgcCtrl_START w = true →
    s.bit F.tgcCtrl_START (R.tgcCtrl c) = false → ∃ t, exec (.tgcStart c w) s = .next t ∧
      s.onlyRegs [R.tgcCtrl c, R.tgcStat c, R.tgcErr c, R.tgcFirst c] t ∧
      t.fld F.tgcCtrl_OP (R.tgcCtrl c) = Fget F.tgcCtrl_OP w ∧ t.fld F.tgcCtrl_RANDOM (R.tgcCtrl c) = Fget F.tgcCtrl_RANDOM w ∧
      t.bit F.tgcCtrl_START (R.tgcCtrl c) = s.tgcOk c ∧
      (s.tgcOk c = true → t.fld F.tgcStat_DONE (R.tgcStat c) = 0 ∧ t.fld F.tgcStat_PASS (R.tgcStat c) = 0 ∧ t.rd (R.tgcErr c) = 0 ∧
        t.fld F.tgcFirst_VALID (R.tgcFirst c) = 0) ∧
      (s.tgcOk c = false → t.bit F.tgcStat_REFUSED (R.tgcStat c) = true)) ∧
  (∀ (s : State) (c : Nat) (w : Word), c < 1024 → s.regLive (R.tgcCtrl c) = true → Fbit F.tgcCtrl_STOP w = true →
    s.bit F.tgcCtrl_START (R.tgcCtrl c) = true → ∃ t, exec (.tgcStop c w) s = .next t ∧
      t.fld F.tgcCtrl_OP (R.tgcCtrl c) = Fget F.tgcCtrl_OP w ∧ t.fld F.tgcCtrl_RANDOM (R.tgcCtrl c) = Fget F.tgcCtrl_RANDOM w ∧ t.bit F.tgcCtrl_STOP (R.tgcCtrl c) = true ∧ t.bit F.tgcCtrl_START (R.tgcCtrl c) = true ∧
      s.onlyRegs [R.tgcCtrl c] t) ∧
  (∀ (s : State) (c : Nat) (x : TgcResult), c < 1024 → s.bit F.tgcCtrl_START (R.tgcCtrl c) = true →
    s.fld F.tgcCfg_PASSES (R.tgcCfg c) ≠ 0 ∨ s.bit F.tgcCtrl_STOP (R.tgcCtrl c) = true → s.runs (chanDie c) = true → ∃ t, exec (.tgcRunEnd c x) s = .next t ∧
      s.onlyRegs [R.tgcCtrl c, R.tgcStat c, R.tgcErr c, R.tgcFirst c] t ∧ t.bit F.tgcCtrl_START (R.tgcCtrl c) = false ∧
      t.bit F.tgcCtrl_STOP (R.tgcCtrl c) = false ∧ t.bit F.tgcStat_DONE (R.tgcStat c) = true ∧
      t.fld F.tgcStat_BW (R.tgcStat c) = min 0xFFFF x.bw ∧
      (t.bit F.tgcStat_PASS (R.tgcStat c) = true ↔ x.errors = 0 ∨ s.fld F.tgcCtrl_OP (R.tgcCtrl c) % 2 = 1) ∧
      (x.errors ≠ 0 → s.fld F.tgcCtrl_OP (R.tgcCtrl c) % 2 = 0 → t.fld F.tgcErr_ERRORS (R.tgcErr c) = min 0x3FFF x.errors ∧
        t.fld F.tgcFirst_VALID (R.tgcFirst c) = 1))

/-- A KNOT in a group whose launch is not being saved steps on, remembering its record; in one that is being saved the group parks with the LIVE mask and the ranges of that
record. The preempt picot that has arrived starts the save of a member: its waiting groups that have passed no KNOT park with every register and no other group changes.
When the knot wait expires every group of the launch is parked, with every register saved. A save whose writes are acknowledged leaves its version, kind, engine and
queue in its slot, frees the groups and the window, and sends the answering picot; a failed write faults the context with FAULT_SAVE, detail 3. When every member has
answered, the command is saved and its queue unbound, or runs on to its end where all had ended. A restore places each group as its record gives it and answers; a
failed read faults with detail 4. Completes (a next state is the conclusion): `knot`, `preemptPicotArrive`, `knotWaitExpiry`, `saveWritesAcked`, `saveComplete`,
`restore`. Rests on choices of the model: log 42, 43, 44, 85, 127, 150. -/
def Obligations.KnotsSavesAndRestores : Prop :=
  (∀ (s : State) (e g opc : Nat) (k : Int) (u : Group), s.mayIssue e g opc [] u →
    ((s.share? e u.queue).any (fun h => h.saving.isSome) = false → ∃ t, exec (.knot e g opc k) s = .next t ∧
      s.setsGroup e g { u with pc := u.pc + 8, krec := some (sInt 24 (uNat 24 k)) } t) ∧
    (∀ (c : Ctx) (l : Leaf) (m : Mobj), (s.share? e u.queue).any (fun h => h.saving.isSome) = true → s.ctx? u.ctx = some c →
      let a := uNat 57 ((u.pc.toNat / 64 * 64 : Nat) + 64 * sInt 24 (uNat 24 k))
      s.translate c .fetch a = .ok (l, m) → l.space = .stack → (s.knotBytes e u.ctx l a).2 = false → s.setAllowed c.hoop (l.phys a) false = true →
      rangesOk ((s.eng e).winBS u.queue).2 (knotOf (s.knotBytes e u.ctx l a).1).2 = true → ∃ t p, exec (.knot e g opc k) s = .next t ∧
        (t.grp? e g).bind (·.park?) = some p ∧ p.why = 1 ∧ p.live = (knotOf (s.knotBytes e u.ctx l a).1).1 % 2 ^ u.n ∧
        p.ranges = (knotOf (s.knotBytes e u.ctx l a).1).2 ∧ t.mem = s.mem ∧ t.regs = s.regs ∧ (∀ j, j ≠ g → t.grp? e j = s.grp? e j))) ∧
  (∀ (s : State) (e q : Nat) (u : Queue) (r : Run) (h : Share) (z : Nat × Msg), s.queue? q = some u → u.run = some r → r.phase = .saving →
    s.msgs.find? (fun p => p.2.arrived && p.2.kind == .preempt q e) = some z → s.share? e q = some h → h.saving = none → h.restore = false → s.releaseOut e q = false →
    (∀ p ∈ s.groupsOf e q, ∀ v, s.grp? e p.1 = some v → v.waits = true → v.krec = none) → ∃ t, exec (.preemptPicotArrive e q) s = .next t ∧ t.msg? z.1 = none ∧
      t.share? e q = some { h with saving := some 1, slot := (r.slots.find? (fun p => p.1 = e)).map (·.2) } ∧
      (∀ g v, s.grp? e g = some v → v.queue = q → v.waits = true → ∃ p, (t.grp? e g).bind (·.park?) = some p ∧
        p.live = 2 ^ v.n - 1 ∧ p.why = (parkWhy v).1) ∧
      (∀ g v, s.grp? e g = some v → v.waits = false → t.grp? e g = some v) ∧ (∀ k, k ≠ e → t.eng k = s.eng k) ∧
      t.mem = s.mem ∧ t.regs = s.regs) ∧
  (∀ (s : State) (e q : Nat) (u : Queue) (h : Share), s.queue? q = some u → u.hasRun .saving = true → s.share? e q = some h →
    h.saving = some 1 → (∃ p ∈ s.groupsOf e q, p.2.isParked = false) → ∃ t, exec (.knotWaitExpiry e q) s = .next t ∧
      t.share? e q = some { h with saving := some 2 } ∧ t.mem = s.mem ∧ t.regs = s.regs ∧ (∀ k, k ≠ e → t.eng k = s.eng k) ∧
      (∀ g v, s.grp? e g = some v → v.queue = q → ∃ p, (t.grp? e g).bind (·.park?) = some p ∧
        ((∀ x ∈ (s.eng e).groups, x.1 = g → x.2 = v) → p.live = 2 ^ v.n - 1))) ∧
  (∀ (s : State) (e q hp kind : Nat) (u : Queue) (r : Run) (h : Share), s.queue? q = some u → u.run = some r → r.phase = .saving →
    s.queueHoop u = some hp → s.share? e q = some h → h.saving = some kind → (∀ p ∈ s.groupsOf e q, p.2.isParked = true) →
    (∀ p ∈ (s.eng e).filet, p.2.queue = q → p.2.started = false) → s.cmdTxns q e = [] →
    (∃ t y, exec (.saveWritesAcked e q none) s = .next t ∧ t.groupsOf e q = [] ∧ (∀ w ∈ (t.eng e).wins, w.queue ≠ q) ∧
      t.share? e q = some y ∧ y.restore = true ∧ y.saving = none ∧ (t.queue? q).bind (·.run) = some r ∧
      (s.picotFree e = true → ∃ j z, t.msg? j = some z ∧ z.kind = .saved q e ∧ z.dst = s.mgrDie hp) ∧
      (s.mem.wf = true → s.writable (s.slotAddr hp (h.slot.getD 0)) 8 →
        cellsAt t.mem.cells (s.slotAddr hp (h.slot.getD 0)) 8 = leBytes 1 1 ++ leBytes 1 kind ++ leBytes 2 e ++ leBytes 4 q) ∧
      (∀ j, j ≠ e → t.eng j = s.eng j)) ∧
    (∀ (a : Nat) (x : Ctx), s.ctx? h.ctx = some x → x.fault = none → ∃ t y f, exec (.saveWritesAcked e q (some a)) s = .next t ∧
      t.ctx? h.ctx = some y ∧ y.fault = some f ∧ f.code = 0x12 ∧ f.detail = 3 ∧ f.addr = a)) ∧
  (∀ (s : State) (q hp : Nat) (u : Queue) (r : Run), s.queue? q = some u → u.run = some r → r.phase = .saving → descOp r.desc ≠ 7 →
    s.queueHoop u = some hp → (∀ e ∈ r.members, e ∈ r.answered ∨ e ∈ s.savedAnswers q) → ∃ t y k, exec (.saveComplete q) s = .next t ∧ t.queue? q = some y ∧
      y.run = some k ∧
      ((∀ e ∈ r.members, s.share? e q = none) → k.phase = .running ∧ k.frozen = false ∧ k.slots = []) ∧
      ((∃ e ∈ r.members, (s.share? e q).isSome = true) → (k.phase = .saved ∨ k.phase = .restoring) ∧ k.arrivals = [] ∧ k.slots = r.slots)) ∧
  (∀ (s s' : State) (e q hp : Nat) (u : Queue) (r : Run) (h : Share), s.queue? q = some u → u.run = some r → r.phase = .restoring →
    s.queueHoop u = some hp → s.share? e q = some h → h.restore = true → h.ctx ∉ (s.eng e).draining →
    (∀ p ∈ h.kept, ∀ f ∈ (s.eng e).filet, f.1 ≠ p.1) →
    let base := s.slotAddr hp (h.slot.getD 0)
    let cnt := numAt (s.peek (base + 10) 1).1 0 1
    let free := (List.range 16).filter (fun g => !((s.eng e).groups.any (fun p => p.1 = g)))
    cnt ≤ free.length → (s.eng e).rows + cnt * rowsFor h.n ≤ 2048 →
    ((s.peek base 0x400).2 = false → (s.peek (base + 0x400) (1024 * cnt)).2 = false → s.poisonedRegs base cnt = none → s.takeWin e q h.twin true = some s' →
      (∀ i, i < numAt (s.peek base 0x400).1 13 1 → (s.peek (base + 0x48000 + numAt (s.peek base 0x400).1 (0x180 + 8 * i) 4)
        (numAt (s.peek base 0x400).1 (0x184 + 8 * i) 4)).2 = false) →
      (∀ k, k < 8 → numAt (s.peek base 0x400).1 (0x40 + 8 * k) 8 = 0 ∨ (∃ m ∈ (s.eng e).motifs, m.1 = motifKey h.ctx k) ∨
        (s.reloadMotif k h.ctx (numAt (s.peek base 0x400).1 (0x40 + 8 * k) 8)).isSome = true) →
      ∃ t y, exec (.restore e q none) s = .next t ∧ t.share? e q = some y ∧ y.restore = false ∧ y.slot = none ∧
        (∃ l : List Nat, l.length = cnt ∧ l.Nodup ∧ (∀ g ∈ l, g ∈ free) ∧
          ∀ i, i < cnt → t.grp? e (l.getD i 0) = some (s.loadGroup base i q h.ctx h.n h.knots)) ∧ t.mem = s.mem ∧
        (∀ k, k ≠ e → t.eng k = s.eng k)) ∧
    (∀ (a : Nat) (x : Ctx), s.ctx? h.ctx = some x → x.fault = none → ∃ t y f, exec (.restore e q (some a)) s = .next t ∧
      t.ctx? h.ctx = some y ∧ y.fault = some f ∧ f.code = 0x12 ∧ f.detail = 4 ∧ f.addr = a))

/-- The link comes up at 16 or 8 lanes, a rate of 1 to 6 and Flit mode, and reports NO_FLIT where Flit mode is refused; when it goes down it reports no lanes and every read
of host memory under way is answered poisoned. A completion answers the read with its bytes, poisoned where it came so; a completion of an AtomicOp gives its lane its
value, and the last answers; a read that times out is answered poisoned. A BAR4 access that its function may make becomes a transaction on each line that it meets, with
its bytes there; a function being reset reads zeros; a refused read returns zeros, a refused write changes nothing, and BAR4_DENIED counts it. A vector that is unmasked
while pending is sent. The error counters clear to 0. Registers not named, memory and the engines stay. Completes (a next state is the conclusion): `hostLinkTrain`,
`bar4Access`, `hostCompletion`, `hostReadTimeout`, `hifErrCntClear`, `hostLinkDown`, `msiXVectorUnmask`. Rests on choices of the model: log 20, 64, 70, 146, 147, 148. -/
def Obligations.HostLinkAndBars : Prop :=
  (∀ (s : State) (width rate : Nat) (flit : Bool), s.clk.pwrok = true → ∃ t, exec (.hostLinkTrain width rate flit) s = .next t ∧
    t = { s with regs := t.regs, host := { s.host with down := t.host.down } } ∧ s.keepsRegsBut [R.hifLinkStat] t ∧
    ((width = 16 ∨ width = 8) ∧ 1 ≤ rate ∧ rate ≤ 6 ∧ flit = true → t.host.down = false ∧
      t.fld F.hifLinkStat_WIDTH R.hifLinkStat = width ∧ t.fld F.hifLinkStat_RATE R.hifLinkStat = rate ∧
      t.fld F.hifLinkStat_FLIT R.hifLinkStat = 1 ∧ t.fld F.hifLinkStat_NO_FLIT R.hifLinkStat = 0) ∧
    (flit = false → t.host.down = true ∧ t.fld F.hifLinkStat_WIDTH R.hifLinkStat = 0 ∧ t.fld F.hifLinkStat_NO_FLIT R.hifLinkStat = 1)) ∧
  (∀ (s : State), s.clk.pwrok = true → ∃ t, exec .hostLinkDown s = .next t ∧ t.host.down = true ∧ t.fld F.hifLinkStat_WIDTH R.hifLinkStat = 0 ∧
    s.keepsRegsBut [R.hifLinkStat] t ∧ t.mem = s.mem ∧ t.engs = s.engs ∧
    ∀ i x, s.txn? i = some x → x.stage = .host → x.moving = false → x.isStore = false → ∃ y, t.txn? i = some y ∧ y.stage = .reply ∧
      y.poison = x.poison ||| x.secs) ∧
  (∀ (s : State) (i : Nat) (x : Txn), s.txn? i = some x → x.stage = .host → x.moving = false → 0 < x.waitStack →
    (x.isStore = false → ∃ t y, exec (.hostReadTimeout i) s = .next t ∧ t.txn? i = some y ∧ y.stage = .reply ∧
      y.poison = x.poison ||| x.secs ∧ t.mem = s.mem ∧ t.regs = s.regs ∧ t.engs = s.engs) ∧
    ∀ (lane : Nat) (data : Bytes) (bad : Bool),
      (x.op = .read → ∃ t y, exec (.hostCompletion i lane data bad) s = .next t ∧ t.txn? i = some y ∧ y.stage = .reply ∧
        y.data = cut data 0 128 ∧ y.poison = (if bad then x.poison ||| x.secs else x.poison) ∧ t.mem = s.mem ∧ t.regs = s.regs ∧
        t.engs = s.engs) ∧
      (∀ (aop size : Nat) (r : LaneReq), x.op = .atomic aop size → x.lanes = [r] → r.lane = lane → r.ret = true → x.results = [] →
        ∃ t y, exec (.hostCompletion i lane data bad) s = .next t ∧ t.txn? i = some y ∧ y.stage = .reply ∧
          y.results = [(lane, numAt data 0 (2 ^ size))] ∧ t.mem = s.mem ∧ t.regs = s.regs ∧ t.engs = s.engs) ∧
      (∀ (aop size : Nat) (r : LaneReq), x.op = .atomic aop size → (x.lanes.take x.waitStack).find? (fun r => r.lane = lane) = some r →
        (∀ p ∈ x.results, p.1 ≠ lane) → x.results.length + 1 < x.lanes.length → ∃ t y, exec (.hostCompletion i lane data bad) s = .next t ∧
          t.txn? i = some y ∧ y.stage = .host ∧ y.results = x.results ++ [(lane, numAt data 0 (2 ^ size))])) ∧
  (∀ (s : State) (fn off len : Nat), s.barDead fn = false → off < 2 ^ s.bar4Bits fn → 0 < len → off % 4096 + len ≤ 4096 →
    let pa := s.bar4Win fn + off
    let parts := lineCuts 34 pa len
    (∀ a, pa ≤ a → a < pa + len → ∃ p ∈ parts, p.1 ≤ a ∧ a < p.1 + p.2) ∧
    (s.inReset fn = true → (∃ t, exec (.bar4Access fn off len none) s = .next t ∧ t = { s with posted := s.posted ++ [.completion fn (zeros len) false] }) ∧
      ∀ bs : Bytes, bs.length = len → exec (.bar4Access fn off len (some bs)) s = .next s) ∧
    (s.inReset fn = false → (∀ p ∈ parts, s.bar4Ok fn p.1 = true) →
      (∀ bs : Bytes, bs.length = len → ∃ t, exec (.bar4Access fn off len (some bs)) s = .next t ∧
        t = { s with txns := t.txns, nextId := t.nextId } ∧ ∀ p ∈ parts, ∃ i y, t.txn? i = some y ∧ y.issuer = .host fn ∧ y.op = .store ∧
        y.addr = lineOf p.1 ∧ y.mask = maskOf (p.1 % 128) p.2 ∧ cut y.data (p.1 % 128) p.2 = cut bs (p.1 - pa) p.2) ∧
      ∃ t, exec (.bar4Access fn off len none) s = .next t ∧ t = { s with txns := t.txns, nextId := t.nextId } ∧
        ∀ p ∈ parts, ∃ i y, t.txn? i = some y ∧ y.issuer = .host fn ∧ y.op = .read ∧ y.addr = lineOf p.1 ∧ y.offs = [(p.2, p.1 % 128)]) ∧
    (s.inReset fn = false → (∃ p ∈ parts, s.bar4Ok fn p.1 = false) → ∀ bs : Bytes, bs.length = len →
      ∃ t u, exec (.bar4Access fn off len none) s = .next t ∧ exec (.bar4Access fn off len (some bs)) s = .next u ∧
      t.posted = s.posted ++ [.completion fn (zeros len) false] ∧ t.txns = s.txns ∧ t.mem = s.mem ∧
      s.onlyRegs [R.hifErrCnt] u ∧ t.fld F.hifErrCnt_BAR4_DENIED R.hifErrCnt = min 0x7FFF (s.fld F.hifErrCnt_BAR4_DENIED R.hifErrCnt + 1) ∧
      u.fld F.hifErrCnt_BAR4_DENIED R.hifErrCnt = min 0x7FFF (s.fld F.hifErrCnt_BAR4_DENIED R.hifErrCnt + 1))) ∧
  (∀ (s : State) (fn v : Nat), fn < 128 → v < vectorsOf fn →
    (s.barOpen fn → ∃ t, exec (.msiXVectorUnmask fn (some v)) s = .next t ∧ t = { s with host := t.host, posted := t.posted } ∧
      (t.msixEntry fn v).masked = false ∧
      ((s.msixEntry fn v).pending = true → fn ∉ s.host.fnMask → t.posted = s.posted ++ [.msix fn v] ∧ (t.msixEntry fn v).pending = false) ∧
      ((s.msixEntry fn v).pending = false ∨ fn ∈ s.host.fnMask → t.posted = s.posted)) ∧
    ∃ t, exec (.msiXVectorUnmask fn none) s = .next t ∧ t = { s with host := t.host, posted := t.posted } ∧ fn ∉ t.host.fnMask ∧
      ((s.msixEntry fn v).pending = true → (s.msixEntry fn v).masked = false → .msix fn v ∈ t.posted)) ∧
  (∀ (s : State), s.regLive R.hifErrCnt = true → ∃ t, exec .hifErrCntClear s = .next t ∧ t.rd R.hifErrCnt = 0 ∧ s.onlyRegs [R.hifErrCnt] t)

/-- An accepted wake, and the poll of a live queue, ask for the eyelet; a wake that names no queue of the function, or one that takes none from it, is dropped and counted;
a read of BAR2 returns zeros. An eyelet that returns a count in range is taken, one out of range faults the context with code 5, DETAIL 8. A descriptor that passes the
checks is held with the objects that it pins, one that fails them faults with the code and DETAIL of the first failing check. An admin queue whose EN is written to 1
starts afresh and writes its consumer count 0, and a command that runs then runs on; its wake asks for its eyelet; a good eyelet count is taken and one out of range
stops it with ERR 1; a full ring's head count is taken, or stops it with ERR 2; a descriptor of an admin opcode becomes its command and one of another opcode is
dropped. Completes (a next state is the conclusion): `wake`, `queuePoll`, `eyeletReadReturn`, `descriptorReadReturn`, `hifWakeDropClear`, `admqEnable`, `admqWake`,
`admqHeadReread`. Rests on choices of the model: log 67, 69, 72. -/
def Obligations.WakesEyeletsAndDescriptors : Prop :=
  (∀ (s : State) (fn off size : Nat), s.barDead fn = false → 1 ≤ size → size ≤ 8 →
    off < (if fn = 0 then 2 ^ 26 else 2 ^ 22) →
    (exec (.wake fn off size false) s = .next { s with posted := s.posted ++ [.completion fn (zeros size) false] }) ∧
    (s.inReset fn = true → exec (.wake fn off size true) s = .next s) ∧
    (∀ q u, s.inReset fn = false → s.wakeTarget fn off = some q → s.takesWake fn q = true → s.queue? q = some u → ∃ t, exec (.wake fn off size true) s = .next t ∧
      t.eyeletAsked q u ∧ t = { s with objs := t.objs, posted := t.posted }) ∧
    (s.inReset fn = false → (∀ q, s.wakeTarget fn off = some q → s.takesWake fn q = false) → ∃ t, exec (.wake fn off size true) s = .next t ∧
      s.onlyRegs [R.hifWakeDrop] t ∧ t.fld F.hifWakeDrop_DROPPED R.hifWakeDrop = min 0x7FFFFFFF (s.fld F.hifWakeDrop_DROPPED R.hifWakeDrop + 1))) ∧
  (∀ (s : State), s.regLive R.hifWakeDrop = true → ∃ t, exec .hifWakeDropClear s = .next t ∧ t.rd R.hifWakeDrop = 0 ∧
    s.onlyRegs [R.hifWakeDrop] t) ∧
  (∀ (s : State) (q : Nat) (u : Queue), s.queue? q = some u → u.st = .live → u.poll ≠ 0 → s.external q = false →
    ∃ t, exec (.queuePoll q) s = .next t ∧ t.eyeletAsked q u ∧ t = { s with objs := t.objs, posted := t.posted }) ∧
  (∀ (s : State) (q : Nat) (u : Queue) (c : Ctx) (hm : HostView), s.queue? q = some u → s.ctx? u.ctx = some c → u.st = .live → c.st = .live →
    (∀ b, u.eyeletOut = true → s.bar4Before u.eyeletAfter = false → s.vaPeek c hm u.eyelet 8 = .ok (b, false) →
      (u.c ≤ leNat b → leNat b ≤ u.c + 2 ^ u.log2 → ∃ t y, exec (.eyeletReadReturn (.queue q) hm) s = .next t ∧ t.queue? q = some y ∧
        y.pSeen = leNat b ∧ y.c = u.c) ∧
      (leNat b < u.c ∨ u.c + 2 ^ u.log2 < leNat b → c.fault = none → ∃ t, exec (.eyeletReadReturn (.queue q) hm) s = .next t ∧
        t.holdsFault u.ctx 0x05 8 u.eyelet)) ∧
    (∀ d, u.descOut = true → u.bound = true → s.bar4Before u.eyeletAfter = false → s.vaPeek c hm u.descVa 64 = .ok (d, false) →
      (∀ pins, s.checkDesc u c d = .ok pins → ∃ t y, exec (.descriptorReadReturn (.queue q) hm) s = .next t ∧ t.queue? q = some y ∧
        y.run = some { Run.start d [] pins with phase := .held } ∧ y.descOut = false ∧ t.engs = s.engs ∧
        t.regs = (s.vaNote c u.descVa 64).regs) ∧
      (∀ code detail a, s.checkDesc u c d = .error (code, detail, a) → c.fault = none →
        ∃ t, exec (.descriptorReadReturn (.queue q) hm) s = .next t ∧ t.holdsFault u.ctx code detail (a.getD u.descVa)))) ∧
  (∀ (s : State) (fn : Nat) (w : Word), fn < 128 → s.regLive (R.qfeFnAdmqCtrl fn) = true → s.barDead fn = false → s.inReset fn = false →
    Fbit F.qfeFnAdmqCtrl_EN w = true → ∃ t, exec (.admqEnable fn w) s = .next t ∧ t.admOn fn = true ∧
      t.fld F.qfeFnAdmqCtrl_ERR (R.qfeFnAdmqCtrl fn) = 0 ∧ (t.adm fn).p = 0 ∧ (t.adm fn).c = 0 ∧ (t.adm fn).cmd = (s.adm fn).cmd ∧ (t.adm fn).stale = (s.adm fn).cmd.isSome ∧
      .write fn (s.rd64 (R.qfeFnAdmqEyeletLo fn) + 64) (leBytes 8 0) ∈ t.posted ∧
      t.fld F.qfeFnAdmqCtrl_VECTOR (R.qfeFnAdmqCtrl fn) = Fget F.qfeFnAdmqCtrl_VECTOR w ∧ t.mem = s.mem ∧ t.engs = s.engs) ∧
  (∀ (s : State) (fn : Nat), fn < 128 → s.regLive (R.qfeFnAdmqWake fn) = true → s.barDead fn = false → s.inReset fn = false →
    s.admOn fn = true → ∃ t, exec (.admqWake fn) s = .next t ∧ (t.adm fn).eyeletOut = true ∧
      ((s.adm fn).eyeletOut = true → (t.adm fn).wake = true ∧ t.posted = s.posted) ∧
      ((s.adm fn).eyeletOut = false → t.posted = s.posted ++ [.fetch (admWho fn) (s.rd64 (R.qfeFnAdmqEyeletLo fn)) 8]) ∧
      t = { s with host := t.host, posted := t.posted }) ∧
  (∀ (s : State) (fn : Nat) (hm : HostView), fn < 128 → s.admOn fn = true →
    (s.admRoom fn = false → s.hostBad hm (s.rd64 (R.qfeFnAdmqHeadLo fn)) 8 = false →
      let h := leNat (hostAt hm (s.rd64 (R.qfeFnAdmqHeadLo fn)) 8)
      (h ≤ (s.adm fn).w → (s.adm fn).w ≤ h + 2 ^ s.admCplLog fn → ∃ t, exec (.admqHeadReread fn hm) s = .next t ∧ (t.adm fn).h = h) ∧
      ((s.adm fn).w < h ∨ h + 2 ^ s.admCplLog fn < (s.adm fn).w → ∃ t, exec (.admqHeadReread fn hm) s = .next t ∧ t.admOn fn = false ∧
        t.fld F.qfeFnAdmqCtrl_ERR (R.qfeFnAdmqCtrl fn) = 2 ∧ s.keepsRegsBut [R.qfeFnAdmqCtrl fn] t ∧ t.objs = s.objs)) ∧
    ((s.adm fn).eyeletOut = true → s.hostBad hm (s.rd64 (R.qfeFnAdmqEyeletLo fn)) 8 = false →
      let p := leNat (hostAt hm (s.rd64 (R.qfeFnAdmqEyeletLo fn)) 8)
      ((s.adm fn).c ≤ p → p ≤ (s.adm fn).c + 2 ^ s.admLog2 fn → ∃ t, exec (.eyeletReadReturn (.admin fn) hm) s = .next t ∧ (t.adm fn).p = p ∧
        t.regs = s.regs) ∧
      (p < (s.adm fn).c ∨ (s.adm fn).c + 2 ^ s.admLog2 fn < p → ∃ t, exec (.eyeletReadReturn (.admin fn) hm) s = .next t ∧
        t.admOn fn = false ∧ t.fld F.qfeFnAdmqCtrl_ERR (R.qfeFnAdmqCtrl fn) = 1)) ∧
    ((s.adm fn).descOut = true → s.hostBad hm (s.rd64 (R.qfeFnAdmqRingLo fn) + 64 * ((s.adm fn).c % 2 ^ s.admLog2 fn)) 64 = false →
      let d := hostAt hm (s.rd64 (R.qfeFnAdmqRingLo fn) + 64 * ((s.adm fn).c % 2 ^ s.admLog2 fn)) 64
      ∃ t, exec (.descriptorReadReturn (.admin fn) hm) s = .next t ∧
        (0x20 ≤ descOp d ∧ descOp d ≤ 0x2B → (t.adm fn).cmd = some d ∧ (t.adm fn).c = (s.adm fn).c ∧ t.regs = s.regs) ∧
        (¬(0x20 ≤ descOp d ∧ descOp d ≤ 0x2B) → (t.adm fn).cmd = none ∧ (t.adm fn).c = (if (s.adm fn).stale then (s.adm fn).c else (s.adm fn).c + 1))))

/-- A held command starts where its queue is bound and live and its context live. NOP and EVENT are at once ready to complete with status 0. A command takes the members of
its queue's engine set as it stands; a LAUNCH gives each its share, and the next LAUNCH number of its context; a real-time queue's waits for its roll entry. COPY and
REDUCE_COPY ask for their first source bytes, or first scale word, FILL stores its first pattern bytes, each on the line that the page gives; an address without a
translation faults with what the page gives. A FENCE_SIGNAL and a FENCE_WAIT send the signal or the registration to the fence's home, or fault. A FLUSH takes up its
first physical range, and one that meets no stack memory is at its end at once; it changes no byte of memory. Registers, and what the clause does not name of memory and
the engines, stay. Completes (a next state is the conclusion): `nop`, `launch`, `copy`, `fill`, `reduceCopy`, `fenceSignal`, `fenceWait`, `flush`, `event`. Rests on
choices of the model: log 72, 73, 149. -/
def Obligations.QueueCommandsStart : Prop :=
  (∀ (s : State) (q : Nat) (u : Queue) (c : Ctx) (r : Run),
    let ms := s.setNow q u
    let done := fun (t : State) => t.queue? q = some { u with members := ms, run := some { r with phase := .completing, members := ms, status := 0, detail := 0 } } ∧
      t = { s with objs := t.objs } ∧ (∀ k, k ≠ q → t.queue? k = s.queue? k) ∧ t.objs.ctxs = s.objs.ctxs
    (s.mayStart q 1 u c r → ∃ t, exec (.nop q) s = .next t ∧ done t) ∧ (s.mayStart q 9 u c r → ∃ t, exec (.event q) s = .next t ∧ done t) ∧
    (s.mayStart q 2 u c r → u.kind = .realTime → exec (.launch q) s = .next s) ∧
    (s.mayStart q 2 u c r → u.kind ≠ .realTime → ∃ t, exec (.launch q) s = .next t ∧
        t.queue? q = some { u with members := ms, run := some { r with phase := .running, members := ms, launch := c.launches + 1 } } ∧
        t.ctx? u.ctx = some { c with launches := c.launches + 1, running := addNum c.running (c.launches + 1) } ∧
        (ms.Nodup → ∀ k e, ms[k]? = some e → t.share? e q = some (shareOf u.ctx k ms.length r.desc)) ∧
        (∀ e, e ∉ ms → t.eng e = s.eng e) ∧ t = { s with objs := t.objs, engs := t.engs })) ∧
  (∀ (s : State) (q : Nat) (u : Queue) (c : Ctx) (r : Run) (l : Leaf) (m : Mobj), r.pos = 0 → numAt r.desc 32 4 ≠ 0 →
    let a := numAt r.desc 16 8
    let b := numAt r.desc 24 8
    let x := numAt r.desc 48 8
    let runs := fun (t : State) => t.queue? q = some (u.started (s.setNow q u) r) ∧ t = { s with objs := t.objs, txns := t.txns, nextId := t.nextId }
    (s.mayStart q 3 u c r → s.translate c .read a = .ok (l, m) → ∃ t, exec (.copy q) s = .next t ∧ runs t ∧
      t.bulkAsks q .read a (lineOf (l.phys a)) l.space) ∧
    (s.mayStart q 4 u c r → s.translate c .store b = .ok (l, m) → ∃ t, exec (.fill q) s = .next t ∧ runs t ∧
      t.bulkAsks q .store b (lineOf (l.phys b)) l.space) ∧
    (s.mayStart q 5 u c r → numAt r.desc 40 1 ≠ 1 → s.translate c .read a = .ok (l, m) → ∃ t, exec (.reduceCopy q) s = .next t ∧ runs t ∧
      t.bulkAsks q .read a (lineOf (l.phys a)) l.space) ∧
    (s.mayStart q 5 u c r → numAt r.desc 40 1 = 1 → s.translate c .read x = .ok (l, m) → ∃ t, exec (.reduceCopy q) s = .next t ∧ runs t ∧
      t.bulkAsks q .read x (lineOf (l.phys x)) l.space)) ∧
  (∀ (s : State) (q : Nat) (u : Queue) (c : Ctx) (r : Run) (f : Trouble), c.fault = none →
    (s.mayStart q 3 u c r → r.pos = 0 → numAt r.desc 32 4 ≠ 0 → s.translate c .read (numAt r.desc 16 8) = .error f →
      ∃ t, exec (.copy q) s = .next t ∧ t.holdsFault u.ctx f.code f.detail f.addr) ∧
    (s.mayStart q 6 u c r → s.translate c .signal (numAt r.desc 16 8) = .error f →
      ∃ t, exec (.fenceSignal q) s = .next t ∧ t.holdsFault u.ctx f.code f.detail f.addr) ∧
    (s.mayStart q 7 u c r → s.translate c .wait (numAt r.desc 16 8) = .error f →
      ∃ t, exec (.fenceWait q) s = .next t ∧ t.holdsFault u.ctx f.code f.detail f.addr)) ∧
  (∀ (s : State) (q : Nat) (u : Queue) (c : Ctx) (r : Run) (l : Leaf) (m : Mobj),
    let a := numAt r.desc 16 8
    let v := u.started (s.setNow q u) r
    let sends := fun (t : State) => t = { s with objs := t.objs, msgs := t.msgs, nextId := t.nextId, mesh := t.mesh }
    (s.mayStart q 6 u c r → s.translate c .signal a = .ok (l, m) → s.fenceBar c.hoop (s.queueDie v) a (l.phys a) true = none →
      ∃ t, exec (.fenceSignal q) s = .next t ∧ sends t ∧ t.queue? q = some v ∧ t.fenceAsked (.signal u.ctx (l.phys a) (numAt r.desc 24 8) (some q)
        (some { queue := q, unit := v.leadUnit, group := 0, lane := 0, pc := u.descVa }))) ∧
    (s.mayStart q 7 u c r → s.translate c .wait a = .ok (l, m) → s.fenceBar c.hoop (s.queueDie v) a (l.phys a) false = none →
      ∃ t, exec (.fenceWait q) s = .next t ∧ sends t ∧ t.queue? q = some { v with run := v.run.map (fun r => { r with
        ranges := [(l.phys a, l.phys a + 32)] }) } ∧ t.fenceAsked (.register u.ctx (l.phys a) (numAt r.desc 24 8) (0, q)))) ∧
  (∀ (s : State) (q : Nat) (u : Queue) (c : Ctx) (r : Run), s.mayStart q 8 u c r → r.pos = 0 →
    let n := numAt r.desc 24 8
    let parts := pageParts (numAt r.desc 16 8) (n / 4096 + 2) n
    let v := u.started (s.setNow q u) r
    (∀ lo m, 0 < n → s.flushRange c parts = .ok (some lo, m) → ∃ t, exec (.flush q) s = .next t ∧ t.mem.cells = s.mem.cells ∧ t.regs = s.regs ∧
      t.engs = s.engs ∧ t.queue? q = some { v with run := v.run.map (fun r => { r with pos := m, ranges := [(lo, lo + m)] }) }) ∧
    (∀ f, 0 < n → c.fault = none → s.flushRange c parts = .error f →
      ∃ t, exec (.flush q) s = .next t ∧ t.holdsFault u.ctx f.code f.detail f.addr) ∧
    ((∀ p ∈ parts, ∃ x, s.translate c .read p.1 = .ok x ∧ x.1.space ≠ .stack) → ∃ t, exec (.flush q) s = .next t ∧
      t = { s with objs := t.objs } ∧ t.queue? q = some { v with run := v.run.map (fun r => { r with pos := n, ranges := [] }) }))

/-- An engine whose groups of a launch have ended and whose writes are answered gives its share and window up and adds its flags. A command that is over leaves its queue
with its status, its consumer count one higher and, under CPL, a record in its ring; a ring with no room holds it back. A FLUSH ends once its last range is written
back. An answer to a COPY's read becomes the store of its bytes, the answer to a mover's last store advances its place, and an answer with a status faults; a BAR4 read
is completed once no lower part of it is out. A walk read brings the next table, the translation, or a fault; a fetch brings its sectors into the L1. A ring's head
count in range is taken and one out of range faults with code 5, DETAIL 8. A wait limit that expires faults with code 0xE and the DETAIL of its timer, or releases the
pins of a forced destroy. Completes (a next state is the conclusion): `engineDonePicot`, `commandComplete`, `eventRingHeadReread`, `waitLimitExpiry`,
`pageWalkReadReturn`, `instructionFetchReturn`, `bulkMoverResponse`. Rests on choices of the model: log 71, 74, 151, 154. -/
def Obligations.EndsOfCommands : Prop :=
  (∀ (s : State) (e q : Nat) (u : Queue) (r : Run) (h : Share), s.share? e q = some h → s.queue? q = some u → u.run = some r →
    h.started = true → h.last < h.next → h.saving = none → h.restore = false → (∀ p ∈ (s.eng e).groups, p.2.queue ≠ q) →
    (∀ p ∈ (s.eng e).filet, p.2.queue ≠ q) → h.ctx ∉ (s.eng e).draining →
    (∀ p ∈ s.txns, p.2.issuer.engine = some e → p.2.queue = q → p.2.isStore = false ∧ p.2.isAtomic = false) →
    ∃ t, exec (.engineDonePicot e q) s = .next t ∧ t.share? e q = none ∧ (∀ w ∈ (t.eng e).wins, w.queue ≠ q) ∧
      t.queue? q = some { u with run := some { r with answered := addNum r.answered e, aflags := r.aflags ||| h.aflags.toNat } } ∧
      t = { s with objs := t.objs, engs := t.engs } ∧ ∀ k, k ≠ e → t.eng k = s.eng k) ∧
  (∀ (s : State) (q : Nat) (u : Queue) (c : Ctx) (r : Run) (g : Ring), s.queue? q = some u → s.ctx? u.ctx = some c → u.run = some r →
    r.sender = 0 → s.ring? u.evring = some g → (r.phase = .completing ∨ (r.phase = .running ∧ descOp r.desc ≠ 8 ∧ r.over = true)) →
    let st := if r.phase = .completing then r.status else 0
    (descCpl r.desc = false ∨ g.room false = true ∨ c.quiet = true → ∃ t y, exec (.commandComplete q) s = .next t ∧ t.queue? q = some y ∧
      y.run = none ∧ y.c = u.c + 1 ∧ y.last = st ∧
      (descCpl r.desc = true → c.quiet = false → (∃ x, s.ctx? g.ctx = some x) →
        (∀ x, (s.consumed q st u).ctx? g.ctx = some x → (s.consumed q st u).vaRefuse x g.recVa 32 = none) →
        (t.ring? u.evring).map (·.w) = some (g.w + 1))) ∧
    (descCpl r.desc = true → g.room false = false → c.quiet = false → ∃ t y k, exec (.commandComplete q) s = .next t ∧ t.queue? q = some y ∧
      y.run = some k ∧ k.phase = .completing ∧ y.c = u.c ∧ (t.ring? u.evring).map (·.rereading) = some true)) ∧
  (∀ (s : State) (q : Nat) (u : Queue) (c : Ctx) (r : Run), s.queue? q = some u → s.ctx? u.ctx = some c → u.run = some r → r.phase = .running →
    (descOp r.desc = 8 → numAt r.desc 24 8 ≤ r.pos → descCpl r.desc = false → r.sender = 0 →
      (r.ranges = [] ∨ ∃ x, r.ranges = [x] ∧ s.flushOver (numAt r.desc 32 1) x.1 x.2 = true ∧
        (numAt r.desc 32 1 = 2 → (s.dropRange x.1 x.2).rangeWriting x.1 x.2 = false)) →
      ∃ t y, exec (.commandComplete q) s = .next t ∧ t.queue? q = some y ∧ y.run = none ∧ y.c = u.c + 1) ∧
    (∀ x, descOp r.desc = 8 → r.ranges = [x] → numAt r.desc 32 1 = 2 → s.flushOver 2 x.1 x.2 = true →
      (s.dropRange x.1 x.2).rangeWriting x.1 x.2 = true → ∃ t, exec (.commandComplete q) s = .next t ∧
        t.queue? q = some { u with run := some { r with ranges := [x, x] } }) ∧
    (∀ (i : Nat) (x : Txn), s.txn? i = some x → x.stage = .reply → x.moving = false → x.issuer = .bulk q → x.dead = false →
      (∀ (o n : Nat) (l : Leaf) (m : Mobj), x.op = .read → x.status = 0 → x.badAt o n = none → descOp r.desc = 3 → x.offs = [(n, o)] →
        s.translate c .store (numAt r.desc 24 8 + r.pos) = .ok (l, m) → ∃ t, exec (.bulkMoverResponse i) s = .next t ∧
          t.bulkAsks q .store (numAt r.desc 24 8 + r.pos) (lineOf (l.phys (numAt r.desc 24 8 + r.pos))) l.space ∧ t.queue? q = some u ∧
          t = { s with txns := t.txns, nextId := t.nextId }) ∧
      (∀ (o n : Nat), x.op = .store → x.status = 0 → x.offs = [(n, o)] → descOp r.desc = 3 → numAt r.desc 32 4 ≤ r.pos + n →
        ∃ t, exec (.bulkMoverResponse i) s = .next t ∧ t.txn? i = none ∧ t.queue? q = some { u with run := some { r with pos := r.pos + n } } ∧
          t = { s with txns := t.txns, objs := t.objs }) ∧
      (∀ f, s.statusTrouble x = some f → c.fault = none → ∃ t, exec (.bulkMoverResponse i) s = .next t ∧
        t.holdsFault u.ctx f.code f.detail f.addr))) ∧
  (∀ (s : State) (i fn n o : Nat) (x : Txn), s.txn? i = some x → x.stage = .reply → x.moving = false → x.issuer = .host fn → x.op = .read →
    ((∀ p ∈ s.txns, p.2.issuer = .host fn → p.2.insn = x.insn → p.2.op = .read → p.1 = i) → x.dead = false → x.offs = [(n, o)] →
      ∃ t, exec (.bulkMoverResponse i) s = .next t ∧ t.txn? i = none ∧
      t.posted = s.posted ++ [.completion fn (cut x.data o n) ((x.badAt o n).isSome || x.status != 0)] ∧
      t = { s with txns := t.txns, posted := t.posted }) ∧
    (∀ j y, s.txns.find? (fun p => p.2.issuer == .host fn && p.2.insn = x.insn && p.2.op == .read) = some (j, y) → y.stage ≠ .reply →
      exec (.bulkMoverResponse i) s = .next s)) ∧
  (∀ (s : State) (i e g : Nat) (x : Txn), s.txn? i = some x → x.stage = .reply → x.moving = false → x.dead = false → x.status = 0 → i < s.nextId →
    (∀ w : Walk, x.issuer = .walk e g → SMap.get? (s.eng e).walks i = some w → x.badAt x.rd 8 = none →
      (∀ l, w.drop = true → s.pteCheck w.level w.va w.kind (numAt x.data x.rd 8) = .leaf l → ∃ t, exec (.pageWalkReadReturn i) s = .next t ∧
        (t.eng e).given = (s.eng e).given ++ [(g, l)] ∧ (t.eng e).tlb = (s.eng e).tlb) ∧
      (∀ l, w.drop = false → s.pteCheck w.level w.va w.kind (numAt x.data x.rd 8) = .leaf l → ∃ t, exec (.pageWalkReadReturn i) s = .next t ∧
        ({ ctx := w.ctx, gen := w.gen, leaf := l } : TlbEntry) ∈ (t.eng e).tlb ∧ SMap.get? (t.eng e).walks i = none ∧ t.txn? i = none ∧
        t.mem = s.mem ∧ t.regs = s.regs) ∧
      (∀ a, s.pteCheck w.level w.va w.kind (numAt x.data x.rd 8) = .table a → ∃ t j y, exec (.pageWalkReadReturn i) s = .next t ∧
        t.txn? i = none ∧ t.txn? j = some y ∧ y.issuer = .walk e g ∧ y.addr = lineOf (pteAddr a (w.level - 1) w.va) ∧
        SMap.get? (t.eng e).walks j = some { w with level := w.level - 1 }) ∧
      (∀ d u, s.pteCheck w.level w.va w.kind (numAt x.data x.rd 8) = .fault d → s.grp? e g = some u → s.faultFree u.ctx →
        ∃ t, exec (.pageWalkReadReturn i) s = .next t ∧ t.holdsFault u.ctx 1 d w.va)) ∧
    (x.issuer = .fetch e g → x.noInstall = false → ∃ t, exec (.instructionFetchReturn i) s = .next t ∧ t.txn? i = none ∧
      (∀ k, k < 4 → x.secs.testBit k = true → ((t.eng e).l1Find (x.ctx.getD 0) x.space x.addr).bind (fun l => l.sec k) =
        some { data := cut x.data (32 * k) 32, poison := x.badWords k }) ∧ t.mem = s.mem ∧ t.regs = s.regs)) ∧
  (∀ (s : State) (k : Nat) (g : Ring) (c : Ctx) (hm : HostView) (b : Bytes), s.ring? k = some g → s.ctx? g.ctx = some c → g.live = true →
    g.rereading = true → s.vaPeek c hm g.headVa 8 = .ok (b, false) →
    (leNat b ≤ g.w → g.w ≤ leNat b + 2 ^ g.log2 → ∃ t, exec (.eventRingHeadReread k hm) s = .next t ∧
      (t.ring? k).map (·.h) = some (leNat b) ∧ (g.heldEvents = [] → (t.ring? k).map (·.heldEvents) = some [])) ∧
    (g.w < leNat b ∨ leNat b + 2 ^ g.log2 < g.w → c.fault = none → (∀ q ∈ s.heldOn k, ∃ u, s.queue? q = some u ∧ u.ctx = g.ctx) →
      ∃ t, exec (.eventRingHeadReread k hm) s = .next t ∧
      t.holdsFault g.ctx 5 8 g.headVa)) ∧
  (∀ (s : State) (q : Nat) (u : Queue) (r : Run), s.queue? q = some u → u.run = some r → s.faultFree u.ctx →
    (r.phase = .running → descOp r.desc ≠ 7 → s.queueGroups q = [] → ∃ t, exec (.waitLimitExpiry (.command q)) s = .next t ∧
      t.holdsFault u.ctx 0x0E 0 u.descVa) ∧
    (∀ e g v rest, r.phase = .running → descOp r.desc ≠ 7 → s.queueGroups q = (e, g) :: rest → s.grp? e g = some v → v.ctx = u.ctx →
      ∃ t, exec (.waitLimitExpiry (.command q)) s = .next t ∧ t.holdsFault u.ctx 0x0E 0 v.pc.toNat) ∧
    (r.phase = .running → descOp r.desc = 7 → s.releasing (0, q) = false → ∃ t, exec (.waitLimitExpiry (.fenceQueue q)) s = .next t ∧
      t.holdsFault u.ctx 0x0E 1 (numAt r.desc 16 8)) ∧
    (∀ g, r.phase = .completing → descCpl r.desc = true → s.ring? u.evring = some g → g.room false = false →
      ∃ t, exec (.waitLimitExpiry (.completion q)) s = .next t ∧ t.holdsFault u.ctx 0x0E 2 g.va)) ∧
  (∀ (s : State) (e g : Nat) (v : Group), s.grp? e g = some v → s.faultFree v.ctx →
    (∀ (a n sc : Nat) (reg : Bool), v.st = .fence a n sc reg → s.releasing (1, 16 * e + g) = false →
      ∃ t, exec (.waitLimitExpiry (.fenceGroup e g)) s = .next t ∧ t.holdsFault v.ctx 0x0E 1 a) ∧
    (∀ p, v.st = .parked p → p.why = 3 → ∃ t, exec (.waitLimitExpiry (.fenceGroup e g)) s = .next t ∧ t.holdsFault v.ctx 0x0E 1 p.va)) ∧
  (∀ (s : State) (q : Nat) (u : Queue), s.queue? q = some u → ∃ t, exec (.waitLimitExpiry (.drain q)) s = .next t ∧
    t.queue? q = some { u with latePins := [] } ∧ t.regs = s.regs ∧ t.engs = s.engs)

/-- CTX_CREATE gives a context of the function's enabled hoop a number that no context holds, with nothing but its root and its object table, where its checks pass, and
both copies of its table entry hold it; a function at its limit gets STAT_NO_RESOURCE. CTX_QUERY writes the entry, of the slot or of the table. CTX_INVALIDATE raises
GEN and empties every translation of the context. EVR_CREATE and QUEUE_CREATE make a live ring and a live queue as their descriptors say, a copy queue bound at once
where there are slots; EVR_DESTROY frees a ring that no live queue names. A destroy of a queue, and of each queue of a context that is destroyed, puts it into STATE 3;
a context without queues retires. A destroyed queue whose units have drained is free, with its record; a unit forced to clear counts and abandons its requests. A
command on another function's context or queue, or on a channel set of another hoop, ends with STAT_DENIED and changes no object. Each ended command leaves its queue,
the consumer count is written, and under CPL its record. No byte of memory changes but the tables and the entries of pinned objects. Completes (a next state is the
conclusion): `ctxCreate`, `ctxDestroy`, `ctxQuery`, `ctxInvalidate`, `evrCreate`, `evrDestroy`, `queueCreate`, `queueDestroy`, `destroyDrainEnd`, `destroyForceClear`.
Rests on choices of the model: log 65, 66, 76, 79, 153. -/
def Obligations.ContextsRingsAndQueues : Prop :=
  (∀ (s : State) (fn : Nat) (d : Bytes) (h : Nat), s.adminCmd fn 0x20 d → s.fnHoop fn = some h → s.fld F.hoopStat_STATE (R.hoopStat h) = 2 →
    (dAux d ≠ 0 → dAddrA d % 4096 = 0 → dAddrB d % 4096 = 0 → s.reachable (dAddrA d) = true → s.reachable (dAddrB d) = true →
      s.setAllowed h (dAddrA d) false = true → s.setAllowed h (dAddrB d) false = true → ∃ t, exec (.ctxCreate fn) s = .next t ∧ s.keepsMemory t ∧
        (s.fld F.qfeFnLimit_CTX_MAX (R.qfeFnLimit fn) ≤ s.ctxHeld fn → s.adminEnds fn d 0x4B 0 0 t ∧ t.objs = s.objs ∧ t.mem = s.mem) ∧
        (∀ n, s.ctxHeld fn < s.fld F.qfeFnLimit_CTX_MAX (R.qfeFnLimit fn) → s.freeCtx = some n → s.adminEnds fn d 0 0 n t ∧
          t.ctx? n = some (Ctx.create h fn (dAddrA d) (dAddrB d) (dAux d)) ∧ (∀ k, k ≠ n → t.ctx? k = s.ctx? k) ∧
          s.tableHolds (ctxOff n) (Ctx.create h fn (dAddrA d) (dAddrB d) (dAux d)).bytes t)) ∧
    ((s.isStack (dAddrA d) = true ∧ s.setAllowed h (dAddrA d) false = false) ∨ (s.isStack (dAddrB d) = true ∧ s.setAllowed h (dAddrB d) false = false) →
      ∃ t, exec (.ctxCreate fn) s = .next t ∧ s.adminEnds fn d 0x49 0 0 t ∧ t.objs = s.objs ∧ t.mem = s.mem)) ∧
  (∀ (s : State) (fn : Nat) (d : Bytes), s.adminCmd fn 0x22 d → (∀ c, s.ctx? (dCtx d) = some c → c.fn = fn) → dAddrA d % 128 = 0 →
    ∃ t, exec (.ctxQuery fn) s = .next t ∧ s.adminEnds fn d 0 0 (dCtx d) t ∧ t.objs = s.objs ∧ t.mem = s.mem ∧
      (∀ c, s.ctx? (dCtx d) = some c → c.slot.isSome = true → .write fn (dAddrA d) (c.bytes.take 80) ∈ t.posted) ∧
      ((∀ c, s.ctx? (dCtx d) = some c → c.slot = none) →
        let b := s.peek (tableAddr (if s.baseLost 0 then 4 else 0) (ctxOff (dCtx d))) 128
        (if b.2 then .poisonedWrite fn (dAddrA d) (b.1.take 80) else .write fn (dAddrA d) (b.1.take 80)) ∈ t.posted)) ∧
  (∀ (s : State) (fn : Nat) (d : Bytes) (c : Ctx), s.ctx? (dCtx d) = some c → c.fn = fn →
    (s.adminCmd fn 0x23 d → c.st = .live → s.bar4Before (s.adm fn).after = false → ∃ t, exec (.ctxInvalidate fn) s = .next t ∧
      s.adminEnds fn d 0 0 (dCtx d) t ∧ t.ctx? (dCtx d) = some { c with gen := (c.gen + 1) % 2 ^ 32 } ∧ s.keepsMemory t ∧
      ∀ p ∈ t.engs, (∀ x ∈ p.2.tlb, x.ctx ≠ dCtx d) ∧ (∀ x ∈ p.2.held, x.ctx ≠ dCtx d) ∧ ∀ w ∈ p.2.walks, w.2.ctx = dCtx d → w.2.drop = true) ∧
    (∀ i j n, s.adminCmd fn 0x24 d → c.st = .live → 4 ≤ dLog2 d → dLog2 d ≤ 16 → dAddrA d % (32 * 2 ^ dLog2 d) = 0 → dAddrA d % 4096 = 0 →
      dAddrB d % 8 = 0 → dAux d < vectorsOf fn → s.oneObject c .store (dAddrA d) (32 * 2 ^ dLog2 d) = some i →
      s.oneObject c .read (dAddrB d) 8 = some j → s.freeRingNum = some n →
      (s.objs.rings.filter (fun p => p.2.live && s.ringFn p.2 == some fn)).length < s.fld F.qfeFnLimit_EVR_MAX (R.qfeFnLimit fn) →
      ∃ t g, exec (.evrCreate fn) s = .next t ∧ s.adminEnds fn d 0 n (dCtx d) t ∧ t.ring? n = some g ∧ g.live = true ∧ g.va = dAddrA d ∧
        g.headVa = dAddrB d ∧ g.log2 = dLog2 d ∧ g.vector = dAux d ∧ g.ctx = dCtx d ∧ g.w = 0 ∧ g.h = 0 ∧ g.pins = [(dCtx d, i)] ∧
        s.tableHolds (ringOff n) g.bytes t ∧ s.keepsMemBut [(dCtx d, i)] t ∧ t.objs.queues = s.objs.queues ∧ t.objs.ctxs = s.objs.ctxs) ∧
    (∀ k r x y z, s.adminCmd fn 0x26 d → c.st = .live → s.holdsQueue fn (dObj d) = true → qkindOf (dKind d) = some k → s.ring? (dEvr d) = some r →
      r.live = true → r.ctx = dCtx d → 4 ≤ dLog2 d → dLog2 d ≤ 16 → dAddrA d % (64 * 2 ^ dLog2 d) = 0 → dAddrA d % 4096 = 0 →
      dAddrB d % 128 = 0 → (∀ u, s.queue? (dObj d) = some u → u.st = .free) →
      (k = .compute → Fbit F.hoopEset_VALID (s.rd (R.hoopEset c.hoop (dAux2 d % 64))) = true ∧
        Fbit F.hoopEset_RT (s.rd (R.hoopEset c.hoop (dAux2 d % 64))) = false) → (k = .copy → dAux2 d % 64 < 8) →
      s.oneObject c .read (dAddrA d) (64 * 2 ^ dLog2 d) = some x → s.oneObject c .read (dAddrB d) 72 = some y →
      s.oneObject c .store (dAddrB d + 64) 8 = some z → ∃ t u, exec (.queueCreate fn) s = .next t ∧ s.adminEnds fn d 0 0 (dCtx d) t ∧
        t.queue? (dObj d) = some u ∧ u.st = .live ∧ u.kind = k ∧ u.ring = dAddrA d ∧ u.eyelet = dAddrB d ∧ u.evring = dEvr d ∧
        u.log2 = dLog2 d ∧ u.ctx = dCtx d ∧ u.c = 0 ∧ u.pSeen = 0 ∧ u.run = none ∧
        (u.bound = true ↔ k = .copy ∧ (s.onObjs (fun o => { o with queues := SMap.del o.queues (dObj d) })).freeQSlot.isSome = true ∧
          (c.slot.isSome = true ∨ s.freeCSlot.isSome = true)) ∧ (u.bound = true → u.slot.isSome = true) ∧
        (u.bound = false → s.tableHolds (queueOff (dObj d)) u.bytes t) ∧ s.keepsMemBut [(dCtx d, x), (dCtx d, y)] t ∧
        t.objs.rings = s.objs.rings ∧ ∀ n, n ≠ dObj d → t.queue? n = s.queue? n)) ∧
  (∀ (s : State) (fn : Nat) (d : Bytes) (c : Ctx) (r : Ring), s.adminCmd fn 0x25 d → s.ring? (dObj d) = some r → r.live = true →
    s.ctx? r.ctx = some c → c.fn = fn → c.st = .live ∨ c.st = .faulted → (∀ p ∈ s.objs.queues, p.2.st = .live → p.2.evring ≠ dObj d) →
    ∃ t, exec (.evrDestroy fn) s = .next t ∧ s.adminEnds fn d 0 0 r.ctx t ∧ (t.ring? (dObj d)).map (·.live) = some false ∧
      (∀ k, k ≠ dObj d → t.ring? k = s.ring? k) ∧ t.objs.queues = s.objs.queues ∧ (dObj d < 16384 → s.keepsMemBut r.pins t)) ∧
  (∀ (s : State) (fn : Nat) (d : Bytes) (c : Ctx) (u : Queue), s.adminCmd fn 0x27 d → s.holdsQueue fn (dObj d) = true →
    s.queue? (dObj d) = some u → u.st = .live ∨ u.st = .stopped → s.ctx? u.ctx = some c → c.fn = fn → c.st = .live ∨ c.st = .faulted →
    ∃ t y, exec (.queueDestroy fn) s = .next t ∧ t.queue? (dObj d) = some y ∧ y.st = .destroying ∧ y.run = u.run ∧ y.destroyFn = fn ∧
      y.silent = false ∧ y.drain = s.unitsOf (dObj d) u ∧ t.host = s.host ∧ s.keepsMemory t ∧ t.regs = s.regs ∧
      (∀ i x, t.txn? i = some x → x.issuer = .bulk (dObj d) → x.dead = true) ∧
      ∀ e g v, e < 2048 → t.grp? e g = some v → v.queue = dObj d → v.st = .stopped) ∧
  (∀ (s : State) (fn : Nat) (d : Bytes) (c : Ctx), s.adminCmd fn 0x21 d → s.ctx? (dCtx d) = some c → c.fn = fn → c.st = .live ∨ c.st = .faulted →
    (∀ k, (∃ p ∈ s.objs.queues, p.2.ctx = dCtx d ∧ p.2.st = .live) → ∃ t, exec (.ctxDestroy fn) s = .next t ∧
      (t.ctx? (dCtx d)).map (·.st) = some .destroying ∧ (∀ u, s.queue? k = some u → u.ctx = dCtx d → u.st = .live →
        (t.queue? k).map (·.st) = some .destroying)) ∧
    ((∀ p ∈ s.objs.queues, p.2.ctx = dCtx d → p.2.st = .free) → (∀ p ∈ s.objs.rings, p.2.live = true → p.2.ctx ≠ dCtx d) →
      (∀ p ∈ s.shx.xchs, p.2.ctx ≠ dCtx d) → ∃ t, exec (.ctxDestroy fn) s = .next t ∧
        (s.adminFree fn → s.adminWrote fn (kindRec 0xF2 (numAt d 8 8) (numAt d 4 4) 0 0 (dCtx d)) t) ∧
        (s.objsIn c (fun k => k == 1 || k == 2) = [] → s.mem.wf = true → (∀ a, c.motBase ≤ a → a < c.motBase + 64 * c.motCount → inTables a = false) →
          (t.ctx? (dCtx d)).map (·.st) = some .free))) ∧
  (∀ (s : State) (q : Nat) (u : Queue), s.queue? q = some u →
    (u.st = .destroying → u.drain.all (s.unitDrained q) = true → (∀ r, u.run = some r → descCpl r.desc = false) →
      ∃ t y, exec (.destroyDrainEnd q) s = .next t ∧ t.queue? q = some y ∧ y.st = .free ∧ y.run = none ∧ y.bound = false ∧ y.slot = none ∧
        (u.silent = false → s.adminFree u.destroyFn → u.destroyFn < 128 → (∀ x ∈ s.shx.xchs, x.1 < 64) → s.adminWrote u.destroyFn
          (kindRec 0xF2 u.destroyCookie u.destroyTag (if u.forced = 0 then 0 else 0x42) u.forced u.ctx) t)) ∧
    (∀ e, u.st = .destroying ∨ u.hasRun .ending = true → e ∈ u.drain → s.unitDrained q e = false → ∃ t y, exec (.destroyForceClear q e) s = .next t ∧
      t.queue? q = some y ∧ e ∉ y.drain ∧ y.forced = u.forced + 1 ∧ y.abandoned = u.abandoned ++ s.cmdTxns q e ∧
      (∀ i x, i ∈ s.cmdTxns q e → t.txn? i = some x → x.dead = true) ∧ t.mem = s.mem ∧ t.regs = s.regs ∧
      (e < 2048 → (∀ p ∈ (t.eng e).groups, p.2.queue ≠ q) ∧ ∀ p ∈ (t.eng e).filet, p.2.queue ≠ q))) ∧
  (∀ (s : State) (fn : Nat) (d : Bytes), s.adminCmd fn 0x27 d → s.holdsQueue fn (dObj d) = false →
    ∃ t, exec (.queueDestroy fn) s = .next t ∧ s.adminEnds fn d 0x49 0 0 t ∧ t.objs = s.objs ∧ t.mem = s.mem) ∧
  (∀ (s : State) (fn : Nat) (d : Bytes) (c : Ctx), s.ctx? (dCtx d) = some c → c.st ≠ .free → c.fn ≠ fn →
    ∀ x ∈ [(0x21, Instr.ctxDestroy fn), (0x23, .ctxInvalidate fn), (0x24, .evrCreate fn), (0x26, .queueCreate fn), (0x28, .mobjCreate fn),
           (0x29, .mobjFree fn), (0x2B, .fenceArm fn)],
      s.adminCmd fn x.1 d → ∃ t, exec x.2 s = .next t ∧ s.adminEnds fn d 0x49 0 0 t ∧ t.objs = s.objs ∧ t.mem = s.mem)

/-- MOBJ_CREATE writes a live entry of 64 bytes with its range and flags, and zeros over the pages of a fence object; MOBJ_FREE makes a live one free-pending, marked with
the LAUNCHes started; it is freed, its translations emptied and its record written, once nothing pins it and no LAUNCH up to the mark runs, and is kept until then.
MOBJ_IMPORT, on the physical function's queue alone, writes a read-only entry over the owner's object and pins that; another function's queue ends it with STAT_DENIED.
FENCE_ARM, in its turn at the fence's home, stores the event, its cookie and its ring and arms the fence, or disarms it, keeping or clearing OOO; where the value has
reached the event, the event is raised at once. No other byte of memory changes, and a copy of a line in a slice changes as memory does. Writes are claimed where they
go to channels in service. Completes (a next state is the conclusion): `mobjCreate`, `mobjFree`, `mobjFreed`, `mobjImport`, `fenceArm`. Rests on choices of the model:
log 71, 76, 152. -/
def Obligations.ObjectsAndFences : Prop :=
  (∀ (s : State) (fn : Nat) (d : Bytes) (c : Ctx), s.mem.wf = true → s.ctx? (dCtx d) = some c → c.fn = fn → s.writable (c.motBase + 64 * dObj d) 64 →
    let m : Mobj := { va := dAddrA d, size := dAddrB d, pin := 0, st := 1, flags := dKind d % 16, cookie := 0, mark := 0, ownerCtx := 0, ownerObj := 0 }
    (s.adminCmd fn 0x28 d → c.st = .live → dObj d ≤ 65534 → s.objFree c (dObj d) = true → dAddrA d % 4096 = 0 → dAddrB d ≠ 0 →
      dAddrB d % 4096 = 0 → (dKind d).testBit 2 = false → ((dKind d).testBit 0 = true → dAddrA d % 2 ^ 21 = 0 ∧ dAddrB d % 2 ^ 21 = 0) →
      s.objOverlap c (dAddrA d) (dAddrB d) = false →
      ((dKind d).testBit 3 = false → ∃ t, exec (.mobjCreate fn) s = .next t ∧ s.adminEnds fn d 0 0 (dCtx d) t ∧
        s.wroteBytes (c.motBase + 64 * dObj d) m.bytes t ∧ t.mem = (s.setMobj c (dObj d) m).mem ∧ t.cache = (s.setMobj c (dObj d) m).cache ∧ t.objs = s.objs) ∧
      (∀ ps, (dKind d).testBit 3 = true → (dKind d).testBit 0 = false → (dKind d).testBit 1 = false →
        (s.setMobj c (dObj d) m).fencePages c (dObj d) (dAddrA d) (dAddrB d) = some ps → ∃ t, exec (.mobjCreate fn) s = .next t ∧
          s.adminEnds fn d 0 0 (dCtx d) t ∧ t.objs = s.objs ∧ ∀ p ∈ ps,
          (p.2.space = .host → .write fn (p.2.phys p.1) (zeros 4096) ∈ t.posted) ∧
          (p.2.space = .stack ∨ p.2.space = .toile → (∀ p ∈ ps, p.2.space ≠ .host → s.writable (p.2.phys p.1) 4096) →
            ∀ k, k < 4096 → cellAt t.mem.cells (p.2.phys p.1 + k) = 0)) ∧
      ((dKind d).testBit 3 = true → (dKind d).testBit 0 = true ∨ (dKind d).testBit 1 = true ∨
          (s.setMobj c (dObj d) m).fencePages c (dObj d) (dAddrA d) (dAddrB d) = none → ∃ t, exec (.mobjCreate fn) s = .next t ∧
        s.adminEnds fn d 0x4A 0 0 t ∧ t.mem = s.mem ∧ t.objs = s.objs)) ∧
    (s.adminCmd fn 0x29 d → c.st = .live ∨ c.st = .faulted → dObj d < c.motCount → (s.mobj c (dObj d)).st = 1 →
      ∃ t, exec (.mobjFree fn) s = .next t ∧ s.adminEnds fn d 0 0 (dCtx d) t ∧ t.objs.ctxs = s.objs.ctxs ∧
        s.wroteBytes (c.motBase + 64 * dObj d) ({ s.mobj c (dObj d) with st := 2, cookie := numAt d 8 8, mark := c.launches } : Mobj).bytes t ∧
        SMap.get? t.objs.freeRec (65536 * dCtx d + dObj d) = some (numAt d 4 4, fn)) ∧
    (s.adminCmd fn 0x29 d → c.st = .live ∨ c.st = .faulted → c.motCount ≤ dObj d ∨ (s.mobj c (dObj d)).st ≠ 1 →
      ∃ t, exec (.mobjFree fn) s = .next t ∧ s.adminEnds fn d 0x4A 0 0 t ∧ t.mem = s.mem ∧ t.objs = s.objs)) ∧
  (∀ (s : State) (n i : Nat) (c : Ctx), s.mem.wf = true → n < 65536 → (∀ p ∈ s.objs.queues, p.2.latePins = []) → s.ctx? n = some c →
    let m := s.mobj c i
    (m.pin ≠ 0 ∨ (∃ k ∈ c.running, k ≤ m.mark) → exec (.mobjFreed n i) s = .next s) ∧
    (c.st ≠ .free → i < c.motCount → m.st = 2 → m.pin = 0 → (∀ k ∈ c.running, m.mark < k) → m.isImport = false → ∃ t, exec (.mobjFreed n i) s = .next t ∧
      (s.writable (c.motBase + 64 * i) 64 → (∀ a, c.motBase + 64 * i ≤ a → a < c.motBase + 64 * i + 64 → inTables a = false) →
        cellsAt t.mem.cells (c.motBase + 64 * i) 64 = ({ m with st := 0 } : Mobj).bytes ∧
        (∀ a, inTables a = false → a < c.motBase + 64 * i ∨ c.motBase + 64 * i + 64 ≤ a → cellAt t.mem.cells a = cellAt s.mem.cells a) ∧
        ∀ tag fn, SMap.get? s.objs.freeRec (65536 * n + i) = some (tag, fn) → s.adminFree fn → s.adminWrote fn (kindRec 0xF1 m.cookie tag 0x46 0 n) t) ∧
      (t.ctx? n).map (·.gen) = some ((c.gen + 1) % 2 ^ 32) ∧ ∀ p ∈ t.engs, (∀ x ∈ p.2.tlb, x.ctx ≠ n) ∧ ∀ x ∈ p.2.held, x.ctx ≠ n)) ∧
  (∀ (s : State) (fn : Nat) (d : Bytes), s.adminCmd fn 0x2A d → fn ≠ 0 → ∃ t, exec (.mobjImport fn) s = .next t ∧
    s.adminEnds fn d 0x49 0 0 t ∧ t.mem = s.mem ∧ t.objs = s.objs) ∧
  (∀ (s : State) (d : Bytes) (c o : Ctx), s.mem.wf = true → s.adminCmd 0 0x2A d → s.ctx? (dCtx d) = some c → s.ctx? (dAux d) = some o →
    let m := s.mobj o (dAux2 d)
    let at_ := c.motBase + 64 * dObj d
    let own := o.motBase + 64 * dAux2 d
    (c.fn = 0 ∨ (s.tdi c.fn ≠ .locked ∧ s.tdi c.fn ≠ .run)) → c.st = .live → o.st = .live → dObj d ≤ 65534 → s.objFree c (dObj d) = true →
    dAux2 d < o.motCount → m.st = 1 → m.sharedRo = true → dAddrA d % 4096 = 0 → s.objOverlap c (dAddrA d) m.size = false →
    at_ + 64 ≤ own ∨ own + 64 ≤ at_ → s.writable at_ 64 → s.writable own 64 → ∃ t, exec (.mobjImport 0) s = .next t ∧
      s.adminEnds 0 d 0 0 (dCtx d) t ∧ t.objs = s.objs ∧ cellsAt t.mem.cells own 64 = ({ m with pin := m.pin + 1 } : Mobj).bytes ∧
      cellsAt t.mem.cells at_ 64 = ({ va := dAddrA d, size := m.size, pin := 0, st := 1, flags := m.flags ||| 4, cookie := 0, mark := 0,
                                      ownerCtx := dAux d, ownerObj := dAux2 d } : Mobj).bytes ∧
      ∀ a, a < at_ ∨ at_ + 64 ≤ a → a < own ∨ own + 64 ≤ a → cellAt t.mem.cells a = cellAt s.mem.cells a) ∧
  (∀ (s : State) (fn : Nat) (d : Bytes) (c : Ctx) (l : Leaf) (m : Mobj), s.mem.wf = true → s.adminCmd fn 0x2B d → s.ctx? (dCtx d) = some c →
    c.fn = fn → c.st = .live → s.translate c .signal (dAddrA d) = .ok (l, m) → dAddrA d % 32 = 0 → fenceCheck l m (dAddrA d) = none →
    ((dKind d).testBit 0 = true → ∃ g, s.ring? (dEvr d) = some g ∧ g.live = true ∧ g.ctx = dCtx d) →
    let pa := l.phys (dAddrA d)
    let idx := s.fenceIdx (dCtx d) 0 pa
    s.setAllowed c.hoop pa true = true → s.lineBusy (lineOf pa) idx false = false → s.firstWaiting (s.physSlice idx) (lineOf pa) idx = none →
    (s.peek pa 32).2 = false → s.writable pa 32 →
    let f := fenceOf (s.peek pa 32).1
    let ooo := if f.flags.testBit 1 && !(dKind d).testBit 1 then 2 else 0
    let r := f.arm ((dKind d).testBit 0) ((dKind d).testBit 1) (dAddrB d) (dValue d) (dEvr d)
    ∃ t, exec (.fenceArm fn) s = .next t ∧ s.adminEnds fn d 0 0 (dCtx d) t ∧
      ((dKind d).testBit 0 = false → s.wroteBytes pa ({ f with flags := ooo } : Fence).bytes t ∧ t.objs = s.objs) ∧
      ((dKind d).testBit 0 = true → f.value < dAddrB d → s.wroteBytes pa
        ({ f with event := dAddrB d, cookie := dValue d, evring := dEvr d, flags := ooo + 1 } : Fence).bytes t ∧ t.objs = s.objs) ∧
      (∀ g, (dKind d).testBit 0 = true → dAddrB d ≤ f.value → s.ring? (dEvr d) = some g → g.room false = true → g.heldEvents = [] →
        r.1 = { f with event := dAddrB d, cookie := dValue d, evring := dEvr d, flags := ooo } ∧
        ((s.poke pa r.1.bytes).vaRefuse c g.recVa 32 = none → (t.ring? (dEvr d)).map (·.w) = some (g.w + 1))))

/-- An enable of a hoop in STATE 0 that passes its checks makes it own and clear its channel sets, takes a new key and shows STATE 1 and BUSY; one that fails a check is
refused with the first failing REASON. Its end frees the save slots, gives every engine's status the map, and shows STATE 2. A disable of a hoop none of whose functions
holds a context stops its roll, gives up and clears its sets, and shows STATE 3, then 0 once they are clear; with a context it is refused with REASON 7. A write of
HOOP_CTRL in STATE 1 or 3 is refused with REASON 13. An engine or a function moves only as R317 allows, else REASON 8 or 12; a locked TDI goes to ERROR. The counters
clear to 0. At the end of a slice, a LAUNCH whose engines are needed is preempted where slots suffice and otherwise runs on; an idle queue is unbound; with no queue
waiting, and none awaiting slots, nothing changes. Completes (a next state is the conclusion): `hoopEnable`, `hoopEnableDone`, `hoopDisable`, `hoopDisableDone`,
`hoopEngMapWrite`, `hoopFnMapWrite`, `hoopSaveStatClear`, `hoopPreemptClear`, `sliceEnd`. Rests on choices of the model: log 80, 81, 82, 149. -/
def Obligations.HoopsAndSlices : Prop :=
  (∀ (s : State) (h : Nat) (w : Word), h < 16 → s.regLive (R.hoopCtrl h) = true → s.hoopSt h = 0 → Fbit F.hoopCtrl_ENABLE w = true →
    ∃ t, exec (.hoopEnable h w) s = .next t ∧ t.fld F.hoopCtrl_MGR_DIE (R.hoopCtrl h) = Fget F.hoopCtrl_MGR_DIE w ∧
      (∀ r, s.enableFails h = some r → s.onlyRegs [R.hoopCtrl h] t ∧ t.bit F.hoopCtrl_REFUSED (R.hoopCtrl h) = true ∧
        t.fld F.hoopCtrl_REASON (R.hoopCtrl h) = r) ∧
      (s.enableFails h = none → t.hoopSt h = 1 ∧ t.bit F.hoopCtrl_ENABLE (R.hoopCtrl h) = true ∧ t.bit F.hoopCtrl_BUSY (R.hoopCtrl h) = true ∧
        (∀ j ∈ s.hoopSets h, t.fld F.memSetStat_OWNER (R.memSetStat j) = h ∧ t.bit F.memSetStat_CLEARING (R.memSetStat j) = true) ∧
        SMap.getD t.mem.keyGen h 0 = SMap.getD s.mem.keyGen h 0 + 1 ∧ (t.hoop h).rollDie = Fget F.hoopCtrl_MGR_DIE w ∧
        s.keepsRegsBut (R.hoopCtrl h :: R.hoopStat h :: (s.hoopSets h).map R.memSetStat) t ∧ t.objs = s.objs ∧ t.engs = s.engs)) ∧
  (∀ (s : State) (h : Nat), h < 16 → s.setsClear h = true →
    (s.hoopSt h = 1 → ∃ t, exec (.hoopEnableDone h) s = .next t ∧ t.hoopSt h = 2 ∧ t.bit F.hoopCtrl_BUSY (R.hoopCtrl h) = false ∧
      (t.hoop h).freeSlots = List.range (s.fld F.hoopSaveSlots_SLOTS (R.hoopSaveSlots h)) ∧ t.mem = s.mem ∧ t.objs = s.objs ∧
      ∀ e ∈ allEngines, t.fld F.engStat_HOOP (R.engStat e) = s.fld F.hoopEngMap_HOOP (R.hoopEngMap e) ∧
        t.fld F.engStat_HOOP_VALID (R.engStat e) = s.fld F.hoopEngMap_VALID (R.hoopEngMap e)) ∧
    (s.hoopSt h = 3 → ∃ t, exec (.hoopDisableDone h) s = .next t ∧ t.hoopSt h = 0 ∧ t.bit F.hoopCtrl_BUSY (R.hoopCtrl h) = false ∧
      s.onlyRegs [R.hoopCtrl h, R.hoopStat h] t)) ∧
  (∀ (s : State) (h : Nat) (w : Word), h < 16 → s.regLive (R.hoopCtrl h) = true → s.hoopSt h = 2 → Fbit F.hoopCtrl_ENABLE w = false →
    Fget F.hoopCtrl_MGR_DIE w = s.fld F.hoopCtrl_MGR_DIE (R.hoopCtrl h) → ∃ t, exec (.hoopDisable h w) s = .next t ∧ t.engs = s.engs ∧
      ((∃ f ∈ s.hoopFns h, s.fnHolds f = true) → t.hoopSt h = 2 ∧ t.bit F.hoopCtrl_REFUSED (R.hoopCtrl h) = true ∧
        t.fld F.hoopCtrl_REASON (R.hoopCtrl h) = 7 ∧ s.onlyRegs [R.hoopCtrl h] t) ∧
      ((∀ f ∈ s.hoopFns h, s.fnHolds f = false) → s.boundRt h = [] → t.hoopSt h = 3 ∧ t.bit F.hoopCtrl_ENABLE (R.hoopCtrl h) = false ∧
        t.bit F.hoopCtrl_BUSY (R.hoopCtrl h) = true ∧ t.bit F.rollCtrl_EN (R.rollCtrl h) = false ∧ (t.hoop h).freeSlots = [] ∧
        ∀ j ∈ s.hoopSets h, t.fld F.memSetStat_OWNER (R.memSetStat j) = 31 ∧ t.bit F.memSetStat_CLEARING (R.memSetStat j) = true)) ∧
  (∀ (s : State) (h : Nat) (w : Word), h < 16 → s.regLive (R.hoopCtrl h) = true → s.hoopSt h = 1 ∨ s.hoopSt h = 3 →
    ∃ t, exec (if Fbit F.hoopCtrl_ENABLE w then .hoopEnable h w else .hoopDisable h w) s = .next t ∧ s.onlyRegs [R.hoopCtrl h] t ∧
      t.bit F.hoopCtrl_REFUSED (R.hoopCtrl h) = true ∧ t.fld F.hoopCtrl_REASON (R.hoopCtrl h) = 13 ∧ t.bit F.hoopCtrl_ENABLE (R.hoopCtrl h) =
        s.bit F.hoopCtrl_ENABLE (R.hoopCtrl h) ∧ t.fld F.hoopCtrl_MGR_DIE (R.hoopCtrl h) = s.fld F.hoopCtrl_MGR_DIE (R.hoopCtrl h)) ∧
  (∀ (s : State) (e : Nat) (w : Word), engineId e = true → s.regLive (R.hoopEngMap e) = true → ∃ t, exec (.hoopEngMapWrite e w) s = .next t ∧
    ((∀ h, s.engHoop e = some h ∨ (Fbit F.hoopEngMap_VALID w = true ∧ Fget F.hoopEngMap_HOOP w = h) → s.hoopSt h = 0) →
      t.rd (R.hoopEngMap e) = w &&& 0x3F#32 ∧ s.onlyRegs [R.hoopEngMap e] t) ∧
    (∀ h, s.engHoop e = some h → s.hoopSt h ≠ 0 → Fbit F.hoopEngMap_VALID w = false → t.rd (R.hoopEngMap e) = s.rd (R.hoopEngMap e) ∧
      t.bit F.hoopCtrl_REFUSED (R.hoopCtrl h) = true ∧ t.fld F.hoopCtrl_REASON (R.hoopCtrl h) = 8 ∧ s.onlyRegs [R.hoopCtrl h] t)) ∧
  (∀ (s : State) (f : Nat) (w : Word), f < 128 → s.regLive (R.hoopFnMap f) = true → ∃ t, exec (.hoopFnMapWrite f w) s = .next t ∧
    (s.tdiHeld f = true → t.tdi f = .error ∧ t.rd (R.hoopFnMap f) = s.rd (R.hoopFnMap f)) ∧
    (s.tdiHeld f = false → s.fnHolds f = false ∨ s.fnHoop f = none → t.rd (R.hoopFnMap f) = w &&& 0x1F#32 ∧ s.onlyRegs [R.hoopFnMap f] t) ∧
    (∀ h, s.tdiHeld f = false → s.fnHolds f = true → s.fnHoop f = some h → Fbit F.hoopFnMap_VALID w = false →
      t.rd (R.hoopFnMap f) = s.rd (R.hoopFnMap f) ∧ t.fld F.hoopCtrl_REASON (R.hoopCtrl h) = 12 ∧ s.onlyRegs [R.hoopCtrl h] t)) ∧
  (∀ (s : State) (h : Nat), h < 16 →
    (s.regLive (R.hoopSaveStat h) = true → ∃ t, exec (.hoopSaveStatClear h) s = .next t ∧
      t.fld F.hoopSaveStat_SHORT (R.hoopSaveStat h) = 0 ∧ s.onlyRegs [R.hoopSaveStat h] t) ∧
    (s.regLive (R.hoopPreempt h) = true → ∃ t, exec (.hoopPreemptClear h) s = .next t ∧ t.fld F.hoopPreempt_KNOT_SAVES (R.hoopPreempt h) = 0 ∧
      t.fld F.hoopPreempt_FULL_SAVES (R.hoopPreempt h) = 0 ∧ s.onlyRegs [R.hoopPreempt h] t)) ∧
  (∀ (s : State) (q h : Nat) (u : Queue), s.queue? q = some u → s.queueHoop u = some h → u.kind = .compute → u.bound = true →
    ((∀ e ∈ u.members, s.darningEngine e = false) → s.waitingQueues h = [] → (∀ p ∈ s.objs.queues, p.2.kind = .compute ∨ p.2.bound = true ∨ p.2.st ≠ .live) →
      exec (.sliceEnd q) s = .next s) ∧
    (∀ r, s.needed u h = true → u.run = some r → r.phase = .running → descOp r.desc = 2 → (∀ p ∈ s.objs.queues, p.1 ≠ q → p.2.ctx = u.ctx → p.2.bound = true) → ∃ t y k, exec (.sliceEnd q) s = .next t ∧
      t.queue? q = some y ∧ y.run = some k ∧ y.bound = true ∧
      (r.members.length ≤ (s.hoop h).freeSlots.length → k.phase = .saving ∧ k.frozen = true ∧ ∃ l : List Nat,
        l.length = r.members.length ∧ (∀ i ∈ l, i ∈ (s.hoop h).freeSlots ∧ i ∉ (t.hoop h).freeSlots) ∧
        ((s.hoop h).freeSlots.Nodup → l.Nodup) ∧ k.slots = r.members.zip l) ∧
      ((s.hoop h).freeSlots.length < r.members.length → k = r ∧ (h < 16 →
        min 0x7FFF (s.fld F.hoopSaveStat_SHORT (R.hoopSaveStat h) + 1) ≤ t.fld F.hoopSaveStat_SHORT (R.hoopSaveStat h)))) ∧
    (s.needed u h = true → u.run = none → u.pSeen ≤ u.c → ∃ t y, exec (.sliceEnd q) s = .next t ∧ t.queue? q = some y ∧ y.bound = false ∧
      y.members = [] ∧ y.run = none))

/-- A roll that passes its checks takes EN and COUNT, binds the queues of its entries where slots suffice, and, where it was off, starts at its first entry 10,000 cycles
after the managing die's count; one that fails them is refused and its EN stays. A roll that is disabled unbinds its idle queues. When an entry comes due the index
moves to the next entry, and the queue's held LAUNCH starts as an aligned launch with the roll's lead; a queue still at another command counts a miss. A picot that
reaches a die makes it hold the launch until a root count of its own, or at once and counted as late where the lead has passed; the release starts the members of that
die alone, unless the command is gone. The roll's counters clear to 0. Completes (a next state is the conclusion): `rollEnable`, `rollDisable`, `rollEntryDue`,
`rollStatClear`, `alignedLaunchArrive`, `alignedLaunchRelease`. Rests on choices of the model: log 9, 83, 84. -/
def Obligations.RollsAndAlignedLaunches : Prop :=
  (∀ (s : State) (h : Nat) (w : Word), h < 16 → s.regLive (R.rollCtrl h) = true → Fbit F.rollCtrl_EN w = true →
    let count := Fget F.rollCtrl_COUNT w
    (s.rollOk h count = true → ∃ t, exec (.rollEnable h w) s = .next t ∧ t.bit F.rollCtrl_EN (R.rollCtrl h) = true ∧
      t.fld F.rollCtrl_COUNT (R.rollCtrl h) = count ∧ (s.objs.queues.length ≤ 4096 → s.objs.ctxs.length ≤ 1024 →
        s.ras.darnings = [] → ∀ p ∈ s.rollQueues h (s.rollParts h count), (t.queue? p.1).map (·.bound) = some true) ∧
      ((∀ p ∈ s.rollQueues h (s.rollParts h count), ∀ u, s.queue? p.1 = some u → u.run = none ∧ u.wake = false ∧ u.pSeen ≤ u.c) →
        t.mem = s.mem ∧ t.txns = s.txns ∧ ∀ e, t.eng e = { s.eng e with motifs := (t.eng e).motifs }) ∧
      (s.bit F.rollCtrl_EN (R.rollCtrl h) = false → t.rd (R.rollPos h) = BitVec.ofNat 32 ((s.rollParts h count).headD 0) ∧
        (t.hoop h).rollStart = t.count (s.hoop h).rollDie + 10000)) ∧
    (s.rollOk h count = false → ∃ t, exec (.rollEnable h w) s = .next t ∧ t.bit F.rollCtrl_REFUSED (R.rollCtrl h) = true ∧
      t.bit F.rollCtrl_EN (R.rollCtrl h) = s.bit F.rollCtrl_EN (R.rollCtrl h) ∧ s.onlyRegs [R.rollCtrl h] t)) ∧
  (∀ (s : State) (h : Nat) (w : Word), h < 16 → s.regLive (R.rollCtrl h) = true → Fbit F.rollCtrl_EN w = false →
    ∃ t, exec (.rollDisable h w) s = .next t ∧ t.bit F.rollCtrl_EN (R.rollCtrl h) = false ∧
      t.fld F.rollCtrl_COUNT (R.rollCtrl h) = Fget F.rollCtrl_COUNT w ∧
      ((∀ q u, s.queue? q = some u → q ∈ s.boundRt h → u.hasRun .held = false) → s.keepsRegsBut [R.rollCtrl h] t) ∧
      ∀ q u, s.queue? q = some u → q ∈ s.boundRt h →
        (u.run = none ∨ u.hasRun .held = true → (t.queue? q).map (·.bound) = some false) ∧
        (∀ r, u.run = some r → r.phase ≠ .held → t.queue? q = some { u with sliceOver := true })) ∧
  (∀ (s : State) (h : Nat), h < 16 → s.bit F.rollCtrl_EN (R.rollCtrl h) = true →
    let ps := s.rollParts h (s.fld F.rollCtrl_COUNT (R.rollCtrl h))
    let q := s.rollQueue h (s.fld F.rollPos_INDEX (R.rollPos h))
    ps ≠ [] → ∃ t, exec (.rollEntryDue h) s = .next t ∧
      t.fld F.rollPos_INDEX (R.rollPos h) = (nextEntry ps (s.fld F.rollPos_INDEX (R.rollPos h))).1 ∧ t.mem = s.mem ∧ t.engs = s.engs ∧
      (∀ u r, s.queue? q = some u → u.run = some r → r.phase = .held → descOp r.desc = 2 → u.st = .live →
        (u.kind = .copy ∨ s.setNow q u ≠ []) → (∀ e ∈ s.setNow q u, u.members.contains e = true ∨ s.engFits u e = true) → ∃ k a y z, SMap.get? t.sched.aligned k = some a ∧
        a.queue = q ∧ a.hoop = h ∧ a.lead = s.fld F.rollLead_LEAD (R.rollLead h) ∧ a.pillow = false ∧ t.queue? q = some y ∧ y.run = some z ∧
        z.phase = .running ∧ z.launch = a.launch ∧ z.members = s.setNow q u ∧ s.keepsRegsBut [R.rollPos h] t) ∧
      (∀ u r, s.queue? q = some u → u.run = some r → r.phase ≠ .held → s.onlyRegs [R.rollPos h, R.rollStat h] t ∧
        t.fld F.rollStat_MISSED (R.rollStat h) = min 0x7FFF (s.fld F.rollStat_MISSED (R.rollStat h) + 1)) ∧
      ((∀ u r, s.queue? q = some u → u.run = some r → r.phase = .held ∧ (descOp r.desc ≠ 2 ∨ u.st ≠ .live)) → s.onlyRegs [R.rollPos h] t)) ∧
  (∀ (s : State) (h : Nat), h < 16 → s.regLive (R.rollStat h) = true → ∃ t, exec (.rollStatClear h) s = .next t ∧
    t.fld F.rollStat_MISSED (R.rollStat h) = 0 ∧ t.fld F.rollStat_LATE (R.rollStat h) = 0 ∧ s.onlyRegs [R.rollStat h] t) ∧
  (∀ (s : State) (i die elapsed : Nat) (a : Aligned), SMap.get? s.sched.aligned i = some a → a.hoop < 16 → elapsed < 65536 → die ∈ a.pendingDies →
    (∃ p ∈ s.msgs, p.2.arrived = true ∧ p.2.kind = .aligned i die) → (∃ t b c, exec (.alignedLaunchArrive i die elapsed) s = .next t ∧ SMap.get? t.sched.aligned i = some b ∧ die ∉ b.pendingDies ∧
      SMap.get? b.holding die = some c ∧ t.engs = s.engs ∧ t.objs = s.objs ∧ (∃ p ∈ s.msgs, p.2.kind = .aligned i die ∧ t.msgs = SMap.del s.msgs p.1) ∧
      (elapsed + 96 ≤ a.lead → 8 * t.count die + (a.lead - elapsed - 96) ≤ c ∧ c < 8 * t.count die + (a.lead - elapsed - 96) + 8 ∧ t.regs = s.regs) ∧
      (a.lead < elapsed + 96 → a.pillow = false → s.keepsRegsBut [R.rollStat a.hoop] t ∧
        t.fld F.rollStat_LATE (R.rollStat a.hoop) = min 0x7FFF (s.fld F.rollStat_LATE (R.rollStat a.hoop) + 1)) ∧
      (a.lead < elapsed + 96 → a.pillow = true → s.keepsRegsBut [R.pilStat a.hoop] t ∧
        t.fld F.pilStat_LATE (R.pilStat a.hoop) = min (2 ^ F.pilStat_LATE.len - 1) (s.fld F.pilStat_LATE (R.pilStat a.hoop) + 1)))) ∧
  (∀ (s : State) (i die : Nat) (a : Aligned) (u : Queue), SMap.get? s.sched.aligned i = some a → (∃ p ∈ a.holding, p.1 = die) →
    s.queue? a.queue = some u →
    (∀ r, u.run = some r → u.st = .live → r.phase = .running → descOp r.desc = 2 → r.launch = a.launch → r.members.Nodup →
      ∃ t, exec (.alignedLaunchRelease i die) s = .next t ∧ t = { s with sched := t.sched, engs := t.engs } ∧
        (∀ k e, r.members[k]? = some e → engDie e = die → t.share? e a.queue = some (shareOf u.ctx k r.members.length r.desc)) ∧
        (∀ e, engDie e ≠ die → t.eng e = s.eng e)) ∧
    ((∀ r, u.run = some r → u.st ≠ .live ∨ r.phase ≠ .running ∨ descOp r.desc ≠ 2 ∨ r.launch ≠ a.launch) →
      ∃ t, exec (.alignedLaunchRelease i die) s = .next t ∧ t = { s with sched := t.sched }))

/-- A build of either kind hands no page to two holders and loses none: the free list and the entries hold the same pages before and after, and no done entry stays unless
the free list read as poison. A build with no entry and nothing asked advances STEP, writes an empty pricking for the one server on every die, and leaves the pillow
idle. A write that enables the pillow or a server is refused with its REASON, or takes effect: the free list holds every page after the list's own, and the server
starts at counts of 0 with a resident slot for its context. The end of the list's build clears BUSY. The entry window shows the selected entry, and zeros where none is
held. A build that waits for a report ring goes on once the ring has room and otherwise waits on. A server whose context has ended is released: its pages return, its
entries are free and EN reads 0. The counters clear to 0. Completes (a next state is the conclusion): `pillowStepBuild`, `pillowIdlePoll`, `reportRingHeadReread`,
`serverContextRelease`, `pilEnable`, `pilFreeListBuilt`, `pilServerEnable`, `pilEntSelWrite`, `pilStatClear`, `pilStat2Clear`. Rests on choices of the model: log 87,
88, 90, 91, 92, 155. -/
def Obligations.PillowBuildsAndServers : Prop :=
  (∀ (s : State) (h : Nat) (hm : HostView), s.mayBuild h = true → s.poolSound h →
    ((s.pilH h).idle = false → ∃ t, exec (.pillowStepBuild h hm) s = .next t ∧ s.builtFrom h t) ∧
    ((s.pilH h).idle = true → (∃ p ∈ (s.pilH h).servers, s.hasReq hm p.2 = true) → ∃ t, exec (.pillowIdlePoll h hm) s = .next t ∧ s.builtFrom h t) ∧
    ((s.pilH h).idle = true → (∀ p ∈ (s.pilH h).servers, s.hasReq hm p.2 = false) → exec (.pillowIdlePoll h hm) s = .next s)) ∧
  (∀ (s : State) (h : Nat) (hm : HostView), s.mayBuild h = true → (s.pilH h).idle = false → (s.pilH h).entries = [] → (s.pilH h).reports = [] →
    s.listBad h = false → (∀ p ∈ (s.pilH h).servers, p.2.launched = false ∧ p.2.ended = false ∧ ∃ c b, s.ctx? p.2.ctx = some c ∧ c.st = .live ∧
      s.vaPeek c hm p.2.reqEyelet 8 = .ok (b, false) ∧ leNat b = p.2.reqC) →
    let step := s.rd64 (R.pilStepLo h) + 1
    ∃ t, exec (.pillowStepBuild h hm) s = .next t ∧ (t.pilH h).idle = true ∧ t.rd64 (R.pilStepLo h) = step % 2 ^ 64 ∧
      s.keepsRegsBut ([R.pilStepLo h, R.pilStepLo h + 4] ++ readCounters) t ∧ t.objs = s.objs ∧ t.engs = s.engs ∧ t.txns = s.txns ∧ t.posted = s.posted ∧
      ∀ v w, (s.pilH h).servers = [(v, w)] → v < 4 → w.prickOff + prickSize ≤ 2 ^ 27 → s.mem.wf = true → ∀ d, d < 8 →
        cellsAt t.mem.cells (prickAddr w step d) 64 =
          leBytes 1 1 ++ leBytes 1 d ++ leBytes 1 v ++ zeros 5 ++ leBytes 8 step ++ zeros 48) ∧
  (∀ (s : State) (h v : Nat) (hm : HostView) (b : Bytes) (w : Server) (c : Ctx) (x : Bytes), (s.pilH h).paused = true → (s.pilH h).reports = [(v, b)] →
    s.server? h v = some w → s.ctx? w.ctx = some c → c.st = .live → 2 ^ w.repLog2 ≤ w.w - w.h → s.vaPeek c hm w.repHead 8 = .ok (x, false) →
    leNat x ≤ w.w → w.w ≤ leNat x + 2 ^ w.repLog2 → ∃ t, exec (.reportRingHeadReread h v hm) s = .next t ∧
      (w.w - leNat x = 2 ^ w.repLog2 → t.server? h v = some { w with h := leNat x } ∧ (t.pilH h).paused = true ∧ (t.pilH h).reports = [(v, b)] ∧
        t = { s with pil := t.pil, regs := t.regs } ∧ s.keepsRegsBut readCounters t) ∧
      (w.w - leNat x < 2 ^ w.repLog2 → (∀ p ∈ (s.pilH h).servers, p.2.rows = []) →
        s.vaRefuse c (w.repRing + 32 * (w.w % 2 ^ w.repLog2)) (b.length + 1) = none →
        t.server? h v = some { w with h := leNat x, w := w.w + 1 } ∧ (t.pilH h).paused = false ∧ (t.pilH h).reports = [] ∧ s.keepsRegsBut readCounters t ∧ t.objs = s.objs ∧
        ∀ l m, w.repRing % 4096 = 0 → b.length = 31 → s.translate c .store (w.repRing + 32 * (w.w % 2 ^ w.repLog2)) = .ok (l, m) → l.space = .host →
          t.posted = s.posted ++ [.write c.fn (l.phys (w.repRing + 32 * (w.w % 2 ^ w.repLog2)))
            (b ++ [if phaseOf w.w w.repLog2 then 1 else 0])])) ∧
  (∀ (s : State) (h v : Nat) (w : Server), s.server? h v = some w → s.mayBuild h = true → (s.pilH h).idle = true → s.ctxLive w.ctx = false →
    s.poolSound h → ∃ t, exec (.serverContextRelease h v) s = .next t ∧ t.server? h v = none ∧ t.bit F.pilSrvCtrl_EN (R.pilSrvCtrl h v) = false ∧
      (t.pilH h).idle = false ∧ (t.pilH h).pages.Perm (s.pilH h).pages ∧
      (∀ p, p ∈ (t.pilH h).entries ↔ p ∈ (s.pilH h).entries ∧ p.2.server ≠ v) ∧ s.keepsRegsBut [R.pilSrvCtrl h v] t) ∧
  (∀ (s : State) (h : Nat) (w : Word), h < 16 → s.regLive (R.pilCtrl h) = true → Fbit F.pilCtrl_EN w = true →
    s.bit F.pilCtrl_EN (R.pilCtrl h) = false → ∃ t, exec (.pilEnable h w) s = .next t ∧ t.fld F.pilCtrl_ZERO (R.pilCtrl h) = Fget F.pilCtrl_ZERO w ∧
      t.fld F.pilCtrl_LEAD (R.pilCtrl h) = max 512 (Fget F.pilCtrl_LEAD w) ∧
      (∀ r, (s.hoopSt h ≠ 2 ∧ r = 1) ∨ (s.hoopSt h = 2 ∧ s.poolOk h = false ∧ r = 2) → t.bit F.pilCtrl_EN (R.pilCtrl h) = false ∧
        t.bit F.pilCtrl_REFUSED (R.pilCtrl h) = true ∧ t.fld F.pilCtrl_REASON (R.pilCtrl h) = r ∧ s.onlyRegs [R.pilCtrl h] t) ∧
      (s.hoopSt h = 2 → s.poolOk h = true → t.bit F.pilCtrl_EN (R.pilCtrl h) = true ∧ t.bit F.pilCtrl_BUSY (R.pilCtrl h) = true ∧
        t.rd64 (R.pilStepLo h) = 0 ∧ s.keepsRegsBut [R.pilCtrl h, R.pilStepLo h, R.pilStepLo h + 4] t ∧ (t.pilH h).servers = [] ∧
        (t.pilH h).entries = [] ∧ (t.pilH h).free = (List.range (s.pilPages h)).drop (listPages (s.pilPages h)) ∧ t.mem = s.mem)) ∧
  (∀ (s : State) (h : Nat), h < 16 → s.clk.pwrok = true → ∃ t, exec (.pilFreeListBuilt h) s = .next t ∧ t.fld F.pilCtrl_BUSY (R.pilCtrl h) = 0 ∧ s.onlyRegs [R.pilCtrl h] t) ∧
  (∀ (s : State) (h v : Nat) (w : Word) (hm : HostView), h < 16 → v < 4 → s.regLive (R.pilSrvCtrl h v) = true → Fbit F.pilSrvCtrl_EN w = true →
    s.bit F.pilSrvCtrl_EN (R.pilSrvCtrl h v) = false →
    let u := s.setF F.pilSrvCtrl_CTX (R.pilSrvCtrl h v) (Fget F.pilSrvCtrl_CTX w)
    ∃ t, exec (.pilServerEnable h v w hm) s = .next t ∧ t.fld F.pilSrvCtrl_CTX (R.pilSrvCtrl h v) = Fget F.pilSrvCtrl_CTX w ∧
      (∀ r, u.srvCheck h v hm = .error r → t.bit F.pilSrvCtrl_EN (R.pilSrvCtrl h v) = false ∧ t.bit F.pilSrvCtrl_REFUSED (R.pilSrvCtrl h v) = true ∧
        t.fld F.pilSrvCtrl_REASON (R.pilSrvCtrl h v) = r ∧ s.onlyRegs (R.pilSrvCtrl h v :: readCounters) t) ∧
      (s.bit F.pilCtrl_EN (R.pilCtrl h) = false → t.fld F.pilSrvCtrl_REASON (R.pilSrvCtrl h v) = 1) ∧
      (∀ x, u.srvCheck h v hm = .ok x → t.bit F.pilSrvCtrl_EN (R.pilSrvCtrl h v) = true ∧ t.server? h v = some x ∧ x.ctx = Fget F.pilSrvCtrl_CTX w ∧
        x.reqC = 0 ∧ x.w = 0 ∧ x.h = 0 ∧ x.rows = [] ∧ (t.ctx? x.ctx).any (·.slot.isSome) = true ∧ t.mem = s.mem ∧
        s.keepsRegsBut (R.pilSrvCtrl h v :: readCounters) t)) ∧
  (∀ (s : State) (w : Word), s.regLive R.pilEntSel = true → ∃ t, exec (.pilEntSelWrite w) s = .next t ∧ t.rd R.pilEntSel = w &&& 0x3FFF#32 ∧
    s.onlyRegs (R.pilEntSel :: (List.range 16).map R.pilEntData) t ∧
    let k := 2048 * Fget F.pilEntSel_DIE w + Fget F.pilEntSel_ENTRY w
    ((∀ p ∈ s.pil.hoops, SMap.get? p.2.entries k = none) → ∀ i, i < 16 → t.rd (R.pilEntData i) = 0) ∧
    ∀ p e, p ∈ s.pil.hoops → SMap.get? p.2.entries k = some e → (∀ q ∈ s.pil.hoops, q ≠ p → SMap.get? q.2.entries k = none) →
      ∀ i, i < 16 → t.rd (R.pilEntData i) = BitVec.ofNat 32 (numAt e.bytes (4 * i) 4)) ∧
  (∀ (s : State) (h : Nat), h < 16 →
    (s.regLive (R.pilStat h) = true → ∃ t, exec (.pilStatClear h) s = .next t ∧ t.fld F.pilStat_STARVED (R.pilStat h) = 0 ∧
      t.fld F.pilStat_LATE (R.pilStat h) = 0 ∧ s.onlyRegs [R.pilStat h] t) ∧
    (s.regLive (R.pilStat2 h) = true → ∃ t, exec (.pilStat2Clear h) s = .next t ∧ t.fld F.pilStat2_STALLS (R.pilStat2 h) = 0 ∧
      t.fld F.pilStat2_REP_FULL (R.pilStat2 h) = 0 ∧ s.onlyRegs [R.pilStat2 h] t))

/-- A message that a port delivers to no enabled exchange is counted in SHX_DROP and nothing else; one that a failed link held faults its context. A COUNT joins the table
of the dispatch that the die serves, or of the next; the last count of a dispatch makes the die grant round 0, its pairs in order taking consecutive slots, and send a
GRANT to each die of its package. A GRANT takes the routes of its bucket in order and gives them consecutive slots; at 65,536 movements they wait, and below it the
first reads its activation row. A FILLED is remembered while another is missing; the last brings the expert LAUNCH. A DONE accounts for the routes of its round; the
die's result is written when none is left, and after the eighth the DONE fence is signalled. An ABORT counts every route to the partner as lost. A SLOT_LINE and a
SLOT_RECORD become stores to the slot; a line that the row does not have faults the source. Completes (a next state is the conclusion): `count`, `grant`, `slotLine`,
`slotRecord`, `filled`, `done`, `abort`. Rests on choices of the model: log 94, 95, 97, 156. -/
def Obligations.ExchangeMessages : Prop :=
  (∀ (s : State) (port : Nat) (m : ShxMsg) (c : Instr), (m.kind, c) ∈ [(7, Instr.count port m), (8, .grant port m), (9, .slotLine port m),
    (10, .slotRecord port m), (11, .filled port m), (12, .done port m), (13, .abort port m)] → port < 8 → s.gmpUp port = true →
    (∀ key p, ¬ s.delivers port m key p) → ∃ t, exec c s = .next t ∧ s.onlyRegs [R.shxDrop] t ∧
      t.fld F.shxDrop_DROPPED R.shxDrop = min (2 ^ F.shxDrop_DROPPED.len - 1) (s.fld F.shxDrop_DROPPED R.shxDrop + 1)) ∧
  (∀ (s : State) (m : ShxMsg) (c : Instr) (i : Nat) (w : Msg) (y : Xch), (m.kind, c) ∈ [(7, Instr.count 8 m), (8, .grant 8 m), (9, .slotLine 8 m),
    (10, .slotRecord 8 m), (11, .filled 8 m), (12, .done 8 m), (13, .abort 8 m)] → s.xFirst m = some (i, w) → w.lost = true →
    s.xch? (4 * m.hoop + m.xch) = some y → s.faultFree y.ctx → ∃ t, exec c s = .next t ∧ t.holdsFault y.ctx 0x0D m.dst (y.drec m.src)) ∧
  (∀ (s : State) (port : Nat) (m : ShxMsg) (key : Nat) (p : Peer) (x : Xch) (u : XDie), s.delivers port m key p → s.xch? key = some x →
    s.xdie? key (m.dst % 8) = some u →
    (m.kind = 7 → m.dispatch % 2 ^ 40 = (u.serving + 1) % 2 ^ 40 → ∃ t, exec (.count port m) s = .next t ∧
      t.xdie? key (m.dst % 8) = some { u with tabs2 := addCount u.tabs2 p m } ∧ s.onlyExchange t) ∧
    (m.kind = 7 → m.dispatch % 2 ^ 40 = u.serving % 2 ^ 40 → u.phase = 0 →
      (∃ q ∈ s.xchMembers key, q.isGone u.gone = false ∧ q ≠ p ∧ ∀ c ∈ u.tabs, c.peer = q → c.last = false) →
      ∃ t, exec (.count port m) s = .next t ∧ t.xdie? key (m.dst % 8) = some { u with tabs := addCount u.tabs p m } ∧ s.onlyExchange t) ∧
    (m.kind = 7 → m.dispatch % 2 ^ 40 = u.serving % 2 ^ 40 → u.phase = 0 → u.gone = [] → s.xchPorts key = 0 → 0 < x.slots →
      (∀ q ∈ s.xchMembers key, ∃ c ∈ addCount u.tabs p m, c.peer = q ∧ c.last = true) →
      let pairs := pairsOf (s.xchMembers key) (addCount u.tabs p m) x.buckets
      pairs ≠ [] → ∃ t y, exec (.count port m) s = .next t ∧ t.xdie? key (m.dst % 8) = some y ∧ y.phase = 1 ∧ y.round = 0 ∧
        (y.grants, y.ungranted) = fitRound x.slots 0 pairs ∧ s.onlyExchange t ∧
        ∀ d, d < 8 → t.xSent { shxMsg key 8 u.serving d (m.dst % 8) with
          entries := (y.grants.filter (fun g => g.peer = { die := d, port := none })).map (fun g => (g.bucket, g.count, g.first)) }) ∧
    (∀ b n slot, m.kind = 8 → x.opened = true → m.dispatch % 2 ^ 40 = x.last % 2 ^ 40 → m.entries = [(b, n, slot)] → (∀ f ∈ u.fills, f.dst ≠ p) →
      let mine := fun (r : Route) => decide (r.dst = p ∧ r.bucket = b)
      let taken := (u.routes.filter mine).take n
      (65536 ≤ s.shx.moves.length → ∃ t y, exec (.grant port m) s = .next t ∧ t.xdie? key (m.dst % 8) = some y ∧
        y.routes.filter mine = (u.routes.filter mine).drop n ∧ y.routes.filter (fun r => !mine r) = u.routes.filter (fun r => !mine r) ∧
        y.todo.take u.todo.length = u.todo ∧
        (y.todo.drop u.todo.length).map (fun v => (v.token, v.g, v.ef, v.peer, v.slot)) =
          taken.zipIdx.map (fun r => (r.1.token, r.1.g, r.1.ef, p, slot + r.2)) ∧
        { dst := p, round := m.round % 32768, slots := taken.length, closed := m.last, sent := false } ∈ y.fills ∧ s.onlyExchange t) ∧
      (∀ r c pa l o, s.shx.moves.length < 65536 → u.todo = [] → taken = [r] → s.ctx? x.ctx = some c → s.fillTarget x u r.token = .ok pa →
        s.translate c .read (numAt u.record 16 8 + r.token * x.rowBytes) = .ok (l, o) → ∃ t mv i y, exec (.grant port m) s = .next t ∧
          SMap.get? t.shx.moves mv = some { key := key, die := m.dst % 8, fill := true, token := r.token, g := r.g, ef := r.ef, peer := p, slot := slot, round := m.round % 32768, line := 0, target := pa, port := none, buf := [], bad := false, ss := 0, hasSs := false } ∧
          t.txn? i = some y ∧ y.op = .read ∧ y.issuer = .movement (key / 4) (key % 4) mv ∧ y.space = l.space ∧
          y.addr = lineOf (l.phys (numAt u.record 16 8 + r.token * x.rowBytes)) ∧ t.mem = s.mem)) ∧
    (m.kind = 11 → u.phase = 1 → m.dispatch % 2 ^ 40 = u.serving % 2 ^ 40 → m.round % 32768 = u.round % 32768 →
      ((∃ q ∈ s.xchMembers key, q.isGone u.gone = false ∧ q ≠ p ∧ slotsOf u.grants q ≠ [] ∧ q ∉ u.filled) → p ∉ u.filled →
        ∃ t, exec (.filled port m) s = .next t ∧ t.xdie? key (m.dst % 8) = some { u with filled := p :: u.filled } ∧ s.onlyExchange t) ∧
      ((∀ q ∈ s.xchMembers key, q.isGone u.gone = false → q ≠ p → slotsOf u.grants q = [] ∨ q ∈ u.filled) → u.grants ≠ [] →
        (∃ t, exec (.filled port m) s = .next t ∧ ∀ y, t.xdie? key (m.dst % 8) = some y → y.phase = 2 ∧ y.grants = u.grants) ∧
        ∀ w c pins, (∀ k ∈ u.grants.flatMap (fun g => (List.range g.count).map (· + g.first)), k ∈ u.arrived) → s.queue? (x.expq (m.dst % 8)) = some w →
          w.bound = true → w.st = .live → w.run = none → s.ctx? w.ctx = some c → c.st = .live →
          (s.poke (toileAt (m.dst % 8) x.tabOff) (bucketTable x u)).checkDesc w c (unitDesc x.block (numAt x.block 19 1 % 4) u.round u.serving) = .ok pins →
          ∃ t y r, exec (.filled port m) s = .next t ∧ t.xdie? key (m.dst % 8) = some y ∧ y.phase = 2 ∧ y.grants = u.grants ∧
            (t.queue? (x.expq (m.dst % 8))).bind (·.run) = some r ∧ r.sender = 2 ∧
            r.desc = unitDesc x.block (numAt x.block 19 1 % 4) u.round u.serving)) ∧
    (∀ f, m.kind = 12 → x.opened = true → m.dispatch % 2 ^ 40 = x.last % 2 ^ 40 → u.wrote = false →
      u.fills.find? (fun f => f.dst = p && f.round % 32768 == m.round % 32768) = some f →
      let n := min f.slots (numAt m.body 0 4)
      (f.slots < u.left → (s.ctx? x.ctx).isSome = true → (∀ d v, d < 8 → d ≠ m.dst % 8 → s.xdie? key d = some v → v.counted = true → v.left = 0 →
          v.wrote = true) → ∃ t y, exec (.done port m) s = .next t ∧ t.xdie? key (m.dst % 8) = some y ∧ y.left = u.left - f.slots ∧
        y.combined = u.combined + n ∧ y.lost = u.lost + (f.slots - n) ∧ y.poisoned = u.poisoned + numAt m.body 4 4 ∧ y.fills = u.fills.erase f) ∧
      (∀ c l o q k, f.slots = u.left → u.counted = true → (∀ d, d < 8 → d ≠ m.dst % 8 → ∃ v, s.xdie? key d = some v ∧ v.wrote = true) →
        s.ctx? x.ctx = some c → s.translate c .store (x.drec (m.dst % 8) + 64) = .ok (l, o) → l.space = .host → x.drec (m.dst % 8) % 128 = 0 →
        s.translate c .signal x.doneVa = .ok (q, k) → fenceCheck q k x.doneVa = none → ∃ t y z, exec (.done port m) s = .next t ∧
          t.xch? key = some z ∧ z.opened = false ∧ t.xdie? key (m.dst % 8) = some y ∧ y.left = 0 ∧ y.wrote = true ∧
          t.posted = s.posted ++ [.write c.fn (l.phys (x.drec (m.dst % 8) + 64)) (xResult x.last x.status y)] ∧
          t.fenceAsked (.signal x.ctx (q.phys x.doneVa) x.last none none))) ∧
    (∀ a, m.kind = 13 → p.port = some a → a ∈ s.xchPartners key → x.opened = true → ∃ t, exec (.abort port m) s = .next t ∧ ∀ z, t.xch? key = some z →
      z.status = (if x.status = 0x45 then 0x45 else 0x41) ∧ a ∈ z.gone ∧ ∀ d v y, s.xdie? key d = some v → t.xdie? key d = some y →
        let lost := (v.routes.filter (fun r => r.dst.port = some a)).length +
          (v.fills.filter (fun f => f.dst.port = some a)).foldl (fun a f => a + f.slots) 0
        y.routes = v.routes.filter (fun r => r.dst.port ≠ some a) ∧ y.lost = v.lost + lost ∧ y.left = v.left - lost) ∧
    (m.kind = 9 → m.line < x.rowLines → m.slot < x.tslots → x.rowBytes % 128 = 0 → x.toileOff % 128 = 0 →
      let a := toileAt (m.dst % 8) (x.toileOff + m.slot * x.rowBytes + 128 * m.line)
      ∃ t i y, exec (.slotLine port m) s = .next t ∧ t.txn? i = some y ∧ y.op = .store ∧ y.space = .toile ∧ y.addr = a ∧
        y.issuer = (if p.port.isNone then .movement (key / 4) (key % 4) m.id else .peer port m.id) ∧
        y.data = cut m.body 0 128 ∧ y.secs = 15 ∧ y.poison = (if m.last then y.secs else 0) ∧
        t.mem = s.mem) ∧
    (∀ c l o, m.kind = 9 → m.line < x.rowLines → x.tslots ≤ m.slot → s.ctx? x.ctx = some c → (x.spillVa (m.dst % 8) m.slot + 128 * m.line) % 128 = 0 →
      s.translate c .store (x.spillVa (m.dst % 8) m.slot + 128 * m.line) = .ok (l, o) → ∃ t i y, exec (.slotLine port m) s = .next t ∧
        t.txn? i = some y ∧ y.op = .store ∧ y.space = l.space ∧ y.addr = lineOf (l.phys (x.spillVa (m.dst % 8) m.slot + 128 * m.line)) ∧ t.mem = s.mem) ∧
    (∀ v, m.kind = 9 → x.rowLines ≤ m.line → p.port = none → SMap.get? s.shx.moves m.id = some v → v.fill = true → v.key = key → s.faultFree x.ctx →
      ∃ t, exec (.slotLine port m) s = .next t ∧ t.holdsFault x.ctx 0x05 4 (x.drec v.die)) ∧
    (m.kind = 10 → ∃ t i y v, exec (.slotRecord port m) s = .next t ∧ t.txn? i = some y ∧ y.op = .store ∧ y.space = .toile ∧
      y.addr = lineOf (toileAt (m.dst % 8) (x.recOff + 16 * m.slot)) ∧ t.xdie? key (m.dst % 8) = some v ∧ m.slot ∈ v.arrived ∧
      v.received = (if m.slot ∈ u.arrived then u.received else u.received + 1) ∧ t.mem = s.mem))

/-- A dispatch starts when the GO fence reads the number after the last: every die takes its record and its routes and sends each die its COUNT; a lower number or an open
dispatch changes nothing, a higher one and a record or list that fails its checks fault the context. The end of the expert LAUNCH makes a movement of every slot of the
round; at 65,536 movements they wait, and below it the first reads its output row. The wait limit of an open dispatch faults the context. A write that enables an
exchange is refused with its REASON or starts it at the GO fence's value; a disable is refused while a dispatch is open, and otherwise ends it. A map entry takes its
defined fields; the counters clear to 0. Completes (a next state is the conclusion): `dispatchStart`, `expertLaunchComplete`, `dispatchWaitLimit`, `exchangeEnable`,
`exchangeDisable`, `shxMapWrite`, `shxXStatClear`, `shxDropClear`. Rests on choices of the model: log 98, 99. -/
def Obligations.ExchangeDispatches : Prop :=
  (∀ (s : State) (h x : Nat) (hm : HostView) (y : Xch) (c : Ctx) (l : Leaf) (o : Mobj), h < 16 → x < 4 → s.xch? (4 * h + x) = some y → s.ctx? y.ctx = some c →
    s.translate c .wait y.goVa = .ok (l, o) →
    let v := s.peekNum (l.phys y.goVa) 8
    let n := y.last + 1
    (v < n ∨ (v = n ∧ y.opened = true) → exec (.dispatchStart h x hm) s = .next s) ∧
    (n < v → s.faultFree y.ctx → ∃ t, exec (.dispatchStart h x hm) s = .next t ∧ t.holdsFault y.ctx 0x05 4 y.goVa) ∧
    (∀ d f, v = n → y.opened = false → d < 8 → s.countDie (4 * h + x) n y c hm d = .error f →
      (∀ k, k < d → ∃ r, s.countDie (4 * h + x) n y c hm k = .ok r) → s.faultFree y.ctx →
      ∃ t, exec (.dispatchStart h x hm) s = .next t ∧ t.holdsFault y.ctx f.code f.detail f.addr) ∧
    (∀ rs : Nat → Bytes × List Route, v = n → y.opened = false → s.xchPorts (4 * h + x) = 0 → (∀ d, d < 8 → (s.xdie? (4 * h + x) d).isSome = true) →
      (∀ d, d < 8 → s.countDie (4 * h + x) n y c hm d = .ok (rs d)) → (∃ d, d < 8 ∧ (rs d).2 ≠ []) → y.drec 0 % 128 = 0 →
      (∀ d, d < 8 → (rs d).2 = [] → ∃ q k, s.translate c .store (y.drec d + 64) = .ok (q, k) ∧ q.space = .host) →
      ∃ t z, exec (.dispatchStart h x hm) s = .next t ∧ t.xch? (4 * h + x) = some z ∧ z.opened = true ∧ z.last = n ∧ z.status = 0 ∧
        t.fld F.shxXLast_LAST (R.shxXLast h x) = n % 2 ^ 32 ∧ s.keepsRegsBut (R.shxXLast h x :: readCounters) t ∧
        (∀ d, d < 8 → ∃ u, t.xdie? (4 * h + x) d = some u ∧ u.record = (rs d).1 ∧ u.routes = (rs d).2 ∧ u.left = (rs d).2.length ∧ u.counted = true) ∧
        ∀ d k, d < 8 → k < 8 → t.xSent { shxMsg (4 * h + x) 7 n k d with entries := countsFor (rs d).2 { die := k, port := none } })) ∧
  (∀ (s : State) (h x d : Nat) (hm : HostView) (y : Xch) (u : XDie) (q : Queue), h < 16 → x < 4 → s.xch? (4 * h + x) = some y → s.xdie? (4 * h + x) d = some u →
    u.phase = 2 → s.queue? (y.expq d) = some q → q.run = none → q.last = 0 → slotsOf u.grants { die := 0, port := none } ≠ [] →
    let slots := u.grants.flatMap (fun g => (List.range g.count).map (· + g.first))
    (65536 ≤ s.shx.moves.length → ∃ t z, exec (.expertLaunchComplete h x d hm) s = .next t ∧ t.xdie? (4 * h + x) d = some z ∧ z.phase = 3 ∧
      z.todo.map (·.slot) = u.todo.map (·.slot) ++ slots ∧ t.mem = s.mem) ∧
    (∀ k c l o, s.shx.moves.length < 65536 → u.todo = [] → slots = [k] → y.kind = 0 → s.ctx? y.ctx = some c →
      (s.peek (toileAt d (y.recOff + 16 * k)) 16).2 = false → (numAt (s.peek (toileAt d (y.recOff + 16 * k)) 16).1 11 1).testBit 0 = false → s.translate c .read (y.outVa d k) = .ok (l, o) →
      ∃ t mv i z v, exec (.expertLaunchComplete h x d hm) s = .next t ∧ t.txn? i = some z ∧ z.op = .read ∧ z.issuer = .movement h x mv ∧
        z.space = l.space ∧ z.addr = lineOf (l.phys (y.outVa d k)) ∧ SMap.get? t.shx.moves mv = some v ∧ v.slot = k ∧ v.fill = false ∧
        v.target = numAt (s.peek (toileAt d (y.recOff + 16 * k)) 16).1 0 8 % 2 ^ 40 ∧ t.mem = s.mem)) ∧
  (∀ (s : State) (h x : Nat) (y : Xch), h < 16 → x < 4 → s.xch? (4 * h + x) = some y →
    (y.opened = true → s.faultFree y.ctx → ∃ t, exec (.dispatchWaitLimit h x) s = .next t ∧ t.holdsFault y.ctx 0x0E 0 (y.drec 0)) ∧
    (y.opened = false → exec (.dispatchWaitLimit h x) s = .next s)) ∧
  (∀ (s : State) (h x : Nat) (w : Word) (hm : HostView), h < 16 → x < 4 → s.regLive (R.shxXCtrl h x) = true → Fbit F.shxXCtrl_EN w = true →
    s.bit F.shxXCtrl_EN (R.shxXCtrl h x) = false →
    let u := s.setF F.shxXCtrl_CTX (R.shxXCtrl h x) (Fget F.shxXCtrl_CTX w)
    ∃ t, exec (.exchangeEnable h x w hm) s = .next t ∧ t.fld F.shxXCtrl_CTX (R.shxXCtrl h x) = Fget F.shxXCtrl_CTX w ∧
      (∀ r, u.shxCheck h x hm = .error r → t.bit F.shxXCtrl_EN (R.shxXCtrl h x) = false ∧ t.bit F.shxXCtrl_REFUSED (R.shxXCtrl h x) = true ∧
        t.fld F.shxXCtrl_REASON (R.shxXCtrl h x) = r ∧ s.onlyRegs (R.shxXCtrl h x :: readCounters) t) ∧
      (s.hoopSt h ≠ 2 → t.fld F.shxXCtrl_REASON (R.shxXCtrl h x) = 1) ∧
      (∀ y, u.shxCheck h x hm = .ok y → t.bit F.shxXCtrl_EN (R.shxXCtrl h x) = true ∧ t.xch? (4 * h + x) = some y ∧ y.ctx = Fget F.shxXCtrl_CTX w ∧
        y.opened = false ∧ (∀ d, d < 8 → ∃ v, t.xdie? (4 * h + x) d = some v ∧ v.serving = y.last + 1 ∧ v.phase = 0) ∧
        (t.ctx? y.ctx).any (·.slot.isSome) = true ∧ t.fld F.shxXLast_LAST (R.shxXLast h x) = y.last % 2 ^ 32 ∧ t.mem = s.mem ∧
        s.keepsRegsBut ([R.shxXCtrl h x, R.shxXLast h x] ++ readCounters) t)) ∧
  (∀ (s : State) (h x : Nat) (w : Word) (y : Xch), h < 16 → x < 4 → s.regLive (R.shxXCtrl h x) = true → Fbit F.shxXCtrl_EN w = false →
    s.bit F.shxXCtrl_EN (R.shxXCtrl h x) = true → s.xch? (4 * h + x) = some y →
    (y.opened = true → ∃ t, exec (.exchangeDisable h x w) s = .next t ∧ t.bit F.shxXCtrl_EN (R.shxXCtrl h x) = true ∧
      t.bit F.shxXCtrl_REFUSED (R.shxXCtrl h x) = true ∧ t.fld F.shxXCtrl_REASON (R.shxXCtrl h x) = 8 ∧ s.onlyRegs [R.shxXCtrl h x] t) ∧
    (y.opened = false → ∃ t, exec (.exchangeDisable h x w) s = .next t ∧ t.bit F.shxXCtrl_EN (R.shxXCtrl h x) = false ∧ t.xch? (4 * h + x) = none ∧
      (∀ p ∈ t.msgs, ∀ m, p.2.kind = .shx m → 4 * m.hoop + m.xch ≠ 4 * h + x) ∧
      s.keepsRegsBut [R.shxXCtrl h x] t ∧ (y.ctx < 65536 → s.keepsMemory t))) ∧
  (∀ (s : State) (i : Nat) (w : Word), i < 4096 → s.regLive (R.shxMap i) = true → ∃ t, exec (.shxMapWrite i w) s = .next t ∧
    t.rd (R.shxMap i) = w &&& 0x8003FF7F#32 ∧ s.onlyRegs [R.shxMap i] t) ∧
  (∀ (s : State) (h x : Nat), h < 16 → x < 4 → s.regLive (R.shxXStat h x) = true → ∃ t, exec (.shxXStatClear h x) s = .next t ∧
    t.rd (R.shxXStat h x) = 0 ∧ s.onlyRegs [R.shxXStat h x] t) ∧
  (∀ s : State, s.regLive R.shxDrop = true → ∃ t, exec .shxDropClear s = .next t ∧ t.rd R.shxDrop = 0 ∧ s.onlyRegs [R.shxDrop] t)

/-- A write that sets EN starts bring-up with the fields that it finds; a write that clears it takes a port down once it holds nothing, and leaves a failed one failed.
Electrical training gives the lanes and the delay and sends the serial number, or fails with reason 2. The lower serial number takes the initiator role and sends an
encapsulation key; equal ones fail with 6, a failed entropy source with 8. The responder answers with a ciphertext; each side sends its chain and asks for its signature
over the hash of the control messages before it. A bad chain or signature fails with 4, a hash that PEER_CHECK refuses with 5; else the port is up with fresh keys, the
initiator's transmit key being the responder's receive key, and it bonds where both ports name each other. Training too long fails with 1, key agreement with 8. The
error counters clear to 0. Completes (a next state is the conclusion): `portEnable`, `portDisable`, `portElectricalTrained`, `serialExchange`, `kemEncapsulationKey`,
`kemCiphertext`, `identityChainSignature`, `bringupTimeout`, `gmpErrClear`, `gmpSecErrClear`. Rests on choices of the model: log 101, 102, 103, 105, 107, 161. -/
def Obligations.PortsComeUp : Prop :=
  (∀ (s : State) (p : Nat) (w : Word), p < 8 → s.regLive (R.gmpCtrl p) = true → Fbit F.gmpCtrl_EN w = true → s.bit F.gmpCtrl_EN (R.gmpCtrl p) = false →
    (s.port p).closing = false → ∃ t, exec (.portEnable p w) s = .next t ∧ t.gmpState p = 1 ∧ t.bit F.gmpCtrl_EN (R.gmpCtrl p) = true ∧
      (t.port p).step = 1 ∧ (t.port p).queue = [] ∧ (t.port p).replay = [] ∧ (t.port p).peerCheck = Fbit F.gmpCtrl_PEER_CHECK w ∧
      (t.port p).bondEn = Fbit F.gmpCtrl_BOND_EN w ∧ (t.port p).bondPort = Fget F.gmpCtrl_BOND_PORT w ∧
      (t.port p).peerHash = (List.range 8).map (fun k => s.rd (R.gmpPeerHash p k)) ∧ t.bit F.gmpStat_BONDED (R.gmpStat p) = false ∧
      (∀ k, k ≠ p → t.port k = s.port k) ∧ t.posted = s.posted ∧
      (s.bondOf p = none → s.keepsRegsBut [R.gmpCtrl p, R.gmpStat p] t) ∧
      (∀ o, s.bondOf p = some o → o < 8 → t.bit F.gmpStat_BONDED (R.gmpStat o) = false ∧ s.keepsRegsBut [R.gmpCtrl p, R.gmpStat p, R.gmpStat o] t)) ∧
  (∀ (s : State) (p : Nat) (w : Word), p < 8 → s.regLive (R.gmpCtrl p) = true → Fbit F.gmpCtrl_EN w = false → s.bit F.gmpCtrl_EN (R.gmpCtrl p) = true →
    let q := s.port p
    ∃ t, exec (.portDisable p w) s = .next t ∧ t.bit F.gmpCtrl_EN (R.gmpCtrl p) = false ∧ s.keepsRegsBut [R.gmpCtrl p, R.gmpStat p] t ∧ t.posted = s.posted ∧
      (s.gmpState p = 4 → t.gmpState p = 4 ∧ t.port p = q) ∧
      (s.gmpState p ≠ 4 → s.gmpState p ≠ 3 ∨ (q.queue = [] ∧ q.replay = [] ∧ q.unacked = [] ∧ q.signals = []) → t.gmpState p = 0 ∧
        t.fld F.gmpStat_WIDTH (R.gmpStat p) = 0 ∧ (t.port p).step = 0 ∧ (t.port p).queue = []) ∧
      (s.gmpState p = 3 → ¬ (q.queue = [] ∧ q.replay = [] ∧ q.unacked = [] ∧ q.signals = []) → t.gmpState p = 3 ∧ t.port p = { q with closing := true })) ∧
  (∀ (s : State) (p : Nat) (c : LaneScan) (flight : Nat), p < 8 → (s.port p).step = 1 → flight ≤ 250 →
    let w := min (laneWidth c.tx) (laneWidth c.rx)
    (w = 0 → s.portQuiet p → (s.port p).unacked = [] → (s.port p).signals = [] →
      ∃ t, exec (.portElectricalTrained p c flight) s = .next t ∧ t.portFailed p 2) ∧
    (w ≠ 0 → ∃ t, exec (.portElectricalTrained p c flight) s = .next t ∧ t.gmpState p = 2 ∧ t.fld F.gmpStat_WIDTH (R.gmpStat p) = w ∧
      lanesIn (t.fld F.gmpLaneStat_TX_LANES (R.gmpLaneStat p)) = (lanesIn c.tx).take w ∧
      lanesIn (t.fld F.gmpLaneStat_RX_LANES (R.gmpLaneStat p)) = (lanesIn c.rx).take w ∧
      t.fld F.gmpLaneStat_TX_SPARE (R.gmpLaneStat p) = ((lanesIn c.tx).drop w).headD 0xF ∧
      t.fld F.gmpDelay_FLIGHT (R.gmpDelay p) = flight ∧ t.fld F.gmpDelay_ONE_WAY (R.gmpDelay p) = 90 + flight ∧
      t.port p = { s.port p with step := 2, transcript := (s.port p).transcript ++ leBytes 8 s.part.serial } ∧
      t.posted = s.posted ++ [.gimp p 0x102 [] (leBytes 8 s.part.serial)] ∧ s.keepsRegsBut [R.gmpStat p, R.gmpLaneStat p, R.gmpDelay p] t)) ∧
  (∀ (s : State) (p n : Nat), p < 8 → (s.port p).step = 2 → n < 2 ^ 64 →
    (n = s.part.serial → s.portQuiet p → (s.port p).unacked = [] → (s.port p).signals = [] →
      ∃ t, exec (.serialExchange p n) s = .next t ∧ t.portFailed p 6) ∧
    (n ≠ s.part.serial → s.bit F.secStat_RNG_FAIL R.secStat = true → s.portQuiet p → (s.port p).unacked = [] → (s.port p).signals = [] →
      ∃ t, exec (.serialExchange p n) s = .next t ∧ t.portFailed p 8) ∧
    (n ≠ s.part.serial → s.bit F.secStat_RNG_FAIL R.secStat = false → ∃ t, exec (.serialExchange p n) s = .next t ∧ t.rd64 (R.gmpPeerSnLo p) = n ∧
      (t.port p).step = 3 ∧ s.keepsRegsBut [R.gmpStat p, R.gmpPeerSnLo p, R.gmpPeerSnLo p + 4] t ∧
      (s.part.serial < n → t.bit F.gmpStat_ROLE (R.gmpStat p) = true ∧ ∃ b, b.length = 1568 ∧ t.posted = s.posted ++ [.gimp p 0x103 [] b] ∧
        (t.port p).transcript = (s.port p).transcript ++ leBytes 8 n ++ b) ∧
      (n < s.part.serial → t.rd (R.gmpStat p) = s.rd (R.gmpStat p) ∧ t.posted = s.posted ∧
        (t.port p).transcript = leBytes 8 n ++ (s.port p).transcript))) ∧
  (∀ (s : State) (p : Nat) (key : Bytes), p < 8 → (s.port p).step = 3 → s.bit F.gmpStat_ROLE (R.gmpStat p) = false →
    (s.bit F.secStat_RNG_FAIL R.secStat = true → s.portQuiet p → (s.port p).unacked = [] → (s.port p).signals = [] →
      ∃ t, exec (.kemEncapsulationKey p key) s = .next t ∧ t.portFailed p 8) ∧
    (s.bit F.secStat_RNG_FAIL R.secStat = false → ∃ t b, exec (.kemEncapsulationKey p key) s = .next t ∧ b.length = 1568 ∧ (t.port p).step = 4 ∧
      t.posted = s.posted ++ [.gimp p 0x103 [] b, .gimp p 0x104 [] s.sec.chain] ∧
      (t.port p).transcript = (s.port p).transcript ++ key ++ b ∧ t.regs = s.regs ∧
      (t.sec.signing = some { who := 0, arg := p, message := shake 64 (t.port p).transcript } ∨
        { who := 0, arg := p, message := shake 64 (t.port p).transcript } ∈ t.sec.waiting))) ∧
  (∀ (s : State) (p : Nat) (ct : Bytes), p < 8 → (s.port p).step = 3 → s.bit F.gmpStat_ROLE (R.gmpStat p) = true → s.bit F.secStat_RNG_FAIL R.secStat = false →
    ∃ t, exec (.kemCiphertext p ct) s = .next t ∧ (t.port p).step = 4 ∧ t.posted = s.posted ++ [.gimp p 0x104 [] s.sec.chain] ∧
      (t.port p).transcript = (s.port p).transcript ++ ct ∧ t.regs = s.regs ∧
      (t.sec.signing = some { who := 0, arg := p, message := shake 64 (t.port p).transcript } ∨
        { who := 0, arg := p, message := shake 64 (t.port p).transcript } ∈ t.sec.waiting)) ∧
  (∀ (s : State) (p : Nat) (v : ChainVerdict), p < 8 → (s.port p).step = 4 →
    let q := s.port p
    let named := ∀ k, k < 8 → (q.peerHash.getD k 0).toNat = numAt v.keyHash (4 * k) 4
    (v.chain = false ∨ v.signature = false → s.portQuiet p → q.unacked = [] → q.signals = [] →
      ∃ t, exec (.identityChainSignature p v) s = .next t ∧ t.portFailed p 4) ∧
    (v.chain = true → v.signature = true → q.peerCheck = true → ¬ named → s.portQuiet p → q.unacked = [] → q.signals = [] →
      ∃ t, exec (.identityChainSignature p v) s = .next t ∧ t.portFailed p 5) ∧
    (v.chain = true → v.signature = true → q.peerCheck = false ∨ named → ∃ t, exec (.identityChainSignature p v) s = .next t ∧ t.gmpState p = 3 ∧
      (let k := shake 72 (q.secret ++ shake 64 q.transcript)
       let y := t.port p
       y.step = 0 ∧ y.txCount = 0 ∧ y.rxCount = 0 ∧ y.secret = [] ∧
       (s.bit F.gmpStat_ROLE (R.gmpStat p) = true → y.txKey = cut k 0 32 ∧ y.rxKey = cut k 32 32 ∧ y.txSalt = cut k 64 4 ∧ y.rxSalt = cut k 68 4) ∧
       (s.bit F.gmpStat_ROLE (R.gmpStat p) = false → y.rxKey = cut k 0 32 ∧ y.txKey = cut k 32 32 ∧ y.rxSalt = cut k 64 4 ∧ y.txSalt = cut k 68 4)) ∧
      (q.bondEn = false → s.keepsRegsBut [R.gmpStat p] t ∧ t.bit F.gmpStat_BOND_ERR (R.gmpStat p) = s.bit F.gmpStat_BOND_ERR (R.gmpStat p)) ∧
      (q.bondEn = true → q.bondPort < 8 → q.bondPort ≠ p → (s.port q.bondPort).bondEn = true → (s.port q.bondPort).bondPort = p → s.gmpUp q.bondPort = true →
        s.rd64 (R.gmpPeerSnLo p) = s.rd64 (R.gmpPeerSnLo q.bondPort) → t.bit F.gmpStat_BONDED (R.gmpStat p) = true ∧
        t.bit F.gmpStat_BONDED (R.gmpStat q.bondPort) = true ∧ t.bondOf p = some q.bondPort ∧ t.bondOf q.bondPort = some p ∧
        s.keepsRegsBut [R.gmpStat p, R.gmpStat q.bondPort] t) ∧
      (q.bondEn = true → q.bondPort < 8 → s.gmpState q.bondPort ≠ 1 → s.gmpState q.bondPort ≠ 2 →
        q.bondPort = p ∨ (s.port q.bondPort).bondEn = false ∨ (s.port q.bondPort).bondPort ≠ p ∨ s.gmpUp q.bondPort = false ∨
          s.rd64 (R.gmpPeerSnLo p) ≠ s.rd64 (R.gmpPeerSnLo q.bondPort) → t.bit F.gmpStat_BOND_ERR (R.gmpStat p) = true ∧
        t.bit F.gmpStat_BONDED (R.gmpStat p) = s.bit F.gmpStat_BONDED (R.gmpStat p)))) ∧
  (∀ (s : State) (p : Nat), p < 8 → (s.port p).step ≠ 0 → s.portQuiet p → (s.port p).unacked = [] → (s.port p).signals = [] →
    ∃ t, exec (.bringupTimeout p) s = .next t ∧ t.portFailed p (if (s.port p).step = 1 then 1 else 8)) ∧
  (∀ (s : State) (p : Nat), p < 8 →
    (s.regLive (R.gmpErr p) = true → ∃ t, exec (.gmpErrClear p) s = .next t ∧ t.rd (R.gmpErr p) = 0 ∧ s.onlyRegs [R.gmpErr p] t) ∧
    (s.regLive (R.gmpSecErr p) = true → ∃ t, exec (.gmpSecErrClear p) s = .next t ∧ t.rd (R.gmpSecErr p) = 0 ∧ s.onlyRegs [R.gmpSecErr p] t))

/-- A request to retrain stops the flits of a port that is up and is counted. A flit with a bad CRC is counted and asked for again; a bad tag under a good CRC fails the
port with reason 7; one out of order is asked for again; another is accepted: the expected sequence moves on, its credits are returned up to their limits, the flits
that it acknowledges leave the replay buffer, a key-update flit ratchets the receive key, and a message that the credits now allow is sent. A NAK and the replay timer
send the flits held again, oldest first; one that would need a ninth sending starts retraining. Retraining ends at 10 or 8 lanes with COUNTER rounded up to the next
2^32 and announced, or fails the port with reason 3. After 2^36 flits the transmit key is ratcheted. A COUNTER above the last accepted is taken, and the flits held go
again; another is refused. Completes (a next state is the conclusion): `portRetrainRequest`, `flitReceive`, `nakReplay`, `replayTimerExpiry`, `portRetrainEnd`,
`keyUpdate`, `counterResume`. Rests on choices of the model: log 100, 101, 104. -/
def Obligations.PortsCarryFlits : Prop :=
  (∀ (s : State) (p : Nat) (w : Word), s.regLive (R.gmpCtrl p) = true → Fbit F.gmpCtrl_RETRAIN w = true → Fbit F.gmpCtrl_EN w = true →
    s.bit F.gmpCtrl_EN (R.gmpCtrl p) = true → s.portTakes p → ∃ t, exec (.portRetrainRequest p w) s = .next t ∧ t.bit F.gmpCtrl_RETRAIN (R.gmpCtrl p) = true ∧
      t.fld F.gmpErr_RETRAINS (R.gmpErr p) = min (2 ^ F.gmpErr_RETRAINS.len - 1) (s.fld F.gmpErr_RETRAINS (R.gmpErr p) + 1) ∧
      t.gmpState p = 3 ∧ s.onlyRegs [R.gmpCtrl p, R.gmpErr p] t) ∧
  (∀ (s : State) (p : Nat) (f : GimpFlit), s.portTakes p →
    let q := s.port p
    (f.crc = false → ∃ t, exec (.flitReceive p f) s = .next t ∧ t.port p = { q with rxCount := (q.rxCount + 1) % 2 ^ 64, nak := true } ∧
      t.fld F.gmpErr_CRC_ERR (R.gmpErr p) = min (2 ^ F.gmpErr_CRC_ERR.len - 1) (s.fld F.gmpErr_CRC_ERR (R.gmpErr p) + 1) ∧
      s.keepsRegsBut [R.gmpErr p] t ∧ t.posted = s.posted) ∧
    (f.crc = true → f.tag = false → s.portQuiet p → q.unacked = [] → q.signals = [] → ∃ t, exec (.flitReceive p f) s = .next t ∧ t.portFailed p 7 ∧
      t.fld F.gmpSecErr_TAG_FAIL (R.gmpSecErr p) = min (2 ^ F.gmpSecErr_TAG_FAIL.len - 1) (s.fld F.gmpSecErr_TAG_FAIL (R.gmpSecErr p) + 1)) ∧
    (f.crc = true → f.tag = true → f.fkind ≠ 1 → f.seq % 4096 ≠ q.expSeq → ∃ t, exec (.flitReceive p f) s = .next t ∧
      t.port p = { q with rxCount := (q.rxCount + 1) % 2 ^ 64, nak := true } ∧ t.regs = s.regs ∧ t.posted = s.posted) ∧
    (f.crc = true → f.tag = true → f.fkind = 1 ∨ f.seq % 4096 = q.expSeq → q.closing = false → q.credits.length = 4 →
      let room := fun c => min ([32, 512, 1024, 4096].getD c 0) (q.credits.getD c 0 + f.credit.getD c 0 % 256)
      (q.queue = [] → ∃ t, exec (.flitReceive p f) s = .next t ∧ (t.port p).expSeq = (if f.fkind = 1 then q.expSeq else (q.expSeq + 1) % 4096) ∧
        (t.port p).replay = afterSeq (f.ack % 4096) q.replay ∧ (∀ c, c < 4 → (t.port p).credits.getD c 0 = room c) ∧
        (t.port p).rxKey = (if f.fkind = 3 then shake 32 (q.rxKey ++ label "gimp-ratchet") else q.rxKey) ∧
        (t.port p).rxCount = (if f.fkind = 3 then 0 else (q.rxCount + 1) % 2 ^ 64) ∧ t.regs = s.regs ∧ t.posted = s.posted) ∧
      (∀ m, q.queue = [m] → m.chunks ≤ 7 → m.chunks ≤ room (mtypeChan m.kind) → mtypeChan m.kind = 0 ∨ q.wrr = (0, 4) → q.resuming = false → q.replay.length < 256 →
        ∃ t, exec (.flitReceive p f) s = .next t ∧ (t.port p).queue = [] ∧ (t.port p).nextSeq = (q.nextSeq + 1) % 4096 ∧
          (t.port p).txCount = (q.txCount + 1) % 2 ^ 64 ∧
          (t.port p).replay = afterSeq (f.ack % 4096) q.replay ++ [{ seq := q.nextSeq, sends := 1, fkind := 0, msgs := [m] }] ∧
          (t.port p).credits.getD (mtypeChan m.kind) 0 = room (mtypeChan m.kind) - m.chunks ∧
          t.posted = s.posted ++ [.gimp p m.kind [m.tag, m.xid, m.id, m.addr, m.dst, m.src, m.aux] m.body]))) ∧
  (∀ (s : State) (p : Nat) (c : Instr) (l : List PFlit), s.portTakes p → (s.port p).replay ≠ [] →
    ((∃ a, c = .nakReplay p a ∧ l = afterSeq (a % 4096) (s.port p).replay) ∨ (c = .replayTimerExpiry p ∧ l = (s.port p).replay)) →
    (l.map (·.seq)).Nodup → ∃ t, exec c s = .next t ∧
      ((∀ f ∈ l, f.sends < 8) → (t.port p).replay = l.map (fun f => { f with sends := f.sends + 1 }) ∧ t.posted = s.posted ++ l.flatMap (flitOut p) ∧
        t.regs = s.regs) ∧
      ((∃ f ∈ l, 8 ≤ f.sends) → (t.port p).replay = l ∧ t.posted = s.posted ∧ t.bit F.gmpCtrl_RETRAIN (R.gmpCtrl p) = true ∧
        s.keepsRegsBut [R.gmpCtrl p, R.gmpErr p] t)) ∧
  (∀ (s : State) (p : Nat) (c : LaneScan), p < 8 → s.bit F.gmpCtrl_RETRAIN (R.gmpCtrl p) = true →
    let w := min (laneWidth c.tx) (laneWidth c.rx)
    (w = 0 → s.portQuiet p → (s.port p).unacked = [] → (s.port p).signals = [] → ∃ t, exec (.portRetrainEnd p c) s = .next t ∧ t.portFailed p 3) ∧
    (w ≠ 0 → ∃ t n, exec (.portRetrainEnd p c) s = .next t ∧ t.bit F.gmpCtrl_RETRAIN (R.gmpCtrl p) = false ∧ t.fld F.gmpStat_WIDTH (R.gmpStat p) = w ∧
      t.gmpState p = s.gmpState p ∧ n % 2 ^ 32 = 0 ∧ (s.port p).txCount < n ∧ n ≤ (s.port p).txCount + 2 ^ 32 ∧
      t.port p = { s.port p with resuming := true, txCount := n, replay := (s.port p).replay.map (fun f => { f with sends := 1 }) } ∧
      (w = 10 → t.posted = s.posted ++ [.gimp p 0x202 [] (leBytes 8 n)] ∧ s.keepsRegsBut [R.gmpCtrl p, R.gmpStat p, R.gmpLaneStat p] t))) ∧
  (∀ (s : State) (p : Nat), p < 8 → s.portFlows p = true →
    ((s.port p).txCount < 2 ^ 36 → exec (.keyUpdate p) s = .next s) ∧
    (2 ^ 36 ≤ (s.port p).txCount → ∃ t, exec (.keyUpdate p) s = .next t ∧ (t.port p).txKey = shake 32 ((s.port p).txKey ++ label "gimp-ratchet") ∧
      (t.port p).txCount = 0 ∧ (t.port p).rxKey = (s.port p).rxKey ∧ t.posted = s.posted ++ [.gimp p 0x203 [] []] ∧
      t.fld F.gmpStat_KEY_EPOCH (R.gmpStat p) = (s.fld F.gmpStat_KEY_EPOCH (R.gmpStat p) + 1) % 256 ∧ s.keepsRegsBut [R.gmpStat p] t)) ∧
  (∀ (s : State) (p n : Nat), p < 8 →
    ((s.port p).resuming = false ∨ n ≤ (s.port p).rxLast → exec (.counterResume p n) s = .next s) ∧
    ((s.port p).resuming = true → (s.port p).rxLast < n → (s.port p).queue = [] → ((s.port p).replay.map (·.seq)).Nodup →
      ∃ t, exec (.counterResume p n) s = .next t ∧ (t.port p).resuming = false ∧ (t.port p).rxLast = n ∧ (t.port p).rxCount = n % 2 ^ 64 ∧
        t.posted = s.posted ++ (s.port p).replay.flatMap (flitOut p) ∧ t.regs = s.regs))

/-- A partner's sector or line write of a hoop that the tag names and that may write there becomes a store from the port; a line reduction becomes one too, unless it names
toile or a reserved KIND; any other is answered with STAT_DENIED and changes no memory. A fence signal is applied under R302 and acknowledged, or refused where its
address is no multiple of 32 or not the hoop's. An acknowledgment closes the messages that it names, and sends BARRIER of a system barrier that waited for it alone; a
refusal, and a poisoned fence, faults the context that stored or signalled, with the partner address. A held signal is sent once every earlier write of its context is
acknowledged, and waits otherwise. A BARRIER of a partner is remembered; the last one that a complete barrier waits for releases every member of the launch, and one of
an instance already released is dropped. Completes (a next state is the conclusion): `sectorWrite`, `lineWrite`, `lineReduce`, `gmpFenceSignal`, `ack`,
`barrierMessage`, `peerFenceHoldEnd`. Rests on choices of the model: log 78, 106, 144, 145. -/
def Obligations.PartnersAndBarriers : Prop :=
  (∀ (s : State) (p h : Nat) (m : PeerMsg) (c : Instr) (op : MemOp) (pa mask : Nat) (bs : Bytes), p < 8 → s.gmpUp p = true →
    s.tagHoop p m.tag = some h →
    ((c = .sectorWrite p m ∧ op = .store ∧ pa = m.addr % 2 ^ 40 / 32 * 32 ∧ mask = m.mask % 2 ^ 32 * 2 ^ (pa % 128) ∧ bs = cut m.body 0 32) ∨
     (c = .lineWrite p m ∧ op = .store ∧ pa = lineOf (m.addr % 2 ^ 40) ∧ mask = m.mask % 2 ^ 128 ∧ bs = cut m.body 0 128) ∨
     (c = .lineReduce p m ∧ numAt m.body 5 1 ≤ 1 ∧ 144 ≤ m.body.length ∧ pa = numAt m.body 0 5 % 2 ^ 33 * 128 ∧ mask = 0 ∧ bs = cut m.body 16 128 ∧
       op = .reduce (numAt m.body 5 1) (numAt m.body 6 2) (sInt 8 (numAt m.body 8 1)) (sInt 8 (numAt m.body 9 1)) (sInt 8 (numAt m.body 10 1))
         (numAt m.body 12 2) (numAt m.body 14 2))) →
    (s.peerOk h pa = true → (op = .store ∨ isToile pa = false) → ∃ t i y, exec c s = .next t ∧ t = { s with txns := t.txns, nextId := t.nextId } ∧
      t.txn? i = some y ∧ y.issuer = .peer p m.id ∧ y.op = op ∧ y.addr = lineOf pa ∧ y.mask = mask ∧ cut y.data (pa % 128) bs.length = bs ∧
      y.hoop = some h ∧ y.space = (if isToile pa then .toile else .stack)) ∧
    (s.peerOk h pa = false ∨ (op ≠ .store ∧ isToile pa = true) → ∃ t, exec c s = .next t ∧ t.ackSent p m.id 0x49 ∧ t.mem = s.mem ∧ t.txns = s.txns ∧
      t.regs = s.regs)) ∧
  (∀ (s : State) (p : Nat) (m : PeerMsg), p < 8 → s.gmpUp p = true →
    (∀ c ∈ [Instr.sectorWrite p m, .lineWrite p m, .lineReduce p m, .gmpFenceSignal p m], s.tagHoop p m.tag = none →
      ∃ t, exec c s = .next t ∧ t.ackSent p m.id 0x49 ∧ t.mem = s.mem ∧ t.txns = s.txns) ∧
    (1 < numAt (cut m.body 0 144) 5 1 → ∃ t, exec (.lineReduce p m) s = .next t ∧ t.ackSent p m.id 0x49 ∧ t.mem = s.mem ∧ t.txns = s.txns)) ∧
  (∀ (s : State) (p h : Nat) (m : PeerMsg), p < 8 → s.gmpUp p = true → s.tagHoop p m.tag = some h →
    let pa := m.addr % 2 ^ 40
    let v := numAt m.body 0 8
    let f := fenceOf (s.peek pa 32).1
    (pa % 32 ≠ 0 ∨ s.peerOk h pa = false ∨ isToile pa = true → ∃ t, exec (.gmpFenceSignal p m) s = .next t ∧ t.ackSent p m.id 0x49 ∧ t.mem = s.mem) ∧
    (pa % 32 = 0 → s.peerOk h pa = true → isToile pa = false → s.lineBusy (lineOf pa) (s.idxOn p (s.winFor (some h) pa) pa) false = false →
      s.firstWaiting (s.physSlice (s.idxOn p (s.winFor (some h) pa) pa)) (lineOf pa) (s.idxOn p (s.winFor (some h) pa) pa) = none →
      ((s.peek pa 32).2 = true → ∃ t, exec (.gmpFenceSignal p m) s = .next t ∧ t.ackSent p m.id 0x44 ∧ t.mem = s.mem) ∧
      ((s.peek pa 32).2 = false → f.value < v → (f.armed = false ∨ v < f.event) → ∃ t, exec (.gmpFenceSignal p m) s = .next t ∧ t.ackSent p m.id 0 ∧
        t.mem = (s.poke pa { f with value := v }.bytes).mem ∧ t.cache = (s.poke pa { f with value := v }.bytes).cache ∧
        ∀ w ∈ t.objs.waits, w.addr = pa → v < w.target) ∧
      ((s.peek pa 32).2 = false → v = f.value → ∃ t, exec (.gmpFenceSignal p m) s = .next t ∧ t.ackSent p m.id 0 ∧ t.mem = s.mem ∧ t.objs = s.objs))) ∧
  (∀ (s : State) (p id status : Nat) (u : Unacked), p < 8 → s.gmpUp p = true → (s.port p).closing = false →
    (s.port p).unacked.find? (fun u => u.id = id) = some u → u.move = none →
    let s' := s.onPort p (fun q => { q with unacked := q.unacked.erase u })
    (status ≠ 0x49 → ¬ (status = 0x44 ∧ u.kind = 4) →
      ((∀ b ∈ s.gmp.barriers, b.ready = true → b.sent = true) → exec (.ack p [id] status) s = .next s') ∧
      (∀ b v, s.gmp.barriers = [b] → b.ready = true → b.sent = false → s.queue? b.queue = some v → (∀ i ∈ b.after, i ∉ s'.peerStores v.ctx) →
        ∃ t, exec (.ack p [id] status) s = .next t ∧ t.mem = s.mem ∧ ∀ k ∈ s.barrierPartners b.hoop, ∃ m, m.kind = 6 ∧ m.tag = s.hoopTag b.hoop ∧
          m.aux = b.num ∧ m.body = leBytes 4 b.queue ++ leBytes 8 b.inst ∧ t.portHas (s.portFor k none) m)) ∧
    (∀ i y c, status = 0x49 ∨ (status = 0x44 ∧ u.kind = 4) → u.req = some (i, y) →
      ((∃ e g, y.issuer = .lane e g ∧ y.ctx = some c) ∨ ∃ q v, y.issuer = .bulk q ∧ s.queue? q = some v ∧ v.ctx = c) → s.faultFree c →
      ∃ t, exec (.ack p [id] status) s = .next t ∧ t.holdsFault c (if status = 0x49 then 0x01 else 0x09) (if status = 0x49 then 1 else 4) u.addr)) ∧
  (∀ (s : State) (p id : Nat) (h : HeldSignal), (s.port p).signals.find? (fun h => h.id = id) = some h →
    ((∃ w ∈ h.after, ∃ u ∈ (s.port w.1).unacked, u.id = w.2) → exec (.peerFenceHoldEnd p id) s = .next s) ∧
    ((∀ w ∈ h.after, ∀ u ∈ (s.port w.1).unacked, u.id ≠ w.2) → ∃ t m n, exec (.peerFenceHoldEnd p id) s = .next t ∧
      (t.port p).signals = (s.port p).signals.erase h ∧ m.kind = 4 ∧ m.addr = h.who.addr ∧ m.tag = h.tag ∧ m.body = leBytes 8 h.value ∧
      t.portHas p m ∧ (t.port p).unacked = (s.port p).unacked ++ [{ h.who with id := n }] ∧ t.mem = s.mem)) ∧
  (∀ (s : State) (p tag num q inst h : Nat), p < 8 → s.gmpUp p = true → num < 4 → s.tagHoop p tag = some h →
    ((∀ b ∈ s.gmp.barriers, ¬ (b.queue = q ∧ b.num = num ∧ b.inst = inst)) → inst < SMap.getD s.gmp.instances (4 * q + num) 0 →
      exec (.barrierMessage p tag num q inst) s = .next s) ∧
    ((∀ b ∈ s.gmp.barriers, ¬ (b.queue = q ∧ b.num = num ∧ b.inst = inst)) → SMap.getD s.gmp.instances (4 * q + num) 0 ≤ inst →
      ∃ t, exec (.barrierMessage p tag num q inst) s = .next t ∧ t = { s with gmp := t.gmp } ∧
        t.gmp.barriers = s.gmp.barriers ++ [{ queue := q, num := num, inst := inst, hoop := h, ready := false, sent := false, after := [], from_ := [s.partner p] }]) ∧
    (∀ b u r, s.gmp.barriers = [b] → b.queue = q → b.num = num → b.inst = inst → b.ready = true → b.sent = true → s.queue? q = some u → u.run = some r →
      ((∃ k ∈ s.barrierPartners b.hoop, k ≠ s.partner p ∧ k ∉ b.from_) → ∃ t, exec (.barrierMessage p tag num q inst) s = .next t ∧
        t.gmp.barriers = [{ b with from_ := addNum b.from_ (s.partner p) }] ∧ t = { s with gmp := t.gmp }) ∧
      ((∀ k ∈ s.barrierPartners b.hoop, k = s.partner p ∨ k ∈ b.from_) → ∃ t, exec (.barrierMessage p tag num q inst) s = .next t ∧
        t.gmp.barriers = [] ∧ ∀ e ∈ r.members, t.fenceAsked (.release q num 4 e))))

/-- Held records leave in order while the physical function's admin ring has room. A unit at its threshold is darned where AUTO is 1, as its own command darns it, and
nothing happens otherwise. A request takes KIND and INDEX, and with GO darns a unit in service or is refused. An internal error faults the context on the engine and
darns it. An engine that holds no context leaves service: the lowest spare takes its map and is measured, or with none it is retired. A slice whose walk has ended gives
its indices to the die's spare or to another slice of the quadrant. A channel leaves service, or is reported at risk. A measurement of the engines in service starts;
its end sets the margin and the cap, brings a spare into service, or darns an engine that frays. Completes (a next state is the conclusion): `rasRecordRelease`,
`wndRasCntClear`, `engineInternalError`, `darnThreshold`, `darnRequest`, `engineDarnSwap`, `frayMeasure`, `frayMeasureEnd`, `sliceDarn`, `sliceDarnWalkEnd`,
`channelRetire`, `winderTakeover`, `hostControllerSwap`. Rests on choices of the model: log 41, 110, 111, 112. -/
def Obligations.DarningsBeginAndEnd : Prop :=
  (∀ s : State,
    (s.ras.hold = [] ∨ s.admOn 0 = false ∨ s.admRoom 0 = false ∨ (s.adm 0).held ≠ [] → exec .rasRecordRelease s = .next s) ∧
    (∀ b r, s.ras.hold = b :: r → s.adminFree 0 → ∃ t k time, exec .rasRecordRelease s = .next t ∧ 1 ≤ k ∧ k ≤ s.ras.hold.length ∧ k ≤ 64 ∧
      t.ras = { s.ras with hold := s.ras.hold.drop k } ∧ (t.adm 0).w = (s.adm 0).w + k ∧
      .write 0 (s.rd64 (R.qfeFnAdmqCplLo 0) + 32 * ((s.adm 0).w % 2 ^ s.admCplLog 0))
        (recordBytes (heldRec b).1 time (heldRec b).2.1 (phaseOf (s.adm 0).w (s.admCplLog 0))) ∈ t.posted ∧
      t.fld F.wndRasCnt_ISSUED R.wndRasCnt = min (2 ^ F.wndRasCnt_ISSUED.len - 1) (s.fld F.wndRasCnt_ISSUED R.wndRasCnt + k)) ∧
    (s.regLive R.wndRasCnt = true → ∃ t, exec .wndRasCntClear s = .next t ∧ t.rd R.wndRasCnt = 0 ∧ s.onlyRegs [R.wndRasCnt] t)) ∧
  (∀ (s : State) (u : DarnUnit),
    (s.bit F.wndDarnCtrl_AUTO R.wndDarnCtrl = false → exec (.darnThreshold u) s = .next s) ∧
    (s.clk.pwrok = true → s.bit F.wndDarnCtrl_AUTO R.wndDarnCtrl = true → ∃ t, exec (.darnThreshold u) s = .next t ∧
      (∀ e, u = .engine e → engineId e = true → s.engState e = 1 → s.darningEngine e = false → s.boundOn e = [] →
        s.darningBegun 0 e false t ∧ s.onlyDarning t) ∧
      (∀ i, u = .slice i → exec (.sliceDarn i) s = .next t) ∧ (∀ c, u = .channel c → exec (.channelRetire c) s = .next t) ∧
      (u = .winder → exec .winderTakeover s = .next t) ∧ (u = .hostCtl → exec .hostControllerSwap s = .next t))) ∧
  (∀ (s : State) (w : Word), s.regLive R.wndDarnReq = true →
    let kind := Fget F.wndDarnReq_KIND w
    let i := Fget F.wndDarnReq_INDEX w
    ∃ t, exec (.darnRequest w) s = .next t ∧ t.fld F.wndDarnReq_KIND R.wndDarnReq = kind ∧ t.fld F.wndDarnReq_INDEX R.wndDarnReq = i ∧
      (Fbit F.wndDarnReq_GO w = false → s.onlyRegs [R.wndDarnReq] t ∧
        (Fbit F.wndDarnReq_REFUSED w = true → t.bit F.wndDarnReq_REFUSED R.wndDarnReq = false)) ∧
      (Fbit F.wndDarnReq_GO w = true → s.darnable kind i = false → s.onlyRegs [R.wndDarnReq] t ∧ t.bit F.wndDarnReq_REFUSED R.wndDarnReq = true) ∧
      (Fbit F.wndDarnReq_GO w = true → s.darnable kind i = true → kind = 0 → s.boundOn i = [] → s.darningBegun 0 i true t ∧ s.onlyDarning t) ∧
      (Fbit F.wndDarnReq_GO w = true → s.darnable kind i = true → kind = 1 → s.darningBegun 1 i true t ∧ s.onlyDarning t) ∧
      (Fbit F.wndDarnReq_GO w = true → s.darnable kind i = true → kind = 2 → t.chanState i = 3 ∧ i ∈ t.ras.chanOut ∧
        s.reported 0x06 4 i 0xFFFF (chanDie i) t)) ∧
  (∀ (s : State) (e c : Nat),
    (engineId e = false ∨ s.engState e ≠ 1 → exec (.engineInternalError e) s = .next s) ∧
    (engineId e = true → s.engState e = 1 → (s.eng e).groups ≠ [] → (∀ p ∈ (s.eng e).groups, p.2.ctx = c) → (∀ k ∈ s.ctxsOn e, k = c) → s.faultFree c →
      ∃ t, exec (.engineInternalError e) s = .next t ∧ t.holdsFault c 0x09 5 0 ∧ t.darningEngine e = true)) ∧
  (∀ (s : State) (e : Nat), engineId e = true → s.darningEngine e = true → s.engState e = 1 →
    (s.ctxsOn e ≠ [] ∨ (s.eng e).groups ≠ [] → exec (.engineDarnSwap e) s = .next s) ∧
    (s.ctxsOn e = [] → (s.eng e).groups = [] → ∃ t, exec (.engineDarnSwap e) s = .next t ∧
      (∀ k, s.spareOf e = some k → t.engState e = 2 ∧ t.bit F.hoopEngMap_VALID (R.hoopEngMap e) = false ∧ t.rd (R.hoopEngMap k) = s.rd (R.hoopEngMap e) ∧
        k ∈ t.ras.measuring ∧ (∃ d ∈ t.ras.darnings, d.kind = 0 ∧ d.unit = e ∧ d.spare = some k) ∧ t.bit F.engFrayCtrl_BUSY R.engFrayCtrl = true) ∧
      (s.spareOf e = none → s.objs.queues = [] → t.engState e = 2 ∧ t.bit F.hoopEngMap_VALID (R.hoopEngMap e) = false ∧ t.darningEngine e = false ∧
        s.reported 0x02 4 e 0xFFFF (engDie e) t))) ∧
  (∀ (s : State) (i : Nat),
    (256 ≤ i ∨ s.darningSlice i = true ∨ s.fld F.cshSliceMap_STATE (R.cshSliceMap i) = 3 ∨ s.baseLost (s.idxDie i) = true →
      exec (.sliceDarn i) s = .next s) ∧
    (s.clk.pwrok = true → i < 256 → s.darningSlice i = false → s.fld F.cshSliceMap_STATE (R.cshSliceMap i) ≠ 3 → s.baseLost (s.idxDie i) = false →
      ∃ t, exec (.sliceDarn i) s = .next t ∧ s.darningBegun 1 i false t ∧ s.onlyDarning t)) ∧
  (∀ (s : State) (idx : Nat), idx < 256 → (∃ d ∈ s.ras.darnings, d.kind = 1 ∧ d.unit = idx) →
    let p := s.physSlice idx
    (s.sliceBusy p = true → exec (.sliceDarnWalkEnd idx) s = .next s) ∧
    (s.sliceBusy p = false → (s.slice p).lines = [] → (∀ q ∈ s.cache.slices, ∀ l ∈ q.2.lines, s.physSlice l.idx ≠ p) →
      ∃ t, exec (.sliceDarnWalkEnd idx) s = .next t ∧ (∀ d ∈ t.ras.darnings, ¬ (d.kind = 1 ∧ d.unit = idx)) ∧
        (∀ i ∈ s.servedBy p,
          (∀ q, s.sliceTarget p = some q → t.fld F.cshSliceMap_PHYS_DIE (R.cshSliceMap i) = q / 33 % 8 ∧
            t.fld F.cshSliceMap_PHYS_POS (R.cshSliceMap i) = q % 33 ∧ t.fld F.cshSliceMap_STATE (R.cshSliceMap i) = (if q % 33 = 32 then 1 else 2)) ∧
          (s.sliceTarget p = none → t.fld F.cshSliceMap_STATE (R.cshSliceMap i) = 3)) ∧
        (∀ i, i < 256 → i ∉ s.servedBy p → t.physSlice i = s.physSlice i ∧
          t.fld F.cshSliceMap_STATE (R.cshSliceMap i) = s.fld F.cshSliceMap_STATE (R.cshSliceMap i)) ∧
        (p % 33 ≠ 32 → p ∈ t.ras.sliceOut) ∧ (p % 33 = 32 → p / 33 ∈ t.ras.spareRetired) ∧
        (∀ q, s.sliceTarget p = some q → q % 33 = 32 → s.reported 0x03 1 idx 0xFFFF (p / 33) t) ∧
        (∀ q, s.sliceTarget p = some q → q % 33 ≠ 32 → s.reported 0x04 4 idx 0xFFFF (p / 33) t))) ∧
  (∀ (s : State) (c : Nat),
    (1024 ≤ c ∨ s.chanState c ≠ 1 → exec (.channelRetire c) s = .next s) ∧
    (c < 1024 → s.chanState c = 1 → ∃ t, exec (.channelRetire c) s = .next t ∧
      (s.bit F.wndDarnCtrl_CH_AUTO R.wndDarnCtrl = true → t.chanState c = 3 ∧ t.bit F.memChCtrl_TEST (R.memChCtrl c) = false ∧ c ∈ t.ras.chanOut ∧
        s.reported 0x06 4 c 0xFFFF (chanDie c) t) ∧
      (s.bit F.wndDarnCtrl_CH_AUTO R.wndDarnCtrl = false → t.chanState c = 1 ∧ s.reported 0x05 4 c 0xFFFF (chanDie c) t))) ∧
  (∀ s : State, (s.stage ≠ 5 → exec .frayMeasure s = .next s) ∧
    (s.stage = 5 → ∃ t, exec .frayMeasure s = .next t ∧ t.bit F.engFrayCtrl_BUSY R.engFrayCtrl = true ∧ s.keepsRegsBut [R.engFrayCtrl] t ∧
      ∀ e, engineId e = true → s.engState e = 1 → e ∈ t.ras.measuring)) ∧
  (∀ (s : State) (e : Nat) (r : Option Nat), engineId e = true → s.ras.measuring = [e] →
    let off := R.engFrayMargin e
    let low := fun m => min 0x7FF (if s.bit F.engFrayMargin_VALID off then min m (s.fld F.engFrayMargin_MEAS_MHZ off) else m)
    let mhz := fun m => low m - s.fld F.engFrayCtrl_GUARD_MHZ R.engFrayCtrl
    let cap := fun m => min (min (s.fld F.engFreq_FUSED_MHZ (R.engFreq e)) (s.fld F.engFrayLimit_LIMIT_MHZ (R.engFrayLimit e))) (mhz m) / 5 * 5
    ∃ t, exec (.frayMeasureEnd [(e, r)]) s = .next t ∧
      (r = none → (∀ d ∈ s.ras.darnings, d.spare ≠ some e) → t.bit F.engFrayMargin_STALE off = true ∧ t.bit F.engFrayCtrl_BUSY R.engFrayCtrl = false ∧
        t.ras.measuring = [] ∧ s.keepsRegsBut [off, R.engFrayCtrl] t) ∧
      (∀ m, r = some m → (∀ d ∈ s.ras.darnings, d.spare ≠ some e) → t.fld F.engFrayMargin_MEAS_MHZ off = low m ∧ t.bit F.engFrayMargin_VALID off = true ∧
        t.bit F.engFrayMargin_STALE off = false ∧
        (s.engState e = 1 → 1275 ≤ mhz m ∨ s.bit F.wndDarnCtrl_AUTO R.wndDarnCtrl = false →
          t.fld F.engFreq_CAP_MHZ (R.engFreq e) = max 1250 (cap m) ∧
          (max 1250 (cap m) < s.fld F.engFreq_CAP_MHZ (R.engFreq e) → s.reported 0x13 4 e 0xFFFF (engDie e) t)) ∧
        (s.engState e = 1 → mhz m < 1275 → (s.spareOf e).isSome = true ∨ cap m < 1250 → s.bit F.wndDarnCtrl_AUTO R.wndDarnCtrl = true →
          s.darningEngine e = false → s.boundOn e = [] → s.darningBegun 0 e false t)) ∧
      (∀ m d, r = some m → s.ras.darnings = [d] → d.kind = 0 → d.spare = some e → 1275 ≤ mhz m → s.objs.queues = [] → t.engState e = 1 ∧
        t.ras.darnings = [] ∧ t.bit F.wndDarnStat_BUSY R.wndDarnStat = s.ras.takeover ∧ s.reported 0x01 1 d.unit 0xFFFF (engDie d.unit) t))

/-- A heartbeat carries the targets, the RAS sequence, GENERATION and the routes to the standby Winder. When the active Winder fails the standby starts to take over,
abandoning the mailbox's long operation; with no standby no Winder remains, the work and the host link end and the alert is released. The end of the take-over restores
what the last heartbeat gave and names die 4 the active Winder. A host controller that fails hands over to the other: reads answer poisoned, stores and atomics at the
controller with STAT_HOST_FAILED; with none left every context faults and the link is down. When no darning record comes the factory map applies, the boot's device
reset ends and the package runs. A compute die that is lost takes its engines out of service and empties them, faults the contexts on it, and its experts are rehomed
where REHOME is 1. A base die that is lost takes its compute die, its channels and its slices with it; its indices go to the die opposite, or become unreachable.
Completes (a next state is the conclusion): `meshFlitForward`, `winderHeartbeat`, `winderTakeover`, `winderTakeoverEnd`, `hostControllerSwap`,
`darningRecordWaitExpiry`, `computeDieLost`, `baseDieLost`. Rests on choices of the model: log 108, 113, 114, 146, 159, 160. -/
def Obligations.WinderControllersAndLostDies : Prop :=
  (∀ s : State,
    (s.winder ≠ 0 ∨ s.sec.dead = true ∨ s.ras.takeover = true → exec .winderHeartbeat s = .next s) ∧
    (s.clk.pwrok = true → s.winder = 0 → s.sec.dead = false → s.ras.takeover = false → ∃ t i x k, exec .winderHeartbeat s = .next t ∧
      t = { s with msgs := t.msgs, nextId := t.nextId, mesh := t.mesh } ∧ t.msg? i = some x ∧ x.kind = .heartbeat k ∧ x.src = 0 ∧ x.dst = 4 ∧
      k.targets = s.clk.targets ∧ k.seq = s.ras.seq ∧ k.generation = s.ras.generation ∧ ∀ d, d < 8 → k.routes.getD d 0 = s.rd (R.mshRoute d))) ∧
  (∀ (s : State) (i m : Nat) (f : Flit) (x : Msg) (k : Heard), SMap.get? s.mesh.flits i = some f → f.cargo = .msg m → s.msg? m = some x →
    x.kind = .heartbeat k → s.runs f.die = true → s.hasCredit f = true → s.granted f = true → s.isHead f = true → s.hopOf f = .leave →
    f.seq ∉ SMap.getD s.mesh.seen (8 * f.dst + f.src) [] → ∃ t, exec (.meshFlitForward i .none) s = .next t ∧
      t.ras = { s.ras with heard := k } ∧ t.regs = s.regs ∧ ((∀ p ∈ s.engs, p.2.picots = []) → t.msg? m = none)) ∧
  (∀ s : State, s.clk.pwrok = true → s.sec.dead = false → s.ras.takeover = false → ∃ t, exec .winderTakeover s = .next t ∧
    (s.winder = 0 → s.bit F.wndDieStat_STBY_WINDER_OK R.wndDieStat = true → t.ras.takeover = true ∧ t.sec.longOp = none ∧ t.posted = s.posted ∧
      t.bit F.wndDarnStat_BUSY R.wndDarnStat = true ∧ s.keepsRegsBut [R.wndDarnStat, R.wndDarnReq, R.wndMbxStat] t ∧
      (∀ l, s.sec.longOp = some l → t.fld F.wndMbxStat_BUSY R.wndMbxStat = 0 ∧ t.fld F.wndMbxStat_LAST_STATUS R.wndMbxStat = 0x41 ∧
        (l.phase ≠ 0 → t.sec = { s.sec with longOp := none }))) ∧
    (s.winder ≠ 0 ∨ s.bit F.wndDieStat_STBY_WINDER_OK R.wndDieStat = false → t.sec.dead = true ∧ s.keepsRegsBut [R.hifLinkStat] t ∧
      t.posted = s.posted ++ [.pin pinAlert s.winder true] ∧ t.host.down = true ∧ t.txns = [] ∧ t.objs.ctxs = [] ∧ t.objs.queues = [] ∧ t.mem = s.mem)) ∧
  (∀ s : State, (s.ras.takeover = false → exec .winderTakeoverEnd s = .next s) ∧
    (s.ras.takeover = true → ∃ t, exec .winderTakeoverEnd s = .next t ∧ t.ras.takeover = false ∧ t.winder = 4 ∧
      t.bit F.wndDieStat_STBY_WINDER_OK R.wndDieStat = false ∧ t.clk.targets = s.ras.heard.targets ∧
      (∀ d, d < 8 → d < s.ras.heard.routes.length → t.rd (R.mshRoute d) = s.ras.heard.routes.getD d 0) ∧ s.reported 0x10 1 4 0xFFFF 4 t)) ∧
  (∀ s : State, s.clk.pwrok = true →
    (s.bit F.wndDieStat_STBY_HIF_OK R.wndDieStat = true → s.bit F.clkGate_HIF_STBY (R.clkGate 0) = true → ∃ t, exec .hostControllerSwap s = .next t ∧
      t.fld F.wndDieStat_HIF_CTRL R.wndDieStat = 1 - s.fld F.wndDieStat_HIF_CTRL R.wndDieStat ∧ t.bit F.wndDieStat_STBY_HIF_OK R.wndDieStat = false ∧
      t.fld F.hifLinkStat_CTRL R.hifLinkStat = 1 - s.fld F.wndDieStat_HIF_CTRL R.wndDieStat ∧ t.host.down = s.host.down ∧
      (∀ i x, s.txn? i = some x → x.stage = .host → x.moving = false → (∀ f, x.issuer ≠ .host f) → ∃ y, t.txn? i = some y ∧ y.stage = .reply ∧
        (x.op = .read → y.poison = x.poison ||| x.secs) ∧ (x.isStore = true → y.status = 0x47)) ∧
      (∀ i x f, s.txn? i = some x → x.issuer = .host f → (∃ y, t.txn? i = some y ∧ y.dead = true) ∧
        (x.op = .read → x.dead = false → .completion f [] true ∈ t.posted))) ∧
    (∀ c, (s.bit F.wndDieStat_STBY_HIF_OK R.wndDieStat = false ∨ s.bit F.clkGate_HIF_STBY (R.clkGate 0) = false) → s.faultFree c →
      (∀ p ∈ s.objs.ctxs, p.2.st = .live ↔ p.1 = c) → ∃ t, exec .hostControllerSwap s = .next t ∧ t.host.down = true ∧
        t.holdsFault c 0x0D 0x200 0 ∧ t.fld F.hifLinkStat_WIDTH R.hifLinkStat = 0)) ∧
  (∀ s : State, (s.ras.recordWait = false → exec .darningRecordWaitExpiry s = .next s) ∧
    (s.ras.recordWait = true → (∀ c ∈ s.ras.chanOut, c < 1024) → (∀ p, p < 8 → s.bondOf p = none) → ∃ t, exec .darningRecordWaitExpiry s = .next t ∧ t.stage = 5 ∧
      t.ras = { s.ras with recordWait := false } ∧ (∀ e, engineId e = true → t.engState e = factoryEngine e) ∧ t.holdsNothing ∧ t.clk = s.clk ∧ t.sec = { s.sec with ide := [] })) ∧
  (∀ (s : State) (n : Nat), n < 8 → s.clk.pwrok = true → (s.computeLost n = true → exec (.computeDieLost n) s = .next s) ∧
    (s.computeLost n = false → ∃ t, exec (.computeDieLost n) s = .next t ∧ t.computeLost n = true ∧
      (∀ d, d < 8 → d ≠ n → t.computeLost d = s.computeLost d) ∧ (∀ e, engineId e = true → engDie e = n → t.engState e = 2 ∧ t.eng e = Engine.empty) ∧
      (∀ d ∈ t.ras.darnings, ¬ (d.kind = 0 ∧ engDie d.unit = n)) ∧ (∀ e ∈ t.ras.measuring, engDie e ≠ n) ∧
      (∀ c, s.ctxsOfDie n = [c] → s.faultFree c → t.holdsFault c 0x11 n 0) ∧
      (∀ key x k, s.bit F.wndDarnCtrl_REHOME R.wndDarnCtrl = true → s.shx.xchs = [(key, x)] → key < 64 →
        k < s.fld F.shxXMap_MAP_COUNT (R.shxXMap (key / 4) (key % 4)) → s.computeLost ((n + 4) % 8) = false →
        s.fld F.shxXMap_MAP_COUNT (R.shxXMap (key / 4) (key % 4)) ≤ 4096 →
        let i := (s.fld F.shxXMap_MAP_FIRST (R.shxXMap (key / 4) (key % 4)) + k) % 4096
        s.bit F.shxMap_VALID (R.shxMap i) = true → s.bit F.shxMap_REMOTE (R.shxMap i) = false → s.fld F.shxMap_DIE (R.shxMap i) = n →
        let b := s.fld F.shxMap_BUCKET (R.shxMap i) + x.buckets / 2
        (b < x.buckets → x.buckets ≤ 1024 → t.fld F.shxMap_DIE (R.shxMap i) = (n + 4) % 8 ∧ t.fld F.shxMap_BUCKET (R.shxMap i) = b ∧
          t.bit F.shxMap_VALID (R.shxMap i) = true) ∧
        (x.buckets ≤ b → t.bit F.shxMap_VALID (R.shxMap i) = false)))) ∧
  (∀ (s : State) (n : Nat), n < 8 → s.clk.pwrok = true → (s.baseLost n = true → exec (.baseDieLost n) s = .next s) ∧
    (s.baseLost n = false → n ≠ 0 → n ≠ 4 → s.gmpState n = 0 → ∃ t, exec (.baseDieLost n) s = .next t ∧ t.baseLost n = true ∧ t.computeLost n = true ∧
      (∀ d, d < 8 → d ≠ n → t.baseLost d = s.baseLost d) ∧ (t.fld F.cshDeadStat_LOST R.cshDeadStat).testBit n = true ∧ n ∈ t.cache.dead ∧
      (∀ c, c < 128 → t.chanState (128 * n + c) = 3) ∧
      (∀ i, i < 256 → s.idxDie i = n → s.fld F.cshSliceMap_STATE (R.cshSliceMap i) ≠ 3 →
        let k := (n + 4) % 8
        (s.baseLost k = true → t.fld F.cshSliceMap_STATE (R.cshSliceMap i) = 3) ∧
        (s.baseLost k = false → s.physSlice (32 * k + i % 32) < 264 → t.physSlice i = s.physSlice (32 * k + i % 32) ∧ t.fld F.cshSliceMap_STATE (R.cshSliceMap i) = 2)) ∧
      (∀ i, i < 256 → s.idxDie i ≠ n → t.physSlice i = s.physSlice i ∧
        t.fld F.cshSliceMap_STATE (R.cshSliceMap i) = s.fld F.cshSliceMap_STATE (R.cshSliceMap i)) ∧
      (∀ i x y, s.txn? i = some x → x.die = n → i < s.nextId → t.txn? i = some y → y.dead = true)))

/-- FIRMWARE_START acts before the firmware runs, once die 0's clocks run: the floor is the count of fuses less SVN_ROLLBACK; with a good settings generation the first slot
that passes the checks, FIRST before the other, is started, SEC_BOOT shows its slot, key slot and SVN, STAGE goes to 1 and dies 1 to 7 check their copies; otherwise
STAGE reads 7, RECOVERY 1, and event 7 is queued. FIRMWARE_COPY_CHECK of a die that still checks: a good copy leaves the list, and after the last one STAGE goes to 2
while a channel is untrained, to 3 while a set is being cleared, else to 4 with a darning record awaited; a bad one loses the base die and its compute die. A failed
health test counts; the sixteenth in a row sets RNG_FAIL and queues event 6; later ones change nothing. The stage numbers follow SEC_BOOT. Completes (a next state is
the conclusion): `firmwareStart`, `firmwareCopyCheck`, `entropyTestFail`. Rests on choices of the model: log 2, 109. -/
def Obligations.FirmwareBoots : Prop :=
  (∀ s : State, s.stage ≠ 0 → exec .firmwareStart s = .next s) ∧
  (∀ (s : State) (k : Nat), s.stage = 0 → s.runs 0 = true → s.sec.current.isSome = true →
    (s.slotGood (s.sec.first % 2) = true ∧ k = s.sec.first % 2 ∨
     s.slotGood (s.sec.first % 2) = false ∧ k = 1 - s.sec.first % 2 ∧ s.slotGood k = true) →
    ∃ t, exec .firmwareStart s = .next t ∧ t.stage = 1 ∧ t.fld F.secBoot_SLOT R.secBoot = k ∧
      t.fld F.secBoot_KEY_SLOT R.secBoot = numAt (s.slotBytes k 0 128) 2 1 ∧ t.fld F.secBoot_SVN R.secBoot = numAt (s.slotBytes k 0 128) 1 1 ∧
      t.fld F.secBoot_FLOOR R.secBoot = s.svnCount - numAt s.sec.settings 8 1 ∧
      t = { s with regs := t.regs, sec := { s.sec with copies := [1, 2, 3, 4, 5, 6, 7] } } ∧ s.keepsRegsBut [R.secBoot] t) ∧
  (∀ s : State, s.stage = 0 → s.runs 0 = true → s.sec.current = none ∨ (s.slotGood 0 = false ∧ s.slotGood 1 = false) →
    ∃ t, exec .firmwareStart s = .next t ∧ t.stage = 7 ∧ t.bit F.secStat_RECOVERY R.secStat = true ∧ s.eventQueued 7 0 0 t ∧
      t.fld F.secBoot_FLOOR R.secBoot = s.svnCount - numAt s.sec.settings 8 1 ∧ s.keepsRegsBut [R.secBoot, R.secStat, R.wndMbxStat] t) ∧
  (∀ (s : State) (d : Nat) (ok : Bool), d ∉ s.sec.copies → exec (.firmwareCopyCheck d ok) s = .next s) ∧
  (∀ (s : State) (d : Nat), d ∈ s.sec.copies → ∃ t, exec (.firmwareCopyCheck d true) s = .next t ∧ t.sec = { s.sec with copies := delNum s.sec.copies d } ∧
    t.posted = s.posted ∧ s.keepsRegsBut [R.secBoot] t ∧
    ((∃ k ∈ s.sec.copies, k ≠ d) → t = { s with sec := t.sec }) ∧
    ((∀ k ∈ s.sec.copies, k = d) →
      ((∃ c, c < 1024 ∧ s.chanState c = 0) → t.stage = 2 ∧ t.ras = s.ras) ∧
      ((∀ c, c < 1024 → s.chanState c ≠ 0) →
        ((∃ j, j < 16 ∧ s.bit F.memSetStat_CLEARING (R.memSetStat j) = true) → t.stage = 3 ∧ t.ras = s.ras) ∧
        ((∀ j, j < 16 → s.bit F.memSetStat_CLEARING (R.memSetStat j) = false) → t.stage = 4 ∧ t.ras = { s.ras with recordWait := true } ∧
          t.host.rrs = false)))) ∧
  (∀ (s : State) (d : Nat), d ∈ s.sec.copies → d < 8 → d ≠ 0 → d ≠ 4 → s.gmpState d = 0 → s.baseLost d = false →
    ∃ t, exec (.firmwareCopyCheck d false) s = .next t ∧ d ∉ t.sec.copies ∧ t.baseLost d = true ∧ t.computeLost d = true) ∧
  (∀ (s : State) (d : Nat), 8 ≤ d ∨ 16 ≤ SMap.getD s.sec.rngRow d 0 → exec (.entropyTestFail d) s = .next s) ∧
  (∀ (s : State) (d : Nat), d < 8 → s.clk.pwrok = true → SMap.getD s.sec.rngRow d 0 < 16 →
    ∃ t, exec (.entropyTestFail d) s = .next t ∧ SMap.getD t.sec.rngRow d 0 = SMap.getD s.sec.rngRow d 0 + 1 ∧
      (∀ k, k ≠ d → SMap.getD t.sec.rngRow k 0 = SMap.getD s.sec.rngRow k 0) ∧ s.keepsRegsBut [R.secStat, R.wndMbxStat] t ∧
      (SMap.getD s.sec.rngRow d 0 ≠ 15 → t = { s with sec := { s.sec with rngRow := t.sec.rngRow } }) ∧
      (SMap.getD s.sec.rngRow d 0 = 15 → t.bit F.secStat_RNG_FAIL R.secStat = true ∧ s.eventQueued 6 d 0 t))

/-- No request is answered before the firmware runs, with no Winder, or under Request Retry Status. GET_VERSION answers 1.2, GET_CAPABILITIES the supported flags,
CTExponent 18 and 65,536 bytes, and NEGOTIATE_ALGORITHMS selects SLH-DSA where offered; the codes are DSP0274's (log 115). Without the algorithm, the requests that need
it are refused, and unsigned measurements are answered. GET_DIGESTS and GET_CERTIFICATE serve slot 0. A request that needs a signature goes to the signing unit, is
refused as busy where the unit takes none, and a fifth session is refused. SIGNATURE_COMPLETE sends the 49,856 bytes to the one who asked, opens the session of a
KEY_EXCHANGE, and takes the next request in order. Inside a session, HEARTBEAT, KEY_UPDATE and END_SESSION act on it, IDE_KM sets the key of one of 8 streams, and TDISP
moves a TDI: locked from unlocked unless DEBUG is 1, run from locked, unlocked from any state. Outside one they are refused. Completes (a next state is the conclusion):
`signatureComplete`, `getVersion`, `getCapabilities`, `negotiateAlgorithms`, `getDigests`, `getCertificate`, `challenge`, `getMeasurements`, `keyExchange`, `heartbeat`,
`keyUpdateSpdm`, `ideKm`, `lockInterface`, `endSession`, `startInterface`, `stopInterface`. -/
def Obligations.AttestationOverSpdm : Prop :=
  (∀ (s : State) (c : Instr), spdmRequest c = true → s.sec.dead = true ∨ s.stage = 0 ∨ s.host.rrs = true → exec c s = .next s) ∧
  (∀ s : State, s.spdmServed → ∃ t, exec .getVersion s = .next t ∧
    s.spdmTold { s.sec.spdm with version := true, caps := false, algs := false, slh := false } 0x04 ([0, 0, 0, 1] ++ leBytes 2 0x1200) t) ∧
  (∀ s : State, s.spdmServed → ∃ t, exec .getCapabilities s = .next t ∧
    (s.sec.spdm.version = false → s.spdmRefused 4 t) ∧
    (s.sec.spdm.version = true → s.spdmTold { s.sec.spdm with caps := true } 0x61
      ([0, 0, 0, 18, 0, 0] ++ leBytes 4 0x62D6 ++ leBytes 4 65536 ++ leBytes 4 65536) t)) ∧
  (∀ (s : State) (offers : Bool), s.spdmServed → ∃ t, exec (.negotiateAlgorithms offers) s = .next t ∧
    (s.sec.spdm.caps = false → s.spdmRefused 4 t) ∧
    (s.sec.spdm.caps = true → s.spdmTold { s.sec.spdm with algs := true, slh := offers } 0x63 (if offers then [4, 0, 1, 0] else []) t)) ∧
  (∀ (s : State) (c : Instr), s.spdmServed → s.sec.spdm.algs = false ∨ s.sec.spdm.slh = false →
    (∃ o n, c = .getCertificate o n) ∨ (∃ n, c = .challenge n) ∨ c = .getDigests ∨ c = .keyExchange ∨
      (∃ w n, c = .getMeasurements w true n ∧ (w ≤ 5 ∨ w = 0xFF)) →
    ∃ t, exec c s = .next t ∧ s.spdmRefused (if s.sec.spdm.algs then 7 else 4) t) ∧
  (∀ s : State, s.algsOn → ∃ t, exec .getDigests s = .next t ∧ s.spdmTold s.sec.spdm 0x01 (sha3 s.sec.chain) t) ∧
  (∀ (s : State) (off len : Nat), s.algsOn → ∃ t, exec (.getCertificate off len) s = .next t ∧
    let n := min len (s.sec.chain.length - off)
    (s.sec.chain.length < off → s.spdmRefused 1 t) ∧
    (off ≤ s.sec.chain.length → s.spdmTold s.sec.spdm 0x02
      (leBytes 2 n ++ leBytes 2 (s.sec.chain.length - off - n) ++ (s.sec.chain.drop off).take len) t)) ∧
  (∀ (s : State) (nonce : Bytes), s.algsOn → ∃ t, exec (.challenge nonce) s = .next t ∧ (s.signsNot → s.spdmRefused 3 t) ∧
    (¬ s.signsNot → s.signAsked { who := 1, arg := 0, message := nonce } t)) ∧
  (∀ (s : State) (w : Nat) (signed : Bool) (nonce : Bytes), s.spdmServed →
    let told := if w = 0xFF then s.block 1 ++ s.block 2 ++ s.block 3 ++ s.block 4 ++ s.block 5 else if w = 0 then [] else s.block w
    ∃ t, exec (.getMeasurements w signed nonce) s = .next t ∧
      (s.sec.spdm.algs = false → s.spdmRefused 4 t) ∧
      (s.sec.spdm.algs = true → ¬ (w ≤ 5 ∨ w = 0xFF) → s.spdmRefused 1 t) ∧
      (s.sec.spdm.algs = true → w ≤ 5 ∨ w = 0xFF → signed = false → s.spdmTold s.sec.spdm 0x60 (leBytes 1 (if w = 0 then 5 else 0) ++ told) t) ∧
      (s.algsOn → w ≤ 5 ∨ w = 0xFF → signed = true → (s.signsNot → s.spdmRefused 3 t) ∧
        (¬ s.signsNot → s.signAsked { who := 2, arg := w, message := told ++ nonce } t))) ∧
  (∀ s : State, s.algsOn →
    let taken := s.sec.spdm.sessions.length + ((s.sec.signing.toList ++ s.sec.waiting).filter (fun r => r.who = 3)).length
    ∃ t, exec .keyExchange s = .next t ∧ (4 ≤ taken → s.spdmRefused 10 t) ∧ (taken < 4 → s.signsNot → s.spdmRefused 3 t) ∧
      (taken < 4 → ¬ s.signsNot → s.signAsked { who := 3, arg := 0, message := [] } t)) ∧
  (∀ (s : State) (d : Nat), d ≠ s.winder ∨ s.sec.signing = none → exec (.signatureComplete d) s = .next s) ∧
  (∀ (s : State) (r : SignReq), s.sec.signing = some r → ∃ t sig, exec (.signatureComplete s.winder) s = .next t ∧ sig.length = 49856 ∧
    t.sec.signing = s.sec.waiting.head? ∧ t.sec.waiting = s.sec.waiting.drop 1 ∧ t.regs = s.regs ∧ t.mem = s.mem ∧
    (r.who = 0 → (s.port r.arg).step = 4 → t.posted = s.posted ++ [.gimp r.arg 0x104 [] sig]) ∧
    (r.who = 1 → t.posted = s.posted ++ [.reply 0 0x03 (sha3 s.sec.chain ++ r.message ++ sig)]) ∧
    (r.who = 2 → t.posted = s.posted ++ [.reply 0 0x60 (leBytes 1 (if r.arg = 0 then 5 else 0) ++ r.message ++ sig)]) ∧
    (r.who = 3 → ∀ n, n < 4 → SMap.get? s.sec.spdm.sessions n = none → (∀ m, m < n → (SMap.get? s.sec.spdm.sessions m).isSome = true) →
      t.posted = s.posted ++ [.reply 0 0x64 (leBytes 1 n ++ sig)] ∧ SMap.get? t.sec.spdm.sessions n = some { heartbeats := 0, epoch := 0 } ∧
      ∀ k, k ≠ n → SMap.get? t.sec.spdm.sessions k = SMap.get? s.sec.spdm.sessions k) ∧
    (∀ l, r.who = 4 → s.sec.longOp = some l → l.cmd = 0x40 → l.phase = 3 →
      t.sec.longOp = some { l with phase := 0, payload := l.payload ++ sig } ∧ t.posted = s.posted)) ∧
  (∀ (s : State) (c : Instr) (n : Nat), s.spdmServed → sessionOf c = some n → SMap.get? s.sec.spdm.sessions n = none →
    ∃ t, exec c s = .next t ∧ s.spdmRefused 2 t) ∧
  (∀ (s : State) (n : Nat) (x : Session), s.spdmServed → SMap.get? s.sec.spdm.sessions n = some x →
    (∃ t p, exec (.heartbeat n) s = .next t ∧ s.spdmTold p 0x68 [] t ∧ SMap.get? p.sessions n = some { x with heartbeats := x.heartbeats + 1 } ∧
      (∀ k, k ≠ n → SMap.get? p.sessions k = SMap.get? s.sec.spdm.sessions k) ∧ p = { s.sec.spdm with sessions := p.sessions }) ∧
    (∃ t p, exec (.keyUpdateSpdm n) s = .next t ∧ s.spdmTold p 0x69 [] t ∧ SMap.get? p.sessions n = some { x with epoch := x.epoch + 1 } ∧
      (∀ k, k ≠ n → SMap.get? p.sessions k = SMap.get? s.sec.spdm.sessions k) ∧ p = { s.sec.spdm with sessions := p.sessions }) ∧
    (∃ t p, exec (.endSession n) s = .next t ∧ s.spdmTold p 0x6C [] t ∧ SMap.get? p.sessions n = none ∧
      (∀ k, k ≠ n → SMap.get? p.sessions k = SMap.get? s.sec.spdm.sessions k) ∧ p = { s.sec.spdm with sessions := p.sessions })) ∧
  (∀ (s : State) (n stream : Nat) (key : Bytes), s.spdmServed → (SMap.get? s.sec.spdm.sessions n).isSome = true → s.sec.ide.length ≤ 8 →
    ∃ t, exec (.ideKm n stream key) s = .next t ∧
      (SMap.get? s.sec.ide stream = none → s.sec.ide.length = 8 → s.spdmTold s.sec.spdm 0x7E (leBytes 2 stream ++ [1]) t) ∧
      ((SMap.get? s.sec.ide stream).isSome = true ∨ s.sec.ide.length < 8 →
        SMap.get? t.sec.ide stream = some (n, key) ∧ (∀ k, k ≠ stream → SMap.get? t.sec.ide k = SMap.get? s.sec.ide k) ∧
        t.fld F.hifLinkStat_IDE_STREAMS R.hifLinkStat = t.sec.ide.length ∧ t.posted = s.posted ++ [.reply 0 0x7E (leBytes 2 stream ++ [0])] ∧
        s.keepsRegsBut [R.hifLinkStat] t)) ∧
  (∀ (s : State) (n fn : Nat) (c : Instr) (to_ : Tdi) (ok : Prop), s.spdmServed → (SMap.get? s.sec.spdm.sessions n).isSome = true →
    (c = .lockInterface n fn ∧ to_ = .locked ∧ (ok ↔ s.bit F.secStat_DEBUG R.secStat = false ∧ s.tdi fn = .unlocked)) ∨
    (c = .startInterface n fn ∧ to_ = .run ∧ (ok ↔ s.tdi fn = .locked)) ∨ (c = .stopInterface n fn ∧ to_ = .unlocked ∧ (ok ↔ True)) →
    ∃ t, exec c s = .next t ∧
      (1 ≤ fn → fn < 128 → ok → t.tdi fn = to_ ∧ (∀ k, k ≠ fn → t.tdi k = s.tdi k) ∧ t.posted = s.posted ++ [.reply 0 0x7E (leBytes 2 fn ++ [0])] ∧
        t = { s with host := { s.host with tdi := t.host.tdi }, posted := t.posted }) ∧
      (fn = 0 ∨ 128 ≤ fn ∨ ¬ ok → s.spdmTold s.sec.spdm 0x7E (leBytes 2 fn ++ [1]) t))

/-- With no Winder, or before the firmware runs, the mailbox answers nothing. While it is busy or taken over, every request is answered with STAT_BUSY and has no effect; in
recovery all but five commands end with STAT_DENIED. A short command is answered at once and leaves the mailbox free: GET_STATUS with the six registers; GET_EVENT with
the oldest record, which leaves the queue, the alert being released with the last; SET_CEIL sets CEIL_W within 1,100 and MAX_W; GET_TELEMETRY with three registers of
each die; DARN_GET with the record; GET_CERT with at most 4,096 bytes of the chain; OTP_READ with 64 bytes, SEED reading as zero. DARN_PUT is denied but while the boot
waits, and invalid where the record is not good, RECORD_BAD then reading 1; a good one settles the darning map: engines, channels, slices, dies, STAGE 5 and the boot's
device reset. An MCTP control message is answered. Not answering before the firmware runs or a Winder serves is log 117's choice. Completes (a next state is the
conclusion): `mctpControl`, `getStatus`, `getEvent`, `setCeil`, `getTelemetry`, `darnPut`, `darnGet`, `getCert`, `otpRead`. -/
def Obligations.MailboxAnswers : Prop :=
  (∀ (s : State) (c : Instr) (r : Transport × Nat × Nat), mailboxRequest c = some r → s.sec.dead = true ∨ s.stage = 0 → exec c s = .next s) ∧
  (∀ (s : State) (c : Instr) (v : Transport) (cmd seq : Nat), mailboxRequest c = some (v, cmd, seq) → s.served →
    s.ras.takeover = true ∨ s.sec.longOp.isSome = true → ∃ t, exec c s = .next t ∧ s.answered (viaNo v) cmd seq 0x47 [] t) ∧
  (∀ (s : State) (c : Instr) (v : Transport) (cmd seq : Nat), mailboxRequest c = some (v, cmd, seq) → s.served → s.stage = 7 → cmd ∉ recoveryCmds →
    s.ras.takeover = false → s.sec.longOp = none → ∃ t, exec c s = .next t ∧ s.answered (viaNo v) cmd seq 0x49 [] t) ∧
  (∀ (s : State) (v : Transport) (q : Nat), s.mailboxFree 0x01 → ∃ t, exec (.getStatus v q) s = .next t ∧
    s.answered (viaNo v) 0x01 q 0 (leBytes 4 (s.rd R.secStat).toNat ++ leBytes 4 (s.rd R.secBoot).toNat ++ leBytes 4 s.otpGenView.toNat ++
      leBytes 4 (s.rd R.wndDieStat).toNat ++ leBytes 4 s.pkgView.toNat ++ leBytes 4 s.mbxView.toNat) t) ∧
  (∀ (s : State) (v : Transport) (q : Nat), s.mailboxFree 0x02 →
    (s.sec.events = [] → ∃ t, exec (.getEvent v q) s = .next t ∧ s.answered (viaNo v) 0x02 q 0 [] t) ∧
    (∀ e r, s.sec.events = e :: r → ∃ t, exec (.getEvent v q) s = .next t ∧
      t = { s with sec := { s.sec with events := r }, posted := s.posted ++ response (viaNo v) 0x02 q 0 e :: (if r = [] then [.pin pinAlert s.winder true] else []) })) ∧
  (∀ (s : State) (v : Transport) (q w : Nat), s.mailboxFree 0x03 → ∃ t, exec (.setCeil v q w) s = .next t ∧
    t.fld F.pwrCeil_CEIL_W R.pwrCeil = max 1100 (min w s.maxW) ∧ t.fld F.pwrCeil_MAX_W R.pwrCeil = s.fld F.pwrCeil_MAX_W R.pwrCeil ∧
    s.keepsRegsBut [R.pwrCeil] t ∧ t = { s with regs := t.regs, posted := s.posted ++ [response (viaNo v) 0x03 q 0 []] }) ∧
  (∀ (s : State) (v : Transport) (q : Nat), s.mailboxFree 0x04 → ∃ t b, exec (.getTelemetry v q) s = .next t ∧ s.answered (viaNo v) 0x04 q 0 b t ∧
    b.length = 96 ∧ ∀ d, d < 8 → numAt b (12 * d) 4 = (s.rd (R.pwrDieStat d)).toNat ∧ numAt b (12 * d + 4) 4 = (s.rd (R.pwrDiePower d)).toNat ∧
      numAt b (12 * d + 8) 4 = (s.rd (R.pwrTemp d)).toNat) ∧
  (∀ (s : State) (v : Transport) (q : Nat) (b : Bytes), s.mailboxFree 0x10 →
    let good := numAt b 0 1 = 1 ∧ numAt b 8 8 = s.part.serial ∧ cut b 992 32 = darningTag (cut b 0 992)
    let bits (o k : Nat) := (numAt b (o + k / 8) 1).testBit (k % 8)
    ∃ t, exec (.darnPut v q b) s = .next t ∧
      (b.length ≠ 1024 → s.answered (viaNo v) 0x10 q 0x4A [] t) ∧
      (b.length = 1024 → s.ras.recordWait = false → s.answered (viaNo v) 0x10 q 0x49 [] t) ∧
      (b.length = 1024 → s.ras.recordWait = true → ¬ good → t.bit F.wndDarnStat_RECORD_BAD R.wndDarnStat = true ∧ s.keepsRegsBut [R.wndDarnStat] t ∧
        t = { s with regs := t.regs, posted := s.posted ++ [response (viaNo v) 0x10 q 0x4A []] }) ∧
      (b.length = 1024 → s.ras.recordWait = true → good → (∀ c ∈ s.ras.chanOut, c < 1024) → (∀ p, p < 8 → s.bondOf p = none) → t.holdsNothing ∧ t.stage = 5 ∧ t.ras.recordWait = false ∧ t.ras.generation = numAt b 4 4 ∧
        t.bit F.wndDarnStat_FROM_BOARD R.wndDarnStat = true ∧ t.fld F.wndDieStat_COMPUTE_LOST R.wndDieStat = numAt b 472 1 ∧
        t.fld F.wndDieStat_BASE_LOST R.wndDieStat = numAt b 473 1 ∧ t.winder = (if bits 474 0 then 4 else 0) ∧
        t.bit F.wndDieStat_HIF_CTRL R.wndDieStat = bits 474 1 ∧ t.bit F.hifLinkStat_CTRL R.hifLinkStat = bits 474 1 ∧
        (∀ e, engineId e = true → bits 472 (engDie e) = false → bits 473 (engDie e) = false →
          let k := 36 * (e / 64) + e % 64
          t.engState e = min 2 (numAt b (16 + k / 4) 1 / 4 ^ (k % 4) % 4)) ∧
        (∀ c, c < 1024 → bits 344 c = true → t.chanState c = 3) ∧
        (∀ i, i < 256 → bits 473 (i / 32) = false →
          let x := numAt b (304 + i / 32) 1
          (bits (312 + 4 * (i / 32)) (i % 32) = false → t.physSlice i = 33 * (i / 32) + i % 32 ∧ t.fld F.cshSliceMap_STATE (R.cshSliceMap i) = 0) ∧
          (bits (312 + 4 * (i / 32)) (i % 32) = true → x % 64 = i % 32 → bits (304 + i / 32) 6 = false →
            t.physSlice i = 33 * (i / 32) + 32 ∧ t.fld F.cshSliceMap_STATE (R.cshSliceMap i) = 1)) ∧
        response (viaNo v) 0x10 q 0 [] ∈ t.posted)) ∧
  (∀ (s : State) (v : Transport) (q : Nat), s.mailboxFree 0x11 → ∃ t, exec (.darnGet v q) s = .next t ∧ s.answered (viaNo v) 0x11 q 0 s.darningRecord t) ∧
  (∀ (s : State) (v : Transport) (q off len : Nat), s.mailboxFree 0x41 → ∃ t, exec (.getCert v q off len) s = .next t ∧
    (1 ≤ len → len ≤ 4096 → s.answered (viaNo v) 0x41 q 0 ((s.sec.chain.drop off).take len) t) ∧
    (len = 0 ∨ 4096 < len → s.answered (viaNo v) 0x41 q 0x4A [] t)) ∧
  (∀ (s : State) (v : Transport) (q w : Nat), s.mailboxFree 0x50 → ∃ t, exec (.otpRead v q w) s = .next t ∧
    (w ≤ 511 → ∃ b, s.answered (viaNo v) 0x50 q 0 b t ∧ b.length = 64 ∧ (w = 16 → b = zeros 64) ∧
      (w = 0 → numAt b 0 8 = s.part.serial % 2 ^ 64) ∧ (w = 64 → numAt b 0 1 = s.sec.revoked % 256 ∧ numAt b 8 8 = s.sec.svnFuses % 2 ^ 64)) ∧
    (512 ≤ w → s.answered (viaNo v) 0x50 q 0x4A [] t)) ∧
  (∀ (s : State) (v : Transport) (m : Bytes), (s.served → ∃ t, exec (.mctpControl v m) s = .next t ∧ t = { s with posted := s.posted ++ [.reply (viaNo v) 0 (Config.derive 8 m)] }) ∧
    (¬ s.served → exec (.mctpControl v m) s = .next s))

/-- FW_WRITE takes one sector of the slot not booted, is denied for the other slot, invalid otherwise, and at its end the sector holds the data. FW_ACTIVATE checks the slot
not booted at its end: FIRST names it where it passes, and recovery then resets; else STAT_INVALID. SVN_RAISE is invalid for a floor not above the one in force, above
the booted SVN, or needing more than 64 fuses; it ends with as many fuses as the floor needs, none cleared, and the new floor in force (log 117). KEY_REVOKE is denied
for the booted slot and the last one. ATTEST goes to the signing unit with the five digests and the nonce, and is refused for want of resource where the unit takes
none; with its signature it ends with all of them. From acceptance to the response the mailbox is busy with the operation; WND_MBX_STAT then holds it and its status. An
end with no operation at work changes nothing. Completes (a next state is the conclusion): `fwWrite`, `fwActivate`, `svnRaise`, `keyRevoke`, `attest`,
`mailboxLongOpEnd`. -/
def Obligations.MailboxWrites : Prop :=
  (∀ (s : State) (v : Transport) (q off : Nat) (data : Bytes), s.mailboxFree 0x20 →
    let base (k : Nat) := 0x100000 + 0x800000 * k
    let b := s.fld F.secBoot_SLOT R.secBoot
    ∃ t, exec (.fwWrite v q off data) s = .next t ∧
      (data.length ≠ 4096 ∨ off % 4096 ≠ 0 ∨ off < base 0 ∨ base 2 ≤ off → s.opFailed (viaNo v) 0x20 q 0x4A t) ∧
      (data.length = 4096 → off % 4096 = 0 → base b ≤ off → off < base (b + 1) → s.opFailed (viaNo v) 0x20 q 0x49 t) ∧
      (data.length = 4096 → off % 4096 = 0 → base (1 - b) ≤ off → off < base (2 - b) →
        ∃ p u, s.opStarted v 0x20 q p 0 t ∧ exec .mailboxLongOpEnd t = .next u ∧ s.opEnded (viaNo v) 0x20 q 0 [] u ∧
          u.slotBytes (1 - b) (off - base (1 - b)) 4096 = data ∧
          (∀ k o n, k ≠ 1 - b ∨ o + n ≤ off - base (1 - b) ∨ off - base (1 - b) + 4096 ≤ o → u.slotBytes k o n = s.slotBytes k o n) ∧
          u = { s with regs := u.regs, sec := { s.sec with slots := u.sec.slots }, posted := u.posted } ∧ s.keepsRegsBut [R.wndMbxStat] u)) ∧
  (∀ (s : State) (v : Transport) (q : Nat), s.mailboxFree 0x21 →
    let k := 1 - s.fld F.secBoot_SLOT R.secBoot
    ∃ t u, exec (.fwActivate v q) s = .next t ∧ s.opStarted v 0x21 q [] 0 t ∧ exec .mailboxLongOpEnd t = .next u ∧ s.keepsRegsBut [R.wndMbxStat] u ∧
      (s.slotGood k = true → s.opEnded (viaNo v) 0x21 q 0 [] u ∧ u.sec = { s.sec with first := k } ∧
        u.clk = (if s.stage = 7 then { s.clk with recovering := true } else s.clk)) ∧
      (s.slotGood k = false → s.opEnded (viaNo v) 0x21 q 0x4A [] u ∧ u.sec = s.sec ∧ u.clk = s.clk)) ∧
  (∀ (s : State) (v : Transport) (q floor : Nat), s.mailboxFree 0x22 →
    let want := floor + numAt s.sec.settings 8 1
    let bad := floor ≤ s.fld F.secBoot_FLOOR R.secBoot ∨ s.fld F.secBoot_SVN R.secBoot < floor ∨ 64 < want
    ∃ t, exec (.svnRaise v q floor) s = .next t ∧ (bad → s.opFailed (viaNo v) 0x22 q 0x4A t) ∧
      (¬ bad → ∃ p u, s.opStarted v 0x22 q p 0 t ∧ exec .mailboxLongOpEnd t = .next u ∧ s.opEnded (viaNo v) 0x22 q 0 [] u ∧
        u.svnCount = max s.svnCount want ∧ (∀ i, i < 64 → s.sec.svnFuses.testBit i = true → u.sec.svnFuses.testBit i = true) ∧
        u.fld F.secBoot_FLOOR R.secBoot = floor ∧ u.sec = { s.sec with svnFuses := u.sec.svnFuses } ∧ s.keepsRegsBut [R.wndMbxStat, R.secBoot] u)) ∧
  (∀ (s : State) (v : Transport) (q k : Nat), s.mailboxFree 0x23 →
    let kept := k = s.fld F.secBoot_KEY_SLOT R.secBoot ∨ s.sec.revoked.testBit (1 - k) = true
    ∃ t, exec (.keyRevoke v q k) s = .next t ∧ (2 ≤ k → s.opFailed (viaNo v) 0x23 q 0x4A t) ∧ (k < 2 → kept → s.opFailed (viaNo v) 0x23 q 0x49 t) ∧
      (k < 2 → ¬ kept → ∃ p u, s.opStarted v 0x23 q p 0 t ∧ exec .mailboxLongOpEnd t = .next u ∧ s.opEnded (viaNo v) 0x23 q 0 [] u ∧
        (∀ i, u.sec.revoked.testBit i = (s.sec.revoked.testBit i || i == k)) ∧ u.sec = { s.sec with revoked := u.sec.revoked } ∧
        s.keepsRegsBut [R.wndMbxStat] u)) ∧
  (∀ (s : State) (v : Transport) (q : Nat) (nonce : Bytes), s.mailboxFree 0x40 →
    let m := s.measured 1 ++ s.measured 2 ++ s.measured 3 ++ sha3 (s.measured 4) ++ s.measured 5 ++ nonce
    ∃ t, exec (.attest v q nonce) s = .next t ∧ (nonce.length ≠ 32 → s.opFailed (viaNo v) 0x40 q 0x4A t) ∧
      (nonce.length = 32 → s.signsNot → s.opFailed (viaNo v) 0x40 q 0x4B t) ∧
      (nonce.length = 32 → ¬ s.signsNot → ∃ x, s.opStarted v 0x40 q m 3 x ∧ x.signAsked { who := 4, arg := 0, message := m } t)) ∧
  (∀ (s : State) (l : LongOp), s.sec.longOp = some l → l.cmd = 0x40 → l.phase = 0 → l.status < 256 →
    ∃ t, exec .mailboxLongOpEnd s = .next t ∧ s.opEnded l.via 0x40 l.seq l.status l.payload t ∧ s.keepsRegsBut [R.wndMbxStat] t ∧
      t = { s with regs := t.regs, sec := { s.sec with longOp := none }, posted := t.posted }) ∧
  (∀ s : State, (∀ l, s.sec.longOp = some l → l.phase ≠ 0) → exec .mailboxLongOpEnd s = .next s)

/-- SETTINGS_ADVANCE, SVN_ROLLBACK and DEBUG_UNLOCK make every other check first, end with STAT_NO_PRESENCE at once where the seal is broken, and else wait for a press. A
press after acceptance starts the hold, a release ends it, and the end of the hold lets the operation work, unless the seal is broken, or a hoop is on under
DEBUG_UNLOCK. No press in time, a release after that time, or a seal that breaks first, ends it with STAT_NO_PRESENCE; a hold begun in time goes on. A mismatch of the
seal sets SEAL_BROKEN. At the end of its work the first free generation holds MARK, its number and the new bytes while the settings in force stay, or DEBUG reads 1. The
ranges of the fields, that the lowest free generation is taken, and that it is whole, are choices of log 118. Completes (a next state is the conclusion):
`presencePress`, `presenceHoldEnd`, `presenceWaitExpiry`, `sealCheck`, `settingsAdvance`, `svnRollback`, `debugUnlock`, `mailboxLongOpEnd`, `presenceRelease`. Rests on
choices of the model: log 162. -/
def Obligations.PresenceNeeded : Prop :=
  (∀ (s : State) (v : Transport) (q : Nat) (gen : Bytes), s.mailboxFree 0x30 →
    let full := ∀ g, g < 4 → (SMap.get? s.sec.gens g).isSome = true
    let inRange := 1100 ≤ numAt gen 1 2 ∧ numAt gen 1 2 ≤ 2000 ∧ numAt gen 5 1 = numAt s.sec.settings 8 1
    ∃ t, exec (.settingsAdvance v q gen) s = .next t ∧ (gen.length ≠ 221 → s.opFailed (viaNo v) 0x30 q 0x4A t) ∧
      (gen.length = 221 → full → s.opFailed (viaNo v) 0x30 q 0x4B t) ∧
      (gen.length = 221 → ¬ full → ¬ inRange → s.opFailed (viaNo v) 0x30 q 0x4A t) ∧
      (gen.length = 221 → ¬ full → inRange → s.bit F.secStat_SEAL_BROKEN R.secStat = true → s.opFailed (viaNo v) 0x30 q 0x48 t) ∧
      (gen.length = 221 → ¬ full → inRange → s.bit F.secStat_SEAL_BROKEN R.secStat = false → s.opStarted v 0x30 q gen 1 t)) ∧
  (∀ (s : State) (v : Transport) (q floor : Nat), s.mailboxFree 0x31 →
    let full := ∀ g, g < 4 → (SMap.get? s.sec.gens g).isSome = true
    let lower := floor < s.fld F.secBoot_FLOOR R.secBoot
    ∃ t, exec (.svnRollback v q floor) s = .next t ∧ (full → s.opFailed (viaNo v) 0x31 q 0x4B t) ∧ (¬ full → ¬ lower → s.opFailed (viaNo v) 0x31 q 0x4A t) ∧
      (¬ full → lower → s.bit F.secStat_SEAL_BROKEN R.secStat = true → s.opFailed (viaNo v) 0x31 q 0x48 t) ∧
      (¬ full → lower → s.bit F.secStat_SEAL_BROKEN R.secStat = false → s.sec.settings.length = 224 → ∃ b, s.opStarted v 0x31 q b 1 t ∧ b.length = 221 ∧
        numAt b 5 1 = s.svnCount - floor ∧ b.take 5 = (s.sec.settings.drop 3).take 5 ∧ b.drop 6 = s.sec.settings.drop 9)) ∧
  (∀ (s : State) (v : Transport) (q : Nat), s.mailboxFree 0x32 →
    let may := (numAt s.sec.settings 7 1).testBit 0 = true ∧ ∀ h, h < 16 → s.fld F.hoopStat_STATE (R.hoopStat h) = 0
    ∃ t, exec (.debugUnlock v q) s = .next t ∧ (¬ may → s.opFailed (viaNo v) 0x32 q 0x49 t) ∧
      (may → s.bit F.secStat_SEAL_BROKEN R.secStat = true → s.opFailed (viaNo v) 0x32 q 0x48 t) ∧
      (may → s.bit F.secStat_SEAL_BROKEN R.secStat = false → s.opStarted v 0x32 q [] 1 t)) ∧
  (∀ s : State, s.bit F.secStat_PRES R.secStat = true → exec .presencePress s = .next s) ∧
  (∀ s : State, s.bit F.secStat_PRES R.secStat = false → s.clk.pwrok = true → ∃ t, exec .presencePress s = .next t ∧ t.bit F.secStat_PRES R.secStat = true ∧ s.keepsRegsBut [R.secStat] t ∧
    t.rd R.secStat = s.rd R.secStat ||| 8 ∧
    t = { s with regs := t.regs, sec := { s.sec with longOp := s.sec.longOp.map (fun l => if l.phase = 1 then { l with phase := 2 } else l) } }) ∧
  (∀ s : State, s.clk.pwrok = true → ∃ t, exec .presenceRelease s = .next t ∧ t.bit F.secStat_PRES R.secStat = false ∧
    t.rd R.secStat = s.rd R.secStat &&& ~~~8 ∧
    ((∀ l, s.sec.longOp = some l → l.phase ≠ 4) → s.keepsRegsBut [R.secStat] t ∧
      t = { s with regs := t.regs, sec := { s.sec with longOp := s.sec.longOp.map (fun l => if l.phase = 2 then { l with phase := 1 } else l) } }) ∧
    (∀ l, s.sec.longOp = some l → l.phase = 4 → l.cmd < 256 → s.opEnded l.via l.cmd l.seq 0x48 [] t ∧ s.keepsRegsBut [R.secStat, R.wndMbxStat] t)) ∧
  (∀ s : State, (∀ l, s.sec.longOp = some l → l.phase ≠ 2 ∧ l.phase ≠ 4) → exec .presenceHoldEnd s = .next s) ∧
  (∀ (s : State) (l : LongOp), s.sec.longOp = some l → l.phase = 2 ∨ l.phase = 4 → l.cmd < 256 →
    let hoops := ∃ h, h < 16 ∧ s.fld F.hoopStat_STATE (R.hoopStat h) ≠ 0
    ∃ t, exec .presenceHoldEnd s = .next t ∧
      (s.bit F.secStat_SEAL_BROKEN R.secStat = true → s.opFailed l.via l.cmd l.seq 0x48 t) ∧
      (s.bit F.secStat_SEAL_BROKEN R.secStat = false → l.cmd = 0x32 → hoops → s.opFailed l.via l.cmd l.seq 0x49 t) ∧
      (s.bit F.secStat_SEAL_BROKEN R.secStat = false → ¬ (l.cmd = 0x32 ∧ hoops) → t = { s with sec := { s.sec with longOp := some { l with phase := 0 } } })) ∧
  (∀ s : State, (∀ l, s.sec.longOp = some l → l.phase ≠ 1 ∧ l.phase ≠ 2) → exec .presenceWaitExpiry s = .next s) ∧
  (∀ (s : State) (l : LongOp), s.sec.longOp = some l → ∃ t, exec .presenceWaitExpiry s = .next t ∧
    (l.phase = 1 → l.cmd < 256 → s.opFailed l.via l.cmd l.seq 0x48 t) ∧
    (l.phase = 2 → t = { s with sec := { s.sec with longOp := some { l with phase := 4 } } })) ∧
  (∀ s : State, s.clk.pwrok = true → ∃ t, exec (.sealCheck true) s = .next t ∧ s.onlyRegs [R.secStat] t ∧ t.rd R.secStat = s.rd R.secStat ||| 2) ∧
  (∀ s : State, s.clk.pwrok = true → ∃ t, exec (.sealCheck false) s = .next t ∧ t.rd R.secStat = (s.rd R.secStat ||| 4) &&& ~~~2 ∧ s.keepsRegsBut [R.secStat, R.wndMbxStat] t ∧
    ((∀ l, s.sec.longOp = some l → l.phase ≠ 1 ∧ l.phase ≠ 2 ∧ l.phase ≠ 4) → s.onlyRegs [R.secStat] t) ∧
    (∀ l, s.sec.longOp = some l → l.phase = 1 ∨ l.phase = 2 ∨ l.phase = 4 → l.cmd < 256 → s.opEnded l.via l.cmd l.seq 0x48 [] t)) ∧
  (∀ (s : State) (l : LongOp) (g : Nat), s.sec.longOp = some l → l.phase = 0 → l.cmd = 0x30 ∨ l.cmd = 0x31 → l.payload.length = 221 →
    g < 4 → SMap.get? s.sec.gens g = none → (∀ k, k < g → (SMap.get? s.sec.gens k).isSome = true) →
    ∃ t, exec .mailboxLongOpEnd s = .next t ∧ s.opEnded l.via l.cmd l.seq 0 [] t ∧
      SMap.get? t.sec.gens g = some { body := [0x5A, 0xC3, BitVec.ofNat 8 g] ++ l.payload, whole := true } ∧
      (∀ k, k ≠ g → SMap.get? t.sec.gens k = SMap.get? s.sec.gens k) ∧ t.sec = { s.sec with gens := t.sec.gens, longOp := none } ∧
      s.keepsRegsBut [R.wndMbxStat] t) ∧
  (∀ (s : State) (l : LongOp), s.sec.longOp = some l → l.phase = 0 → l.cmd = 0x32 →
    ∃ t, exec .mailboxLongOpEnd s = .next t ∧ s.opEnded l.via l.cmd l.seq 0 [] t ∧ t.rd R.secStat = s.rd R.secStat ||| 1 ∧
      t.sec = { s.sec with longOp := none } ∧ s.keepsRegsBut [R.secStat, R.wndMbxStat] t)

/-- PIN_CHECK leaves its result in SEC_PIN_STAT, and each new fault is an event record of kind 1 with its bit number and die; a PRES_N shorted low reads as pressed, and a
fault of the seal loop breaks the seal. BYPASS, IDCODE and SAMPLE/PRELOAD work at any time: IDCODE reads bit 0 as 1, part 0xD080 and the low four bits of SILICON_REV,
its manufacturer's number being open; SAMPLE captures the pins, whose levels are open; PRELOAD loads the boundary register. EXTEST, CLAMP and HIGHZ take effect only
while PWROK is low, and then drive the boundary register, or nothing; otherwise they change nothing. That bit 0 of IDCODE reads 1 is IEEE 1149.1's rule (log 116).
Completes (a next state is the conclusion): `pinCheck`, `bypass`, `idcode`, `samplePreload`, `extest`, `clamp`, `highz`. -/
def Obligations.PinsAndTestPort : Prop :=
  (∀ (s : State) (w : Word),
    let m := w &&& 0x00FFFF1F#32
    let new (b : Nat) := b < 24 ∧ m.toNat.testBit b = true ∧ (s.rd R.secPinStat).toNat.testBit b = false
    s.clk.pwrok = true → ∃ t, exec (.pinCheck w) s = .next t ∧ t.rd R.secPinStat = m ∧ s.keepsRegsBut [R.secPinStat, R.secStat, R.wndMbxStat] t ∧
      ((∀ b, ¬ new b) → m.toNat.testBit 1 = false → s.onlyRegs [R.secPinStat, R.secStat] t) ∧
      (m.toNat.testBit 0 = false → m.toNat.testBit 1 = false → t.rd R.secStat = s.rd R.secStat) ∧
      (m.toNat.testBit 0 = true → t.bit F.secStat_PRES R.secStat = true) ∧
      (m.toNat.testBit 1 = true → t.bit F.secStat_SEAL_BROKEN R.secStat = true ∧ t.bit F.secStat_SEAL_OK R.secStat = false) ∧
      (∀ b, new b → (∀ k, new k → k = b) → s.eventQueued 1 (if 8 ≤ b then b % 8 else 0) b t)) ∧
  (∀ s : State, ∃ t, exec .bypass s = .next t ∧ t = { s with sec := { s.sec with jtag := 0 } }) ∧
  (∀ s : State, ∃ t b, exec .idcode s = .next t ∧ t = { s with sec := { s.sec with jtag := 1 }, posted := s.posted ++ [.reply 3 1 b] } ∧ b.length = 4 ∧
    numAt b 0 4 % 2 = 1 ∧ numAt b 0 4 / 2 ^ 12 % 2 ^ 16 = 0xD080 ∧ numAt b 0 4 / 2 ^ 28 = s.part.rev % 16) ∧
  (∀ s : State, ∃ t b, exec (.samplePreload none) s = .next t ∧
    t = { s with free := s.free + 1, sec := { s.sec with jtag := 2, boundary := b }, posted := s.posted ++ [.reply 3 2 b] }) ∧
  (∀ (s : State) (b : Bytes), ∃ t, exec (.samplePreload (some b)) s = .next t ∧ t = { s with sec := { s.sec with jtag := 2, boundary := b } }) ∧
  (∀ (s : State) (c : Instr), c = .extest ∨ c = .clamp ∨ c = .highz → s.clk.pwrok = true → exec c s = .next s) ∧
  (∀ (s : State) (c : Instr) (n : Nat), (c = .extest ∧ n = 3) ∨ (c = .clamp ∧ n = 4) ∨ (c = .highz ∧ n = 5) → s.clk.pwrok = false →
    ∃ t, exec c s = .next t ∧ t = { s with sec := { s.sec with jtag := n }, posted := s.posted ++ [.reply 3 n (if n = 5 then [] else s.sec.boundary)] })

/-- For every command and every state, a step of the state with the command at the front of its queue answers what the command does on the state with the rest of the
queue. On an empty queue the block idles. The queue, first in and first out, and the idle step are the model's own (log 1). -/
def Obligations.StepRunsTheFrontCommand : Prop :=
  (∀ (c : Instr) (rest : List Instr) (s : State), step { s with pending := c :: rest } = exec c { s with pending := rest }) ∧
  (∀ s : State, s.pending = [] → step s = .next s)

/-- After reset every register holds its reset value, nothing is resident, memory lists nothing, every channel set waits for its clear under the common key, configuration requests
are answered with Retry Status, nothing has left the package and no command waits; the invariant holds. HIF_PART_ID
reads as the part's, every MSH_ROUTE holds the route along the row first, every home index is served by its own slice, every engine is out of service, every hoop is off, no
stage of the boot has run, and CEIL_W is MAX_W. Serial number, silicon revision, ordering number and settings are one part's (log 2). -/
def Obligations.ResetState : Prop :=
  State.reset.Inv ∧ State.reset.pending = [] ∧ State.reset.posted = [] ∧ State.reset.mem.cells = [] ∧ State.reset.engs = [] ∧ State.reset.objs.ctxs = [] ∧
  State.reset.objs.queues = [] ∧ State.reset.txns = [] ∧ State.reset.cache.slices = [] ∧ State.reset.stage = 0 ∧
  State.reset.holdsNothing ∧ (∀ off, (∀ j, j < 16 → off ≠ R.memSetStat j) → State.reset.rd off = State.reset.resetReg off) ∧
  (∀ j, j < 16 → State.reset.fld F.memSetStat_OWNER (R.memSetStat j) = 31) ∧ State.reset.host.rrs = true ∧ State.reset.rd R.hifPartId = 0x0D080161#32 ∧
  (∀ d k, d < 8 → k < 8 → (State.reset.rd (R.mshRoute d)).toNat / 16 ^ k % 16 =
    (if k = d then 0 else if k % 4 < d % 4 then 1 else if d % 4 < k % 4 then 2 else 3)) ∧
  (∀ i, i < 256 → State.reset.physSlice i = 33 * (i / 32) + i % 32 ∧ State.reset.fld F.cshSliceMap_STATE (R.cshSliceMap i) = 0) ∧
  (∀ e, engineId e = true → State.reset.engState e = 0 ∧ State.reset.fld F.engFreq_FUSED_MHZ (R.engFreq e) = 1250) ∧
  (∀ h, h < 16 → State.reset.fld F.hoopStat_STATE (R.hoopStat h) = 0) ∧
  State.reset.fld F.pwrCeil_CEIL_W R.pwrCeil = 2000 ∧ State.reset.fld F.pwrCeil_MAX_W R.pwrCeil = 2000 ∧
  (∀ d, d < 8 → State.reset.baseLost d = false ∧ State.reset.computeLost d = false ∧ State.reset.count d = 0)

/-- From every state whose memory and tile stores list their bytes at strictly rising addresses, none of them zero, any step of any command leaves a state of which the same
holds. The canonical form is the model's own (log 3); the bytes it lists are those of the stacks, the toile and the tile stores. -/
def Obligations.InvariantKept : Prop := ∀ s t : State, s.Inv → step s = .next t → t.Inv

/-- A read of offset 0 of BAR0 of any function that is not being reset, while the register answers, returns HIF_PART_ID and changes nothing: part code 0x0D08, the silicon revision, 6 or 5 for the capacity of a
stack, and 1 or 2 for the variant, TDX8-1T or TDX8-H. What it is taken from, the part, is the same after every step of every command. -/
def Obligations.PartIdentityKept : Prop :=
  (∀ (s : State) (fn : Nat), s.inReset fn = false → s.regLive R.hifPartId = true → s.barRead fn 0 = (partId s.part, s)) ∧
  (∀ p : Part, Fget F.hifPartId_PART_CODE (partId p) = 0x0D08 ∧ Fget F.hifPartId_SILICON_REV (partId p) = p.rev % 256 ∧
    Fget F.hifPartId_STACK_LOG2 (partId p) = (if p.high then 5 else 6) ∧ Fget F.hifPartId_VARIANT (partId p) = (if p.high then 2 else 1)) ∧
  (∀ s t : State, step s = .next t → t.part = s.part)

/-- For 32 accumulator values and an anchor, packed as S2, S4 or S8: outside the case of an exponent above 127, a block that is not zero gets a multiplier of 1 to 255 and an exponent
of 8 bits, and each element is, with no clamp, the integer nearest to the value over the scale, the even one of two, and at most qmax in magnitude. In every case no element
passes qmax, so the most negative pattern is never written. A zero block gets multiplier 0. -/
def Obligations.ScaleFinderIsNearest : Prop :=
  ∀ (fmt : Nat) (a : Int) (vs : List Int), fmt ≤ 2 → vs.length = 32 → (∀ v ∈ vs, -(2 ^ 47) ≤ v ∧ v < 2 ^ 47) → -512 ≤ a → a ≤ 511 →
    let p := scaleFind fmt a vs
    p.q.length = 32 ∧ (∀ q ∈ p.q, q.natAbs ≤ fmtQmax fmt ∧ q ≠ -(2 ^ (fmtBits fmt - 1))) ∧
    ((∀ v ∈ vs, v = 0) → p.m = 0 ∧ p.clamp = false) ∧
    (p.clamp = true → p.e = 127 ∧ p.m = 255 ∧ ∃ v ∈ vs, (v.natAbs : ℚ) * 2 ^ a > 255 * fmtQmax fmt * 2 ^ (127 : Int)) ∧
    (p.clamp = false → (∃ v ∈ vs, v ≠ 0) → 1 ≤ p.m ∧ p.m ≤ 255 ∧ -128 ≤ p.e ∧ p.e ≤ 127 ∧ ∀ i, i < 32 →
      let x : ℚ := (vs.getD i 0 : ℚ) * 2 ^ a / ((p.m : ℚ) * 2 ^ p.e)
      let q := p.q.getD i 0
      |x - q| ≤ 1 / 2 ∧ (|x - q| = 1 / 2 → q % 2 = 0) ∧ q = rheShift (vs.getD i 0) a p.m p.e)

/-- A block, a scale word and an A48 slot read back as what was written, at every value of their fields. Rounding gives the nearest integer, the even one of two. Under AUTO no
shift is to the left. A zero block adds nothing; accumulation keeps 48-bit values at 48 bits, an accumulator's SAT bit stays set, and where no clamp meets a K block it adds exactly
the rounded product. A scaled add leaves an A48 slot with a value of 48 bits and an anchor that has not fallen and is at most 511, SAT never cleared, and an S16
element with 16 bits. -/
def Obligations.NumberFormats : Prop :=
  (∀ (fmt t : Nat) (qs : List Int), fmt ≤ 3 → qs.length = 32 → t < 32 →
    (∀ q ∈ qs, -(2 ^ (fmtBits fmt - 1)) ≤ q ∧ q < 2 ^ (fmtBits fmt - 1)) →
    blockElem fmt t (blockOf fmt qs) = qs.getD t 0 ∧ blockOf fmt qs < 2 ^ (32 * fmtBits fmt)) ∧
  (∀ (e : Int) (m : Nat), -128 ≤ e → e ≤ 127 → m < 256 → scaleE (scaleWord e m) = e ∧ scaleM (scaleWord e m) = m ∧ scaleWord e m < 2 ^ 16) ∧
  (∀ t : Slot, -(2 ^ 47) ≤ t.val → t.val < 2 ^ 47 → -512 ≤ t.anchor → t.anchor ≤ 511 → slotOf (slotWord t) = t ∧ slotWord t < 2 ^ 59) ∧
  (∀ (n : Int) (d : Nat), 0 < d → 2 * (n - d * rhe n d).natAbs ≤ d ∧ (2 * (n - d * rhe n d).natAbs = d → rhe n d % 2 = 0)) ∧
  (∀ (fa fb : Nat) (ws xs : List Nat) (w x : Nat), w ∈ ws → x ∈ xs → scaleM w ≠ 0 → scaleM x ≠ 0 → scaleE w + scaleE x ≤ autoAnchor fa fb ws xs) ∧
  (∀ (anchor : Int) (a : Acc) (k : KBlock), scaleM k.sw = 0 ∨ scaleM k.sx = 0 → accStep anchor a k = a) ∧
  (∀ (anchor : Int) (a : Acc) (ks : List KBlock), fits48 a.val = true →
    fits48 (accumulate anchor a ks).val = true ∧ (a.sat = true → (accumulate anchor a ks).sat = true)) ∧
  (∀ (anchor : Int) (a : Acc) (k : KBlock), scaleM k.sw ≠ 0 → scaleM k.sx ≠ 0 →
    let x := shiftRound (k.dot * (scaleM k.sw * scaleM k.sx : Nat)) (scaleE k.sw + scaleE k.sx - anchor)
    fits48 x = true → fits48 (a.val + x) = true → accStep anchor a k = { a with val := a.val + x }) ∧
  (∀ (c : Contribution) (g : Nat) (ef : Int) (t : Slot), fits48 t.val = true → -512 ≤ t.anchor → t.anchor ≤ 511 →
    (c.v * g).natAbs < 2 ^ 80 → c.a + ef - t.anchor ≤ 1500 →
    let u := saddA48 c g ef t
    fits48 u.val = true ∧ t.anchor ≤ u.anchor ∧ u.anchor ≤ 511 ∧ (t.sat = true → u.sat = true)) ∧
  (∀ (c : Contribution) (g : Nat) (ef et q : Int), -(2 ^ 15) ≤ q → q < 2 ^ 15 → -(2 ^ 15) ≤ (saddS16 c g ef et q).1 ∧ (saddS16 c g ef et q).1 < 2 ^ 15)
end

