-- ==== Sys2Proof/Laws/Bits.lean ====
section
/-!
SUPPORT. The laws of register fields and of the sparse maps.
-/
namespace Sys2Proof.Machine

/-- Bit `i` of a field's mask. -/
theorem Fmask_bit (f : Field) (i : Nat) (hi : i < 32) :
    (BitVec.ofNat 32 ((2 ^ f.len - 1) <<< f.lo)).getLsbD i = (decide (f.lo ≤ i) && decide (i - f.lo < f.len)) := by
  simp only [BitVec.getLsbD_ofNat, hi, decide_true, Bool.true_and, Nat.testBit_shiftLeft, Nat.testBit_two_pow_sub_one, ge_iff_le]

/-- Bit `i` of a register with one field replaced. -/
theorem Fset_bit (f : Field) (v : Nat) (w : Word) (i : Nat) (hi : i < 32) :
    (Fset f v w).getLsbD i = if f.lo ≤ i ∧ i - f.lo < f.len then v.testBit (i - f.lo) else w.getLsbD i := by
  unfold Fset
  rw [BitVec.getLsbD_or, BitVec.getLsbD_and, BitVec.getLsbD_not, Fmask_bit f i hi]
  simp only [BitVec.getLsbD_ofNat, hi, decide_true, Bool.true_and, Nat.testBit_shiftLeft, Nat.testBit_mod_two_pow, ge_iff_le]
  by_cases h1 : f.lo ≤ i <;> by_cases h2 : i - f.lo < f.len <;> simp [h1, h2]

/-- Bit `i` of a field. -/
theorem Fget_bit (f : Field) (w : Word) (i : Nat) :
    (Fget f w).testBit i = (decide (i < f.len) && w.getLsbD (f.lo + i)) := by
  simp only [Fget, Nat.testBit_mod_two_pow, Nat.testBit_shiftRight, BitVec.testBit_toNat]

/-- A field reads the value that it was given. -/
theorem Fget_Fset_same (f : Field) (v : Nat) (w : Word) (h : f.lo + f.len ≤ 32) : Fget f (Fset f v w) = v % 2 ^ f.len := by
  apply Nat.eq_of_testBit_eq
  intro i
  rw [Fget_bit, Nat.testBit_mod_two_pow]
  by_cases hi : i < f.len
  · rw [Fset_bit f v w (f.lo + i) (by omega), if_pos ⟨by omega, by omega⟩]
    simp [hi]
  · simp [hi]

/-- A field keeps its value where another that shares no bit with it is replaced. -/
theorem Fget_Fset_other (f g : Field) (v : Nat) (w : Word) (hg : g.lo + g.len ≤ 32)
    (h : f.lo + f.len ≤ g.lo ∨ g.lo + g.len ≤ f.lo) : Fget g (Fset f v w) = Fget g w := by
  apply Nat.eq_of_testBit_eq
  intro i
  rw [Fget_bit, Fget_bit]
  by_cases hi : i < g.len
  · rw [Fset_bit f v w (g.lo + i) (by omega), if_neg (by omega)]
  · simp [hi]

/-- A field is below 2 to the power of its width. -/
theorem Fget_lt (f : Field) (w : Word) : Fget f w < 2 ^ f.len := Nat.mod_lt _ (Nat.two_pow_pos _)

namespace SMapLaws

variable {V : Type}

@[simp] theorem get_put_same (m : SMap V) (k : Nat) (v : V) : SMap.get? (SMap.put m k v) k = some v := by
  induction m with
  | nil => simp [SMap.put, SMap.get?]
  | cons p r ih =>
    obtain ⟨j, u⟩ := p
    unfold SMap.put
    split
    · simp [SMap.get?]
    · split
      · simp [SMap.get?]
      · rename_i h2
        simp only [SMap.get?]
        rw [if_neg (fun h => h2 h.symm)]
        exact ih

@[simp] theorem get_put_other (m : SMap V) (k j : Nat) (v : V) (h : j ≠ k) : SMap.get? (SMap.put m k v) j = SMap.get? m j := by
  induction m with
  | nil => simp [SMap.put, SMap.get?, Ne.symm h]
  | cons p r ih =>
    obtain ⟨i, u⟩ := p
    unfold SMap.put
    split
    · simp [SMap.get?, Ne.symm h]
    · split
      · rename_i h2
        subst h2
        simp [SMap.get?, Ne.symm h]
      · simp only [SMap.get?]
        rw [ih]

theorem get_modify (m : SMap V) (k j : Nat) (f : V → V) :
    SMap.get? (SMap.modify m k f) j = if j = k then (SMap.get? m j).map f else SMap.get? m j := by
  induction m with
  | nil => simp [SMap.modify, SMap.get?]
  | cons p r ih =>
    obtain ⟨i, u⟩ := p
    have e : SMap.modify ((i, u) :: r) k f = (if i = k then (i, f u) else (i, u)) :: SMap.modify r k f := by
      simp [SMap.modify]
    rw [e]
    by_cases h : i = k
    · subst h
      simp only [if_true, SMap.get?]
      by_cases h2 : i = j
      · subst h2; simp
      · simp only [h2, if_false, ih, Ne.symm h2]
    · simp only [h, if_false, SMap.get?, ih]
      by_cases h2 : i = j
      · subst h2; simp [h]
      · simp [h2]

theorem get_del_same (m : SMap V) (k : Nat) : SMap.get? (SMap.del m k) k = none := by
  induction m with
  | nil => rfl
  | cons p r ih =>
    obtain ⟨i, u⟩ := p
    unfold SMap.del at *
    by_cases h : i = k
    · simp [h, ih]
    · simp only [List.filter_cons, bne_iff_ne, ne_eq, h, not_false_eq_true, if_true, SMap.get?, if_false, ih]

theorem get_del_other (m : SMap V) (k j : Nat) (h : j ≠ k) : SMap.get? (SMap.del m k) j = SMap.get? m j := by
  induction m with
  | nil => rfl
  | cons p r ih =>
    obtain ⟨i, u⟩ := p
    unfold SMap.del at *
    by_cases h2 : i = k
    · subst h2
      have h3 : ¬ i = j := fun e => h e.symm
      simp [SMap.get?, ih, h3]
    · simp only [List.filter_cons, bne_iff_ne, ne_eq, h2, not_false_eq_true, if_true, SMap.get?, ih]

theorem getD_upd_same (m : SMap V) (k : Nat) (d : V) (f : V → V) : SMap.getD (SMap.upd m k d f) k d = f (SMap.getD m k d) := by
  simp [SMap.upd, SMap.getD]

theorem getD_upd_other (m : SMap V) (k j : Nat) (d : V) (f : V → V) (h : j ≠ k) :
    SMap.getD (SMap.upd m k d f) j d = SMap.getD m j d := by
  simp [SMap.upd, SMap.getD, h]

end SMapLaws

end Sys2Proof.Machine
end

