-- ==== Sys2Proof/Laws/Memory.lean ====
section
/-!
SUPPORT. The canonical form of memory, and that every operation on its bytes keeps it; what a byte reads after a write.
-/
namespace Sys2Proof.Machine

/-- The canonical form, as a statement about every cell. -/
theorem wfCells_iff (m : List Host.Cell) :
    Memory.wfCells m = true ↔ m.Pairwise (fun c d => c.1 < d.1) ∧ ∀ c ∈ m, c.2 ≠ 0 := by
  induction m with
  | nil => simp [Memory.wfCells]
  | cons c r ih =>
    obtain ⟨a, v⟩ := c
    cases r with
    | nil => simp [Memory.wfCells]
    | cons d r =>
      obtain ⟨b, u⟩ := d
      simp only [Memory.wfCells, Bool.and_eq_true, bne_iff_ne, decide_eq_true_eq, ih]
      constructor
      · rintro ⟨⟨h1, h2⟩, h3, h4⟩
        refine ⟨List.pairwise_cons.2 ⟨?_, h3⟩, ?_⟩
        · intro x hx
          rcases List.mem_cons.1 hx with rfl | hx
          · exact h2
          · exact Nat.lt_trans h2 ((List.pairwise_cons.1 h3).1 x hx)
        · intro x hx
          rcases List.mem_cons.1 hx with rfl | hx
          · exact h1
          · exact h4 x hx
      · rintro ⟨h1, h2⟩
        exact ⟨⟨h2 _ (List.mem_cons_self ..), (List.pairwise_cons.1 h1).1 _ (List.mem_cons_self ..)⟩, (List.pairwise_cons.1 h1).2,
          fun x hx => h2 x (List.mem_cons_of_mem _ hx)⟩

/-- Cells taken out leave the canonical form. -/
theorem wfCells_sublist {m l : List Host.Cell} (h : m.Sublist l) (hw : Memory.wfCells l = true) : Memory.wfCells m = true := by
  rw [wfCells_iff] at *
  exact ⟨hw.1.sublist h, fun c hc => hw.2 c (h.subset hc)⟩

theorem wfCells_filter (m : List Host.Cell) (p : Host.Cell → Bool) (h : Memory.wfCells m = true) : Memory.wfCells (m.filter p) = true :=
  wfCells_sublist List.filter_sublist h

theorem wfCells_zero (m : List Host.Cell) (a n : Nat) (h : Memory.wfCells m = true) : Memory.wfCells (cellsZero m a n) = true :=
  wfCells_filter m _ h

/-- A cell of a memory after a write of one byte: the byte written, or a cell from before. -/
theorem mem_cellPut (m : List Host.Cell) (a : Nat) (v : Byte) (c : Host.Cell) (h : c ∈ cellPut m a v) : (c = (a, v) ∧ v ≠ 0) ∨ c ∈ m := by
  induction m with
  | nil =>
    simp only [cellPut] at h
    split at h
    · simp at h
    · simp only [List.mem_singleton] at h; exact .inl ⟨h, ‹_›⟩
  | cons d r ih =>
    obtain ⟨b, u⟩ := d
    simp only [cellPut] at h
    split at h
    · split at h
      · exact .inr h
      · rcases List.mem_cons.1 h with h | h
        · exact .inl ⟨h, ‹_›⟩
        · exact .inr h
    · split at h
      · split at h
        · exact .inr (List.mem_cons_of_mem _ h)
        · rcases List.mem_cons.1 h with h | h
          · exact .inl ⟨h, ‹_›⟩
          · exact .inr (List.mem_cons_of_mem _ h)
      · rcases List.mem_cons.1 h with h | h
        · exact .inr (h ▸ List.mem_cons_self ..)
        · rcases ih h with h | h
          · exact .inl h
          · exact .inr (List.mem_cons_of_mem _ h)

/-- A write of one byte keeps the canonical form. -/
theorem wfCells_cellPut (m : List Host.Cell) (a : Nat) (v : Byte) (h : Memory.wfCells m = true) : Memory.wfCells (cellPut m a v) = true := by
  rw [wfCells_iff] at *
  refine ⟨?_, fun c hc => ?_⟩
  · obtain ⟨h1, -⟩ := h
    induction m with
    | nil =>
      simp only [cellPut]
      split <;> simp
    | cons d r ih =>
      obtain ⟨b, u⟩ := d
      obtain ⟨h2, h3⟩ := List.pairwise_cons.1 h1
      simp only [cellPut]
      split
      · rename_i hab
        split
        · exact h1
        · refine List.pairwise_cons.2 ⟨?_, h1⟩
          intro x hx
          rcases List.mem_cons.1 hx with rfl | hx
          · exact hab
          · exact Nat.lt_trans hab (h2 x hx)
      · split
        · rename_i hab hEq
          subst hEq
          split
          · exact h3
          · exact List.pairwise_cons.2 ⟨h2, h3⟩
        · refine List.pairwise_cons.2 ⟨?_, ih h3⟩
          intro x hx
          rcases mem_cellPut r a v x hx with ⟨rfl, -⟩ | hx
          · show b < a
            omega
          · exact h2 x hx
  · rcases mem_cellPut m a v c hc with ⟨rfl, hv⟩ | hc
    · exact hv
    · exact h.2 c hc

theorem wfCells_cellsWrite (bs : Bytes) : ∀ (m : List Host.Cell) (a mask : Nat), Memory.wfCells m = true →
    Memory.wfCells (cellsWrite m a mask bs) = true := by
  induction bs with
  | nil => intro m a mask h; exact h
  | cons b bs ih =>
    intro m a mask h
    simp only [cellsWrite]
    apply ih
    split
    · exact wfCells_cellPut m a b h
    · exact h

theorem mem_cellsWrite (bs : Bytes) : ∀ (m : List Host.Cell) (a mask : Nat) (c : Host.Cell), c ∈ cellsWrite m a mask bs → a ≤ c.1 ∨ c ∈ m := by
  induction bs with
  | nil => intro m a mask c h; exact .inr h
  | cons b bs ih =>
    intro m a mask c h
    simp only [cellsWrite] at h
    rcases ih _ _ _ c h with h | h
    · exact .inl (by omega)
    · split at h
      · rcases mem_cellPut m a b c h with ⟨rfl, -⟩ | h
        · exact .inl (Nat.le_refl _)
        · exact .inr h
      · exact .inr h

/-- The cells from an address on. -/
theorem dropWhile_le (m : List Host.Cell) (a : Nat) (h : m.Pairwise (fun c d => c.1 < d.1)) :
    ∀ c ∈ m.dropWhile (fun c => decide (c.1 < a)), a ≤ c.1 := by
  induction m with
  | nil => simp
  | cons d r ih =>
    obtain ⟨h1, h2⟩ := List.pairwise_cons.1 h
    intro c hc
    simp only [List.dropWhile_cons] at hc
    split at hc
    · exact ih h2 c hc
    · rename_i hd
      simp only [decide_eq_true_eq, Nat.not_lt] at hd
      rcases List.mem_cons.1 hc with rfl | hc
      · exact hd
      · exact Nat.le_of_lt (Nat.lt_of_le_of_lt hd (h1 c hc))

theorem takeWhile_lt (m : List Host.Cell) (a : Nat) : ∀ c ∈ m.takeWhile (fun c => decide (c.1 < a)), c.1 < a := by
  intro c hc
  have := List.mem_takeWhile_imp hc
  simpa using this

/-- A masked write keeps the canonical form. -/
theorem wfCells_cellsMask (m : List Host.Cell) (a mask : Nat) (bs : Bytes) (h : Memory.wfCells m = true) :
    Memory.wfCells (cellsMask m a mask bs) = true := by
  have hd := wfCells_cellsWrite bs _ a mask (wfCells_sublist (List.dropWhile_sublist (fun c : Host.Cell => decide (c.1 < a))) h)
  have ht := wfCells_sublist (List.takeWhile_sublist (fun c : Host.Cell => decide (c.1 < a))) h
  have hp := (wfCells_iff m).1 h
  rw [wfCells_iff] at *
  refine ⟨List.pairwise_append.2 ⟨ht.1, hd.1, ?_⟩, ?_⟩
  · intro c hc d hd
    have h1 := takeWhile_lt m a c hc
    rcases mem_cellsWrite bs _ a mask d hd with h2 | h2
    · omega
    · exact Nat.lt_of_lt_of_le h1 (dropWhile_le m a hp.1 d h2)
  · intro c hc
    rcases List.mem_append.1 hc with hc | hc
    · exact ht.2 c hc
    · exact hd.2 c hc

theorem wfCells_cellsPut (m : List Host.Cell) (a : Nat) (bs : Bytes) (h : Memory.wfCells m = true) :
    Memory.wfCells (cellsPut m a bs) = true := wfCells_cellsMask m a _ bs h

/-! ### What a byte reads -/

theorem cellAt_none (m : List Host.Cell) (a : Nat) (h : ∀ c ∈ m, c.1 ≠ a) : cellAt m a = 0 := by
  induction m with
  | nil => rfl
  | cons d r ih =>
    obtain ⟨b, u⟩ := d
    simp only [cellAt]
    rw [if_neg (h (b, u) (List.mem_cons_self ..))]
    split
    · rfl
    · exact ih (fun c hc => h c (List.mem_cons_of_mem _ hc))

/-- A byte that has been written reads as written. -/
theorem cellAt_cellPut_same (m : List Host.Cell) (a : Nat) (v : Byte) (h : Memory.wfCells m = true) : cellAt (cellPut m a v) a = v := by
  rw [wfCells_iff] at h
  obtain ⟨h1, -⟩ := h
  induction m with
  | nil =>
    simp only [cellPut]
    split
    · rename_i hv; simp [cellAt, hv]
    · simp [cellAt]
  | cons d r ih =>
    obtain ⟨b, u⟩ := d
    obtain ⟨h2, h3⟩ := List.pairwise_cons.1 h1
    simp only [cellPut]
    split
    · rename_i hab
      split
      · rename_i hv
        subst hv
        simp only [cellAt]
        rw [if_neg (by omega), if_pos hab]
      · simp [cellAt]
    · split
      · rename_i hEq
        subst hEq
        split
        · rename_i hv
          subst hv
          exact cellAt_none r a (fun c hc => by have := h2 c hc; simp only at this; omega)
        · simp [cellAt]
      · simp only [cellAt]
        rw [if_neg (by omega), if_neg (by omega)]
        exact ih h3

/-- Every other byte reads as before. -/
theorem cellAt_cellPut_other (m : List Host.Cell) (a b : Nat) (v : Byte) (hab : b ≠ a) (h : Memory.wfCells m = true) :
    cellAt (cellPut m a v) b = cellAt m b := by
  rw [wfCells_iff] at h
  obtain ⟨h1, -⟩ := h
  induction m with
  | nil =>
    simp only [cellPut]
    split
    · rfl
    · simp [cellAt, Ne.symm hab]
  | cons d r ih =>
    obtain ⟨c, u⟩ := d
    obtain ⟨h2, h3⟩ := List.pairwise_cons.1 h1
    simp only [cellPut]
    split
    · rename_i hac
      split
      · rfl
      · rw [cellAt, if_neg (Ne.symm hab)]
        split
        · rename_i hba
          symm
          simp only [cellAt]
          rw [if_neg (by omega), if_pos (by omega)]
        · rfl
    · split
      · rename_i hEq
        subst hEq
        split
        · symm
          simp only [cellAt]
          rw [if_neg (Ne.symm hab)]
          split
          · rename_i hlt
            exact (cellAt_none r b (fun x hx => by have := h2 x hx; simp only at this; omega)).symm
          · rfl
        · simp [cellAt, Ne.symm hab]
      · simp only [cellAt]
        split
        · rfl
        · split
          · rfl
          · exact ih h3

end Sys2Proof.Machine
end

