-- ==== Sys2Proof/Laws/State.lean ====
section
/-!
SUPPORT. What each update of one part of the state leaves in every other part, one lemma for each field and each
update.
-/
namespace Sys2Proof.Machine

variable (s : State)

@[simp] theorem State.onRegs_part (f : SMap Word → SMap Word) : (s.onRegs f).part = s.part := rfl
@[simp] theorem State.onRegs_regs (f : SMap Word → SMap Word) : (s.onRegs f).regs = f s.regs := rfl
@[simp] theorem State.onRegs_hold (f : SMap Word → SMap Word) : (s.onRegs f).hold = s.hold := rfl
@[simp] theorem State.onRegs_capt (f : SMap Word → SMap Word) : (s.onRegs f).capt = s.capt := rfl
@[simp] theorem State.onRegs_mesh (f : SMap Word → SMap Word) : (s.onRegs f).mesh = s.mesh := rfl
@[simp] theorem State.onRegs_txns (f : SMap Word → SMap Word) : (s.onRegs f).txns = s.txns := rfl
@[simp] theorem State.onRegs_msgs (f : SMap Word → SMap Word) : (s.onRegs f).msgs = s.msgs := rfl
@[simp] theorem State.onRegs_nextId (f : SMap Word → SMap Word) : (s.onRegs f).nextId = s.nextId := rfl
@[simp] theorem State.onRegs_engs (f : SMap Word → SMap Word) : (s.onRegs f).engs = s.engs := rfl
@[simp] theorem State.onRegs_cache (f : SMap Word → SMap Word) : (s.onRegs f).cache = s.cache := rfl
@[simp] theorem State.onRegs_mem (f : SMap Word → SMap Word) : (s.onRegs f).mem = s.mem := rfl
@[simp] theorem State.onRegs_host (f : SMap Word → SMap Word) : (s.onRegs f).host = s.host := rfl
@[simp] theorem State.onRegs_objs (f : SMap Word → SMap Word) : (s.onRegs f).objs = s.objs := rfl
@[simp] theorem State.onRegs_sched (f : SMap Word → SMap Word) : (s.onRegs f).sched = s.sched := rfl
@[simp] theorem State.onRegs_pil (f : SMap Word → SMap Word) : (s.onRegs f).pil = s.pil := rfl
@[simp] theorem State.onRegs_shx (f : SMap Word → SMap Word) : (s.onRegs f).shx = s.shx := rfl
@[simp] theorem State.onRegs_gmp (f : SMap Word → SMap Word) : (s.onRegs f).gmp = s.gmp := rfl
@[simp] theorem State.onRegs_clk (f : SMap Word → SMap Word) : (s.onRegs f).clk = s.clk := rfl
@[simp] theorem State.onRegs_ras (f : SMap Word → SMap Word) : (s.onRegs f).ras = s.ras := rfl
@[simp] theorem State.onRegs_sec (f : SMap Word → SMap Word) : (s.onRegs f).sec = s.sec := rfl
@[simp] theorem State.onRegs_posted (f : SMap Word → SMap Word) : (s.onRegs f).posted = s.posted := rfl
@[simp] theorem State.onRegs_free (f : SMap Word → SMap Word) : (s.onRegs f).free = s.free := rfl
@[simp] theorem State.onRegs_pending (f : SMap Word → SMap Word) : (s.onRegs f).pending = s.pending := rfl
@[simp] theorem State.onHold_part (f : SMap Word → SMap Word) : (s.onHold f).part = s.part := rfl
@[simp] theorem State.onHold_regs (f : SMap Word → SMap Word) : (s.onHold f).regs = s.regs := rfl
@[simp] theorem State.onHold_hold (f : SMap Word → SMap Word) : (s.onHold f).hold = f s.hold := rfl
@[simp] theorem State.onHold_capt (f : SMap Word → SMap Word) : (s.onHold f).capt = s.capt := rfl
@[simp] theorem State.onHold_mesh (f : SMap Word → SMap Word) : (s.onHold f).mesh = s.mesh := rfl
@[simp] theorem State.onHold_txns (f : SMap Word → SMap Word) : (s.onHold f).txns = s.txns := rfl
@[simp] theorem State.onHold_msgs (f : SMap Word → SMap Word) : (s.onHold f).msgs = s.msgs := rfl
@[simp] theorem State.onHold_nextId (f : SMap Word → SMap Word) : (s.onHold f).nextId = s.nextId := rfl
@[simp] theorem State.onHold_engs (f : SMap Word → SMap Word) : (s.onHold f).engs = s.engs := rfl
@[simp] theorem State.onHold_cache (f : SMap Word → SMap Word) : (s.onHold f).cache = s.cache := rfl
@[simp] theorem State.onHold_mem (f : SMap Word → SMap Word) : (s.onHold f).mem = s.mem := rfl
@[simp] theorem State.onHold_host (f : SMap Word → SMap Word) : (s.onHold f).host = s.host := rfl
@[simp] theorem State.onHold_objs (f : SMap Word → SMap Word) : (s.onHold f).objs = s.objs := rfl
@[simp] theorem State.onHold_sched (f : SMap Word → SMap Word) : (s.onHold f).sched = s.sched := rfl
@[simp] theorem State.onHold_pil (f : SMap Word → SMap Word) : (s.onHold f).pil = s.pil := rfl
@[simp] theorem State.onHold_shx (f : SMap Word → SMap Word) : (s.onHold f).shx = s.shx := rfl
@[simp] theorem State.onHold_gmp (f : SMap Word → SMap Word) : (s.onHold f).gmp = s.gmp := rfl
@[simp] theorem State.onHold_clk (f : SMap Word → SMap Word) : (s.onHold f).clk = s.clk := rfl
@[simp] theorem State.onHold_ras (f : SMap Word → SMap Word) : (s.onHold f).ras = s.ras := rfl
@[simp] theorem State.onHold_sec (f : SMap Word → SMap Word) : (s.onHold f).sec = s.sec := rfl
@[simp] theorem State.onHold_posted (f : SMap Word → SMap Word) : (s.onHold f).posted = s.posted := rfl
@[simp] theorem State.onHold_free (f : SMap Word → SMap Word) : (s.onHold f).free = s.free := rfl
@[simp] theorem State.onHold_pending (f : SMap Word → SMap Word) : (s.onHold f).pending = s.pending := rfl
@[simp] theorem State.onCapt_part (f : SMap Word → SMap Word) : (s.onCapt f).part = s.part := rfl
@[simp] theorem State.onCapt_regs (f : SMap Word → SMap Word) : (s.onCapt f).regs = s.regs := rfl
@[simp] theorem State.onCapt_hold (f : SMap Word → SMap Word) : (s.onCapt f).hold = s.hold := rfl
@[simp] theorem State.onCapt_capt (f : SMap Word → SMap Word) : (s.onCapt f).capt = f s.capt := rfl
@[simp] theorem State.onCapt_mesh (f : SMap Word → SMap Word) : (s.onCapt f).mesh = s.mesh := rfl
@[simp] theorem State.onCapt_txns (f : SMap Word → SMap Word) : (s.onCapt f).txns = s.txns := rfl
@[simp] theorem State.onCapt_msgs (f : SMap Word → SMap Word) : (s.onCapt f).msgs = s.msgs := rfl
@[simp] theorem State.onCapt_nextId (f : SMap Word → SMap Word) : (s.onCapt f).nextId = s.nextId := rfl
@[simp] theorem State.onCapt_engs (f : SMap Word → SMap Word) : (s.onCapt f).engs = s.engs := rfl
@[simp] theorem State.onCapt_cache (f : SMap Word → SMap Word) : (s.onCapt f).cache = s.cache := rfl
@[simp] theorem State.onCapt_mem (f : SMap Word → SMap Word) : (s.onCapt f).mem = s.mem := rfl
@[simp] theorem State.onCapt_host (f : SMap Word → SMap Word) : (s.onCapt f).host = s.host := rfl
@[simp] theorem State.onCapt_objs (f : SMap Word → SMap Word) : (s.onCapt f).objs = s.objs := rfl
@[simp] theorem State.onCapt_sched (f : SMap Word → SMap Word) : (s.onCapt f).sched = s.sched := rfl
@[simp] theorem State.onCapt_pil (f : SMap Word → SMap Word) : (s.onCapt f).pil = s.pil := rfl
@[simp] theorem State.onCapt_shx (f : SMap Word → SMap Word) : (s.onCapt f).shx = s.shx := rfl
@[simp] theorem State.onCapt_gmp (f : SMap Word → SMap Word) : (s.onCapt f).gmp = s.gmp := rfl
@[simp] theorem State.onCapt_clk (f : SMap Word → SMap Word) : (s.onCapt f).clk = s.clk := rfl
@[simp] theorem State.onCapt_ras (f : SMap Word → SMap Word) : (s.onCapt f).ras = s.ras := rfl
@[simp] theorem State.onCapt_sec (f : SMap Word → SMap Word) : (s.onCapt f).sec = s.sec := rfl
@[simp] theorem State.onCapt_posted (f : SMap Word → SMap Word) : (s.onCapt f).posted = s.posted := rfl
@[simp] theorem State.onCapt_free (f : SMap Word → SMap Word) : (s.onCapt f).free = s.free := rfl
@[simp] theorem State.onCapt_pending (f : SMap Word → SMap Word) : (s.onCapt f).pending = s.pending := rfl
@[simp] theorem State.onMesh_part (f : Mesh → Mesh) : (s.onMesh f).part = s.part := rfl
@[simp] theorem State.onMesh_regs (f : Mesh → Mesh) : (s.onMesh f).regs = s.regs := rfl
@[simp] theorem State.onMesh_hold (f : Mesh → Mesh) : (s.onMesh f).hold = s.hold := rfl
@[simp] theorem State.onMesh_capt (f : Mesh → Mesh) : (s.onMesh f).capt = s.capt := rfl
@[simp] theorem State.onMesh_mesh (f : Mesh → Mesh) : (s.onMesh f).mesh = f s.mesh := rfl
@[simp] theorem State.onMesh_txns (f : Mesh → Mesh) : (s.onMesh f).txns = s.txns := rfl
@[simp] theorem State.onMesh_msgs (f : Mesh → Mesh) : (s.onMesh f).msgs = s.msgs := rfl
@[simp] theorem State.onMesh_nextId (f : Mesh → Mesh) : (s.onMesh f).nextId = s.nextId := rfl
@[simp] theorem State.onMesh_engs (f : Mesh → Mesh) : (s.onMesh f).engs = s.engs := rfl
@[simp] theorem State.onMesh_cache (f : Mesh → Mesh) : (s.onMesh f).cache = s.cache := rfl
@[simp] theorem State.onMesh_mem (f : Mesh → Mesh) : (s.onMesh f).mem = s.mem := rfl
@[simp] theorem State.onMesh_host (f : Mesh → Mesh) : (s.onMesh f).host = s.host := rfl
@[simp] theorem State.onMesh_objs (f : Mesh → Mesh) : (s.onMesh f).objs = s.objs := rfl
@[simp] theorem State.onMesh_sched (f : Mesh → Mesh) : (s.onMesh f).sched = s.sched := rfl
@[simp] theorem State.onMesh_pil (f : Mesh → Mesh) : (s.onMesh f).pil = s.pil := rfl
@[simp] theorem State.onMesh_shx (f : Mesh → Mesh) : (s.onMesh f).shx = s.shx := rfl
@[simp] theorem State.onMesh_gmp (f : Mesh → Mesh) : (s.onMesh f).gmp = s.gmp := rfl
@[simp] theorem State.onMesh_clk (f : Mesh → Mesh) : (s.onMesh f).clk = s.clk := rfl
@[simp] theorem State.onMesh_ras (f : Mesh → Mesh) : (s.onMesh f).ras = s.ras := rfl
@[simp] theorem State.onMesh_sec (f : Mesh → Mesh) : (s.onMesh f).sec = s.sec := rfl
@[simp] theorem State.onMesh_posted (f : Mesh → Mesh) : (s.onMesh f).posted = s.posted := rfl
@[simp] theorem State.onMesh_free (f : Mesh → Mesh) : (s.onMesh f).free = s.free := rfl
@[simp] theorem State.onMesh_pending (f : Mesh → Mesh) : (s.onMesh f).pending = s.pending := rfl
@[simp] theorem State.onTxns_part (f : SMap Txn → SMap Txn) : (s.onTxns f).part = s.part := rfl
@[simp] theorem State.onTxns_regs (f : SMap Txn → SMap Txn) : (s.onTxns f).regs = s.regs := rfl
@[simp] theorem State.onTxns_hold (f : SMap Txn → SMap Txn) : (s.onTxns f).hold = s.hold := rfl
@[simp] theorem State.onTxns_capt (f : SMap Txn → SMap Txn) : (s.onTxns f).capt = s.capt := rfl
@[simp] theorem State.onTxns_mesh (f : SMap Txn → SMap Txn) : (s.onTxns f).mesh = s.mesh := rfl
@[simp] theorem State.onTxns_txns (f : SMap Txn → SMap Txn) : (s.onTxns f).txns = f s.txns := rfl
@[simp] theorem State.onTxns_msgs (f : SMap Txn → SMap Txn) : (s.onTxns f).msgs = s.msgs := rfl
@[simp] theorem State.onTxns_nextId (f : SMap Txn → SMap Txn) : (s.onTxns f).nextId = s.nextId := rfl
@[simp] theorem State.onTxns_engs (f : SMap Txn → SMap Txn) : (s.onTxns f).engs = s.engs := rfl
@[simp] theorem State.onTxns_cache (f : SMap Txn → SMap Txn) : (s.onTxns f).cache = s.cache := rfl
@[simp] theorem State.onTxns_mem (f : SMap Txn → SMap Txn) : (s.onTxns f).mem = s.mem := rfl
@[simp] theorem State.onTxns_host (f : SMap Txn → SMap Txn) : (s.onTxns f).host = s.host := rfl
@[simp] theorem State.onTxns_objs (f : SMap Txn → SMap Txn) : (s.onTxns f).objs = s.objs := rfl
@[simp] theorem State.onTxns_sched (f : SMap Txn → SMap Txn) : (s.onTxns f).sched = s.sched := rfl
@[simp] theorem State.onTxns_pil (f : SMap Txn → SMap Txn) : (s.onTxns f).pil = s.pil := rfl
@[simp] theorem State.onTxns_shx (f : SMap Txn → SMap Txn) : (s.onTxns f).shx = s.shx := rfl
@[simp] theorem State.onTxns_gmp (f : SMap Txn → SMap Txn) : (s.onTxns f).gmp = s.gmp := rfl
@[simp] theorem State.onTxns_clk (f : SMap Txn → SMap Txn) : (s.onTxns f).clk = s.clk := rfl
@[simp] theorem State.onTxns_ras (f : SMap Txn → SMap Txn) : (s.onTxns f).ras = s.ras := rfl
@[simp] theorem State.onTxns_sec (f : SMap Txn → SMap Txn) : (s.onTxns f).sec = s.sec := rfl
@[simp] theorem State.onTxns_posted (f : SMap Txn → SMap Txn) : (s.onTxns f).posted = s.posted := rfl
@[simp] theorem State.onTxns_free (f : SMap Txn → SMap Txn) : (s.onTxns f).free = s.free := rfl
@[simp] theorem State.onTxns_pending (f : SMap Txn → SMap Txn) : (s.onTxns f).pending = s.pending := rfl
@[simp] theorem State.onMsgs_part (f : SMap Msg → SMap Msg) : (s.onMsgs f).part = s.part := rfl
@[simp] theorem State.onMsgs_regs (f : SMap Msg → SMap Msg) : (s.onMsgs f).regs = s.regs := rfl
@[simp] theorem State.onMsgs_hold (f : SMap Msg → SMap Msg) : (s.onMsgs f).hold = s.hold := rfl
@[simp] theorem State.onMsgs_capt (f : SMap Msg → SMap Msg) : (s.onMsgs f).capt = s.capt := rfl
@[simp] theorem State.onMsgs_mesh (f : SMap Msg → SMap Msg) : (s.onMsgs f).mesh = s.mesh := rfl
@[simp] theorem State.onMsgs_txns (f : SMap Msg → SMap Msg) : (s.onMsgs f).txns = s.txns := rfl
@[simp] theorem State.onMsgs_msgs (f : SMap Msg → SMap Msg) : (s.onMsgs f).msgs = f s.msgs := rfl
@[simp] theorem State.onMsgs_nextId (f : SMap Msg → SMap Msg) : (s.onMsgs f).nextId = s.nextId := rfl
@[simp] theorem State.onMsgs_engs (f : SMap Msg → SMap Msg) : (s.onMsgs f).engs = s.engs := rfl
@[simp] theorem State.onMsgs_cache (f : SMap Msg → SMap Msg) : (s.onMsgs f).cache = s.cache := rfl
@[simp] theorem State.onMsgs_mem (f : SMap Msg → SMap Msg) : (s.onMsgs f).mem = s.mem := rfl
@[simp] theorem State.onMsgs_host (f : SMap Msg → SMap Msg) : (s.onMsgs f).host = s.host := rfl
@[simp] theorem State.onMsgs_objs (f : SMap Msg → SMap Msg) : (s.onMsgs f).objs = s.objs := rfl
@[simp] theorem State.onMsgs_sched (f : SMap Msg → SMap Msg) : (s.onMsgs f).sched = s.sched := rfl
@[simp] theorem State.onMsgs_pil (f : SMap Msg → SMap Msg) : (s.onMsgs f).pil = s.pil := rfl
@[simp] theorem State.onMsgs_shx (f : SMap Msg → SMap Msg) : (s.onMsgs f).shx = s.shx := rfl
@[simp] theorem State.onMsgs_gmp (f : SMap Msg → SMap Msg) : (s.onMsgs f).gmp = s.gmp := rfl
@[simp] theorem State.onMsgs_clk (f : SMap Msg → SMap Msg) : (s.onMsgs f).clk = s.clk := rfl
@[simp] theorem State.onMsgs_ras (f : SMap Msg → SMap Msg) : (s.onMsgs f).ras = s.ras := rfl
@[simp] theorem State.onMsgs_sec (f : SMap Msg → SMap Msg) : (s.onMsgs f).sec = s.sec := rfl
@[simp] theorem State.onMsgs_posted (f : SMap Msg → SMap Msg) : (s.onMsgs f).posted = s.posted := rfl
@[simp] theorem State.onMsgs_free (f : SMap Msg → SMap Msg) : (s.onMsgs f).free = s.free := rfl
@[simp] theorem State.onMsgs_pending (f : SMap Msg → SMap Msg) : (s.onMsgs f).pending = s.pending := rfl
@[simp] theorem State.onEngs_part (f : SMap Engine → SMap Engine) : (s.onEngs f).part = s.part := rfl
@[simp] theorem State.onEngs_regs (f : SMap Engine → SMap Engine) : (s.onEngs f).regs = s.regs := rfl
@[simp] theorem State.onEngs_hold (f : SMap Engine → SMap Engine) : (s.onEngs f).hold = s.hold := rfl
@[simp] theorem State.onEngs_capt (f : SMap Engine → SMap Engine) : (s.onEngs f).capt = s.capt := rfl
@[simp] theorem State.onEngs_mesh (f : SMap Engine → SMap Engine) : (s.onEngs f).mesh = s.mesh := rfl
@[simp] theorem State.onEngs_txns (f : SMap Engine → SMap Engine) : (s.onEngs f).txns = s.txns := rfl
@[simp] theorem State.onEngs_msgs (f : SMap Engine → SMap Engine) : (s.onEngs f).msgs = s.msgs := rfl
@[simp] theorem State.onEngs_nextId (f : SMap Engine → SMap Engine) : (s.onEngs f).nextId = s.nextId := rfl
@[simp] theorem State.onEngs_engs (f : SMap Engine → SMap Engine) : (s.onEngs f).engs = f s.engs := rfl
@[simp] theorem State.onEngs_cache (f : SMap Engine → SMap Engine) : (s.onEngs f).cache = s.cache := rfl
@[simp] theorem State.onEngs_mem (f : SMap Engine → SMap Engine) : (s.onEngs f).mem = s.mem := rfl
@[simp] theorem State.onEngs_host (f : SMap Engine → SMap Engine) : (s.onEngs f).host = s.host := rfl
@[simp] theorem State.onEngs_objs (f : SMap Engine → SMap Engine) : (s.onEngs f).objs = s.objs := rfl
@[simp] theorem State.onEngs_sched (f : SMap Engine → SMap Engine) : (s.onEngs f).sched = s.sched := rfl
@[simp] theorem State.onEngs_pil (f : SMap Engine → SMap Engine) : (s.onEngs f).pil = s.pil := rfl
@[simp] theorem State.onEngs_shx (f : SMap Engine → SMap Engine) : (s.onEngs f).shx = s.shx := rfl
@[simp] theorem State.onEngs_gmp (f : SMap Engine → SMap Engine) : (s.onEngs f).gmp = s.gmp := rfl
@[simp] theorem State.onEngs_clk (f : SMap Engine → SMap Engine) : (s.onEngs f).clk = s.clk := rfl
@[simp] theorem State.onEngs_ras (f : SMap Engine → SMap Engine) : (s.onEngs f).ras = s.ras := rfl
@[simp] theorem State.onEngs_sec (f : SMap Engine → SMap Engine) : (s.onEngs f).sec = s.sec := rfl
@[simp] theorem State.onEngs_posted (f : SMap Engine → SMap Engine) : (s.onEngs f).posted = s.posted := rfl
@[simp] theorem State.onEngs_free (f : SMap Engine → SMap Engine) : (s.onEngs f).free = s.free := rfl
@[simp] theorem State.onEngs_pending (f : SMap Engine → SMap Engine) : (s.onEngs f).pending = s.pending := rfl
@[simp] theorem State.onCache_part (f : Cache → Cache) : (s.onCache f).part = s.part := rfl
@[simp] theorem State.onCache_regs (f : Cache → Cache) : (s.onCache f).regs = s.regs := rfl
@[simp] theorem State.onCache_hold (f : Cache → Cache) : (s.onCache f).hold = s.hold := rfl
@[simp] theorem State.onCache_capt (f : Cache → Cache) : (s.onCache f).capt = s.capt := rfl
@[simp] theorem State.onCache_mesh (f : Cache → Cache) : (s.onCache f).mesh = s.mesh := rfl
@[simp] theorem State.onCache_txns (f : Cache → Cache) : (s.onCache f).txns = s.txns := rfl
@[simp] theorem State.onCache_msgs (f : Cache → Cache) : (s.onCache f).msgs = s.msgs := rfl
@[simp] theorem State.onCache_nextId (f : Cache → Cache) : (s.onCache f).nextId = s.nextId := rfl
@[simp] theorem State.onCache_engs (f : Cache → Cache) : (s.onCache f).engs = s.engs := rfl
@[simp] theorem State.onCache_cache (f : Cache → Cache) : (s.onCache f).cache = f s.cache := rfl
@[simp] theorem State.onCache_mem (f : Cache → Cache) : (s.onCache f).mem = s.mem := rfl
@[simp] theorem State.onCache_host (f : Cache → Cache) : (s.onCache f).host = s.host := rfl
@[simp] theorem State.onCache_objs (f : Cache → Cache) : (s.onCache f).objs = s.objs := rfl
@[simp] theorem State.onCache_sched (f : Cache → Cache) : (s.onCache f).sched = s.sched := rfl
@[simp] theorem State.onCache_pil (f : Cache → Cache) : (s.onCache f).pil = s.pil := rfl
@[simp] theorem State.onCache_shx (f : Cache → Cache) : (s.onCache f).shx = s.shx := rfl
@[simp] theorem State.onCache_gmp (f : Cache → Cache) : (s.onCache f).gmp = s.gmp := rfl
@[simp] theorem State.onCache_clk (f : Cache → Cache) : (s.onCache f).clk = s.clk := rfl
@[simp] theorem State.onCache_ras (f : Cache → Cache) : (s.onCache f).ras = s.ras := rfl
@[simp] theorem State.onCache_sec (f : Cache → Cache) : (s.onCache f).sec = s.sec := rfl
@[simp] theorem State.onCache_posted (f : Cache → Cache) : (s.onCache f).posted = s.posted := rfl
@[simp] theorem State.onCache_free (f : Cache → Cache) : (s.onCache f).free = s.free := rfl
@[simp] theorem State.onCache_pending (f : Cache → Cache) : (s.onCache f).pending = s.pending := rfl
@[simp] theorem State.onMem_part (f : Memory → Memory) : (s.onMem f).part = s.part := rfl
@[simp] theorem State.onMem_regs (f : Memory → Memory) : (s.onMem f).regs = s.regs := rfl
@[simp] theorem State.onMem_hold (f : Memory → Memory) : (s.onMem f).hold = s.hold := rfl
@[simp] theorem State.onMem_capt (f : Memory → Memory) : (s.onMem f).capt = s.capt := rfl
@[simp] theorem State.onMem_mesh (f : Memory → Memory) : (s.onMem f).mesh = s.mesh := rfl
@[simp] theorem State.onMem_txns (f : Memory → Memory) : (s.onMem f).txns = s.txns := rfl
@[simp] theorem State.onMem_msgs (f : Memory → Memory) : (s.onMem f).msgs = s.msgs := rfl
@[simp] theorem State.onMem_nextId (f : Memory → Memory) : (s.onMem f).nextId = s.nextId := rfl
@[simp] theorem State.onMem_engs (f : Memory → Memory) : (s.onMem f).engs = s.engs := rfl
@[simp] theorem State.onMem_cache (f : Memory → Memory) : (s.onMem f).cache = s.cache := rfl
@[simp] theorem State.onMem_mem (f : Memory → Memory) : (s.onMem f).mem = f s.mem := rfl
@[simp] theorem State.onMem_host (f : Memory → Memory) : (s.onMem f).host = s.host := rfl
@[simp] theorem State.onMem_objs (f : Memory → Memory) : (s.onMem f).objs = s.objs := rfl
@[simp] theorem State.onMem_sched (f : Memory → Memory) : (s.onMem f).sched = s.sched := rfl
@[simp] theorem State.onMem_pil (f : Memory → Memory) : (s.onMem f).pil = s.pil := rfl
@[simp] theorem State.onMem_shx (f : Memory → Memory) : (s.onMem f).shx = s.shx := rfl
@[simp] theorem State.onMem_gmp (f : Memory → Memory) : (s.onMem f).gmp = s.gmp := rfl
@[simp] theorem State.onMem_clk (f : Memory → Memory) : (s.onMem f).clk = s.clk := rfl
@[simp] theorem State.onMem_ras (f : Memory → Memory) : (s.onMem f).ras = s.ras := rfl
@[simp] theorem State.onMem_sec (f : Memory → Memory) : (s.onMem f).sec = s.sec := rfl
@[simp] theorem State.onMem_posted (f : Memory → Memory) : (s.onMem f).posted = s.posted := rfl
@[simp] theorem State.onMem_free (f : Memory → Memory) : (s.onMem f).free = s.free := rfl
@[simp] theorem State.onMem_pending (f : Memory → Memory) : (s.onMem f).pending = s.pending := rfl
@[simp] theorem State.onHost_part (f : HostIf → HostIf) : (s.onHost f).part = s.part := rfl
@[simp] theorem State.onHost_regs (f : HostIf → HostIf) : (s.onHost f).regs = s.regs := rfl
@[simp] theorem State.onHost_hold (f : HostIf → HostIf) : (s.onHost f).hold = s.hold := rfl
@[simp] theorem State.onHost_capt (f : HostIf → HostIf) : (s.onHost f).capt = s.capt := rfl
@[simp] theorem State.onHost_mesh (f : HostIf → HostIf) : (s.onHost f).mesh = s.mesh := rfl
@[simp] theorem State.onHost_txns (f : HostIf → HostIf) : (s.onHost f).txns = s.txns := rfl
@[simp] theorem State.onHost_msgs (f : HostIf → HostIf) : (s.onHost f).msgs = s.msgs := rfl
@[simp] theorem State.onHost_nextId (f : HostIf → HostIf) : (s.onHost f).nextId = s.nextId := rfl
@[simp] theorem State.onHost_engs (f : HostIf → HostIf) : (s.onHost f).engs = s.engs := rfl
@[simp] theorem State.onHost_cache (f : HostIf → HostIf) : (s.onHost f).cache = s.cache := rfl
@[simp] theorem State.onHost_mem (f : HostIf → HostIf) : (s.onHost f).mem = s.mem := rfl
@[simp] theorem State.onHost_host (f : HostIf → HostIf) : (s.onHost f).host = f s.host := rfl
@[simp] theorem State.onHost_objs (f : HostIf → HostIf) : (s.onHost f).objs = s.objs := rfl
@[simp] theorem State.onHost_sched (f : HostIf → HostIf) : (s.onHost f).sched = s.sched := rfl
@[simp] theorem State.onHost_pil (f : HostIf → HostIf) : (s.onHost f).pil = s.pil := rfl
@[simp] theorem State.onHost_shx (f : HostIf → HostIf) : (s.onHost f).shx = s.shx := rfl
@[simp] theorem State.onHost_gmp (f : HostIf → HostIf) : (s.onHost f).gmp = s.gmp := rfl
@[simp] theorem State.onHost_clk (f : HostIf → HostIf) : (s.onHost f).clk = s.clk := rfl
@[simp] theorem State.onHost_ras (f : HostIf → HostIf) : (s.onHost f).ras = s.ras := rfl
@[simp] theorem State.onHost_sec (f : HostIf → HostIf) : (s.onHost f).sec = s.sec := rfl
@[simp] theorem State.onHost_posted (f : HostIf → HostIf) : (s.onHost f).posted = s.posted := rfl
@[simp] theorem State.onHost_free (f : HostIf → HostIf) : (s.onHost f).free = s.free := rfl
@[simp] theorem State.onHost_pending (f : HostIf → HostIf) : (s.onHost f).pending = s.pending := rfl
@[simp] theorem State.onObjs_part (f : Objects → Objects) : (s.onObjs f).part = s.part := rfl
@[simp] theorem State.onObjs_regs (f : Objects → Objects) : (s.onObjs f).regs = s.regs := rfl
@[simp] theorem State.onObjs_hold (f : Objects → Objects) : (s.onObjs f).hold = s.hold := rfl
@[simp] theorem State.onObjs_capt (f : Objects → Objects) : (s.onObjs f).capt = s.capt := rfl
@[simp] theorem State.onObjs_mesh (f : Objects → Objects) : (s.onObjs f).mesh = s.mesh := rfl
@[simp] theorem State.onObjs_txns (f : Objects → Objects) : (s.onObjs f).txns = s.txns := rfl
@[simp] theorem State.onObjs_msgs (f : Objects → Objects) : (s.onObjs f).msgs = s.msgs := rfl
@[simp] theorem State.onObjs_nextId (f : Objects → Objects) : (s.onObjs f).nextId = s.nextId := rfl
@[simp] theorem State.onObjs_engs (f : Objects → Objects) : (s.onObjs f).engs = s.engs := rfl
@[simp] theorem State.onObjs_cache (f : Objects → Objects) : (s.onObjs f).cache = s.cache := rfl
@[simp] theorem State.onObjs_mem (f : Objects → Objects) : (s.onObjs f).mem = s.mem := rfl
@[simp] theorem State.onObjs_host (f : Objects → Objects) : (s.onObjs f).host = s.host := rfl
@[simp] theorem State.onObjs_objs (f : Objects → Objects) : (s.onObjs f).objs = f s.objs := rfl
@[simp] theorem State.onObjs_sched (f : Objects → Objects) : (s.onObjs f).sched = s.sched := rfl
@[simp] theorem State.onObjs_pil (f : Objects → Objects) : (s.onObjs f).pil = s.pil := rfl
@[simp] theorem State.onObjs_shx (f : Objects → Objects) : (s.onObjs f).shx = s.shx := rfl
@[simp] theorem State.onObjs_gmp (f : Objects → Objects) : (s.onObjs f).gmp = s.gmp := rfl
@[simp] theorem State.onObjs_clk (f : Objects → Objects) : (s.onObjs f).clk = s.clk := rfl
@[simp] theorem State.onObjs_ras (f : Objects → Objects) : (s.onObjs f).ras = s.ras := rfl
@[simp] theorem State.onObjs_sec (f : Objects → Objects) : (s.onObjs f).sec = s.sec := rfl
@[simp] theorem State.onObjs_posted (f : Objects → Objects) : (s.onObjs f).posted = s.posted := rfl
@[simp] theorem State.onObjs_free (f : Objects → Objects) : (s.onObjs f).free = s.free := rfl
@[simp] theorem State.onObjs_pending (f : Objects → Objects) : (s.onObjs f).pending = s.pending := rfl
@[simp] theorem State.onSched_part (f : Sched → Sched) : (s.onSched f).part = s.part := rfl
@[simp] theorem State.onSched_regs (f : Sched → Sched) : (s.onSched f).regs = s.regs := rfl
@[simp] theorem State.onSched_hold (f : Sched → Sched) : (s.onSched f).hold = s.hold := rfl
@[simp] theorem State.onSched_capt (f : Sched → Sched) : (s.onSched f).capt = s.capt := rfl
@[simp] theorem State.onSched_mesh (f : Sched → Sched) : (s.onSched f).mesh = s.mesh := rfl
@[simp] theorem State.onSched_txns (f : Sched → Sched) : (s.onSched f).txns = s.txns := rfl
@[simp] theorem State.onSched_msgs (f : Sched → Sched) : (s.onSched f).msgs = s.msgs := rfl
@[simp] theorem State.onSched_nextId (f : Sched → Sched) : (s.onSched f).nextId = s.nextId := rfl
@[simp] theorem State.onSched_engs (f : Sched → Sched) : (s.onSched f).engs = s.engs := rfl
@[simp] theorem State.onSched_cache (f : Sched → Sched) : (s.onSched f).cache = s.cache := rfl
@[simp] theorem State.onSched_mem (f : Sched → Sched) : (s.onSched f).mem = s.mem := rfl
@[simp] theorem State.onSched_host (f : Sched → Sched) : (s.onSched f).host = s.host := rfl
@[simp] theorem State.onSched_objs (f : Sched → Sched) : (s.onSched f).objs = s.objs := rfl
@[simp] theorem State.onSched_sched (f : Sched → Sched) : (s.onSched f).sched = f s.sched := rfl
@[simp] theorem State.onSched_pil (f : Sched → Sched) : (s.onSched f).pil = s.pil := rfl
@[simp] theorem State.onSched_shx (f : Sched → Sched) : (s.onSched f).shx = s.shx := rfl
@[simp] theorem State.onSched_gmp (f : Sched → Sched) : (s.onSched f).gmp = s.gmp := rfl
@[simp] theorem State.onSched_clk (f : Sched → Sched) : (s.onSched f).clk = s.clk := rfl
@[simp] theorem State.onSched_ras (f : Sched → Sched) : (s.onSched f).ras = s.ras := rfl
@[simp] theorem State.onSched_sec (f : Sched → Sched) : (s.onSched f).sec = s.sec := rfl
@[simp] theorem State.onSched_posted (f : Sched → Sched) : (s.onSched f).posted = s.posted := rfl
@[simp] theorem State.onSched_free (f : Sched → Sched) : (s.onSched f).free = s.free := rfl
@[simp] theorem State.onSched_pending (f : Sched → Sched) : (s.onSched f).pending = s.pending := rfl
@[simp] theorem State.onPil_part (f : Pillow → Pillow) : (s.onPil f).part = s.part := rfl
@[simp] theorem State.onPil_regs (f : Pillow → Pillow) : (s.onPil f).regs = s.regs := rfl
@[simp] theorem State.onPil_hold (f : Pillow → Pillow) : (s.onPil f).hold = s.hold := rfl
@[simp] theorem State.onPil_capt (f : Pillow → Pillow) : (s.onPil f).capt = s.capt := rfl
@[simp] theorem State.onPil_mesh (f : Pillow → Pillow) : (s.onPil f).mesh = s.mesh := rfl
@[simp] theorem State.onPil_txns (f : Pillow → Pillow) : (s.onPil f).txns = s.txns := rfl
@[simp] theorem State.onPil_msgs (f : Pillow → Pillow) : (s.onPil f).msgs = s.msgs := rfl
@[simp] theorem State.onPil_nextId (f : Pillow → Pillow) : (s.onPil f).nextId = s.nextId := rfl
@[simp] theorem State.onPil_engs (f : Pillow → Pillow) : (s.onPil f).engs = s.engs := rfl
@[simp] theorem State.onPil_cache (f : Pillow → Pillow) : (s.onPil f).cache = s.cache := rfl
@[simp] theorem State.onPil_mem (f : Pillow → Pillow) : (s.onPil f).mem = s.mem := rfl
@[simp] theorem State.onPil_host (f : Pillow → Pillow) : (s.onPil f).host = s.host := rfl
@[simp] theorem State.onPil_objs (f : Pillow → Pillow) : (s.onPil f).objs = s.objs := rfl
@[simp] theorem State.onPil_sched (f : Pillow → Pillow) : (s.onPil f).sched = s.sched := rfl
@[simp] theorem State.onPil_pil (f : Pillow → Pillow) : (s.onPil f).pil = f s.pil := rfl
@[simp] theorem State.onPil_shx (f : Pillow → Pillow) : (s.onPil f).shx = s.shx := rfl
@[simp] theorem State.onPil_gmp (f : Pillow → Pillow) : (s.onPil f).gmp = s.gmp := rfl
@[simp] theorem State.onPil_clk (f : Pillow → Pillow) : (s.onPil f).clk = s.clk := rfl
@[simp] theorem State.onPil_ras (f : Pillow → Pillow) : (s.onPil f).ras = s.ras := rfl
@[simp] theorem State.onPil_sec (f : Pillow → Pillow) : (s.onPil f).sec = s.sec := rfl
@[simp] theorem State.onPil_posted (f : Pillow → Pillow) : (s.onPil f).posted = s.posted := rfl
@[simp] theorem State.onPil_free (f : Pillow → Pillow) : (s.onPil f).free = s.free := rfl
@[simp] theorem State.onPil_pending (f : Pillow → Pillow) : (s.onPil f).pending = s.pending := rfl
@[simp] theorem State.onShx_part (f : Shx → Shx) : (s.onShx f).part = s.part := rfl
@[simp] theorem State.onShx_regs (f : Shx → Shx) : (s.onShx f).regs = s.regs := rfl
@[simp] theorem State.onShx_hold (f : Shx → Shx) : (s.onShx f).hold = s.hold := rfl
@[simp] theorem State.onShx_capt (f : Shx → Shx) : (s.onShx f).capt = s.capt := rfl
@[simp] theorem State.onShx_mesh (f : Shx → Shx) : (s.onShx f).mesh = s.mesh := rfl
@[simp] theorem State.onShx_txns (f : Shx → Shx) : (s.onShx f).txns = s.txns := rfl
@[simp] theorem State.onShx_msgs (f : Shx → Shx) : (s.onShx f).msgs = s.msgs := rfl
@[simp] theorem State.onShx_nextId (f : Shx → Shx) : (s.onShx f).nextId = s.nextId := rfl
@[simp] theorem State.onShx_engs (f : Shx → Shx) : (s.onShx f).engs = s.engs := rfl
@[simp] theorem State.onShx_cache (f : Shx → Shx) : (s.onShx f).cache = s.cache := rfl
@[simp] theorem State.onShx_mem (f : Shx → Shx) : (s.onShx f).mem = s.mem := rfl
@[simp] theorem State.onShx_host (f : Shx → Shx) : (s.onShx f).host = s.host := rfl
@[simp] theorem State.onShx_objs (f : Shx → Shx) : (s.onShx f).objs = s.objs := rfl
@[simp] theorem State.onShx_sched (f : Shx → Shx) : (s.onShx f).sched = s.sched := rfl
@[simp] theorem State.onShx_pil (f : Shx → Shx) : (s.onShx f).pil = s.pil := rfl
@[simp] theorem State.onShx_shx (f : Shx → Shx) : (s.onShx f).shx = f s.shx := rfl
@[simp] theorem State.onShx_gmp (f : Shx → Shx) : (s.onShx f).gmp = s.gmp := rfl
@[simp] theorem State.onShx_clk (f : Shx → Shx) : (s.onShx f).clk = s.clk := rfl
@[simp] theorem State.onShx_ras (f : Shx → Shx) : (s.onShx f).ras = s.ras := rfl
@[simp] theorem State.onShx_sec (f : Shx → Shx) : (s.onShx f).sec = s.sec := rfl
@[simp] theorem State.onShx_posted (f : Shx → Shx) : (s.onShx f).posted = s.posted := rfl
@[simp] theorem State.onShx_free (f : Shx → Shx) : (s.onShx f).free = s.free := rfl
@[simp] theorem State.onShx_pending (f : Shx → Shx) : (s.onShx f).pending = s.pending := rfl
@[simp] theorem State.onGmp_part (f : Gimp → Gimp) : (s.onGmp f).part = s.part := rfl
@[simp] theorem State.onGmp_regs (f : Gimp → Gimp) : (s.onGmp f).regs = s.regs := rfl
@[simp] theorem State.onGmp_hold (f : Gimp → Gimp) : (s.onGmp f).hold = s.hold := rfl
@[simp] theorem State.onGmp_capt (f : Gimp → Gimp) : (s.onGmp f).capt = s.capt := rfl
@[simp] theorem State.onGmp_mesh (f : Gimp → Gimp) : (s.onGmp f).mesh = s.mesh := rfl
@[simp] theorem State.onGmp_txns (f : Gimp → Gimp) : (s.onGmp f).txns = s.txns := rfl
@[simp] theorem State.onGmp_msgs (f : Gimp → Gimp) : (s.onGmp f).msgs = s.msgs := rfl
@[simp] theorem State.onGmp_nextId (f : Gimp → Gimp) : (s.onGmp f).nextId = s.nextId := rfl
@[simp] theorem State.onGmp_engs (f : Gimp → Gimp) : (s.onGmp f).engs = s.engs := rfl
@[simp] theorem State.onGmp_cache (f : Gimp → Gimp) : (s.onGmp f).cache = s.cache := rfl
@[simp] theorem State.onGmp_mem (f : Gimp → Gimp) : (s.onGmp f).mem = s.mem := rfl
@[simp] theorem State.onGmp_host (f : Gimp → Gimp) : (s.onGmp f).host = s.host := rfl
@[simp] theorem State.onGmp_objs (f : Gimp → Gimp) : (s.onGmp f).objs = s.objs := rfl
@[simp] theorem State.onGmp_sched (f : Gimp → Gimp) : (s.onGmp f).sched = s.sched := rfl
@[simp] theorem State.onGmp_pil (f : Gimp → Gimp) : (s.onGmp f).pil = s.pil := rfl
@[simp] theorem State.onGmp_shx (f : Gimp → Gimp) : (s.onGmp f).shx = s.shx := rfl
@[simp] theorem State.onGmp_gmp (f : Gimp → Gimp) : (s.onGmp f).gmp = f s.gmp := rfl
@[simp] theorem State.onGmp_clk (f : Gimp → Gimp) : (s.onGmp f).clk = s.clk := rfl
@[simp] theorem State.onGmp_ras (f : Gimp → Gimp) : (s.onGmp f).ras = s.ras := rfl
@[simp] theorem State.onGmp_sec (f : Gimp → Gimp) : (s.onGmp f).sec = s.sec := rfl
@[simp] theorem State.onGmp_posted (f : Gimp → Gimp) : (s.onGmp f).posted = s.posted := rfl
@[simp] theorem State.onGmp_free (f : Gimp → Gimp) : (s.onGmp f).free = s.free := rfl
@[simp] theorem State.onGmp_pending (f : Gimp → Gimp) : (s.onGmp f).pending = s.pending := rfl
@[simp] theorem State.onClk_part (f : Clocks → Clocks) : (s.onClk f).part = s.part := rfl
@[simp] theorem State.onClk_regs (f : Clocks → Clocks) : (s.onClk f).regs = s.regs := rfl
@[simp] theorem State.onClk_hold (f : Clocks → Clocks) : (s.onClk f).hold = s.hold := rfl
@[simp] theorem State.onClk_capt (f : Clocks → Clocks) : (s.onClk f).capt = s.capt := rfl
@[simp] theorem State.onClk_mesh (f : Clocks → Clocks) : (s.onClk f).mesh = s.mesh := rfl
@[simp] theorem State.onClk_txns (f : Clocks → Clocks) : (s.onClk f).txns = s.txns := rfl
@[simp] theorem State.onClk_msgs (f : Clocks → Clocks) : (s.onClk f).msgs = s.msgs := rfl
@[simp] theorem State.onClk_nextId (f : Clocks → Clocks) : (s.onClk f).nextId = s.nextId := rfl
@[simp] theorem State.onClk_engs (f : Clocks → Clocks) : (s.onClk f).engs = s.engs := rfl
@[simp] theorem State.onClk_cache (f : Clocks → Clocks) : (s.onClk f).cache = s.cache := rfl
@[simp] theorem State.onClk_mem (f : Clocks → Clocks) : (s.onClk f).mem = s.mem := rfl
@[simp] theorem State.onClk_host (f : Clocks → Clocks) : (s.onClk f).host = s.host := rfl
@[simp] theorem State.onClk_objs (f : Clocks → Clocks) : (s.onClk f).objs = s.objs := rfl
@[simp] theorem State.onClk_sched (f : Clocks → Clocks) : (s.onClk f).sched = s.sched := rfl
@[simp] theorem State.onClk_pil (f : Clocks → Clocks) : (s.onClk f).pil = s.pil := rfl
@[simp] theorem State.onClk_shx (f : Clocks → Clocks) : (s.onClk f).shx = s.shx := rfl
@[simp] theorem State.onClk_gmp (f : Clocks → Clocks) : (s.onClk f).gmp = s.gmp := rfl
@[simp] theorem State.onClk_clk (f : Clocks → Clocks) : (s.onClk f).clk = f s.clk := rfl
@[simp] theorem State.onClk_ras (f : Clocks → Clocks) : (s.onClk f).ras = s.ras := rfl
@[simp] theorem State.onClk_sec (f : Clocks → Clocks) : (s.onClk f).sec = s.sec := rfl
@[simp] theorem State.onClk_posted (f : Clocks → Clocks) : (s.onClk f).posted = s.posted := rfl
@[simp] theorem State.onClk_free (f : Clocks → Clocks) : (s.onClk f).free = s.free := rfl
@[simp] theorem State.onClk_pending (f : Clocks → Clocks) : (s.onClk f).pending = s.pending := rfl
@[simp] theorem State.onRas_part (f : Ras → Ras) : (s.onRas f).part = s.part := rfl
@[simp] theorem State.onRas_regs (f : Ras → Ras) : (s.onRas f).regs = s.regs := rfl
@[simp] theorem State.onRas_hold (f : Ras → Ras) : (s.onRas f).hold = s.hold := rfl
@[simp] theorem State.onRas_capt (f : Ras → Ras) : (s.onRas f).capt = s.capt := rfl
@[simp] theorem State.onRas_mesh (f : Ras → Ras) : (s.onRas f).mesh = s.mesh := rfl
@[simp] theorem State.onRas_txns (f : Ras → Ras) : (s.onRas f).txns = s.txns := rfl
@[simp] theorem State.onRas_msgs (f : Ras → Ras) : (s.onRas f).msgs = s.msgs := rfl
@[simp] theorem State.onRas_nextId (f : Ras → Ras) : (s.onRas f).nextId = s.nextId := rfl
@[simp] theorem State.onRas_engs (f : Ras → Ras) : (s.onRas f).engs = s.engs := rfl
@[simp] theorem State.onRas_cache (f : Ras → Ras) : (s.onRas f).cache = s.cache := rfl
@[simp] theorem State.onRas_mem (f : Ras → Ras) : (s.onRas f).mem = s.mem := rfl
@[simp] theorem State.onRas_host (f : Ras → Ras) : (s.onRas f).host = s.host := rfl
@[simp] theorem State.onRas_objs (f : Ras → Ras) : (s.onRas f).objs = s.objs := rfl
@[simp] theorem State.onRas_sched (f : Ras → Ras) : (s.onRas f).sched = s.sched := rfl
@[simp] theorem State.onRas_pil (f : Ras → Ras) : (s.onRas f).pil = s.pil := rfl
@[simp] theorem State.onRas_shx (f : Ras → Ras) : (s.onRas f).shx = s.shx := rfl
@[simp] theorem State.onRas_gmp (f : Ras → Ras) : (s.onRas f).gmp = s.gmp := rfl
@[simp] theorem State.onRas_clk (f : Ras → Ras) : (s.onRas f).clk = s.clk := rfl
@[simp] theorem State.onRas_ras (f : Ras → Ras) : (s.onRas f).ras = f s.ras := rfl
@[simp] theorem State.onRas_sec (f : Ras → Ras) : (s.onRas f).sec = s.sec := rfl
@[simp] theorem State.onRas_posted (f : Ras → Ras) : (s.onRas f).posted = s.posted := rfl
@[simp] theorem State.onRas_free (f : Ras → Ras) : (s.onRas f).free = s.free := rfl
@[simp] theorem State.onRas_pending (f : Ras → Ras) : (s.onRas f).pending = s.pending := rfl
@[simp] theorem State.onSec_part (f : Security → Security) : (s.onSec f).part = s.part := rfl
@[simp] theorem State.onSec_regs (f : Security → Security) : (s.onSec f).regs = s.regs := rfl
@[simp] theorem State.onSec_hold (f : Security → Security) : (s.onSec f).hold = s.hold := rfl
@[simp] theorem State.onSec_capt (f : Security → Security) : (s.onSec f).capt = s.capt := rfl
@[simp] theorem State.onSec_mesh (f : Security → Security) : (s.onSec f).mesh = s.mesh := rfl
@[simp] theorem State.onSec_txns (f : Security → Security) : (s.onSec f).txns = s.txns := rfl
@[simp] theorem State.onSec_msgs (f : Security → Security) : (s.onSec f).msgs = s.msgs := rfl
@[simp] theorem State.onSec_nextId (f : Security → Security) : (s.onSec f).nextId = s.nextId := rfl
@[simp] theorem State.onSec_engs (f : Security → Security) : (s.onSec f).engs = s.engs := rfl
@[simp] theorem State.onSec_cache (f : Security → Security) : (s.onSec f).cache = s.cache := rfl
@[simp] theorem State.onSec_mem (f : Security → Security) : (s.onSec f).mem = s.mem := rfl
@[simp] theorem State.onSec_host (f : Security → Security) : (s.onSec f).host = s.host := rfl
@[simp] theorem State.onSec_objs (f : Security → Security) : (s.onSec f).objs = s.objs := rfl
@[simp] theorem State.onSec_sched (f : Security → Security) : (s.onSec f).sched = s.sched := rfl
@[simp] theorem State.onSec_pil (f : Security → Security) : (s.onSec f).pil = s.pil := rfl
@[simp] theorem State.onSec_shx (f : Security → Security) : (s.onSec f).shx = s.shx := rfl
@[simp] theorem State.onSec_gmp (f : Security → Security) : (s.onSec f).gmp = s.gmp := rfl
@[simp] theorem State.onSec_clk (f : Security → Security) : (s.onSec f).clk = s.clk := rfl
@[simp] theorem State.onSec_ras (f : Security → Security) : (s.onSec f).ras = s.ras := rfl
@[simp] theorem State.onSec_sec (f : Security → Security) : (s.onSec f).sec = f s.sec := rfl
@[simp] theorem State.onSec_posted (f : Security → Security) : (s.onSec f).posted = s.posted := rfl
@[simp] theorem State.onSec_free (f : Security → Security) : (s.onSec f).free = s.free := rfl
@[simp] theorem State.onSec_pending (f : Security → Security) : (s.onSec f).pending = s.pending := rfl
@[simp] theorem State.onPosted_part (f : List Posted → List Posted) : (s.onPosted f).part = s.part := rfl
@[simp] theorem State.onPosted_regs (f : List Posted → List Posted) : (s.onPosted f).regs = s.regs := rfl
@[simp] theorem State.onPosted_hold (f : List Posted → List Posted) : (s.onPosted f).hold = s.hold := rfl
@[simp] theorem State.onPosted_capt (f : List Posted → List Posted) : (s.onPosted f).capt = s.capt := rfl
@[simp] theorem State.onPosted_mesh (f : List Posted → List Posted) : (s.onPosted f).mesh = s.mesh := rfl
@[simp] theorem State.onPosted_txns (f : List Posted → List Posted) : (s.onPosted f).txns = s.txns := rfl
@[simp] theorem State.onPosted_msgs (f : List Posted → List Posted) : (s.onPosted f).msgs = s.msgs := rfl
@[simp] theorem State.onPosted_nextId (f : List Posted → List Posted) : (s.onPosted f).nextId = s.nextId := rfl
@[simp] theorem State.onPosted_engs (f : List Posted → List Posted) : (s.onPosted f).engs = s.engs := rfl
@[simp] theorem State.onPosted_cache (f : List Posted → List Posted) : (s.onPosted f).cache = s.cache := rfl
@[simp] theorem State.onPosted_mem (f : List Posted → List Posted) : (s.onPosted f).mem = s.mem := rfl
@[simp] theorem State.onPosted_host (f : List Posted → List Posted) : (s.onPosted f).host = s.host := rfl
@[simp] theorem State.onPosted_objs (f : List Posted → List Posted) : (s.onPosted f).objs = s.objs := rfl
@[simp] theorem State.onPosted_sched (f : List Posted → List Posted) : (s.onPosted f).sched = s.sched := rfl
@[simp] theorem State.onPosted_pil (f : List Posted → List Posted) : (s.onPosted f).pil = s.pil := rfl
@[simp] theorem State.onPosted_shx (f : List Posted → List Posted) : (s.onPosted f).shx = s.shx := rfl
@[simp] theorem State.onPosted_gmp (f : List Posted → List Posted) : (s.onPosted f).gmp = s.gmp := rfl
@[simp] theorem State.onPosted_clk (f : List Posted → List Posted) : (s.onPosted f).clk = s.clk := rfl
@[simp] theorem State.onPosted_ras (f : List Posted → List Posted) : (s.onPosted f).ras = s.ras := rfl
@[simp] theorem State.onPosted_sec (f : List Posted → List Posted) : (s.onPosted f).sec = s.sec := rfl
@[simp] theorem State.onPosted_posted (f : List Posted → List Posted) : (s.onPosted f).posted = f s.posted := rfl
@[simp] theorem State.onPosted_free (f : List Posted → List Posted) : (s.onPosted f).free = s.free := rfl
@[simp] theorem State.onPosted_pending (f : List Posted → List Posted) : (s.onPosted f).pending = s.pending := rfl

end Sys2Proof.Machine
end

