-- ==== Sys2Proof/Laws/Ops.lean ====
section
/-!
SUPPORT. What the shared operations on registers, units by number and posted messages do.
-/
namespace Sys2Proof.Machine

variable (s : State)

/-! ### Registers -/

/-- What a register holds at reset depends on the part and its settings alone. -/
theorem State.resetReg_congr (s t : State) (hp : t.part = s.part) (hs : t.sec.settings = s.sec.settings) (off : Nat) :
    t.resetReg off = s.resetReg off := by
  simp only [State.resetReg, State.fusedMhz, State.maxW, hp, hs]

/-- A register reads by the part, the settings and the registers written. -/
theorem State.rd_congr (s t : State) (hr : t.regs = s.regs) (hp : t.part = s.part) (hs : t.sec.settings = s.sec.settings)
    (off : Nat) : t.rd off = s.rd off := by
  simp only [State.rd, hr, State.resetReg_congr s t hp hs]

@[simp] theorem State.rd_wr_same (off : Nat) (w : Word) : (s.wr off w).rd off = w := by
  simp [State.rd, State.wr]

theorem State.rd_wr_other (off o : Nat) (w : Word) (h : o ≠ off) : (s.wr off w).rd o = s.rd o := by
  have e : (s.wr off w).resetReg o = s.resetReg o := State.resetReg_congr s _ rfl rfl o
  simp only [State.rd, e]
  simp [State.wr, h]

theorem State.rd_wr (off o : Nat) (w : Word) : (s.wr off w).rd o = if o = off then w else s.rd o := by
  by_cases h : o = off
  · subst h; simp
  · simp [h, State.rd_wr_other s off o w h]

/-- A field reads the value that it was given. -/
theorem State.fld_setF_same (f : Field) (off v : Nat) (h : f.lo + f.len ≤ 32) : (s.setF f off v).fld f off = v % 2 ^ f.len := by
  simp [State.fld, State.setF, Fget_Fset_same f v _ h]

/-- A field of the same register that shares no bit keeps its value. -/
theorem State.fld_setF_apart (f g : Field) (off v : Nat) (hg : g.lo + g.len ≤ 32)
    (h : f.lo + f.len ≤ g.lo ∨ g.lo + g.len ≤ f.lo) : (s.setF f off v).fld g off = s.fld g off := by
  simp [State.fld, State.setF, Fget_Fset_other f g v _ hg h]

theorem State.rd_setF_other (f : Field) (off o v : Nat) (h : o ≠ off) : (s.setF f off v).rd o = s.rd o := by
  simp [State.setF, State.rd_wr_other s off o _ h]

theorem State.fld_setF_other (f g : Field) (off o v : Nat) (h : o ≠ off) : (s.setF f off v).fld g o = s.fld g o := by
  simp [State.fld, State.rd_setF_other s f off o v h]

theorem State.bit_setF_other (f g : Field) (off o v : Nat) (h : o ≠ off) : (s.setF f off v).bit g o = s.bit g o := by
  simp [State.bit, State.rd_setF_other s f off o v h]

/-- A field is below 2 to the power of its width. -/
theorem State.fld_lt (f : Field) (off : Nat) : s.fld f off < 2 ^ f.len := Fget_lt f _

/-- A counter that is raised by one stops at its largest value. -/
theorem State.fld_bump_same (f : Field) (off n : Nat) (h : f.lo + f.len ≤ 32) :
    (s.bump f off n).fld f off = min (2 ^ f.len - 1) (s.fld f off + n) := by
  unfold State.bump
  rw [State.fld_setF_same s f off _ h, satAdd]
  exact Nat.mod_eq_of_lt (lt_of_le_of_lt (Nat.min_le_left _ _) (Nat.sub_lt (Nat.two_pow_pos _) Nat.one_pos))

/-- A write of a register leaves every other part of the state. -/
theorem State.wr_frame (off : Nat) (w : Word) :
    (s.wr off w).part = s.part ∧ (s.wr off w).mem = s.mem ∧ (s.wr off w).engs = s.engs ∧ (s.wr off w).cache = s.cache ∧
    (s.wr off w).objs = s.objs ∧ (s.wr off w).sec = s.sec ∧ (s.wr off w).pending = s.pending :=
  ⟨rfl, rfl, rfl, rfl, rfl, rfl, rfl⟩

/-- Registers read the same where another part of the state is changed. -/
@[simp] theorem State.rd_onHold (f : SMap Word → SMap Word) (o : Nat) : (s.onHold f).rd o = s.rd o := State.rd_congr s _ rfl rfl rfl o
@[simp] theorem State.rd_onCapt (f : SMap Word → SMap Word) (o : Nat) : (s.onCapt f).rd o = s.rd o := State.rd_congr s _ rfl rfl rfl o
@[simp] theorem State.rd_onMesh (f : Mesh → Mesh) (o : Nat) : (s.onMesh f).rd o = s.rd o := State.rd_congr s _ rfl rfl rfl o
@[simp] theorem State.rd_onTxns (f : SMap Txn → SMap Txn) (o : Nat) : (s.onTxns f).rd o = s.rd o := State.rd_congr s _ rfl rfl rfl o
@[simp] theorem State.rd_onMsgs (f : SMap Msg → SMap Msg) (o : Nat) : (s.onMsgs f).rd o = s.rd o := State.rd_congr s _ rfl rfl rfl o
@[simp] theorem State.rd_onEngs (f : SMap Engine → SMap Engine) (o : Nat) : (s.onEngs f).rd o = s.rd o := State.rd_congr s _ rfl rfl rfl o
@[simp] theorem State.rd_onCache (f : Cache → Cache) (o : Nat) : (s.onCache f).rd o = s.rd o := State.rd_congr s _ rfl rfl rfl o
@[simp] theorem State.rd_onMem (f : Memory → Memory) (o : Nat) : (s.onMem f).rd o = s.rd o := State.rd_congr s _ rfl rfl rfl o
@[simp] theorem State.rd_onHost (f : HostIf → HostIf) (o : Nat) : (s.onHost f).rd o = s.rd o := State.rd_congr s _ rfl rfl rfl o
@[simp] theorem State.rd_onObjs (f : Objects → Objects) (o : Nat) : (s.onObjs f).rd o = s.rd o := State.rd_congr s _ rfl rfl rfl o
@[simp] theorem State.rd_onSched (f : Sched → Sched) (o : Nat) : (s.onSched f).rd o = s.rd o := State.rd_congr s _ rfl rfl rfl o
@[simp] theorem State.rd_onPil (f : Pillow → Pillow) (o : Nat) : (s.onPil f).rd o = s.rd o := State.rd_congr s _ rfl rfl rfl o
@[simp] theorem State.rd_onShx (f : Shx → Shx) (o : Nat) : (s.onShx f).rd o = s.rd o := State.rd_congr s _ rfl rfl rfl o
@[simp] theorem State.rd_onGmp (f : Gimp → Gimp) (o : Nat) : (s.onGmp f).rd o = s.rd o := State.rd_congr s _ rfl rfl rfl o
@[simp] theorem State.rd_onClk (f : Clocks → Clocks) (o : Nat) : (s.onClk f).rd o = s.rd o := State.rd_congr s _ rfl rfl rfl o
@[simp] theorem State.rd_onRas (f : Ras → Ras) (o : Nat) : (s.onRas f).rd o = s.rd o := State.rd_congr s _ rfl rfl rfl o
@[simp] theorem State.rd_onPosted (f : List Posted → List Posted) (o : Nat) : (s.onPosted f).rd o = s.rd o := State.rd_congr s _ rfl rfl rfl o

/-! ### Units by number -/

theorem State.eng_onEng_same (e : Nat) (f : Engine → Engine) : (s.onEng e f).eng e = f (s.eng e) :=
  SMapLaws.getD_upd_same s.engs e Engine.empty f

theorem State.eng_onEng_other (e k : Nat) (f : Engine → Engine) (h : k ≠ e) : (s.onEng e f).eng k = s.eng k :=
  SMapLaws.getD_upd_other s.engs e k Engine.empty f h

theorem State.slice_onSlice_same (p : Nat) (f : Slice → Slice) : (s.onSlice p f).slice p = f (s.slice p) :=
  SMapLaws.getD_upd_same s.cache.slices p Slice.empty f

theorem State.slice_onSlice_other (p k : Nat) (f : Slice → Slice) (h : k ≠ p) : (s.onSlice p f).slice k = s.slice k :=
  SMapLaws.getD_upd_other s.cache.slices p k Slice.empty f h

theorem State.chan_onChan_same (c : Nat) (f : Channel → Channel) : (s.onChan c f).chan c = f (s.chan c) :=
  SMapLaws.getD_upd_same s.mem.chans c Channel.empty f

theorem State.port_onPort_same (n : Nat) (f : Port → Port) : (s.onPort n f).port n = f (s.port n) :=
  SMapLaws.getD_upd_same s.gmp.ports n Port.empty f

theorem State.dieClk_onDie_same (d : Nat) (f : DieClk → DieClk) : (s.onDie d f).dieClk d = f (s.dieClk d) :=
  SMapLaws.getD_upd_same s.clk.dies d DieClk.start f

theorem State.dieClk_onDie_other (d k : Nat) (f : DieClk → DieClk) (h : k ≠ d) : (s.onDie d f).dieClk k = s.dieClk k :=
  SMapLaws.getD_upd_other s.clk.dies d k DieClk.start f h

theorem State.hoop_onHoop_same (h : Nat) (f : Hoop → Hoop) : (s.onHoop h f).hoop h = f (s.hoop h) :=
  SMapLaws.getD_upd_same s.sched.hoops h Hoop.empty f

theorem State.adm_onAdm_same (n : Nat) (f : AdminQ → AdminQ) : (s.onAdm n f).adm n = f (s.adm n) :=
  SMapLaws.getD_upd_same s.host.adminQs n AdminQ.empty f

theorem State.queue_onQueue (q k : Nat) (f : Queue → Queue) :
    (s.onQueue q f).queue? k = if k = q then (s.queue? k).map f else s.queue? k :=
  SMapLaws.get_modify s.objs.queues q k f

theorem State.ctx_onCtx (c k : Nat) (f : Ctx → Ctx) : (s.onCtx c f).ctx? k = if k = c then (s.ctx? k).map f else s.ctx? k :=
  SMapLaws.get_modify s.objs.ctxs c k f

theorem State.txn_onTxn (i k : Nat) (f : Txn → Txn) : (s.onTxn i f).txn? k = if k = i then (s.txn? k).map f else s.txn? k :=
  SMapLaws.get_modify s.txns i k f

theorem State.delTxn_none (i : Nat) : (s.delTxn i).txn? i = none := SMapLaws.get_del_same s.txns i
theorem State.delMsg_none (i : Nat) : (s.delMsg i).msg? i = none := SMapLaws.get_del_same s.msgs i

/-- A message leaves last. -/
theorem State.post_last (p : Posted) : (s.post p).posted = s.posted ++ [p] := rfl

end Sys2Proof.Machine
end

