-- ==== Sys2Proof/Tests/Slice0.lean ====
section
/-!
SUPPORT. The tests of the model: the smoke test of WellFormed, and for each command a small state and operands that meet the
hypotheses of the statement about it, with what the command then does. Expected values come from the manual's rules.
-/
namespace Sys2Proof.Tests
open Sys2Proof Sys2Proof.Machine

-- one theorem after the other: the kernel evaluates each
set_option Elab.async false

/-- What holds after a command: false where it stops. -/
def after (c : Instr) (s : State) (p : State → Bool) : Bool :=
  match exec c s with
  | .next t => p t
  | _ => false

/-- A register with a value. -/
def regs (l : List (Nat × Word)) (s : State) : State := l.foldl (fun s p => s.wr p.1 p.2) s

/-- The package at work: the state after reset with its clocks running, its stacks and toile cleared, and configuration requests answered. -/
def awake : State := { State.reset with
  regs := []
  mem := { State.reset.mem with toileZeroing := false }
  host := { State.reset.host with rrs := false }
  clk := { State.reset.clk with dies := (List.range 8).map (fun d => (d, { DieClk.start with stage := .running, safe := false })) } }
/-! ### Clocks and power -/

/-- Die 3 with its clocks at a stage, at level 5 (875 MHz), outside the safe states. -/
def clocked (st : ClkStage) : State :=
  (awake.onDie 3 (fun d => { d with stage := st, safe := false, freq := 875 })).wr (R.pwrDieStat 3) 0x00000F55#32

/-- The same with a target that has come to the die. -/
def targeted (i : Nat) (s : State) : State := s.onMsgs (fun m => SMap.put m 9
  { kind := .level 3 i, src := 0, dst := 3, frm := .barrier, stop := .barrier, arrived := true, came := 0, lost := false, poison := false })

/-- The same with a change of level. -/
def changing (c : Change) : State := (clocked .running).onDie 3 (fun d => { d with change := some c })

theorem test_trimmedOscillatorStable : ((State.reset.dieClk 3).stage == .waiting && after (.trimmedOscillatorStable 3) State.reset
    (fun t => (t.dieClk 3).stage == .counting && t.fld F.clkStat_ON_OSC (R.clkStat 3) == 1)) = true := by decide
theorem test_referenceCountPass : (((clocked .counting).dieClk 3).stage == .counting && after (.referenceCountPass 3) (clocked .counting)
    (fun t => (t.dieClk 3).stage == .acquiring && t.fld F.clkStat_REF_OK (R.clkStat 3) == 1)) = true := by decide
theorem test_rootPllLock : (((clocked .acquiring).dieClk 3).stage == .acquiring && after (.rootPllLock 3) (clocked .acquiring)
    (fun t => (t.dieClk 3).stage == .running && (t.dieClk 3).freq == 400 && t.count 3 == 0)) = true := by decide
theorem test_pllLockTimeout : after (.pllLockTimeout 3) (clocked .acquiring)
    (fun t => (t.dieClk 3).stage == .counting && t.fld F.clkStat_REF_OK (R.clkStat 3) == 0) = true := by decide
theorem test_sourceFailure : after (.sourceFailure 3 .rootLost) (clocked .running)
    (fun t => (t.dieClk 3).safe && t.fld F.clkStat_SRC_FAILS (R.clkStat 3) == 1 && t.fld F.clkStat_SRC_FAILS (R.clkStat 2) == 0 &&
      !t.clk.recovering) = true := by decide
theorem test_sourceFailure_reference : after (.sourceFailure 3 .refLost) (clocked .running)
    (fun t => (t.dieClk 7).safe && t.level 3 == 0 && t.fld F.clkStat_SRC_FAILS (R.clkStat 7) == 1 && t.clk.recovering) = true := by decide
theorem test_dieIsolate : (let s := (awake.onDie 3 (fun d => { d with safe := true })).wr (R.clkStat 3) 0x00000100#32
    (s.dieClk 3).safe && !s.clk.recovering && s.fld F.clkStat_SRC_FAILS (R.clkStat 3) == 1 &&
    after (.dieIsolate 3) s (fun t => t.fld F.clkStat_ISOLATED (R.clkStat 3) == 1)) = true := by decide
theorem test_thermalTrip : after (.thermalTrip 3) (clocked .running)
    (fun t => (t.dieClk 3).tripped && (t.dieClk 3).stage == .low && t.posted.contains (.pin 0 3 false)) = true := by decide
theorem test_pwrokFall : after .pwrokFall (clocked .running) (fun t => !t.clk.pwrok && (t.dieClk 3).stage == .low && (t.dieClk 0).safe) = true := by
  decide
theorem test_levelTarget : (!((clocked .running).dieClk 3).safe && after (.levelTarget 3 11) (targeted 11 (clocked .running))
    (fun t => t.fld F.pwrDieStat_TARGET (R.pwrDieStat 3) == 11 && t.posted == [.avs 3 750] && t.fld F.pwrDieStat_CHANGING (R.pwrDieStat 3) == 1)) = true := by
  decide
theorem test_levelTarget_waits : after (.levelTarget 3 2) (targeted 2 (changing { level := 7, raise := true, volt := true, stepping := false }))
    (fun t => (t.dieClk 3).next == some 2 && t.posted == []) = true := by decide
theorem test_levelWatchdog : after (.levelWatchdog 3) (clocked .running)
    (fun t => t.fld F.pwrDieStat_WATCHDOG (R.pwrDieStat 3) == 1 && t.fld F.pwrPkgStat_WATCHDOG R.pwrPkgStat == 1 && (t.dieClk 3).change == none) = true := by
  decide
theorem test_forceStart : after (.forceStart 3 .tcrit) (clocked .running)
    (fun t => t.fld F.pwrDieStat_TCRIT (R.pwrDieStat 3) == 1 && t.level 3 == 0 && t.posted == [.avs 3 550]) = true := by decide
theorem test_forceEnd : (let s := (changing { level := 0, raise := false, volt := true, stepping := false }).onDie 3 (fun d => { d with forces := [.alert] })
    after (.forceEnd 3) s (fun t => (t.dieClk 3).forces == [] && (t.dieClk 3).next == some 5)) = true := by decide
theorem test_frequencyStep : after (.frequencyStep 3) (changing { level := 6, raise := true, volt := false, stepping := true })
    (fun t => (t.dieClk 3).freq == 900 && (t.dieClk 3).change.isSome) = true := by decide +kernel
theorem test_frequencyStep_stops : (let s := (changing { level := 15, raise := true, volt := false, stepping := true }).onDie 3 (fun d => { d with freq := 1250 })
    let s := s.wr (R.engFreq 768) 0x05780578#32
    match exec (.frequencyStep 3) s with | .fault .clockRatioUndefined => true | _ => false) = true := by decide +kernel
theorem test_voltageReached : after (.voltageReached 3 false) (changing { level := 6, raise := true, volt := true, stepping := false })
    (fun t => (t.dieClk 3).droopRef == 6 && (t.dieClk 3).change == some { level := 6, raise := true, volt := false, stepping := true }) = true := by decide
theorem test_voltageReached_fault : after (.voltageReached 3 true) (changing { level := 6, raise := false, volt := true, stepping := false })
    (fun t => (t.dieClk 3).forces == [.alert] && t.level 3 == 0) = true := by decide
theorem test_droopTrip : after (.droopTrip 3 2) (clocked .running)
    (fun t => (t.dieClk 3).droops == [2] && t.fld F.pwrDieStat_DROOP (R.pwrDieStat 3) == 1 && t.fld F.pwrDroop_EVENTS (R.pwrDroop 3) == 1) = true := by decide
theorem test_droopClear : after (.droopClear 3 2) ((clocked .running).onDie 3 (fun d => { d with droops := [0, 2] }))
    (fun t => (t.dieClk 3).droops == [0] && t.fld F.pwrDieStat_DROOP (R.pwrDieStat 3) == 1) = true := by decide
theorem test_clkGateWrite : (awake.regLive (R.clkGate 3) && after (.clkGateWrite 3 5#32) awake
    (fun t => t.fld F.clkGate_GMP (R.clkGate 3) == 0 && t.fld F.clkGate_TGC (R.clkGate 3) == 1)) = true := by decide +kernel
theorem test_clkGateWrite_refused : after (.clkGateWrite 3 5#32) (awake.wr (R.gmpStat 3) 1#32)
    (fun t => t.fld F.clkGate_GMP (R.clkGate 3) == 1 && t.fld F.clkGate_REFUSED (R.clkGate 3) == 1) = true := by decide +kernel
theorem test_railTelemetry : after (.railTelemetry 3 40 20 [60, 61, 62, 255]) awake
    (fun t => t.fld F.pwrTemp_STACK1_C (R.pwrTemp 3) == 255 && t.fld F.pwrTemp_CMP_C (R.pwrTemp 3) == 60 && (t.dieClk 3).cmpW == 40) = true := by decide
theorem test_pwrDroopClear : after (.pwrDroopClear 3) (awake.wr (R.pwrDroop 3) 0x00050007#32) (fun t => t.rd (R.pwrDroop 3) == 0) = true := by
  decide +kernel
theorem test_powerLoop : after (.powerLoop []) ((clocked .running).onDie 3 (fun d => { d with cmpW := 100, temps := [99, 25, 25, 25] }))
    (fun t => t.clk.targets == List.replicate 8 0 && t.msgs.length == 8 && t.fld F.pwrDiePower_CMP_W (R.pwrDiePower 3) == 100 &&
      t.fld F.pwrDieStat_THERM_LIMIT (R.pwrDieStat 3) == 14) = true := by decide +kernel

/-! ### Resets -/

/-- A device with a register of several blocks written, and a byte in memory. -/
def used : State :=
  regs [(R.hoopStat 2, 2), (R.pwrCtrl, 0x2A), (R.engStat 5, 1), (R.clkStat 3, 0x00000702)]
    (awake.onMem (fun m => { m with cells := [(64, 7)] }))

theorem test_deviceReset : (used.clk.pwrok && used.ras.chanOut.isEmpty && (List.range 8).all (fun p => (used.bondOf p).isNone) && after .deviceReset used (fun t => t.mem.cells == [] && t.rd (R.hoopStat 2) == 0 &&
    t.rd R.pwrCtrl == 0x2A && t.fld F.engStat_STATE (R.engStat 5) == 1 && t.fld F.memSetStat_CLEARING (R.memSetStat 15) == 1)) = true := by
  decide +kernel
theorem test_toileZeroEnd : after .toileZeroEnd (used.onMem (fun m => { m with toileZeroing := true })) (fun t => !t.mem.toileZeroing) = true := by decide
theorem test_powerOnReset : after .powerOnReset used (fun t => t.mem.cells == [] && t.rd R.pwrCtrl == t.resetReg R.pwrCtrl && t.clk == Clocks.start) = true := by
  decide +kernel
theorem test_recoveryReset : (let s := (used.wr R.secStat (Fset F.secStat_SEAL_BROKEN 1 (Fset F.secStat_DEBUG 1 0))).onClk (fun c => { c with
      recovering := true
      dies := (List.range 8).map (fun d => (d, { DieClk.start with stage := .running })) })
    s.clk.recovering && s.sourcesBack && after .recoveryReset s (fun t => t.fld F.clkStat_SRC_FAILS (R.clkStat 3) == 7 && !t.clk.recovering && t.rd R.secStat == 4 &&
      t.rd R.pwrCtrl == t.resetReg R.pwrCtrl && t.mem.cells == [])) = true := by decide +kernel

/-- Function 5 is being reset, with its admin queue still enabled in its register. -/
def resetting : State := (regs [(R.qfeFnAdmqCtrl 5, 1)] awake).onHost (fun h => { h with vfReset := [5], tdi := [(5, .run)] })

theorem test_vfFunctionReset : (!(regs [(R.qfeFnAdmqCtrl 5, 1)] awake).inReset 5 &&
    after (.vfFunctionReset 5) (regs [(R.qfeFnAdmqCtrl 5, 1)] awake) (fun t => t.inReset 5 && t.fld F.qfeFnAdmqCtrl_EN (R.qfeFnAdmqCtrl 5) == 0)) = true := by
  decide +kernel
theorem test_vfDrainEnd : (resetting.fnStopped 5 && (resetting.fnTransfers 5).isEmpty &&
    after (.vfDrainEnd 5) resetting (fun t => !t.inReset 5 && t.tdi 5 == .unlocked && t.fld F.qfeFnAdmqCtrl_EN (R.qfeFnAdmqCtrl 5) == 0)) = true := by
  decide +kernel
theorem test_vfDrainExpiry : (let s := { resetting with
      txns := [(9, { Txn.blank (.host 5) 0 0 none none .read .stack 0 with secs := 1, stage := .home })] }
    s.fnTransfers 5 == [9] && s.fnStopped 5 && after (.vfDrainExpiry 5) s (fun t => !t.inReset 5 && (t.txn? 9).isNone)) = true := by decide +kernel

/-! ### Registers -/

theorem test_registerWrite : (after (.registerWrite 0 R.cshHomeTimeout 100#32) awake (fun t => t.rd R.cshHomeTimeout == 100#32) &&
    !awake.barDead 0 && !awake.inReset 0) = true := by decide +kernel
/-- ROLL_ENT_LO of hoop 2 is a plain pair; ENG_FRAY_CTRL a plain register; neither is locked at reset. -/
theorem test_plainReg : (decide (barSpot 0 R.pilEntSel = .reg R.pilEntSel false) && awake.regLive (R.pilReserve 2) &&
    (regRow (R.pilReserve 2)).any (fun r => r.pair == 0) && (tdiTarget (R.pilReserve 2)).isNone &&
    regActs.all (fun a => (rowOf a.1 a.2.1 a.2.2.1 (R.pilReserve 2)).isNone) && (awake.lockedOut (R.pilReserve 2)).isNone &&
    regClamps.all (fun c => (rowOf c.1 c.2.1 c.2.2.1 (R.pilReserve 2)).isNone) &&
    after (.registerWrite 0 (R.pilReserve 2) 0xFFFFFFFF#32) awake (fun t => t.rd (R.pilReserve 2) == 0x03FFFFFF#32)) = true := by decide +kernel
theorem test_waitLimit_clamps : (after (.registerWrite 0 R.hifWaitLimit 3#32) awake (fun t => t.fld F.hifWaitLimit_LIMIT_MS R.hifWaitLimit == 10) &&
    after (.registerWrite 0 R.hifWaitLimit 60001#32) awake (fun t => t.fld F.hifWaitLimit_LIMIT_MS R.hifWaitLimit == 60000)) = true := by decide +kernel
theorem test_bar0BadAccess : after (.bar0BadAccess 0 R.hifPartId 2 false) awake (fun t =>
    t.posted == [.completion 0 [0, 0] false] && t.fld F.hifErrCnt_BAD_SIZE R.hifErrCnt == 1) = true := by decide +kernel
theorem test_pairLoRead : (pairHalf (R.pilPoolBaseLo 1) == 1 && after (.pairLoRead 0 (R.pilPoolBaseLo 1)) (awake.wr64 (R.pilPoolBaseLo 1) 0x1200345678)
    (fun t => t.posted == [.completion 0 [0x78, 0x56, 0x34, 0x00] false] && SMap.get? t.capt (R.pilPoolBaseLo 1) == some 0x12#32)) = true := by decide +kernel
theorem test_pairHiRead : (pairHalf (R.pilPoolBaseHi 1) == 2 && after (.pairHiRead 0 (R.pilPoolBaseHi 1)) (awake.onCapt (fun _ => [(R.pilPoolBaseLo 1, 0x99#32)]))
    (fun t => t.posted == [.completion 0 [0x99, 0, 0, 0] false] && (SMap.get? t.capt (R.pilPoolBaseLo 1)).isNone)) = true := by decide +kernel
theorem test_pairHiWrite : (let s := awake.onHold (fun _ => [(R.pilPoolBaseLo 1, 0x40008000#32)])
    (s.lockedOut (R.pilPoolBaseHi 1)).isNone && after (.pairHiWrite 0 (R.pilPoolBaseHi 1) 0xFFFFFFFF#32) s
      (fun t => t.rd64 (R.pilPoolBaseLo 1) == 0x1FF40008000)) = true := by decide +kernel
theorem test_tdiLockedWrite : (let s := awake.onHost (fun h => { h with tdi := [(7, .run)] })
    tdiTarget (R.qfeFnQgrp 7) == some 7 && s.tdiHeld 7 &&
    after (.tdiLockedWrite 0 (R.qfeFnQgrp 7) 0x00010001#32) s (fun t => t.tdi 7 == .error && t.rd (R.qfeFnQgrp 7) == 0)) = true := by decide +kernel
theorem test_noRegister : (decide (barSpot 0 0x1C = .reg 0x1C false) && (regRow (R.engFault 40)).isNone && awake.look (R.engFault 40) == 0 &&
    (regs [(R.clkGate 3, 0#32)] awake).gated (R.gmpErr 3) &&
    after (.registerWrite 0 (R.engFault 40) 0xFFFFFFFF#32) (regs [(R.engFault 40, 1#32)] awake) (fun t => t.rd (R.engFault 40) == 1)) = true := by
  decide +kernel

/-! ### The ground mesh and the links -/

/-- Link 4 up with EN set; with an error counted. -/
def linkUp : State := regs [(R.mshLinkCtrl 4, 0x11), (R.mshLinkStat 4, 0x66), (R.mshLinkErr 4, 5)] awake
/-- Link 4 training, with a request in its replay buffer. -/
def linkTraining : State :=
  let f : Flit := { vc := .request, src := 1, dst := 2, stop := .gimp, die := 5, row := 0, col := 3, port := 0, link := some 4,
                    slot := 0, since := 0, detour := false, poison := false, seq := 0, cargo := .txn 9 }
  let x : Txn := { Txn.blank (.bulk 5) 0 0 none none .read .stack 0 with secs := 1, stage := .home, moving := true }
  { (regs [(R.mshLinkCtrl 4, 1), (R.mshLinkStat 4, 1)] awake) with
    mesh := { Mesh.empty with flits := [(7, f)], training := [4] }
    txns := [(9, x)] }
/-- Three bundles lose three wires each from the lower-numbered die, and bundle 24 two from the higher. -/
def scan22 : LinkScan := { lo := [0, 0, 0, 1, 1, 1, 2, 2, 2], hi := [24, 24] }

theorem test_linkEnable_trains : (let s := regs [(R.mshLinkCtrl 4, 0)] awake
    s.regLive (R.mshLinkCtrl 4) && !s.bit F.mshLinkCtrl_EN (R.mshLinkCtrl 4) &&
    after (.linkEnable 4 1#32) s (fun t => t.linkState 4 == 1 && t.mesh.training == [4])) = true := by decide +kernel
theorem test_linkTrained : (!linkTraining.inTest 5 && !linkTraining.inTest 6 && after (.linkTrained 4 56 scan22) linkTraining
    (fun t => t.linkState 4 == 2 && t.fld F.mshLinkStat_BUNDLES (R.mshLinkStat 4) == 22 && t.fld F.mshLinkStat_SPARES_LO (R.mshLinkStat 4) == 6 && t.fld F.mshLinkStat_SPARES_HI (R.mshLinkStat 4) == 2 &&
      t.fld F.mshLinkDelay_DELAY (R.mshLinkDelay 4) == 56)) = true := by decide +kernel
theorem test_linkTrainTimeout : after (.linkTrainTimeout 4) linkTraining (fun t => t.linkState 4 == 3 && t.mesh.training == [] &&
    (t.txn? 9).map (·.status) == some 0x40) = true := by decide +kernel
theorem test_linkDisable : after (.linkDisable 4 0#32) linkUp (fun t => t.linkState 4 == 0 && !t.bit F.mshLinkCtrl_EN (R.mshLinkCtrl 4)) = true := by
  decide +kernel
theorem test_linkRetrainRequest : after (.linkRetrainRequest 4 3#32) linkUp (fun t => t.bit F.mshLinkCtrl_RETRAIN (R.mshLinkCtrl 4) && t.linkState 4 == 2) = true := by
  decide +kernel
theorem test_mshLinkErrClear : after (.mshLinkErrClear 4) linkUp (fun t => t.rd (R.mshLinkErr 4) == 0) = true := by decide +kernel
theorem test_linkCrcErrorReplay : after (.linkCrcErrorReplay 4 true 63 24 true) linkUp (fun t => t.fld F.mshLinkErr_CRC_ERR (R.mshLinkErr 4) == 6 && t.mesh.training == []) = true := by
  decide +kernel
theorem test_linkCrcErrorReplay_fourth : (let s := linkUp.onMesh (fun m => { m with groupFails := [(64 * 8 + 63, 3)] })
    after (.linkCrcErrorReplay 4 true 63 24 true) s (fun t => t.fld F.mshLinkErr_REPLAY_FAIL (R.mshLinkErr 4) == 1 && t.mesh.training == [4])) = true := by decide +kernel
theorem test_bundleErrorThreshold : (let s := linkUp.onMesh (fun m => { m with bundleErrs := [(32 * 4 + 24, 1)] })
    s.fld F.mshLinkCtrl_SWAP_THRESH (R.mshLinkCtrl 4) == 1 && after (.bundleErrorThreshold 4 24) s (fun t => t.mesh.training == [4])) = true := by decide +kernel
theorem test_linkRetrainEnd : (let s := linkUp.onMesh (fun m => { m with training := [4] })
    after (.linkRetrainEnd 4 scan22) s (fun t => t.linkState 4 == 2 && t.mesh.training == [] && t.bundlesOn 4 == 22) &&
    after (.linkRetrainEnd 4 { lo := (List.range 6).flatMap (fun b => [b, b, b]), hi := [] }) s (fun t => t.linkState 4 == 3)) = true := by decide +kernel
theorem test_routeRecompute : (let s := regs ((List.range 10).map (fun l => (R.mshLinkCtrl l, if l = 2 then 0#32 else 1#32))) awake
    after .routeRecompute s (fun t => t.edge 2 3 == 7 && t.edge 0 1 == 2 && t.edge 0 7 == 6)) = true := by decide +kernel
/-- A flit in flight from router (0,0) to the gimp stop of the same die. -/
def flying : State :=
  let f : Flit := { vc := .request, src := 1, dst := 1, stop := .gimp, die := 1, row := 0, col := 0, port := 0, link := none,
                    slot := 0, since := 0, detour := false, poison := false, seq := 0, cargo := .txn 9 }
  { awake with mesh := { Mesh.empty with flits := [(7, f)] } }
theorem test_meshFlitForward : after (.meshFlitForward 7 .single) flying (fun t => (SMap.get? t.mesh.flits 7).map (fun f => (f.row, f.col, f.port, f.poison)) ==
    some (0, 1, 1, false)) = true := by decide +kernel
theorem test_meshFlitForward_double : after (.meshFlitForward 7 .double) flying (fun t =>
    (SMap.get? t.mesh.flits 7).map (fun f => (f.col, f.poison)) == some (1, true) && t.mesh.poisoned == [(1, 1)]) = true := by decide +kernel
/-- Debug unlocked, the links of die 0 down. -/
def testable : State := regs [(R.secStat, Fset F.secStat_DEBUG 1 0), (R.mshLinkCtrl 0, 0), (R.mshLinkCtrl 6, 0)] awake
theorem test_mshTestModeWrite : (testable.bit F.secStat_DEBUG R.secStat && (linksOf 0).all (fun l => !testable.bit F.mshLinkCtrl_EN (R.mshLinkCtrl l) && testable.linkState l == 0) &&
    after (.mshTestModeWrite 0 2#32) testable (fun t => t.fld F.mshTestCtrl_MODE (R.mshTestCtrl 0) == 2) &&
    after (.mshTestModeWrite 0 2#32) (testable.setF F.mshLinkStat_STATE (R.mshLinkStat 6) 1) (fun t => t.fld F.mshTestCtrl_MODE (R.mshTestCtrl 0) == 0 &&
      t.bit F.mshTestStat_REFUSED (R.mshTestStat 0))) = true := by decide +kernel
theorem test_mshTestStart : (let s := regs [(R.mshTestCtrl 0, 2), (R.mshTestStat 0, 0x00050103#32)] awake
    s.inTest 0 && after (.mshTestStart 0 4#32) s (fun t => t.bit F.mshTestCtrl_START (R.mshTestCtrl 0) && t.rd (R.mshTestStat 0) == 0)) = true := by decide +kernel
theorem test_mshTestPatternEnd : after (.mshTestPatternEnd 0 70000 9) (regs [(R.mshTestCtrl 0, 6)] awake) (fun t =>
    t.bit F.mshTestStat_DONE (R.mshTestStat 0) && !t.bit F.mshTestStat_PASS (R.mshTestStat 0) && t.fld F.mshTestStat_ERRORS (R.mshTestStat 0) == 65535 &&
      t.fld F.mshTestStat_BUNDLE (R.mshTestStat 0) == 9) = true := by decide +kernel

/-! ### Instructions of an engine -/

/-- Group 1 of engine 70, of context 3 and queue 5, at 0x10040 of a page that holds code; a second page holds data. -/
def lane0 : Group :=
  { queue := 5, ctx := 3, n := 16, index := 1, pc := 0x10040#57, active := 0x0000000D#32, regs := [(32, 7#32), (34, 9#32), (35, 0xFFFFFFFF#32)],
    stack := [], aflags := 0x15#32, ftr := 0, busy := [], st := .ready, fenceElapsed := 0, krec := none }
def ctx3 : Ctx :=
  { st := .live, hoop := 2, fn := 4, gen := 0, root := 0x1000, motBase := 0x20000, motCount := 2, slot := some 0, fault := none, lost := 0,
    launches := 0, running := [], destroyCookie := 0, destroyTag := 0, forcedUnits := 0, quiet := false }
def codePage : TlbEntry := { ctx := 3, gen := 0, leaf := { va := 0x10000, size := 4096, space := .stack, pa := 0x40000, w := false, x := true, mobj := 1 } }
def dataPage : TlbEntry := { ctx := 3, gen := 0, leaf := { va := 0x11000, size := 4096, space := .stack, pa := 0x50000, w := true, x := false, mobj := 1 } }
def codeLine : L1Line := { addr := 0x40000, space := .stack, ctx := 3, readOnly := true, secs := [(2, { data := zeros 32, poison := 0 })] }
/-- The engine with this group, and the object that covers both pages. -/
def engineWith (u : Group) : State :=
  { awake with
    objs := { Objects.empty with ctxs := [(3, ctx3)] }
    mem := { Memory.empty with cells := cellsPut [] 0x20040 (leBytes 8 0x10000 ++ leBytes 8 0x2000 ++ leBytes 4 0 ++ leBytes 1 1) }
    engs := [(70, { Engine.empty with groups := [(1, u)], tlb := [codePage, dataPage], l1 := [codeLine], shares := [(5, shareOf 3 0 1 (zeros 64))] })] }
def ran (s : State) (g : Group → Bool) : Bool := (s.grp? 70 1).any g

theorem test_i32Simple : after (.i32Simple 70 1 0 .add 2 (.reg 1) (.imm 3#32)) (engineWith lane0) (fun t => ran t (fun v =>
    v.reg 2 0 == 10 && v.reg 2 1 == 0 && v.reg 2 2 == 12 && v.reg 2 3 == 2 && v.pc == 0x10048#57)) = true := by decide +kernel
theorem test_i32Simple_no_register : after (.i32Simple 70 1 0 .add 16 (.reg 1) (.imm 3#32)) (engineWith lane0) (fun t =>
    (t.ctx? 3).any (fun c => c.st == .faulted && c.fault.any (fun f => f.code == 5 && f.detail == 2 && f.engine == 70 && f.group == 1)) &&
    t.fld F.engFault_CODE (R.engFault 70) == 5 && ran t (fun v => v.st == .stopped) && (t.eng 70).draining == [3]) = true := by decide +kernel
theorem test_i32Multiply : (after (.i32Multiply 70 1 0 2 (.reg 1) (.imm 5#32) (some (.reg 1))) (engineWith lane0) (fun t => ran t (fun v =>
    v.reg 2 0 == 42 && v.reg 2 3 == 0xFFFFFFFA#32)) && after (.i32Multiply 70 1 0 2 (.reg 1) (.imm 5#32) none) (engineWith lane0) (fun t =>
    ran t (fun v => v.reg 2 0 == 35))) = true := by decide +kernel
theorem test_laneExchange : after (.laneExchange 70 1 0 .broadcast 2 1 (.imm 2#32)) (engineWith lane0) (fun t => ran t (fun v =>
    v.reg 2 0 == 9 && v.reg 2 2 == 9 && v.reg 2 1 == 0)) = true := by decide +kernel
theorem test_conditionalBranch : after (.conditionalBranch 70 1 0 0x4#32 0x10080#57 0x100C0#57) (engineWith lane0) (fun t => ran t (fun v =>
    v.active == 4#32 && v.pc == 0x10080#57 && v.stack == [{ rpc := 0x100C0#57, saved := 0xD#32, ppc := 0x10048#57, pmask := 9#32 }])) = true := by
  decide +kernel
def deep : Recon := { rpc := 0x10040#57, saved := 0xFF#32, ppc := 0x10100#57, pmask := 0x30#32 }
theorem test_conditionalBranch_full : after (.conditionalBranch 70 1 0 0x4#32 0x10080#57 0x100C0#57) (engineWith { lane0 with stack := List.replicate 32 deep }) (fun t =>
    (t.ctx? 3).any (fun c => c.fault.any (fun f => f.code == 8))) = true := by decide +kernel
theorem test_join : after (.join 70 1 0) (engineWith { lane0 with stack := [deep] }) (fun t => ran t (fun v => v.active == 0x30#32 && v.pc == 0x10100#57 &&
    v.stack == [{ deep with pmask := 0 }])) = true := by decide +kernel
theorem test_join_pops : (after (.join 70 1 0) (engineWith { lane0 with stack := [{ deep with pmask := 0 }] }) (fun t => ran t (fun v => v.active == 0xFF#32 &&
    v.pc == 0x10048#57 && v.stack == [])) && after (.join 70 1 0) (engineWith { lane0 with stack := [{ deep with rpc := 8 }] }) (fun t =>
    ran t (fun v => v.pc == 0x10048#57 && v.stack.length == 1))) = true := by decide +kernel
theorem test_join_no_lane : (let bare := { deep with saved := 0#32, pmask := 0#32 }
    after (.join 70 1 0) (engineWith { lane0 with stack := [bare, deep] }) (fun t => ran t (fun v => v.active == 0 && v.pc == deep.rpc && v.stack == [deep])) &&
    after (.join 70 1 0) (engineWith { lane0 with stack := [bare] }) (fun t => (t.grp? 70 1).isNone)) = true := by decide +kernel
theorem test_exit : after (.exit 70 1 0) (engineWith { lane0 with stack := [deep] }) (fun t => ran t (fun v => v.active == 0 && v.pc == 0x10040#57 &&
    v.stack == [{ deep with saved := 0xF2#32 }])) = true := by decide +kernel
theorem test_exit_ends : after (.exit 70 1 0) (engineWith lane0) (fun t => (t.grp? 70 1).isNone && (t.share? 70 5).any (fun h => h.aflags == 0x15#32 && h.ended == [1])) = true := by
  decide +kernel
theorem test_jump : (after (.jump 70 1 0 0x10100#57) (engineWith lane0) (fun t => ran t (fun v => v.pc == 0x10100#57)) &&
    after (.jump 70 1 0 0x10104#57) (engineWith lane0) (fun t => (t.ctx? 3).any (fun c => c.fault.any (fun f => f.code == 4 && f.detail == 0xFF && f.addr == 0x10104)))) = true := by
  decide +kernel
theorem test_specialRead : (after (.specialRead 70 1 0 .engine 2) (engineWith lane0) (fun t => ran t (fun v => v.reg 2 0 == 70)) &&
    after (.specialRead 70 1 0 .lane 2) (engineWith lane0) (fun t => ran t (fun v => v.reg 2 3 == 3 && v.reg 2 1 == 0))) = true := by decide +kernel
theorem test_aflagsClear : after (.aflagsClear 70 1 0 5) (engineWith lane0) (fun t => ran t (fun v => v.aflags == 0x10#32)) = true := by decide +kernel
theorem test_trap : after (.trap 70 1 0 0xBEEF) (engineWith lane0) (fun t => (t.ctx? 3).any (fun c => c.fault.any (fun f => f.code == 15 && f.detail == 0xBEEF &&
    f.pc == 0x10040)) && t.fld F.engFaultDetail_DETAIL (R.engFaultDetail 70) == 0xBEEF) = true := by decide +kernel
def oldFault : FaultRec := { code := 8, detail := 0, engine := 70, group := 1, lane := 0, queue := 5, pc := 0, addr := 0, time := 0, die := 0, cmd := false }
/-- Context 3 has faulted; its picot has arrived, and engine 1 holds a group of it. -/
def faulted : State :=
  let s := engineWith lane0
  let e70 := { Engine.empty with groups := [(1, lane0), (2, { lane0 with ctx := 4 })], draining := [3] }
  { (regs [(R.engFault 70, Fset F.engFault_VALID 1 7#32), (R.engFaultCnt 70, 3)] s) with
    objs := { s.objs with ctxs := [(3, { ctx3 with st := .faulted, fault := some oldFault })] }
    engs := [(1, { Engine.empty with groups := [(0, lane0)] }), (70, e70)]
    msgs := [(9, { kind := .fault 3 5 70, src := 0, dst := 0, frm := .barrier, stop := .barrier, arrived := true, came := 0, lost := false, poison := false })] }
theorem test_faultPicotArrive : after (.faultPicotArrive 9) faulted (fun t => (t.eng 1).draining == [3] && (t.grp? 1 0).any (fun u => u.st == .stopped)) = true := by
  decide +kernel
theorem test_faultDrainEnd : after (.faultDrainEnd 70 3) faulted (fun t => (t.eng 70).draining == [] && (t.grp? 70 1).isNone && (t.grp? 70 2).isSome) = true := by
  decide +kernel
theorem test_engFaultClear : after (.engFaultClear 70) faulted (fun t => t.rd (R.engFault 70) == 7 && t.rd (R.engFaultCnt 70) == 0) = true := by decide +kernel

/-! ### Accesses of the lanes -/

def at3 (a : Nat) : List VAddr := [BitVec.ofNat 57 a, 0, BitVec.ofNat 57 (a + 4), BitVec.ofNat 57 (a + 64)]
def warm : State := (engineWith lane0).onEng 70 (fun n => { n with l1 := n.l1 ++
  [{ addr := 0x50100, space := .stack, ctx := 3, readOnly := false, secs := [(0, { data := (List.range 32).map (BitVec.ofNat 8), poison := 0 })] }] })
theorem test_load : after (.load 70 1 0 1 false 0 2 (at3 0x11102)) warm (fun t => ran t (fun v => v.reg 2 0 == 0x0302#32 && v.reg 2 2 == 0x0706#32 &&
    v.reg 2 3 == 0 && v.busy == [2] && v.pc == 0x10048#57) && t.txns.map (fun p => (p.2.addr, p.2.secs, p.2.va)) == [(0x50100, 4, 0x11100)]) = true := by decide +kernel
theorem test_load_poisoned : (let s := warm.onEng 70 (fun n => { n with l1 := n.l1.map (fun l => if l.readOnly then l else { l with secs := l.secs.map (fun p => (p.1, { p.2 with poison := 1 })) }) })
    after (.load 70 1 0 1 false 0 2 (at3 0x11102)) s (fun t => (t.ctx? 3).any (fun c => c.fault.any (fun f => f.code == 9 && f.lane == 0 && f.addr == 0x11100)) &&
      t.txns == [])) = true := by decide +kernel
theorem test_load_align : after (.load 70 1 0 2 false 0 2 (at3 0x11102)) warm (fun t => (t.ctx? 3).any (fun c => c.fault.any (fun f => f.code == 4 && f.lane == 0 && f.addr == 0x11102))) = true := by
  decide +kernel
theorem test_store : after (.store 70 1 0 2 false 0 1 (at3 0x11100)) warm (fun t => t.txns.map (fun p => (p.2.secs, p.2.mask, numAt p.2.data 0 8)) ==
    [(1, 0xFF, 7 + 2 ^ 32 * 9), (4, 0xF * 2 ^ 64, 0)] && t.mem == warm.mem && ((t.eng 70).l1Find 3 .stack 0x50100).bind (fun l => (l.sec 0).map (fun c => numAt c.data 0 4)) == some 7) = true := by
  decide +kernel
theorem test_atomic : after (.atomic 70 1 0 0 2 0 2 4 1 255 (at3 0x11100)) warm (fun t => t.txns.map (fun p => (p.2.op, p.2.lanes.map (fun r => (r.lane, r.off, r.a)))) ==
    [(.atomic 0 2, [(0, 0, 7), (2, 4, 9), (3, 64, 0xFFFFFFFF)])] && ((t.eng 70).l1Find 3 .stack 0x50100).isNone && ran t (fun v => v.busy == [4])) = true := by decide +kernel
/-- A request of group 1 that has been answered. -/
def answered (op : MemOp) : Txn :=
  { Txn.blank (.lane 70 1) 0 1 (some 2) (some 3) op .stack 0x50200 with
    secs := 1, data := (List.range 128).map (fun i => BitVec.ofNat 8 (i + 1)), va := 0x11200, pc := 0x10038, rd := 6, size := 1, offs := [(0, 2), (2, 4)], stage := .reply }
theorem test_loadReturn : after (.loadReturn 4) { warm with txns := [(4, answered .read)] } (fun t => ran t (fun v => v.reg 6 0 == 0x0403#32 && v.reg 6 2 == 0x0605#32) &&
    t.txns == [] && ((t.eng 70).l1Find 3 .stack 0x50200).isSome) = true := by decide +kernel
theorem test_loadReturn_poison : (Txn.badLane { answered .read with poison := 1 } == some (0, 0) && after (.loadReturn 4) { warm with txns := [(4, { answered .read with poison := 1 })] } (fun t =>
    (t.ctx? 3).any (fun c => c.fault.any (fun f => f.code == 9 && f.detail == 0 && f.pc == 0x10038 && f.addr == 0x11200)))) = true := by decide +kernel
theorem test_storeAckReturn : after (.storeAckReturn 4) { warm with txns := [(4, answered .store)] } (fun t => t == warm) = true := by decide +kernel
theorem test_atomicReply : after (.atomicReply 4) { warm with txns := [(4, { answered (.atomic 0 2) with size := 2, results := [(0, 77), (3, 2 ^ 32 - 1)] })] } (fun t =>
    ran t (fun v => v.reg 6 0 == 77 && v.reg 6 3 == 0xFFFFFFFF#32) && t.txns == []) = true := by decide +kernel
/-- A table that doubles nothing: VERSION 1, coefficients 0 but c0 of every segment 5. -/
def image5 : Bytes := [1, 0, 3, 0] ++ zeros 12 ++ (List.range 64).flatMap (fun _ => leBytes 3 5 ++ zeros 9)
def withSlot (m : Motif) : State := (engineWith lane0).onEng 70 (fun n => { n with motifs := [(8 * 3 + 2, m)] })
theorem test_motifEvaluate : after (.motifEvaluate 70 1 0 2 4 1) (withSlot { src := 0x11000, image := some image5, loading := false, lines := [] }) (fun t =>
    ran t (fun v => v.reg 4 0 == 0x03010005#32 && v.reg 4 1 == 0 && v.pc == 0x10048#57)) = true := by decide +kernel
theorem test_motifEvaluate_empty : after (.motifEvaluate 70 1 0 2 4 1) (engineWith lane0) (fun t => (t.ctx? 3).any (fun c => c.fault.any (fun f => f.code == 0x0B && f.detail == 2))) = true := by
  decide +kernel
theorem test_motifLoad : after (.motifLoad 70 1 0 2 0x11100#57) (engineWith lane0) (fun t => t.txns.map (fun p => (p.2.size, p.2.secs, p.2.addr)) ==
    (List.range 7).map (fun i => (i, if i = 6 then 1 else 15, 0x50100 + 128 * i)) && (SMap.get? (t.eng 70).motifs 26).any (·.loading)) = true := by decide +kernel
def motifTxn (i : Nat) : Txn :=
  { Txn.blank (.motif 70 3 2) 0 1 (some 2) (some 3) .read .stack (0x50100 + 128 * i) with
    secs := 15, data := cut image5 (128 * i) 128, va := 0x11100 + 128 * i, pc := 0x10038, rd := 1, size := i, offs := [(5, 0)], stage := .reply }
def motifAnswers (f : Nat → Txn) : State :=
  { withSlot { src := 0x11100, image := none, loading := true, lines := [] } with txns := (List.range 7).map (fun i => (4 + i, f i)) }
theorem test_motifLoadComplete : after (.motifLoadComplete 70 3 2) (motifAnswers motifTxn) (fun t =>
    (SMap.get? (t.eng 70).motifs 26).any (fun m => m.image == some image5 && !m.loading) && t.txns == []) = true := by decide +kernel
theorem test_motifLoadComplete_version : after (.motifLoadComplete 70 3 2) (motifAnswers (fun i => if i = 0 then { motifTxn 0 with data := 2 :: zeros 127 } else motifTxn i)) (fun t =>
    (t.ctx? 3).any (fun c => c.fault.any (fun f => f.code == 0x0C && f.detail == 1))) = true := by decide +kernel
theorem test_motifClear : after (.motifClear 70 1 0 2) (motifAnswers motifTxn) (fun t => (SMap.get? (t.eng 70).motifs 26).isNone && t.txns.all (·.2.dead)) = true := by decide +kernel
theorem test_acquire : (after (.acquire 70 1 0 2) warm (fun t => (t.eng 70).l1 == [] && ran t (fun v => v.st == .ready && v.pc == 0x10048#57)) &&
    after (.acquire 70 1 0 2) { warm with txns := [(4, answered .read)] } (fun t => ran t (fun v => v.st == .acquire 2))) = true := by decide +kernel
theorem test_release : (after (.release 70 1 0 2) warm (fun t => ran t (fun v => v.pc == 0x10048#57)) &&
    after (.release 70 1 0 2) { warm with txns := [(4, answered .store)] } (fun t => ran t (fun v => v.pc == 0x10040#57))) = true := by decide +kernel

/-! ### The filet, fragments and kernels -/

/-- The engine's group with all lanes active and a window of 64 KiB at 8,192. -/
def tiled (u : Group) (tile : List Host.Cell) : State := (engineWith { u with active := 0xFFFFFFFF#32 }).onEng 70 (fun n => { n with
  tile := tile, wins := [{ queue := 5, base := 8192, size := 65536, zeroed := true }] })
/-- A LOAD of one row of 64 bytes from 0x11100 to offset 0x40 of the window. -/
def ldWords : List Nat := [0x00400103, 0x40, 0x11100, 0, 64, 64, 0, 0]
def withWords (ws : List Nat) : Group := { lane0 with regs := (List.range 8).map (fun i => (32 * (8 + i), BitVec.ofNat 32 (ws.getD i 0))) }
theorem test_filet : after (.filet 70 1 0 8 2) (tiled (withWords ldWords) []) (fun t => ran t (fun v => v.ftr == 1 && v.reg 2 7 == 1 && v.pc == 0x10048#57) &&
    (t.entry? 70 0).any (fun f => f.words == ldWords && f.group == 1 && !f.started)) = true := by decide +kernel
theorem test_filet_decode : after (.filet 70 1 0 8 2) (tiled (withWords [0x00400103, 0x41, 0x11100, 0, 64, 64]) []) (fun t =>
    (t.ctx? 3).any (fun c => c.fault.any (fun f => f.code == 4 && f.detail == 1 && f.addr == 0x41))) = true := by decide +kernel
theorem test_fwait : (after (.fwait 70 1 0 (.imm 6#32)) (engineWith { lane0 with ftr := 1 }) (fun t => ran t (fun v => v.pc == 0x10048#57 && v.st == .ready)) &&
    after (.fwait 70 1 0 (.imm 3#32)) (engineWith { lane0 with ftr := 1 }) (fun t => ran t (fun v => v.st == .fwait 3))) = true := by decide +kernel
/-- A command that is being saved parks its group at an FWAIT that does not hold. -/
theorem test_fwait_parks : after (.fwait 70 1 0 (.imm 3#32)) ((engineWith { lane0 with ftr := 1 }).onEng 70 (fun n => { n with shares := SMap.mapVals n.shares (fun _ h => { h with saving := some 1 }) }))
    (fun t => ran t (fun v => match v.st with | .parked p => p.why == 4 && p.live == 0xFFFF | _ => false)) = true := by decide +kernel
def entryOf (ws : List Nat) : FEntry := { group := 1, lane := 0, queue := 5, ctx := 3, pc := 0x10038#57, words := ws, order := 0, started := false, flags := 0, todo := [], page := none }
def queued (f : FEntry) (tile : List Host.Cell) : State := (tiled { lane0 with ftr := 4 } tile).onEng 70 (fun n => { n with filet := [(2, f)] })
/-- An MMA of one K block of S8 by S8 with CLEAR and anchor 0: the only element that is not 0 is 3 times 5, scaled by 1. -/
def mmaWords : List Nat := [1 + 16 + 2 * 2 ^ 16 + 2 * 2 ^ 19 + 2 ^ 22, 0x2000, 0x3000, 0x4000, 0x5000, 0x6000, 0, 0]
def mmaTile : List Host.Cell := [(8192 + 0x2000, 3), (8192 + 0x3000, 1), (8192 + 0x4000, 5), (8192 + 0x5000, 1)]
theorem test_mmaStart : ((queued (entryOf mmaWords) mmaTile).entry? 70 2 == some (entryOf mmaWords) &&
    ((queued (entryOf mmaWords) mmaTile).eng 70).mayStart 2 (entryOf mmaWords) && (((queued (entryOf mmaWords) mmaTile).eng 70).readBad (entryOf mmaWords)).isNone &&
    after (.mmaStart 70 2 [(0, .single)]) (queued (entryOf mmaWords) mmaTile) (fun t => (t.entry? 70 2).any (·.started))) = true := by decide +kernel
/-- The one product that is not 0: 3 times 5, scaled by 1 and 1, under anchor 0 (R67). -/
theorem test_mma_element : (dot32 2 (3 + 256) 2 (5 + 65536) == 15 && accumulate 0 { val := 0, sat := false } [{ sw := 1, sx := 1, dot := 15 }] == { val := 15, sat := false } &&
    (accBytes [{ val := 15, sat := false }] 0 false).take 7 == [15, 0, 0, 0, 0, 0, 0]) = true := by decide +kernel
theorem test_mmaStart_poison : after (.mmaStart 70 2 [((8192 + 0x2000) / 8, .double)]) (queued (entryOf mmaWords) mmaTile) (fun t =>
    (t.entry? 70 2).isNone && (t.ctx? 3).any (fun c => c.fault.any (fun f => f.code == 9 && f.detail == 2 && f.addr == 0x2000))) = true := by decide +kernel
/-- An OUT of the accumulator tile at 0 as an A48 image at 0x4000. -/
theorem test_outStart : (after (.outStart 70 2 []) (queued (entryOf [2 + 4 * 256, 0, 0x4000]) [(8192, 15), (8192 + 6272, 3)]) (fun t => (t.entry? 70 2).any (·.started)) &&
    ((outLineOf [2 + 4 * 256, 0, 0x4000] ((queued (entryOf [2]) [(8192, 15), (8192 + 6272, 3)]).winAt 70 (entryOf [2]) { lo := 0, len := 6274 }) 0).1).take 8 == [15, 0, 0, 0, 0, 0, 3, 0]) = true := by
  decide +kernel
theorem test_filetLoadStart : after (.filetLoadStart 70 2) (queued (entryOf ldWords) []) (fun t => (t.entry? 70 2).any (fun f => f.started &&
    f.todo.map (fun p => (p.va, p.mask, p.tiles)) == [(0x11100, 2 ^ 64 - 1, [(8192 + 0x40, 0), (8192 + 0x60, 32)])])) = true := by decide +kernel
theorem test_filetStoreStart : after (.filetStoreStart 70 2 []) (queued (entryOf (ldWords.set 0 0x00400104)) [(8192 + 0x40, 9)]) (fun t =>
    (t.entry? 70 2).any (fun f => f.todo.map (fun p => (p.va, p.data.take 2)) == [(0x11100, [9, 0])])) = true := by decide +kernel
theorem test_fragLoadS : (let s := tiled lane0 [(8192 + 32 + 48, 0x5A), (8192 + 32 + 55, 0x80)]
    after (.fragLoadS 70 1 0 8 32 48 []) s (fun t => ran t (fun v => v.reg 8 1 == 0x5A#32 && v.reg 9 1 == 0x80000000#32 && v.pc == 0x10048#57)) &&
    after (.fragLoad 70 1 0 8 32 []) s (fun t => ran t (fun v => v.reg 8 3 == 0x5A#32))) = true := by decide +kernel
theorem test_fragLoadS_poison : after (.fragLoadS 70 1 0 8 32 48 [((8192 + 80) / 8, .double)]) (tiled lane0 []) (fun t => (t.ctx? 3).any (fun c => c.fault.any (fun f =>
    f.code == 9 && f.detail == 2 && f.lane == 1 && f.addr == 80))) = true := by decide +kernel
theorem test_fragStoreS : (let s := tiled { lane0 with regs := [(32 * 8 + 1, 7#32)] } []
    after (.fragStoreS 70 1 0 8 32 48) s (fun t => (t.eng 70).tile == [(8192 + 80, 7)]) && after (.fragStore 70 1 0 8 32) s (fun t => (t.eng 70).tile == [(8192 + 48, 7)])) = true := by
  decide +kernel
/-- Page tables of context 3 that map 0x11000 to 0x50000. -/
def paged (s : State) : State :=
  let w (s : State) (a v : Nat) : State := s.onMem (fun m => { m with cells := cellsPut m.cells a (leBytes 8 v) })
  (w (w (w (w (w s 0x1000 0x2001) 0x2000 0x3001) 0x3000 0x4001) 0x4000 0x5001) 0x5088 (0x50000 + 5 + 2 ^ 48)).setF F.memSetStat_OWNER (R.memSetStat 0) 2
theorem test_filetPageTranslate : (let f : FEntry := { entryOf ldWords with started := true, todo := [{ va := 0x11100, mask := 2 ^ 64 - 1, tiles := [(8256, 0), (8288, 32)], data := zeros 128 }] }
    after (.filetPageTranslate 70 2) (paged (queued f [])) (fun t => t.txns.map (fun p => (p.2.addr, p.2.secs)) == [(0x50100, 3)] &&
      (t.entry? 70 2).any (fun f => f.todo == []))) = true := by decide +kernel
theorem test_filetComplete : (let s := (queued { entryOf ldWords with started := true, flags := 1 } []).onGrp 70 1 (fun u => { u with st := .fwait 4, aflags := 2 })
    after (.filetComplete 70 2) s (fun t => (t.entry? 70 2).isNone && ran t (fun v => v.ftr == 0 && v.aflags == 3#32 && v.st == .ready && v.pc == 0x10048#57))) = true := by
  decide +kernel
/-- A LAUNCH of queue 9 waits on engine 70, of whose group slots only slot 9 is free: 16 registers, two groups from index 4, arguments 0x5_0000_0007. -/
def launchShare : Share :=
  { shareOf 3 2 3 (zeros 64) with n := 16, gpe := 2, kernel := 0x10000, args := 0x500000007, next := 4, last := 5 }
def launchOn (h : Share) : State := ((engineWith lane0).setF F.engStat_STATE (R.engStat 70) 1).onEng 70 (fun n => { n with
  shares := [(9, h)], groups := ((List.range 16).erase 9).map (fun i => (i, lane0)) })
theorem test_kernelStart : (after (.kernelStart 70 9) (launchOn launchShare) (fun t => (t.eng 70).l1 == [] && (t.grp? 70 9).any (fun v => v.index == 4)) &&
    after (.kernelStart 70 9) ((launchOn { launchShare with twin := 2 }).onEng 70 (fun n => { n with wins := [{ queue := 5, base := 16384, size := 770048, zeroed := true }] })) (fun t => (t.eng 70).wins.contains { queue := 9, base := 0, size := 16384, zeroed := false })) = true := by
  decide +kernel
theorem test_windowZeroEnd : (let s := (launchOn { launchShare with twin := 2 }).onEng 70 (fun n => { n with
      wins := [{ queue := 9, base := 8192, size := 16384, zeroed := false }], tile := [(8191, 1), (8192, 2), (24576, 3)] })
    after (.windowZeroEnd 70 9) s (fun t => (t.eng 70).tile == [(8191, 1), (24576, 3)] && (t.share? 70 9).any (·.started))) = true := by decide +kernel
theorem test_groupStart : after (.groupStart 70 9) (launchOn { launchShare with started := true }) (fun t => (t.grp? 70 9).any (fun v => v.reg 0 31 == 7 && v.reg 1 0 == 5 &&
    v.reg 2 0 == 4 && v.reg 3 0 == 6 && v.reg 4 0 == 2 && v.reg 5 0 == 3 && v.reg 6 0 == 0 && v.pc == 0x10000#57) && (t.share? 70 9).any (fun h => h.next == 5)) = true := by
  decide +kernel

/-! ### Barriers and fences -/

theorem test_barrier : (after (.barrier 70 1 0 6 2) (engineWith lane0) (fun t => ran t (fun v => v.st == .barrier 2 2) &&
    t.msgs.map (fun p => (p.2.kind, p.2.dst)) == [(.arrive 5 2 2 70 1, 0)]) && after (.barrier 70 1 0 6 0) (engineWith lane0) (fun t => ran t (fun v => v.pc == 0x10048#57))) = true := by
  decide +kernel
/-- A LAUNCH of one group each on engines 70 and 71 of die 0. -/
def launchRun : Run := { Run.start ([2, 0] ++ zeros 31 ++ [1] ++ zeros 30) [70, 71] [] with arrivals := [(10, [0])] }
def queue5 : Queue :=
  { st := .live, kind := .compute, log2 := 4, ctx := 3, evring := 2, ring := 0x11000, eyelet := 0x11800, poll := 0, slot := some 0, sched := 0, pSeen := 1, c := 0,
    bound := true, members := [70, 71], boundAt := 0, waitSince := none, sliceOver := false, wake := false, eyeletOut := false, eyeletAfter := 0, descOut := false,
    run := some launchRun, last := 0, destroyCookie := 0, destroyTag := 0, destroyFn := 0, silent := false, drain := [], forced := 0, latePins := [], abandoned := [], ringPins := [] }
def withQueue (q : Queue) (s : State) : State := s.onObjs (fun o => { o with queues := [(5, q)] })
def msgOf (k : MsgKind) : Msg :=
  { kind := k, src := 0, dst := 0, frm := .barrier, stop := .barrier, arrived := true, came := 0, lost := false, poison := false }
def gotMsg (k : MsgKind) (s : State) : State := { s with msgs := [(9, msgOf k)], nextId := 20 }
theorem test_barrierArrival : after (.barrierArrival 9) (gotMsg (.arrive 5 1 2 71 1) (withQueue queue5 (engineWith lane0))) (fun t =>
    t.msgs.map (·.2.kind) == [.release 5 1 2 70, .release 5 1 2 71]) = true := by decide +kernel
theorem test_barrierArrival_waits : after (.barrierArrival 9) (gotMsg (.arrive 5 1 3 71 1) (withQueue queue5 (engineWith lane0))) (fun t => t.msgs == [] &&
    ((t.queue? 5).bind (·.run)).any (fun r => SMap.get? r.arrivals 11 == some [1])) = true := by decide +kernel
theorem test_barrierRelease : after (.barrierRelease 9) (gotMsg (.release 5 1 2 70) (engineWith { lane0 with st := .barrier 1 2 })) (fun t =>
    ran t (fun v => v.st == .ready && v.pc == 0x10048#57) && (t.eng 70).l1 == []) = true := by decide +kernel
/-- Object 1 of context 3 holds fences; the fence at 0x50040 has value 4, event 6, ring 2. -/
def fenced (flags : Nat) : State :=
  let s := (paged (engineWith lane0))
  let s := s.onMem (fun m => { m with cells := cellsPut (cellsPut m.cells 0x20055 [8]) 0x50040 (leBytes 8 4 ++ leBytes 8 6 ++ leBytes 8 0x77 ++ leBytes 2 2 ++ leBytes 1 flags) })
  regs [(R.cshSliceMap (homeIndex 0x50040), 0)] s
theorem test_fenceSignalInsn : after (.fenceSignalInsn 70 1 0 2 0x11040#57 5) (fenced 0) (fun t => ran t (fun v => v.pc == 0x10048#57) &&
    t.msgs.map (·.2.kind) == [.signal 3 0x50040 5 none (some { queue := 5, unit := 70, group := 1, lane := 0, pc := 0x10040 })]) = true := by decide +kernel
theorem test_fenceWaitInsn : after (.fenceWaitInsn 70 1 0 2 0x11040#57 5) (fenced 0) (fun t => ran t (fun v => v.st == .fence 0x11040 5 2 true) &&
    t.msgs.map (·.2.kind) == [.register 3 0x50040 5 (1, 1121)]) = true := by decide +kernel
def waiting70 : State := (fenced 1).onObjs (fun o => { o with waits := [{ slice := 0, addr := 0x50040, target := 5, who := (1, 1121) }] })
theorem test_fenceSignalApply : after (.fenceSignalApply 9) (gotMsg (.signal 3 0x50040 5 none none) waiting70) (fun t => (fenceOf (t.peek 0x50040 32).1).value == 5 &&
    t.objs.waits == [] && t.msgs.map (·.2.kind) == [.fenceRelease (1, 1121)]) = true := by decide +kernel
theorem test_fenceSignalApply_smaller : after (.fenceSignalApply 9) (gotMsg (.signal 3 0x50040 3 none none) waiting70) (fun t =>
    fenceOf (t.peek 0x50040 32).1 == { value := 4, event := 6, cookie := 0x77, evring := 2, flags := 3 }) = true := by decide +kernel
theorem test_fenceWaitRegister : (after (.fenceWaitRegister 9) (gotMsg (.register 3 0x50040 5 (1, 1121)) (fenced 0)) (fun t =>
    t.objs.waits.map (fun w => (w.addr, w.target, w.who)) == [(0x50040, 5, (1, 1121))]) && after (.fenceWaitRegister 9) (gotMsg (.register 3 0x50040 4 (1, 1121)) (fenced 0)) (fun t =>
    t.msgs.map (·.2.kind) == [.fenceRelease (1, 1121)])) = true := by decide +kernel
theorem test_fenceValuePoll : after (.fenceValuePoll 9) (gotMsg (.poll 3 0x50040 4 (1, 1121)) (fenced 0)) (fun t => t.msgs.map (·.2.kind) == [.fenceRelease (1, 1121)]) = true := by
  decide +kernel
theorem test_fenceWaitRelease : after (.fenceWaitRelease 9) (gotMsg (.fenceRelease (1, 1121)) (engineWith { lane0 with st := .fence 0x11040 5 2 true })) (fun t =>
    ran t (fun v => v.st == .ready && v.pc == 0x10048#57)) = true := by decide +kernel
theorem test_fenceWaitRelease_queue : after (.fenceWaitRelease 9) (gotMsg (.fenceRelease (0, 5)) (withQueue { queue5 with run := some (Run.start (7 :: zeros 63) [] []) } (engineWith lane0)))
    (fun t => (t.queue? 5).any (fun q => q.hasRun .completing)) = true := by decide +kernel
theorem test_barrier_parks : after (.barrier 70 1 0 6 2) ((engineWith lane0).onEng 70 (fun n => { n with shares := SMap.mapVals n.shares (fun _ h => { h with saving := some 1 }) }))
    (fun t => ran t (fun v => match v.st with | .parked p => p.why == 2 && p.arg == 10 | _ => false)) = true := by decide +kernel

/-! ### The crossbar, toile, and home slices -/

/-- A stack read or store of group 1 of engine 0 (hoop 2) at 0x50200, whose home index is on die 0 here. -/
def stackTxn (op : MemOp) (st : Stage) : Txn :=
  { Txn.blank (.lane 0 1) 0 0 (some 2) (some 3) op .stack 0x50200 with
    secs := 2, data := (List.range 128).map (BitVec.ofNat 8), mask := 0xF * 2 ^ 32, stage := st, idx := homeIndex 0x50200, va := 0x11200 }
def idx5 : Nat := homeIndex 0x50200
/-- Links and routes up: every die can be reached; set 0 belongs to hoop 2; index `idx5` lives in slice 3 of die 0. -/
def chip : State := regs ([(R.memSetStat 0, 2), (R.cshSliceMap idx5, 3 * 8)] ++ (List.range 10).map (fun l => (R.mshLinkStat l, 2))) awake
def sec7 : Sector := { st := .clean, data := List.replicate 32 7, dirty := 0, poison := false }
def line5 (d : Dir) (c : Sector) : Line :=
  { Line.fresh 0x50200 idx5 .home none (some 2) 4 .normal 9 with secs := [c, c, Sector.empty, Sector.empty], dir := d, counted := true }
def withHome (l : List Line) (s : State) : State := s.onSlice (s.physSlice idx5) (fun x => { x with lines := l })
def txnIn (x : Txn) (s : State) : State := { s with txns := [(4, x)], nextId := 20 }
theorem test_chip_slice : (F.cshSliceMap_PHYS_POS.lo == 3 && chip.physSlice idx5 == 3) = true := by decide +kernel
theorem test_crossbarRequest : (after (.crossbarRequest 4) (txnIn (stackTxn .read .crossbar) chip) (fun t => (t.txn? 4).any (fun y => y.stage == .home && y.idx == idx5)) &&
    after (.crossbarRequest 4) (txnIn { stackTxn .read .crossbar with hoop := some 1 } chip) (fun t => (t.txn? 4).any (fun y => y.stage == .reply && y.status == 1)) &&
    after (.crossbarRequest 4) (txnIn { stackTxn .read .crossbar with space := .toile, addr := 0x10006000000 } chip) (fun t => (t.txn? 4).any (fun y => y.status == 1)) &&
    after (.crossbarRequest 4) (txnIn { stackTxn .read .crossbar with space := .toile, addr := 0x10000000000 } chip) (fun t => (t.txn? 4).any (fun y => y.stage == .toile)) &&
    after (.crossbarRequest 4) (txnIn { stackTxn .read .crossbar with space := .host } chip) (fun t => (t.txn? 4).any (fun y => y.stage == .host))) = true := by decide +kernel
theorem test_crossbarRequest_peer : (let s := chip.setF F.gmpOutTag_PORTS (R.gmpOutTag 2) 2
    after (.crossbarRequest 4) (txnIn { stackTxn .read .crossbar with space := .peer 1 } s) (fun t => (t.txn? 4).any (fun y => y.status == 0x45)) &&
    after (.crossbarRequest 4) (txnIn { stackTxn .read .crossbar with space := .peer 1 } (s.setF F.gmpStat_STATE (R.gmpStat 1) 3)) (fun t => (t.txn? 4).any (fun y => y.stage == .port))) = true := by
  decide +kernel
theorem test_toileBankRequest : (let x := { stackTxn .store .toile with space := .toile, addr := 0x10000000080 }
    after (.toileBankRequest 4 []) (txnIn x chip) (fun t => t.mem.cells == [(0x100000000A0, 32), (0x100000000A1, 33), (0x100000000A2, 34), (0x100000000A3, 35)] &&
      (t.txn? 4).any (fun y => y.stage == .reply)) &&
    after (.toileBankRequest 4 []) (txnIn { x with op := .read } (chip.onMem (fun m => { m with cells := [(0x10000000085, 9)] }))) (fun t =>
      (t.txn? 4).any (fun y => numAt y.data 5 1 == 9 && y.stage == .reply))) = true := by decide +kernel
theorem test_homeRead : after (.homeRead 4 .none) (txnIn (stackTxn .read .home) (withHome [line5 .none sec7] chip)) (fun t =>
    (t.txn? 4).any (fun y => y.stage == .reply && numAt y.data 32 2 == 0x0707 && y.poison == 0)) = true := by decide +kernel
theorem test_homeRead_code : after (.homeRead 4 (.double 1)) (txnIn (stackTxn .read .home) (withHome [line5 .none sec7] chip)) (fun t =>
    (t.txn? 4).any (fun y => y.poison == 2) && (t.slice 3).poisoned == 1 && (t.homeLine (stackTxn .read .home)).any (fun m => (secAt m.secs 1).poison)) = true := by decide +kernel
theorem test_crossbarRequest_lost : after (.crossbarRequest 4) (txnIn (stackTxn .read .crossbar) (chip.setF F.cshSliceMap_STATE (R.cshSliceMap idx5) 3)) (fun t =>
    (t.txn? 4).any (fun y => y.stage == .reply && y.status == 0x40)) = true := by decide +kernel
theorem test_toileBankRequest_code : after (.toileBankRequest 4 [(5, .double), (6, .single)]) (txnIn { stackTxn .read .toile with space := .toile, addr := 0x10000000080 } chip) (fun t =>
    (t.txn? 4).any (fun y => y.words == 32 && y.poison == 2)) = true := by decide +kernel
theorem test_homeRead_asks : (after (.homeRead 4 .none) (txnIn { stackTxn .read .home with secs := 14 } (withHome [line5 .none sec7] chip)) (fun t =>
    (t.txn? 4).any (fun y => y.stage == .fill && y.waitStack == 2) && t.mem.reqs.map (fun p => (p.2.sector, p.2.write)) == [(0x50200 / 32 + 2, false), (0x50200 / 32 + 3, false)]) &&
    after (.homeRead 4 .none) (txnIn (stackTxn .read .home) (withHome [line5 (.owned 6) sec7] chip)) (fun t => (t.txn? 4).any (fun y => y.stage == .queued) &&
      t.msgs.map (fun p => (p.2.kind, p.2.dst)) == [(.recall idx5 0x50200, 6)])) = true := by decide +kernel
theorem test_homeStore : (after (.homeStore 4) (txnIn (stackTxn .store .home) (withHome [line5 .none sec7] chip)) (fun t =>
    (t.homeLine (stackTxn .store .home)).any (fun m => (secAt m.secs 1).st == .dirty && numAt (secAt m.secs 1).data 0 5 == 0x0723222120) && (t.txn? 4).any (fun y => y.stage == .reply)) &&
    after (.homeStore 4) (txnIn (stackTxn .store .home) (withHome [{ line5 .none sec7 with counted := false }] chip)) (fun t => (t.txn? 4).any (fun y => y.stage == .acks && y.waitLedger))) = true := by
  decide +kernel
theorem test_homeMirroredStore : after (.homeMirroredStore 4) (txnIn { stackTxn .store .home with mirrored := true } (withHome [line5 .none sec7] chip)) (fun t =>
    t.mem.reqs.map (fun p => (p.2.sector, p.2.write, p.2.mask)) == [(0x50200 / 32 + 1, true, 0xF), ((0x50200 + 2 ^ 22) / 32 + 1, true, 0xF)]) = true := by decide +kernel
theorem test_allocationRetry : after (.allocationRetry 4) (txnIn (stackTxn .read .alloc) chip) (fun t => (t.homeLine (stackTxn .read .alloc)).any (fun m => m.role == .home) &&
    (t.txn? 4).any (fun y => y.stage == .fill) && t.mem.reqs.length == 1) = true := by decide +kernel
theorem test_stackFillReturn : (let s := txnIn { stackTxn .read .fill with waitStack := 1 } (withHome [line5 .none Sector.empty] chip)
    let q := { s.sectorReq 0 (.quadrant 0) (0x50200 / 32 + 1) (.fill 3 0x50200 idx5 1) with data := List.replicate 32 5, done := true }
    after (.stackFillReturn 6) (s.onMem (fun m => { m with reqs := [(6, q)] })) (fun t => t.mem.reqs == [] && (t.txn? 4).any (fun y => y.stage == .reply && numAt y.data 32 2 == 0x0505))) = true := by
  decide +kernel
def addTxn4 (op : MemOp) : Txn := { stackTxn op .home with lanes := [{ lane := 2, off := 36, a := 0xFFFFFFFF, b := 0, f := 0, ret := true }] }
theorem test_homeAtomic : after (.homeAtomic 4 .none) (txnIn (addTxn4 (.atomic 0 2)) (withHome [line5 .none sec7] chip)) (fun t =>
    (t.homeLine (stackTxn .read .home)).any (fun m => numAt (secAt m.secs 1).data 4 4 == 0x07070706 && m.dir == .none) && (t.txn? 4).any (fun y => y.results == [(2, 0x07070707)])) = true := by
  decide +kernel
theorem test_homeAtomic_poison : after (.homeAtomic 4 .none) (txnIn (addTxn4 (.atomic 0 2)) (withHome [line5 .none { sec7 with poison := true }] chip)) (fun t =>
    (t.homeLine (stackTxn .read .home)).any (fun m => m.secs == (line5 .none { sec7 with poison := true }).secs) && (t.txn? 4).any (fun y => y.poison == 2)) = true := by decide +kernel
theorem test_lineReduction : (let l := { line5 .none sec7 with secs := List.replicate 4 { sec7 with data := zeros 32 } }
    after (.lineReduction 4 (.single 0)) (txnIn { stackTxn (.reduce 1 2 0 0 0 1 1) .home with secs := 15, mask := 2 ^ 128 - 1, data := leBytes 2 3 ++ zeros 126 } (withHome [l] chip)) (fun t =>
      (t.homeLine (stackTxn .read .home)).any (fun m => numAt (secAt m.secs 0).data 0 2 == 6))) = true := by decide +kernel
theorem test_waitingRequestServe : after (.waitingRequestServe (.txn 4) .none) ((txnIn (stackTxn .read .queued) (withHome [line5 .none sec7] chip)).onSlice 3 (fun x => { x with waiting := [.txn 4] })) (fun t =>
    (t.slice 3).waiting == [] && (t.txn? 4).any (fun y => y.stage == .reply)) = true := by decide +kernel
/-- A signal of 5 waits first for the line of the fence whose value is 4. -/
theorem test_waitingRequestServe_fence : after (.waitingRequestServe (.msg 9) .none) ((gotMsg (.signal 3 0x50040 5 none none) (fenced 0)).onSlice 0 (fun x => { x with waiting := [.msg 9] }))
    (fun t => (t.slice 0).waiting == [] && (fenceOf (t.peek 0x50040 32).1).value == 5) = true := by decide +kernel

/-! ### Near copies, ledgers and dead dies -/

/-- The index of the line in the near slice of die 1: slice 36 there. -/
def nearChip : State := regs [(R.cshSliceMap (32 + idx5 % 32), 1 + 3 * 8)] chip
def nearTxn (op : MemOp) : Txn := { stackTxn op .near with die := 1, near := true, issuer := .lane 256 1 }
def nearLine (r : Role) : Line := { line5 .none sec7 with role := r }
def withNear (l : List Line) (s : State) : State := s.onSlice 36 (fun x => { x with lines := l })
theorem test_nearSlice : nearChip.nearSlice 1 idx5 = 36 := by decide +kernel
theorem test_nearRead : (after (.nearRead 4 .none) (txnIn (nearTxn .read) (withNear [nearLine .near] nearChip)) (fun t => (t.txn? 4).any (fun y => y.stage == .reply && numAt y.data 32 1 == 7)) &&
    after (.nearRead 4 .none) (txnIn (nearTxn .read) nearChip) (fun t => (t.txn? 4).any (fun y => y.stage == .home))) = true := by decide +kernel
theorem test_nearStore : (after (.nearStore 4) (txnIn (nearTxn .store) (withNear [nearLine .owned] nearChip)) (fun t =>
      ((t.slice 36).find 0x50200 idx5).any (fun m => numAt (secAt m.secs 1).data 0 4 == 0x23222120) && (t.txn? 4).any (fun y => y.stage == .reply)) &&
    after (.nearStore 4) (txnIn (nearTxn .store) (withNear [nearLine .near] nearChip)) (fun t => (t.txn? 4).any (·.waitAns) && t.msgs.map (fun p => (p.2.kind, p.2.dst)) == [(.ownRequest 4, 0)])) = true := by
  decide +kernel
theorem test_nearStore_mirrored : after (.nearStore 4) (txnIn { nearTxn .store with mirrored := true } nearChip) (fun t => (t.txn? 4).any (fun y => y.stage == .home)) = true := by decide +kernel
theorem test_ownershipRequest : (let s := gotMsg (.ownRequest 4) (txnIn { nearTxn .store with waitAns := true } (withHome [line5 (.shared 2) sec7] nearChip))
    after (.ownershipRequest 9) s (fun t => (t.homeLine (nearTxn .store)).any (fun m => m.dir == .owned 1) && t.msgs.map (·.2.kind) == [.ownGrant 4])) = true := by decide +kernel
theorem test_ownershipRequest_calls : (let s := gotMsg (.ownRequest 4) (txnIn { nearTxn .store with waitAns := true } (withHome [line5 (.shared 6) sec7] nearChip))
    after (.ownershipRequest 9) s (fun t => (t.homeLine (nearTxn .store)).any (fun m => m.dir == .recall [2] (some 4) (.owner 1 4)) &&
      t.msgs.map (fun p => (p.2.kind, p.2.dst)) == [(.invalidate idx5 0x50200, 2)])) = true := by decide +kernel
theorem test_ownershipGrant : after (.ownershipGrant 9) (gotMsg (.ownGrant 4) (txnIn { nearTxn .store with waitAns := true } nearChip)) (fun t =>
    ((t.slice 36).find 0x50200 idx5).any (fun m => m.role == .owned && (secAt m.secs 1).st == .partialDirty && (secAt m.secs 1).dirty == 15 && (secAt m.secs 0).st == .invalid) &&
    (t.txn? 4).any (fun y => y.stage == .reply && !y.waitAns)) = true := by decide +kernel
theorem test_invalidate : after (.invalidate 9) (let s := withNear [nearLine .near] nearChip; { s with msgs := [(9, { msgOf (.invalidate idx5 0x50200) with dst := 1 })] }) (fun t =>
    ((t.slice 36).find 0x50200 idx5).isNone && t.msgs.map (·.2.kind) == [.answer idx5 0x50200 1 []]) = true := by decide +kernel
theorem test_recall : after (.recall 9) (let s := withNear [{ nearLine .owned with secs := [sec7, { sec7 with st := .dirty, dirty := 3 }] }] nearChip
    { s with msgs := [(9, { msgOf (.recall idx5 0x50200) with dst := 1 })] }) (fun t =>
    ((t.slice 36).find 0x50200 idx5).isNone && t.msgs.map (·.2.kind) == [.answer idx5 0x50200 1 [(1, List.replicate 32 7, 3, false)]]) = true := by decide +kernel
theorem test_directoryAnswer : (after (.directoryAnswer 9) (gotMsg (.answer idx5 0x50200 1 [(1, List.replicate 32 9, 3, false)]) (withHome [line5 (.recall [9, 2] none .none) sec7] nearChip)) (fun t =>
      (t.homeLine (nearTxn .store)).any (fun m => m.dir == .recall [2] none .none && numAt (secAt m.secs 1).data 0 3 == 0x070909)) &&
    after (.directoryAnswer 9) (gotMsg (.answer idx5 0x50200 1 []) (txnIn { stackTxn .store .acks with waitAns := true } (withHome [line5 (.recall [1] (some 4) .none) sec7] nearChip))) (fun t =>
      (t.homeLine (nearTxn .store)).any (fun m => m.dir == .none) && (t.txn? 4).any (fun y => y.stage == .reply))) = true := by decide +kernel
theorem test_directoryAnswer_evicted : after (.directoryAnswer 9) (gotMsg (.evicted idx5 0x50200 1 [(0, List.replicate 32 9, 1, false)]) (withHome [line5 (.owned 1) sec7] nearChip)) (fun t =>
    (t.homeLine (nearTxn .store)).any (fun m => m.dir == .none && numAt (secAt m.secs 0).data 0 2 == 0x0709)) = true := by decide +kernel
theorem test_nearEvict : after (.nearEvict 36 0x50200) (withNear [{ nearLine .owned with secs := [{ sec7 with st := .dirty, dirty := 1 }] }] nearChip) (fun t => (t.slice 36).lines == [] &&
    t.msgs.map (·.2.kind) == [.evicted idx5 0x50200 1 [(0, List.replicate 32 7, 1, false)]]) = true := by decide +kernel
theorem test_homeEvict : after (.homeEvict 3 0x50200 .none) (withHome [line5 .none { sec7 with st := .dirty, dirty := 6 }] chip) (fun t => (t.slice 3).lines == [] &&
    t.mem.reqs.map (fun p => (p.2.sector, p.2.mask)) == [(0x50200 / 32, 6), (0x50200 / 32 + 1, 6)]) = true := by decide +kernel
theorem test_ledgerIncrement : after (.ledgerIncrement 9) (gotMsg (.ledgerInc 3 5 (some 4)) (chip.onCache (fun c => { c with ledger := [(3 * 2 ^ 20 + 5, 2)] }))) (fun t =>
    t.cache.ledger == [(3 * 2 ^ 20 + 5, 3)] && t.msgs.map (·.2.kind) == [.ledgerAns 4]) = true := by decide +kernel
theorem test_ledgerDecrement : (after (.ledgerDecrement 9) (gotMsg (.ledgerDec 3 5) (chip.onCache (fun c => { c with ledger := [(3 * 2 ^ 20 + 5, 2)] }))) (fun t =>
    t.cache.ledger == [(3 * 2 ^ 20 + 5, 1)]) && after (.ledgerDecrement 9) (gotMsg (.ledgerDec 3 5) (chip.onCache (fun c => { c with ledger := [(3 * 2 ^ 20 + 5, 1)] }))) (fun t => t.cache.ledger == [])) = true := by
  decide +kernel
theorem test_ledgerAnswer : after (.ledgerAnswer 9) (gotMsg (.ledgerAns 4) (txnIn { stackTxn .store .acks with waitLedger := true } chip)) (fun t => (t.txn? 4).any (fun y => y.stage == .reply)) = true := by
  decide +kernel
theorem test_ledgerDieChange : after (.ledgerDieChange 1) (chip.setF F.wndDieStat_BASE_LOST R.wndDieStat 32) (fun t => t.ledgerOf 1 == 0 && t.cache.ledgerWalk == [1] &&
    t.fld F.cshDeadStat_LEDGER_LOST R.cshDeadStat == 2) = true := by decide +kernel
theorem test_ledgerWalkEnd : after (.ledgerWalkEnd 0) ((txnIn { stackTxn .store .acks with waitLedger := true } chip).onCache (fun c => { c with ledgerWalk := [0, 2] })) (fun t =>
    t.cache.ledgerWalk == [2] && (t.txn? 4).any (fun y => !y.waitLedger)) = true := by decide +kernel
theorem test_homeTimeoutExpiry : after (.homeTimeoutExpiry 3 0x50200 1) ((withHome [line5 (.recall [1, 2] none .none) sec7] chip).onCache (fun c => { c with timeoutMode := [lineKey 0x50200 idx5] })) (fun t =>
    (t.homeLine (stackTxn .read .home)).any (fun m => m.dir == .recall [2] none .none && m.secs.all (·.poison))) = true := by decide +kernel
theorem test_reclaimWalkEnd : after (.reclaimWalkEnd 6) ((withHome [line5 (.owned 6) sec7] chip).onCache (fun c => { c with reclaim := [6] })) (fun t => t.cache.reclaim == [] &&
    (t.homeLine (stackTxn .read .home)).any (fun m => m.dir == .none && m.secs.all (·.poison))) = true := by decide +kernel
theorem test_nearRead_code : after (.nearRead 4 (.double 1)) (txnIn (nearTxn .read) (withNear [nearLine .near] nearChip)) (fun t =>
    (t.txn? 4).any (fun y => y.stage == .reply && y.poison == 2)) = true := by decide +kernel
theorem test_homeTimeoutExpiry_ledger : after (.homeTimeoutExpiry 3 0x50200 4) ((txnIn { stackTxn .store .acks with waitLedger := true } (withHome [line5 .none sec7] chip)).onCache (fun c => { c with ledgerTimed := [4] })) (fun t =>
    (t.homeLine (stackTxn .read .home)).any (fun m => m.secs.all (·.poison)) && (t.txn? 4).any (fun y => !y.waitLedger && y.stage == .reply)) = true := by decide +kernel
theorem test_ledgerWalkEnd_counts : after (.ledgerWalkEnd 0) ((withHome [line5 (.owned 6) sec7] chip).onCache (fun c => { c with ledgerWalk := [0] })) (fun t =>
    SMap.getD t.cache.ledger (ledgerKey 0 0) 0 == 1) = true := by decide +kernel

/-! ### Windows and flushes -/

/-- Window 2 * 64 covers 0x50000 to 0x60000, enabled, CLASS persist. -/
def windowed (ctrl : Word) : State := regs [(R.cshWinBase 128, 5), (R.cshWinLimit 128, 6), (R.cshWinCtrl 128, ctrl)] (withHome [{ line5 .none sec7 with cls := .persist, win := some 128, way := 3 }] chip)
def busyWord : Word := Fset F.cshWinCtrl_BUSY 1 (Fset F.cshWinCtrl_EN 1 (Fset F.cshWinCtrl_CLASS 2 0))
theorem test_windowControlWrite : (after (.windowControlWrite 128 0) (windowed (Fset F.cshWinCtrl_EN 1 (Fset F.cshWinCtrl_CLASS 2 0))) (fun t =>
      t.bit F.cshWinCtrl_BUSY (R.cshWinCtrl 128) && !t.bit F.cshWinCtrl_EN (R.cshWinCtrl 128) && t.cache.winWalks == [.demote 128]) &&
    after (.windowControlWrite 128 0) (windowed busyWord) (fun t => t.bit F.cshWinCtrl_REFUSED (R.cshWinCtrl 128) && t.bit F.cshWinCtrl_EN (R.cshWinCtrl 128))) = true := by decide +kernel
theorem test_windowPropagated : after (.windowPropagated 128) (windowed busyWord) (fun t => !t.bit F.cshWinCtrl_BUSY (R.cshWinCtrl 128)) = true := by decide +kernel
theorem test_flushWalkEnd : after (.flushWalkEnd 128) ((windowed busyWord).onCache (fun c => { c with winWalks := [.flush 128] })) (fun t => (t.slice 3).lines == [] &&
    t.cache.winWalks == [] && !t.bit F.cshWinCtrl_BUSY (R.cshWinCtrl 128)) = true := by decide +kernel
theorem test_demotionWalkEnd : after (.demotionWalkEnd 128) ((windowed busyWord).onCache (fun c => { c with winWalks := [.demote 128] })) (fun t =>
    (t.slice 3).lines.all (fun l => l.cls == .normal) && (t.slice 3).lines.length == 1) = true := by decide +kernel
def flushable : State := regs [(R.cshFlushBase, 5), (R.cshFlushLimit, 6)] (withHome [line5 .none { sec7 with st := .dirty, dirty := 6 }] chip)
theorem test_flushWriteBack : after .flushWriteBack flushable (fun t => t.mem.reqs.map (fun p => (p.2.sector, p.2.mask)) == [(0x50200 / 32, 6), (0x50200 / 32 + 1, 6)] &&
    (t.slice 3).lines.all (fun l => !l.isDirty) && t.bit F.cshFlushCtrl_START R.cshFlushCtrl) = true := by decide +kernel
theorem test_flushWriteBackInvalidate : after .flushWriteBackInvalidate flushable (fun t => t.cache.flushing == some (2, 0x50000, 0x60000) && t.fld F.cshFlushCtrl_OP R.cshFlushCtrl == 2) = true := by
  decide +kernel
theorem test_flushEnd : after .flushEnd ((withHome [line5 .none sec7] (regs [(R.cshFlushCtrl, 6)] chip)).onCache (fun c => { c with flushing := some (2, 0x50000, 0x60000) })) (fun t =>
    t.cache.flushing == none && (t.slice 3).lines == [] && !t.bit F.cshFlushCtrl_START R.cshFlushCtrl) = true := by decide +kernel
theorem test_cshWinOverClear : after (.cshWinOverClear 128) (regs [(R.cshWinOver 128, 9)] chip) (fun t => t.rd (R.cshWinOver 128) == 0) = true := by decide +kernel
theorem test_cshSaddSatClear : after (.cshSaddSatClear 7) (regs [(R.cshSaddSat 7, 9)] chip) (fun t => t.rd (R.cshSaddSat 7) == 0) = true := by decide +kernel
theorem test_cshSliceErrClear : after (.cshSliceErrClear idx5) (chip.onSlice 3 (fun x => { x with corrected := 4, poisoned := 5 })) (fun t => (t.slice 3).corrected == 0 && (t.slice 3).poisoned == 0) = true := by
  decide +kernel
theorem test_flushEnd_dirty : after .flushEnd ((withHome [line5 .none { sec7 with st := .dirty, dirty := 6 }] (regs [(R.cshFlushCtrl, 6)] chip)).onCache (fun c => { c with flushing := some (2, 0x50000, 0x60000) })) (fun t =>
    t.cache.flushing == some (1, 0x50000, 0x60000) && (t.slice 3).lines == [] && t.rangeWriting 0x50000 0x60000 && t.bit F.cshFlushCtrl_START R.cshFlushCtrl) = true := by decide +kernel

/-! ### Controllers and rows -/

/-- Channel 5 in service with 4 spare rows a bank, and a request for sector 640 queued at it. -/
def ctl (w : Bool) (m : Bool) (who : CtlFor) : CtlReq :=
  { chan := 5, sector := 640, write := w, data := List.replicate 32 9, mask := 6, poison := false, mirrored := m, who := who,
    die := 0, stop := .quadrant 0, moving := false, came := 5, waiting := false, done := false, status := 0, overtaken := false }
def inService : Word := Fset F.memChStat_STATE 1 (Fset F.memChStat_SPARES_LEFT 64 0)
def withReqs (l : List (Nat × CtlReq)) : State :=
  (regs [(R.memChStat 5, inService), (R.memScrubCtrl, Fset F.memScrubCtrl_PERIOD_H 24 0)] awake).onMem (fun m => { m with reqs := l, nextReq := 9, cells := [(20481, 3), (20483, 4)] })
def readOf : CtlReq := ctl false false (.fill 3 0x5000 0 0)
theorem test_controllerRead : (after (.controllerRead 3 .one) (withReqs [(3, readOf)]) (fun t => t.rd (R.memChErr 5) == 1 &&
      (SMap.get? t.mem.reqs 3).any (fun p => p.done && !p.poison && p.data.take 4 == [0, 3, 0, 4])) &&
    after (.controllerRead 3 .none) (withReqs [(2, { ctl true false (.back 0 0 false) with came := 4 }), (3, readOf)]) (fun t => (SMap.get? t.mem.reqs 3).any (fun p => p.data.take 4 == [0, 9, 9, 4])) &&
    after (.controllerRead 3 .many) (withReqs [(3, ctl false true (.fill 3 0x5000 0 0))]) (fun t => (SMap.get? t.mem.reqs 9).any (fun p => p.sector == 640 + 2 ^ 17) &&
      (SMap.get? t.mem.reqs 3).any (fun p => p.waiting && !p.done))) = true := by decide +kernel
theorem test_controllerWrite : (after (.controllerWrite 3 .none) (withReqs [(3, ctl true false (.back 0 0 false))]) (fun t => t.mem.cells == [(20481, 9), (20482, 9), (20483, 4)] && (SMap.get? t.mem.reqs 3).any (·.done)) &&
    after (.controllerWrite 3 .many) (withReqs [(3, ctl true false (.back 0 0 false))]) (fun t => t.marked 640 && t.rd (R.memChErr 5) == 0x10000)) = true := by
  decide +kernel
theorem test_controllerWrite_accepted : after (.controllerWrite 3 .none) (txnIn { stackTxn .store .acks with waitStack := 2 } (withReqs [(3, { ctl true false (.mirror 4) with done := true })])) (fun t =>
    t.mem.reqs == [] && (t.txn? 4).any (fun y => y.waitStack == 1)) = true := by decide +kernel
def redirected (bad : Bool) : State :=
  withReqs [(3, { ctl false true (.fill 3 0x7080 0 0) with waiting := true, sector := 900 }), (4, { ctl false false (.redirect 3) with done := true, poison := bad })]
theorem test_mirrorReadReturn : (after (.mirrorReadReturn 4) (redirected false) (fun t => (SMap.get? t.mem.reqs 4).isNone && (SMap.get? t.mem.reqs 3).any (fun p => p.done && !p.poison && p.data.take 4 == [9, 9, 9, 9]) &&
      t.rd R.memMirrorStat == 1 && cellAt t.mem.cells 28801 == 9) &&
    after (.mirrorReadReturn 4) (redirected true) (fun t => (SMap.get? t.mem.reqs 3).any (fun p => p.done && p.poison) && t.rd R.memMirrorStat == 0x10000)) = true := by decide +kernel
theorem test_rowIdleClose : after (.rowIdleClose 5 2) ((withReqs []).onChan 5 (fun c => { c with openRows := [(2, 7), (3, 8)] })) (fun t => (t.chan 5).openRows == [(3, 8)]) = true := by decide +kernel
theorem test_perBankRefresh : after (.perBankRefresh 5) ((withReqs []).onChan 5 (fun c => { c with openRows := [(2, 7), (15, 8)], refreshBank := 15 })) (fun t =>
    (t.chan 5).openRows == [(2, 7)] && (t.chan 5).refreshBank == 0) = true := by decide +kernel
theorem test_stackTemperatureReport : (after (.stackTemperatureReport 3 86) awake (fun t => t.bit F.memChStat_REFRESH_2X (R.memChStat 255) && !t.bit F.memChStat_REFRESH_2X (R.memChStat 256)) &&
    after (.stackTemperatureReport 3 80) awake (fun t => t.regs == [])) = true := by decide +kernel
theorem test_scrubRead : after (.scrubRead 5 .many) ((withReqs []).onChan 5 (fun c => { c with scrub := 9 })) (fun t => (t.chan 5).scrub == 10 && t.fld F.memChUeAddr_LINE (R.memChUeAddr 5) == 2 &&
    t.fld F.memChUeAddr_SECTOR (R.memChUeAddr 5) == 1 && t.bit F.memChUeAddr_SCRUB (R.memChUeAddr 5)) = true := by decide +kernel
def failing (n : Nat) : State := (regs [(R.memRepairCtrl, Fset F.memRepairCtrl_THRESH 4 1)] (withReqs [])).onChan 5 (fun c => { c with hot := [(2, 7, 4)], spares := [(2, n)] })
theorem test_rowRepair : (after (.rowRepair 5 2 7) (failing 3) (fun t => (t.chan 5).repairing == some (2, 7) && t.fld F.memChStat_SPARES_LEFT (R.memChStat 5) == 63) &&
    after (.rowRepair 5 2 7) (failing 4) (fun t => (t.chan 5).repairing == none && t.fld F.memChRepair_REPAIR_REFUSED (R.memChRepair 5) == 1)) = true := by decide +kernel
theorem test_rowRepairEnd : after (.rowRepairEnd 5 [6]) ((withReqs []).onChan 5 (fun c => { c with repairing := some (2, 7) })) (fun t => (t.chan 5).repairing == none && (t.chan 5).log == [(2, 7)] &&
    t.mem.marks.length == 1 && t.fld F.memChRepair_LOGGED (R.memChRepair 5) == 1) = true := by decide +kernel

/-! ### Training, sets, the test state, traffic generators -/

theorem test_channelTraining : (after (.channelTraining 5 true) (awake.onChan 5 (fun c => { c with log := [(1, 2)], remap := [(1, 2), (3, 4)] })) (fun t => t.chanState 5 == 1 &&
      (t.chan 5).log == [] && (t.chan 5).remap == [(3, 4)]) &&
    after (.channelTraining 5 false) awake (fun t => t.chanState 5 == 3 && t.ras.chanOut == [5] && t.ras.generation == 1)) = true := by decide +kernel
def stored : State := (regs [(R.memSetStat 1, 31)] awake).onMem (fun m => { m with cells := [(2 ^ 36 - 1, 1), (2 ^ 36, 2), (2 ^ 37 - 1, 3), (2 ^ 37, 4)], marks := [2 ^ 31, 2 ^ 32] })
theorem test_setClear : (awake.setBits == 36 && after (.setClear 1) stored (fun t => t.mem.cells == [(2 ^ 36 - 1, 1), (2 ^ 37, 4)] && t.mem.marks == [2 ^ 32] &&
    t.rd (R.memSetStat 1) == 63)) = true := by decide +kernel
theorem test_setClearEnd : (after (.setClearEnd 1) (regs [(R.memSetStat 1, 63), (R.secBoot, Fset F.secBoot_STAGE 3 0)] awake) (fun t => t.rd (R.memSetStat 1) == 31 && t.stage == 4 && t.ras.recordWait) &&
    after (.setClearEnd 1) (regs [(R.memSetStat 1, 63), (R.memSetStat 2, 63), (R.secBoot, Fset F.secBoot_STAGE 3 0)] awake) (fun t => t.stage == 3)) = true := by decide +kernel
theorem test_memSetCtrlWrite : (after (.memSetCtrlWrite 1 6) stored (fun t => t.rd (R.memSetCtrl 1) == 6 && t.rd (R.memSetStat 1) == 48 && t.mem.cells.length == 2) &&
    after (.memSetCtrlWrite 1 5) (regs [(R.memSetStat 1, 2)] stored) (fun t => t.rd (R.memSetCtrl 1) == 4 && t.rd (R.memSetStat 1) == 66)) = true := by decide +kernel
def inTest : State := regs [(R.memSetStat 1, 31), (R.memChStat 5, 2), (R.memChCtrl 5, 1)] awake
theorem test_memChTestEnter : (after (.memChTestEnter 5) (regs [(R.memChStat 5, 1), (R.memChCtrl 5, 0)] inTest) (fun t => t.chanState 5 == 2 && (t.chan 5).before == 1 && t.rd (R.memChCtrl 5) == 1) &&
    after (.memChTestEnter 5) (regs [(R.memChStat 5, 1), (R.memChCtrl 5, 0), (R.memSetStat 1, 16)] inTest) (fun t => t.chanState 5 == 1 && t.rd (R.memChCtrl 5) == 2)) = true := by decide +kernel
theorem test_memChTestExit : after (.memChTestExit 5) (inTest.onMem (fun m => { m with cells := [(2 ^ 36 + 1, 1), (2 ^ 36 + 128, 2)], chans := [(5, { Channel.empty with before := 3 })] })) (fun t =>
    t.chanState 5 == 0 && (t.chan 5).clearing && t.mem.cells == (if (t.locOf (2 ^ 36 + 128)).chan = 5 then [(2 ^ 36 + 1, 1)] else [(2 ^ 36 + 1, 1), (2 ^ 36 + 128, 2)])) = true := by decide +kernel
theorem test_testClearEnd : after (.testClearEnd 5) ((regs [(R.memChStat 5, 0)] inTest).onChan 5 (fun c => { c with clearing := true, before := 3 })) (fun t => t.chanState 5 == 3 && !(t.chan 5).clearing) = true := by
  decide +kernel
theorem test_memChErrClear : after (.memChErrClear 5) (regs [(R.memChErr 5, 0x30007)] awake) (fun t => t.rd (R.memChErr 5) == 0) = true := by decide +kernel
theorem test_memMirrorStatClear : after .memMirrorStatClear (regs [(R.memMirrorStat, 0x01020003)] awake) (fun t => t.rd R.memMirrorStat == 0) = true := by decide +kernel
def tgc : State := regs [(R.clkGate 0, 0xF), (R.tgcRange 5, Fset F.tgcRange_ROW_LAST 7 0), (R.tgcCfg 5, Fset F.tgcCfg_PASSES 1 3), (R.tgcErr 5, 9)] inTest
theorem test_tgcStart : (tgc.tgcOk 5 && after (.tgcStart 5 0x15) tgc (fun t => t.rd (R.tgcCtrl 5) == 0x15 && t.rd (R.tgcErr 5) == 0) &&
    after (.tgcStart 5 0x15) (regs [(R.memChStat 5, 1)] tgc) (fun t => t.rd (R.tgcCtrl 5) == 0x14 && t.bit F.tgcStat_REFUSED (R.tgcStat 5))) = true := by decide +kernel
theorem test_tgcStop : after (.tgcStop 5 0x16) (regs [(R.tgcCtrl 5, 1)] tgc) (fun t => t.rd (R.tgcCtrl 5) == 0x17) = true := by decide +kernel
theorem test_tgcRunEnd : after (.tgcRunEnd 5 { errors := 20000, pins := 5, line := 3, sector := 2, bw := 70000 }) (regs [(R.tgcCtrl 5, 1)] tgc) (fun t => t.rd (R.tgcCtrl 5) == 0 && t.rd (R.tgcStat 5) == 0xFFFF0001 &&
    t.fld F.tgcErr_ERRORS (R.tgcErr 5) == 0x3FFF && t.fld F.tgcFirst_SECTOR (R.tgcFirst 5) == 2) = true := by decide +kernel

/-! ### Knots, saves and restores -/

/-- The launch of queue 5 on engine 70 alone is being saved to slot 3 of hoop 2, whose pool lies at 0x100000. -/
def savingRun : Run := { Run.start ([2, 0] ++ zeros 31 ++ [1] ++ zeros 30) [70] [] with phase := .saving, slots := [(70, 3)], frozen := true }
def saving (kind : Option Nat) (r : Run) (u : Group) : State :=
  let s := withQueue { queue5 with members := [70], run := some r } (engineWith u)
  regs [(R.hoopSaveBaseLo 2, 0x100000), (R.hoopSaveSlots 2, 8)] (s.onEng 70 (fun n => { n with shares := SMap.modify n.shares 5 (fun h => { h with saving := kind, n := 16, slot := kind.map (fun _ => 3) }) }))
def waiting0 : Group := { lane0 with st := .barrier 2 2 }
def parked0 : Group := { lane0 with st := .parked { why := 2, live := 3, ranges := [], arg := 10, va := 0, target := 0 } }
theorem test_knot : (after (.knot 70 1 0 (-1)) (engineWith lane0) (fun t => ran t (fun v => v.pc == 0x10048#57 && v.krec == some (-1) && v.st == .ready)) &&
    (let s := (paged (saving (some 1) savingRun lane0)).onMem (fun m => { m with cells := cellsPut (cellsPut (cellsPut m.cells 0x5080 (leBytes 8 (0x40000 + 9 + 2 ^ 48))) 0x40080 [6]) 0x200A0 (zeros 1) })
     after (.knot 70 1 0 1) s (fun t => ran t (fun v => v.park?.any (fun p => p.live == 6 && p.ranges == [] && p.why == 1) && v.pc == 0x10048#57)))) = true := by decide +kernel
theorem test_preemptPicotArrive : after (.preemptPicotArrive 70 5) (gotMsg (.preempt 5 70) (saving none savingRun waiting0)) (fun t => ran t (fun v => v.park?.any (fun p => p.why == 2 && p.arg == 10 && p.live == 0xFFFF)) &&
    (t.share? 70 5).any (fun h => h.saving == some 1 && h.slot == some 3)) = true := by decide +kernel
theorem test_knotWaitExpiry : after (.knotWaitExpiry 70 5) (saving (some 1) savingRun lane0) (fun t => ran t (fun v => v.park?.any (fun p => p.why == 5 && p.live == 0xFFFF)) &&
    (t.share? 70 5).any (fun h => h.saving == some 2)) = true := by decide +kernel
theorem test_saveWritesAcked : (after (.saveWritesAcked 70 5 none) (saving (some 1) savingRun parked0) (fun t => (t.eng 70).groups == [] && (t.share? 70 5).any (·.restore) &&
      (t.peek (0x100000 + 3 * 0x108000) 12).1 == [1, 1, 70, 0, 5, 0, 0, 0, 3, 0, 1, 0] &&
      t.msgs.map (·.2.kind) == [.saved 5 70] && t.fld F.hoopPreempt_KNOT_SAVES (R.hoopPreempt 2) == 1) &&
    after (.saveWritesAcked 70 5 (some 0x4000)) (saving (some 1) savingRun parked0) (fun t => (t.ctx? 3).any (fun c => c.fault.any (fun f => f.code == 0x12 && f.detail == 3)))) = true := by
  decide +kernel
theorem test_saveComplete : (after (.saveComplete 5) (saving none { savingRun with answered := [70] } lane0) (fun t => (t.queue? 5).any (fun q => q.hasRun .saved && !q.bound)) &&
    after (.saveComplete 5) ((saving none { savingRun with answered := [70] } lane0).onEng 70 (fun n => { n with shares := [] })) (fun t =>
      (t.queue? 5).any (fun q => q.hasRun .running && q.bound) && (t.hoop 2).freeSlots == [3])) = true := by decide +kernel
/-- Only group slot 1 is free; the saved image holds one group with registers 0 and 1 live. -/
def savedSlot : State :=
  let s := saving none { savingRun with phase := .restoring } lane0
  let s := s.onEng 70 (fun n => { n with groups := ((List.range 16).erase 1).map (fun i => (i, { lane0 with queue := 9 })), shares := SMap.modify n.shares 5 (fun h => { h with restore := true, slot := some 3 }) })
  let b := 0x100000 + 3 * 0x108000
  s.onMem (fun m => { m with cells := cellsPut (cellsPut (cellsPut (cellsPut m.cells (b + 10) [1]) (b + 0x400) (leBytes 8 0x10050 ++ leBytes 4 5)) (b + 0x418) (leBytes 4 0x8000)) (b + 0x440) [3] })
theorem test_restore : (after (.restore 70 5 none) (savedSlot.onMem (fun m => { m with cells := cellsPut m.cells (0x100000 + 3 * 0x108000 + 0x8088) [9] })) (fun t =>
      ran t (fun v => v.queue == 5 && v.pc == 0x10050#57 && v.active == 5#32 && v.reg 1 2 == 9 && v.n == 16) && (t.share? 70 5).any (fun h => !h.restore) &&
      (t.queue? 5).any (fun q => q.hasRun .running)) &&
    after (.restore 70 5 (some 64)) savedSlot (fun t => (t.ctx? 3).any (fun c => c.fault.any (fun f => f.code == 0x12 && f.detail == 4)))) = true := by decide +kernel

/-! ### The host link, wakes and the admin queues -/

theorem test_hostLinkTrain : (after (.hostLinkTrain 8 6 true) awake (fun t => t.rd R.hifLinkStat == 0x146 && !t.host.down) &&
    after (.hostLinkTrain 8 6 false) awake (fun t => t.rd R.hifLinkStat == 0x200 && t.host.down) &&
    after (.hostLinkTrain 4 6 true) awake (fun t => t.host.down)) = true := by decide +kernel
def hostTxn (op : MemOp) : Txn := { Txn.blank (.lane 0 1) 0 0 (some 2) (some 3) op .host 0x50200 with secs := 6, stage := .host, waitStack := 1 }
theorem test_hostLinkDown : after .hostLinkDown (regs [(R.hifLinkStat, 0x146)] (txnIn (hostTxn .read) awake)) (fun t => t.rd R.hifLinkStat == 0 && (t.txn? 4).any (fun y => y.stage == .reply && y.poison == 6)) = true := by
  decide +kernel
theorem test_hostCompletion : (after (.hostCompletion 4 0 (List.replicate 128 5) true) (txnIn (hostTxn .read) awake) (fun t => (t.txn? 4).any (fun y => y.stage == .reply && y.poison == 6 && y.data.getD 127 0 == 5)) &&
    after (.hostCompletion 4 2 [1, 2, 3, 4, 5, 6, 7, 8] false) (txnIn { hostTxn (.atomic 0 2) with lanes := [{ lane := 2, off := 36, a := 1, b := 0, f := 0, ret := true }] } awake) (fun t =>
      (t.txn? 4).any (fun y => y.stage == .reply && y.results == [(2, 0x04030201)]))) = true := by decide +kernel
theorem test_hostReadTimeout : after (.hostReadTimeout 4) (txnIn (hostTxn .read) awake) (fun t => (t.txn? 4).any (fun y => y.stage == .reply && y.poison == 6)) = true := by decide +kernel
def barChip : State := regs [(R.hifBar4WinLo 4, 0), (R.memSetStat 0, 2), (R.hoopFnMap 4, Fset F.hoopFnMap_VALID 1 (Fset F.hoopFnMap_HOOP 2 0))] awake
theorem test_bar4Access : (after (.bar4Access 4 0x50204 2 (some [1, 2])) barChip (fun t => t.txns.map (fun p => (p.2.addr, p.2.mask, cut p.2.data 4 2)) == [(0x50200, 0x30, [1, 2])]) &&
    after (.bar4Access 4 0x50204 4 none) barChip (fun t => t.txns.map (fun p => (p.2.addr, p.2.secs, p.2.offs)) == [(0x50200, 1, [(4, 4)])]) &&
    after (.bar4Access 4 0x50204 4 none) (regs [(R.memSetStat 0, 3)] barChip) (fun t => t.txns == [] && t.posted == [.completion 4 (zeros 4) false] && t.rd R.hifErrCnt == 0x8000)) = true := by
  decide +kernel
def pendingVec : State := awake.onHost (fun h => { h with msix := [(2048 * 4 + 7, { MsixEntry.start with pending := true })] })
theorem test_msiXVectorUnmask : (after (.msiXVectorUnmask 4 (some 7)) pendingVec (fun t => t.posted == [.msix 4 7] && !(t.msixEntry 4 7).pending) &&
    after (.msiXVectorUnmask 4 (some 7)) (pendingVec.onHost (fun h => { h with fnMask := [4] })) (fun t => t.posted == []) &&
    after (.msiXVectorUnmask 4 none) (pendingVec.onHost (fun h => { h with fnMask := [4], msix := h.msix.map (fun p => (p.1, { p.2 with masked := false })) })) (fun t => t.posted == [.msix 4 7])) = true := by
  decide +kernel
theorem test_hifErrCntClear : after .hifErrCntClear (regs [(R.hifErrCnt, 0x8003)] awake) (fun t => t.rd R.hifErrCnt == 0) = true := by decide +kernel
theorem test_hifWakeDropClear : after .hifWakeDropClear (regs [(R.hifWakeDrop, 3)] awake) (fun t => t.rd R.hifWakeDrop == 0) = true := by decide +kernel
/-- Function 4 of hoop 2 holds group 0; queue 5's eyelet and ring lie in a data page. -/
def front (u : Queue) : State := regs [(R.qfeFnQgrp 4, Fset F.qfeFnQgrp_COUNT 1 0), (R.hoopFnMap 4, Fset F.hoopFnMap_VALID 1 (Fset F.hoopFnMap_HOOP 2 0))] (withQueue u (paged (engineWith lane0)))
def idle5 : Queue := { queue5 with run := none, pSeen := 0 }
theorem test_wake : (after (.wake 4 0x500 4 true) (front idle5) (fun t => (t.queue? 5).any (fun u => u.eyeletOut && !u.wake)) &&
    after (.wake 4 0x500 4 true) (front { idle5 with eyeletOut := true }) (fun t => (t.queue? 5).any (fun u => u.wake)) &&
    after (.wake 4 0x504 4 true) (front idle5) (fun t => t.rd R.hifWakeDrop == 1) && after (.wake 3 0x500 4 true) (front idle5) (fun t => t.rd R.hifWakeDrop == 1)) = true := by decide +kernel
theorem test_queuePoll : after (.queuePoll 5) (front { idle5 with poll := 3 }) (fun t => (t.queue? 5).any (fun u => u.eyeletOut)) = true := by decide +kernel
theorem test_eyeletReadReturn : (let s := (front { idle5 with eyeletOut := true }).onMem (fun m => { m with cells := cellsPut m.cells 0x50800 [3] })
    after (.eyeletReadReturn (.queue 5) []) s (fun t => (t.queue? 5).any (fun u => u.pSeen == 3 && u.descOut)) &&
    after (.eyeletReadReturn (.queue 5) []) (s.onMem (fun m => { m with cells := cellsPut m.cells 0x50800 [17] })) (fun t =>
      (t.ctx? 3).any (fun c => c.fault.any (fun f => f.code == 5 && f.detail == 8 && f.addr == 0x11800)))) = true := by decide +kernel
def fillDesc : Bytes := [4] ++ zeros 7 ++ leBytes 8 0xC0 ++ leBytes 8 0x0102030405060708 ++ leBytes 8 0x11200 ++ leBytes 4 16 ++ zeros 28
theorem test_descriptorReadReturn : (let s := (front { idle5 with pSeen := 1, descOut := true, kind := .copy }).onMem (fun m => { m with cells := cellsPut (cellsPut m.cells 0x20050 [0, 0, 0, 0]) 0x50000 fillDesc })
    after (.descriptorReadReturn (.queue 5) []) s (fun t => (t.queue? 5).any (fun u => u.run.any (fun r => r.phase == .held && r.desc == fillDesc && r.pins == [(3, 1)]))) &&
    after (.descriptorReadReturn (.queue 5) []) (s.onMem (fun m => { m with cells := cellsPut m.cells 0x50020 [12] })) (fun t =>
      (t.ctx? 3).any (fun c => c.fault.any (fun f => f.code == 4 && f.detail == 255 && f.addr == 0x11000 && f.engine == 0xFFFF)))) = true := by decide +kernel
def adminUp (a : AdminQ) : State := regs [(R.qfeFnAdmqCtrl 4, 1), (R.qfeFnAdmqEyeletLo 4, 0x1000), (R.qfeFnAdmqRingLo 4, 0x2000), (R.qfeFnAdmqHeadLo 4, 0x3000)]
  ((awake.onHost (fun h => { h with down := false })).onAdm 4 (fun _ => a))
theorem test_admqEnable : after (.admqEnable 4 0x20089) (regs [(R.qfeFnAdmqCtrl 4, 0x800000), (R.qfeFnAdmqEyeletLo 4, 0x1000)] (awake.onAdm 4 (fun a => { a with c := 3, w := 5 }))) (fun t =>
    t.rd (R.qfeFnAdmqCtrl 4) == 0x20089 && t.adm 4 == AdminQ.empty && t.posted == [.write 4 0x1040 (zeros 8)]) = true := by decide +kernel
theorem test_admqWake : after (.admqWake 4) (adminUp AdminQ.empty) (fun t => (t.adm 4).eyeletOut && t.posted == [.fetch (2 ^ 18 + 4) 0x1000 8]) = true := by decide +kernel
theorem test_admqHeadReread : (let full := { AdminQ.empty with w := 16 }
    after (.admqHeadReread 4 [(0x3000, some 9)]) (adminUp full) (fun t => (t.adm 4).h == 9) &&
    after (.admqHeadReread 4 [(0x3000, some 17)]) (adminUp full) (fun t => !t.admOn 4 && t.fld F.qfeFnAdmqCtrl_ERR (R.qfeFnAdmqCtrl 4) == 2)) = true := by decide +kernel
theorem test_eyeletReadReturn_admin : (let a := { AdminQ.empty with eyeletOut := true, c := 2 }
    after (.eyeletReadReturn (.admin 4) [(0x1000, some 4)]) (adminUp a) (fun t => (t.adm 4).p == 4 && t.posted == [.fetch (2 ^ 18 + 4) 0x2080 64]) &&
    after (.eyeletReadReturn (.admin 4) [(0x1000, some 1)]) (adminUp a) (fun t => t.fld F.qfeFnAdmqCtrl_ERR (R.qfeFnAdmqCtrl 4) == 1)) = true := by decide +kernel
theorem test_descriptorReadReturn_admin : (let a := { AdminQ.empty with descOut := true, p := 1 }
    after (.descriptorReadReturn (.admin 4) [(0x2000, some 0x20)]) (adminUp a) (fun t => (t.adm 4).cmd.any (fun d => descOp d == 0x20)) &&
    after (.descriptorReadReturn (.admin 4) [(0x2000, some 2), (0x2001, some 1)]) (adminUp a) (fun t => (t.adm 4).cmd == none && (t.adm 4).c == 1 && (t.adm 4).w == 1)) = true := by decide +kernel
theorem test_bar4Access_lines : (after (.bar4Access 4 0x502FE 4 (some [1, 2, 3, 4])) barChip (fun t => t.txns.map (fun p => (p.2.addr, p.2.mask / 2 ^ 126, p.2.mask % 4)) == [(0x50280, 3, 0), (0x50300, 0, 3)]) &&
    after (.bar4Access 4 0x502FE 4 none) (barChip.onHost (fun h => { h with vfReset := [4] })) (fun t => t.txns == [] && t.posted == [.completion 4 (zeros 4) false])) = true := by decide +kernel
theorem test_wake_read : after (.wake 4 0x500 8 false) awake (fun t => t.posted == [.completion 4 (zeros 8) false]) = true := by decide +kernel
theorem test_hostCompletion_lanes : (let r := fun (l : Nat) => ({ lane := l, off := 36, a := 1, b := 0, f := 0, ret := true } : LaneReq)
    after (.hostCompletion 4 2 [1, 0, 0, 0] false) (txnIn { hostTxn (.atomic 0 2) with lanes := [r 2, r 3], waitStack := 2 } awake) (fun t =>
      (t.txn? 4).any (fun y => y.stage == .host && y.results == [(2, 1)]))) = true := by decide +kernel

/-! ### Commands of queues -/

/-- Engine set 0 of hoop 2 holds the engines 70 and 71 where they are in service. -/
def esetRegs (s : State) : State :=
  let m := Fset F.hoopEngMap_VALID 1 (Fset F.hoopEngMap_HOOP 2 0)
  regs [(R.hoopEset 2 0, Fset F.hoopEset_DIES 1 (Fset F.hoopEset_QUADS 15 (Fset F.hoopEset_FIRST 6 (Fset F.hoopEset_COUNT 2 0)))),
    (R.hoopEngMap 70, m), (R.hoopEngMap 71, m), (R.engStat 70, Fset F.engStat_STATE 1 0)] s
/-- Queue 5 of context 3 holds a command with this opcode, the words of its body from byte 16 on, and no flag. -/
def heldCmd (op : Nat) (b : Bytes) (k : QKind) : State :=
  withQueue { queue5 with kind := k, run := some { Run.start ([BitVec.ofNat 8 op] ++ zeros 15 ++ b ++ zeros (48 - b.length)) [] [] with phase := .held } } (esetRegs (fenced 0))
theorem test_nop : after (.nop 5) (heldCmd 1 [] .compute) (fun t => (t.queue? 5).any (fun u => u.hasRun .completing && u.run.any (fun r => r.members == [70]))) = true := by decide +kernel
theorem test_event : after (.event 5) (heldCmd 9 [] .copy) (fun t => (t.queue? 5).any (fun u => u.hasRun .completing)) = true := by decide +kernel
theorem test_launch : (let d := leBytes 8 0x10000 ++ leBytes 8 0x11000 ++ [15, 2, 3]
    let s := (heldCmd 2 d .compute).setF F.engStat_STATE (R.engStat 71) 1
    after (.launch 5) s (fun t => (t.share? 71 5).any (fun h => h.e == 2 && h.k == 1 && h.n == 16 && h.gpe == 2 && h.twin == 3 && h.last == 3 && h.args == 0x11000) &&
      (t.queue? 5).any (fun u => u.run.any (fun r => r.members == [70, 71] && r.launch == 1)) && (t.ctx? 3).any (fun c => c.launches == 1 && c.running == [1])) &&
    after (.launch 5) (heldCmd 2 d .realTime) (fun t => (t.queue? 5).any (fun u => u.hasRun .held))) = true := by decide +kernel
theorem test_copy : (let d (a b : Nat) := leBytes 8 a ++ leBytes 8 b ++ leBytes 4 200
    after (.copy 5) (heldCmd 3 (d 0x11270 0x11100) .copy) (fun t => t.txns.map (fun p => (p.2.addr, p.2.va, p.2.offs, p.2.op)) == [(0x50200, 0x11200, [(16, 0x70)], .read)]) &&
    after (.copy 5) (heldCmd 3 (d 0x99000 0x11100) .copy) (fun t => (t.ctx? 3).any (fun c => c.fault.any (fun f => f.code == 1 && f.detail == 0 && f.addr == 0x99000)))) = true := by decide +kernel
theorem test_fill : after (.fill 5) ((heldCmd 4 (leBytes 8 0x0807060504030201 ++ leBytes 8 0x11278 ++ leBytes 4 16) .copy).onMem (fun m => { m with cells := cellsPut m.cells 0x20055 [0] })) (fun t =>
    t.txns.map (fun p => (p.2.addr, p.2.mask, p.2.op, p.2.data.drop 120)) == [(0x50200, 0xFF * 2 ^ 120, .store, [1, 2, 3, 4, 5, 6, 7, 8])]) = true := by decide +kernel
theorem test_reduceCopy : (let d (k : Byte) := leBytes 8 0x11280 ++ leBytes 8 0x11100 ++ leBytes 4 2 ++ leBytes 4 0 ++ [k] ++ zeros 7 ++ leBytes 8 0x11404
    after (.reduceCopy 5) (heldCmd 5 (d 1) .copy) (fun t => t.txns.map (fun p => (p.2.addr, p.2.offs)) == [(0x50400, [(4, 4)])]) &&
    after (.reduceCopy 5) (heldCmd 5 (d 0) .copy) (fun t => t.txns.map (fun p => (p.2.addr, p.2.offs)) == [(0x50280, [(128, 0)])])) = true := by decide +kernel
theorem test_fenceSignal : (after (.fenceSignal 5) (heldCmd 6 (leBytes 8 0x11040 ++ leBytes 8 9) .compute) (fun t => t.msgs.map (·.2.kind) == [.signal 3 0x50040 9 (some 5) (some { queue := 5, unit := 70, group := 0, lane := 0, pc := 0x11000 })]) &&
    after (.fenceSignal 5) (heldCmd 6 (leBytes 8 0x99040) .compute) (fun t => (t.ctx? 3).any (fun c => c.fault.any (fun f => f.code == 1 && f.detail == 1)))) = true := by decide +kernel
theorem test_fenceWait : after (.fenceWait 5) (heldCmd 7 (leBytes 8 0x11040 ++ leBytes 8 9) .compute) (fun t => t.msgs.map (·.2.kind) == [.register 3 0x50040 9 (0, 5)]) = true := by decide +kernel
theorem test_flush : after (.flush 5) ((heldCmd 8 (leBytes 8 0x11200 ++ leBytes 8 128 ++ [1]) .copy).onSlice 3 (fun x => { x with lines := [line5 .none { sec7 with st := .dirty, dirty := 6 }] })) (fun t =>
    (t.queue? 5).any (fun u => u.run.any (fun r => r.ranges == [(0x50200, 0x50280)])) && t.mem.reqs.map (fun p => p.2.mask) == [6, 6]) = true := by decide +kernel

/-! ### The ends of commands, answers, rings and wait limits -/

/-- Queue 5 runs a command with event ring 2 of context 3, whose records lie at 0x11400. -/
def ring2 : Ring := { va := 0x11400, headVa := 0x11500, w := 3, h := 0, ctx := 3, vector := 7, log2 := 4, live := true, rereading := false, pins := [], heldEvents := [] }
def runsCmd (d : Bytes) (p : RunPhase) (g : Ring) : State :=
  (withQueue { queue5 with kind := .copy, run := some { Run.start (d ++ zeros (64 - d.length)) [70] [] with phase := p, status := 0x44 } } (paged (engineWith lane0))).onObjs (fun o => { o with rings := [(2, g)] })
theorem test_engineDonePicot : after (.engineDonePicot 70 5) ((withQueue { queue5 with run := some launchRun } (engineWith lane0)).onEng 70 (fun n => { n with groups := [], wins := [{ queue := 5, base := 0, size := 8192, zeroed := true }], shares := [(5, { shareOf 3 0 1 (zeros 64) with started := true, next := 5, last := 4, aflags := 3 })] })) (fun t => (t.share? 70 5).isNone && (t.eng 70).wins == [] &&
    (t.queue? 5).any (fun u => u.run.any (fun r => r.answered == [70] && r.aflags == 3))) = true := by decide +kernel
theorem test_commandComplete : (after (.commandComplete 5) (runsCmd ([1, 1, 0, 0, 9] ++ zeros 3 ++ [0xC0]) .completing ring2) (fun t => (t.queue? 5).any (fun u => u.run.isNone && u.c == 1 && u.last == 0x44) &&
      (t.ring? 2).any (fun r => r.w == 4)) &&
    after (.commandComplete 5) (runsCmd [1, 1] .completing { ring2 with w := 15 }) (fun t => (t.queue? 5).any (fun u => u.hasRun .completing && u.c == 0) && (t.ring? 2).any (·.rereading)) &&
    after (.commandComplete 5) (runsCmd ([8, 0] ++ zeros 30 ++ [2]) .running ring2) (fun t => (t.queue? 5).any (fun u => u.run.isNone && u.c == 1))) = true := by decide +kernel
def copyDesc : Bytes := [3] ++ zeros 15 ++ leBytes 8 0x11200 ++ leBytes 8 0x11108 ++ leBytes 4 16
def moverTxn (op : MemOp) : Txn := { Txn.blank (.bulk 5) 0 0 (some 2) (some 3) op .stack 0x50200 with stage := .reply, offs := [(16, 0)], va := 0x11200, data := (List.range 128).map (BitVec.ofNat 8) }
theorem test_bulkMoverResponse : (after (.bulkMoverResponse 4) (txnIn (moverTxn .read) (runsCmd copyDesc .running ring2)) (fun t => t.txns.map (fun p => (p.2.op, p.2.addr, cut p.2.data 8 3)) == [(.store, 0x50100, [0, 1, 2])]) &&
    after (.bulkMoverResponse 4) (txnIn (moverTxn .store) (runsCmd copyDesc .running ring2)) (fun t => t.txns == [] && (t.queue? 5).any (fun u => u.run.any (fun r => r.pos == 16))) &&
    after (.bulkMoverResponse 4) (txnIn { moverTxn .store with status := 1 } (runsCmd copyDesc .running ring2)) (fun t => (t.ctx? 3).any (fun c => c.fault.any (fun f => f.code == 1 && f.addr == 0x11200)))) = true := by
  decide +kernel
theorem test_bulkMoverResponse_bar : after (.bulkMoverResponse 4) (txnIn { moverTxn .read with issuer := .host 6, offs := [(2, 5)] } awake) (fun t => t.posted == [.completion 6 [5, 6] false] && t.txns == []) = true := by decide +kernel
def walk1 : Walk := { group := 1, ctx := 3, lane := 0, va := 0x11200, level := 0, kind := 0, gen := 0, drop := false }
def walking (w : Walk) (pte : Nat) : State :=
  txnIn { Txn.blank (.walk 70 1) 0 1 (some 2) (some 3) .read .stack 0x5080 with stage := .reply, rd := 8, data := zeros 8 ++ leBytes 8 pte ++ zeros 112 } ((paged (engineWith lane0)).onEng 70 (fun n => { n with walks := [(4, w)], tlb := [] }))
theorem test_pageWalkReadReturn : (after (.pageWalkReadReturn 4) (walking walk1 (0x50000 + 5 + 2 ^ 48)) (fun t => (t.eng 70).tlb.map (·.leaf) == [{ va := 0x11000, size := 4096, space := .stack, pa := 0x50000, w := true, x := false, mobj := 1 }]) &&
    after (.pageWalkReadReturn 4) (walking { walk1 with level := 2 } 0x4001) (fun t => t.txns.map (fun p => (p.2.addr, p.2.issuer)) == [(0x4000, .walk 70 1)]) &&
    after (.pageWalkReadReturn 4) (walking walk1 0) (fun t => (t.ctx? 3).any (fun c => c.fault.any (fun f => f.code == 1 && f.detail == 0 && f.addr == 0x11200)))) = true := by decide +kernel
theorem test_instructionFetchReturn : after (.instructionFetchReturn 4) (txnIn { Txn.blank (.fetch 70 1) 0 1 (some 2) (some 3) .read .stack 0x40080 with stage := .reply, secs := 2, poison := 2, data := zeros 128 } (engineWith lane0)) (fun t =>
    ((t.eng 70).l1Find 3 .stack 0x40080).any (fun l => l.readOnly && (l.sec 1).any (·.poison == 15) && (l.sec 0).isNone)) = true := by decide +kernel
def rereads (h : Nat) : State := (runsCmd [1, 1] .running { ring2 with w := 15, rereading := true }).onMem (fun m => { m with cells := cellsPut m.cells 0x50500 (leBytes 8 h) })
theorem test_eventRingHeadReread : (after (.eventRingHeadReread 2 []) (rereads 9) (fun t => (t.ring? 2).any (fun r => r.h == 9 && !r.rereading)) &&
    after (.eventRingHeadReread 2 []) (rereads 16) (fun t => (t.ctx? 3).any (fun c => c.fault.any (fun f => f.code == 5 && f.detail == 8)))) = true := by decide +kernel
def faultOf (s : State) (code detail addr : Nat) : Bool := (s.ctx? 3).any (fun c => c.fault.any (fun f => f.code == code && f.detail == detail && f.addr == addr))
theorem test_waitLimitExpiry : (after (.waitLimitExpiry (.command 5)) (runsCmd [1] .running ring2) (fun t => faultOf t 14 0 0x10040) &&
    after (.waitLimitExpiry (.command 5)) ((runsCmd [1] .running ring2).onEng 70 (fun n => { n with groups := [] })) (fun t => faultOf t 14 0 0x11000) &&
    after (.waitLimitExpiry (.fenceQueue 5)) (runsCmd ([7] ++ zeros 15 ++ leBytes 8 0x11040) .running ring2) (fun t => faultOf t 14 1 0x11040) &&
    after (.waitLimitExpiry (.completion 5)) (runsCmd [1, 1] .completing { ring2 with w := 15 }) (fun t => faultOf t 14 2 0x11400) &&
    after (.waitLimitExpiry (.fenceGroup 70 1)) (engineWith { lane0 with st := .fence 0x11040 5 2 true }) (fun t => faultOf t 14 1 0x11040) &&
    after (.waitLimitExpiry (.drain 5)) (withQueue { queue5 with latePins := [(3, 1)] } (engineWith lane0)) (fun t => (t.queue? 5).any (fun u => u.latePins == []))) = true := by decide +kernel
theorem test_pageWalkReadReturn_given : after (.pageWalkReadReturn 4) (walking { walk1 with drop := true } (0x50000 + 5 + 2 ^ 48)) (fun t => (t.eng 70).tlb == [] && (t.eng 70).given.map (·.1) == [1]) = true := by decide +kernel
theorem test_bulkMoverResponse_bar_waits : (let x := { moverTxn .read with issuer := .host 6, offs := [(2, 5)] }
    let s := { txnIn x awake with txns := [(3, { x with stage := .home }), (4, x)] }
    after (.bulkMoverResponse 4) s (fun t => t.txns == s.txns && t.posted == [])) = true := by decide +kernel
theorem test_waitLimitExpiry_parked : after (.waitLimitExpiry (.fenceGroup 70 1)) (engineWith { lane0 with st := .parked { why := 3, live := 3, ranges := [], arg := 0, va := 0x11040, target := 5 } }) (fun t => faultOf t 14 1 0x11040) = true := by decide +kernel
theorem test_commandComplete_flush : after (.commandComplete 5) ((runsCmd ([8, 0] ++ zeros 22 ++ leBytes 8 128 ++ [2]) .running ring2).onRun 5 (fun r => { r with pos := 128, ranges := [(0x50200, 0x50280)] })) (fun t =>
    (t.queue? 5).any (fun u => u.run.isNone && u.c == 1)) = true := by decide +kernel

/-! ### Admin commands -/

/-- An admin command with CPL of function 4 in front of the device: opcode, object, context, kind, LOG2, the two addresses, EVR, AUX and AUX2. -/
def adminDesc (op obj ctx kind log2 a b evr aux aux2 : Nat) : Bytes :=
  leBytes 1 op ++ [1, 0, 0] ++ leBytes 4 9 ++ leBytes 8 0xC0 ++ leBytes 4 obj ++ leBytes 2 ctx ++ leBytes 1 kind ++ leBytes 1 log2 ++ leBytes 8 a ++ leBytes 8 b ++ leBytes 8 0x77 ++
  leBytes 2 evr ++ leBytes 2 aux ++ leBytes 4 aux2 ++ zeros 8
def asks (d : Bytes) (s : State) : State :=
  (regs [(R.qfeFnAdmqCtrl 4, 1), (R.qfeFnQgrp 4, Fset F.qfeFnQgrp_COUNT 1 0), (R.hoopFnMap 4, Fset F.hoopFnMap_VALID 1 (Fset F.hoopFnMap_HOOP 2 0)), (R.hoopStat 2, 2),
    (R.qfeFnLimit 4, 0xFFFFFFFF#32)] s).onAdm 4 (fun a => { a with cmd := some d })
/-- The record of the command: its status. -/
def statusOf (t : State) : Option Byte := t.posted.findSome? (fun p => match p with | .write 4 0 b => b[24]? | _ => none)
def ended4 (t : State) (st : Byte) : Bool := (t.adm 4).cmd.isNone && (t.adm 4).c == 1 && statusOf t == some st
/-- The number that the device picks is a free value, so the kernel cannot follow the command past it: the conditions, and what turns it away. -/
theorem test_ctxCreate : (let s := (asks (adminDesc 0x20 0 0 0 0 0x6000 0x7000 0 5 0) (fenced 0)).onObjs (fun o => { o with ctxs := [] })
    s.freeCtx.isSome && s.ctxHeld 4 == 0 && s.fld F.qfeFnLimit_CTX_MAX (R.qfeFnLimit 4) != 0 && !s.baseLost 0 && s.setAllowed 2 0x6000 false && s.setAllowed 2 0x7000 false &&
    s.reachable 0x6000 && s.reachable 0x7000 && s.fnHoop 4 == some 2 && s.fld F.hoopStat_STATE (R.hoopStat 2) == 2 && s.mem.wf &&
    after (.ctxCreate 4) (s.setF F.memSetStat_OWNER (R.memSetStat 0) 1) (fun t => ended4 t 0x49) &&
    after (.ctxCreate 4) (regs [(R.qfeFnLimit 4, 0)] (asks (adminDesc 0x20 0 0 0 0 0x6000 0x7000 0 5 0) (fenced 0))) (fun t => ended4 t 0x4B && (t.ctx? 0).isNone)) = true := by decide +kernel
theorem test_ctxQuery : after (.ctxQuery 4) (asks (adminDesc 0x22 0 3 0 0 0x8000 0 0 0 0) (fenced 0)) (fun t => ended4 t 0 && t.posted.any (fun p => match p with | .write 4 0x8000 b => b.take 4 == [1, 2, 4, 0] && b.length == 80 | _ => false)) = true := by
  decide +kernel
theorem test_ctxInvalidate : after (.ctxInvalidate 4) (asks (adminDesc 0x23 0 3 0 0 0 0 0 0 0) (fenced 0)) (fun t => ended4 t 0 && (t.ctx? 3).any (fun c => c.gen == 1) && (t.eng 70).tlb == []) = true := by
  decide +kernel
def pagedMem (s : State) : State := s.onMem (fun m => { m with cells := cellsPut (cellsPut m.cells 0x20055 [0]) 0x5090 (leBytes 8 (0x50000 + 5 + 2 ^ 48)) })
theorem test_evrCreate : (let s := asks (adminDesc 0x24 0 3 0 7 0x11000 0x11008 0 6 0) (pagedMem (fenced 0))
    s.oneObject ctx3 .store 0x11000 4096 == some 1 && s.oneObject ctx3 .read 0x11008 8 == some 1 && s.freeRingNum.isSome && s.objs.rings == [] && s.ctx? 3 == some { ctx3 with slot := some 0 } &&
    s.fld F.qfeFnLimit_EVR_MAX (R.qfeFnLimit 4) != 0 && decide (6 < vectorsOf 4) && s.mem.wf) = true := by decide +kernel
theorem test_evrDestroy : (let s := (asks (adminDesc 0x25 2 0 0 0 0 0 0 0 0) (fenced 0)).onObjs (fun o => { o with rings := [(2, ring2)] })
    after (.evrDestroy 4) s (fun t => ended4 t 0 && (t.ring? 2).any (fun g => !g.live)) &&
    after (.evrDestroy 4) (withQueue queue5 s) (fun t => ended4 t 0x4A && (t.ring? 2).any (·.live))) = true := by decide +kernel
theorem test_queueCreate : after (.queueCreate 4) ((asks (adminDesc 0x26 5 3 2 6 0x11000 0x11080 2 0 6) (pagedMem (fenced 0))).onObjs (fun o => { o with rings := [(2, ring2)] })) (fun t => ended4 t 0 &&
    (t.queue? 5).any (fun u => u.st == .live && u.kind == .copy && u.bound && u.ring == 0x11000 && u.eyelet == 0x11080 && u.mover == 6)) = true := by decide +kernel
theorem test_queueDestroy : after (.queueDestroy 4) (asks (adminDesc 0x27 5 0 0 0 0 0 0 0 0) (withQueue queue5 (fenced 0))) (fun t => (t.queue? 5).any (fun u => u.st == .destroying && u.drain == [70]) &&
    (t.adm 4).cmd.isSome && ran t (fun v => v.st == .stopped)) = true := by decide +kernel
theorem test_ctxDestroy : (after (.ctxDestroy 4) (asks (adminDesc 0x21 0 3 0 0 0 0 0 0 0) (withQueue queue5 (fenced 0))) (fun t => (t.queue? 5).any (fun u => u.st == .destroying && u.silent) &&
      (t.ctx? 3).any (fun c => c.st == .destroying)) &&
    after (.ctxDestroy 4) ((asks (adminDesc 0x21 0 3 0 0 0 0 0 0 0) (fenced 0)).onMem (fun m => { m with cells := cellsPut m.cells 0x20054 [0] })) (fun t => (t.ctx? 3).any (fun c => c.st == .free) &&
      (t.adm 4).cmd.isNone && (t.adm 4).w == 2)) = true := by decide +kernel
def destroyed5 : Queue := { queue5 with st := .destroying, destroyFn := 4, destroyTag := 9, destroyCookie := 0xC0, drain := [70] }
theorem test_destroyDrainEnd : after (.destroyDrainEnd 5) (asks (adminDesc 0x27 5 0 0 0 0 0 0 0 0) (withQueue destroyed5 (fenced 0))) (fun t => (t.queue? 5).any (fun u => u.st == .free && u.run.isNone && !u.bound) &&
    (t.adm 4).cmd.isNone && (t.eng 70).groups == [] && statusOf t == some 0) = true := by decide +kernel
theorem test_destroyForceClear : after (.destroyForceClear 5 70) (txnIn { stackTxn .read .home with issuer := .lane 70 1, queue := 5 } (withQueue destroyed5 (fenced 0))) (fun t => (t.queue? 5).any (fun u => u.drain == [] && u.forced == 1 && u.abandoned == [4]) &&
    (t.eng 70).groups == [] && (t.txn? 4).any (·.dead)) = true := by decide +kernel
theorem test_admin_denied : (after (.queueDestroy 4) (asks (adminDesc 0x27 500 0 0 0 0 0 0 0 0) (fenced 0)) (fun t => ended4 t 0x49) && [(0x21, Instr.ctxDestroy 4), (0x23, .ctxInvalidate 4), (0x26, .queueCreate 4), (0x28, .mobjCreate 4), (0x2B, .fenceArm 4)].all (fun x =>
    after x.2 ((asks (adminDesc x.1 5 3 2 6 0x11000 0x11080 2 0 6) (fenced 0)).onObjs (fun o => { o with ctxs := [(3, { ctx3 with fn := 5 })] })) (fun t => ended4 t 0x49))) = true := by decide +kernel

/-- A second page, of an object that is no fence object, holds the ring. -/
def ringPage (s : State) : State := s.onMem (fun m => { m with
  cells := cellsPut (cellsPut m.cells 0x5098 (leBytes 8 0x53005)) 0x20000 (leBytes 8 0x13000 ++ leBytes 8 0x1000 ++ [0, 0, 0, 0, 1, 0]) })
theorem test_mobjCreate : (let s := (fenced 0).onObjs (fun o => { o with ctxs := [(3, { ctx3 with motCount := 8 })] })
    after (.mobjCreate 4) (asks (adminDesc 0x28 5 3 2 0 0x40000 0x3000 0 0 0) s) (fun t => ended4 t 0 && (t.peek 0x20140 24).1 == leBytes 8 0x40000 ++ leBytes 8 0x3000 ++ [0, 0, 0, 0, 1, 2, 0, 0]) &&
    after (.mobjCreate 4) (asks (adminDesc 0x28 5 3 2 0 0x11000 0x3000 0 0 0) s) (fun t => ended4 t 0x4A)) = true := by decide +kernel
theorem test_mobjCreate_fence : (let s := (ringPage (fenced 0)).onMem (fun m => { m with cells := cellsPut (cellsPut m.cells 0x20014 [0]) 0x53010 [7] })
    after (.mobjCreate 4) (asks (adminDesc 0x28 0 3 8 0 0x13000 0x1000 0 0 0) s) (fun t => ended4 t 0 && (t.peek 0x53010 1).1 == [0] && (t.peek 0x20014 2).1 == [1, 8]) &&
    after (.mobjCreate 4) (asks (adminDesc 0x28 0 3 10 0 0x13000 0x1000 0 0 0) s) (fun t => ended4 t 0x4A && (t.peek 0x53010 1).1 == [7]) &&
    after (.mobjFree 4) (asks (adminDesc 0x29 0 3 0 0 0 0 0 0 0) s) (fun t => ended4 t 0x4A)) = true := by decide +kernel
theorem test_mobjFree : after (.mobjFree 4) (asks (adminDesc 0x29 1 3 0 0 0 0 0 0 0) (fenced 0)) (fun t => ended4 t 0 && (t.peek 0x20054 1).1 == [2] && (t.peek 0x20058 8).1 == leBytes 8 0xC0 &&
    SMap.get? t.objs.freeRec (65536 * 3 + 1) == some (9, 4)) = true := by decide +kernel
def freeing (pin : Byte) (run : List Nat) : State := ((asks [] (fenced 0)).onMem (fun m => { m with cells := cellsPut (cellsPut (cellsPut m.cells 0x20050 [pin]) 0x20054 [2]) 0x20060 [4] })).onObjs (fun o => { o with
  freeRec := [(65536 * 3 + 1, (9, 4))], ctxs := [(3, { ctx3 with running := run })] })
theorem test_mobjFreed : (after (.mobjFreed 3 1) (freeing 0 [5]) (fun t => (t.peek 0x20054 1).1 == [0] && (t.eng 70).tlb == [] && (t.ctx? 3).any (fun c => c.gen == 1) && statusOf t == some 0x46) &&
    after (.mobjFreed 3 1) (freeing 1 []) (fun t => t.posted == []) && after (.mobjFreed 3 1) (freeing 0 [4]) (fun t => t.posted == [])) = true := by decide +kernel
theorem test_mobjImport : (after (.mobjImport 4) (asks (adminDesc 0x2A 5 3 0 0 0 0 0 0 0) (fenced 0)) (fun t => ended4 t 0x49) &&
    (let s := ((fenced 0).onMem (fun m => { m with cells := cellsPut m.cells 0x20055 [2] })).onObjs (fun o => { o with ctxs := [(3, ctx3), (8, { ctx3 with motBase := 0x30000, motCount := 9 })] })
     after (.mobjImport 0) (s.onAdm 0 (fun a => { a with cmd := some (adminDesc 0x2A 7 8 0 0 0x90000 0 0 3 1) })) (fun t => (t.adm 0).cmd.isNone && (t.peek 0x20050 1).1 == [1] &&
      (t.peek 0x301C0 22).1 == leBytes 8 0x90000 ++ leBytes 8 0x2000 ++ [0, 0, 0, 0, 1, 6] && (t.peek 0x301E8 4).1 == [3, 0, 1, 0]))) = true := by decide +kernel
theorem test_fenceArm : (let s (flags : Nat) (k b : Nat) := (asks (adminDesc 0x2B 0 3 k 0 0x11040 b 2 0 0) (ringPage (fenced flags))).onObjs (fun o => { o with rings := [(2, { ring2 with va := 0x13400 })] })
    after (.fenceArm 4) (s 2 1 9) (fun t => ended4 t 0 && fenceOf (t.peek 0x50040 32).1 == { value := 4, event := 9, cookie := 0x77, evring := 2, flags := 3 }) &&
    after (.fenceArm 4) (s 3 2 9) (fun t => (fenceOf (t.peek 0x50040 32).1).flags == 0) &&
    after (.fenceArm 4) (s 0 1 4) (fun t => (t.ring? 2).any (fun g => g.w == 4))) = true := by decide +kernel

/-! ### Hoops and rolls -/

/-- Hoop 2 has engines 70 and 71, set 5, 8 save slots at the start of the set. -/
def hoopBase : State := regs [(R.hoopEngMap 70, 0x12), (R.hoopEngMap 71, 0x12), (R.engStat 70, 1), (R.engStat 71, 1), (R.hoopChsets 2, 0x20), (R.memSetStat 5, 31),
  (R.hoopSaveBaseLo 2, 0), (R.hoopSaveBaseLo 2 + 4, 5 * 16), (R.hoopSaveSlots 2, 8)] awake
def enW (d : Nat) : Word := Fset F.hoopCtrl_MGR_DIE d 1
theorem test_hoopEnable : (F.engStat_STATE.lo == 0 && hoopBase.enableFails 2 == none && after (.hoopEnable 2 (enW 6)) hoopBase (fun t => t.hoopSt 2 == 1 && t.bit F.hoopCtrl_BUSY (R.hoopCtrl 2) &&
      t.rd (R.memSetStat 5) == 34 && (t.hoop 2).rollDie == 6 && SMap.getD t.mem.keyGen 2 0 == 1) &&
    after (.hoopEnable 2 (enW 6)) (regs [(R.memSetStat 5, 16)] hoopBase) (fun t => t.hoopSt 2 == 0 && t.fld F.hoopCtrl_REASON (R.hoopCtrl 2) == 3) &&
    after (.hoopEnable 2 (enW 6)) (regs [(R.hoopSaveSlots 2, 0)] hoopBase) (fun t => t.fld F.hoopCtrl_REASON (R.hoopCtrl 2) == 4)) = true := by decide +kernel
theorem test_hoopEnableDone : after (.hoopEnableDone 2) (regs [(R.hoopCtrl 2, 0x11), (R.hoopStat 2, 1)] hoopBase) (fun t => t.hoopSt 2 == 2 && !t.bit F.hoopCtrl_BUSY (R.hoopCtrl 2) &&
    (t.hoop 2).freeSlots == [0, 1, 2, 3, 4, 5, 6, 7] && t.fld F.engStat_HOOP (R.engStat 71) == 2 && t.bit F.engStat_HOOP_VALID (R.engStat 71)) = true := by decide +kernel
def hoopLive : State := regs [(R.hoopCtrl 2, 1), (R.hoopStat 2, 2), (R.memSetStat 5, 2), (R.hoopFnMap 4, 0x12), (R.rollCtrl 2, 1)] hoopBase
theorem test_hoopDisable : (after (.hoopDisable 2 0) hoopLive (fun t => t.hoopSt 2 == 3 && t.rd (R.memSetStat 5) == 63 && !t.bit F.rollCtrl_EN (R.rollCtrl 2)) &&
    after (.hoopDisable 2 0) (hoopLive.onObjs (fun o => { o with ctxs := [(3, ctx3)] })) (fun t => t.hoopSt 2 == 2 && t.fld F.hoopCtrl_REASON (R.hoopCtrl 2) == 7)) = true := by decide +kernel
theorem test_hoopDisableDone : after (.hoopDisableDone 2) (regs [(R.hoopCtrl 2, 0x10), (R.hoopStat 2, 3), (R.memSetStat 5, 31)] hoopBase) (fun t => t.hoopSt 2 == 0 && t.rd (R.hoopCtrl 2) == 0) = true := by
  decide +kernel
theorem test_hoopCtrl_busy : (after (.hoopEnable 2 1) (regs [(R.hoopCtrl 2, 0x11), (R.hoopStat 2, 1)] hoopBase) (fun t => t.hoopSt 2 == 1 && t.fld F.hoopCtrl_REASON (R.hoopCtrl 2) == 13) &&
    after (.hoopDisable 2 0) (regs [(R.hoopCtrl 2, 0x10), (R.hoopStat 2, 3)] hoopBase) (fun t => t.hoopSt 2 == 3 && t.fld F.hoopCtrl_REASON (R.hoopCtrl 2) == 13)) = true := by decide +kernel
theorem test_hoopEngMapWrite : (after (.hoopEngMapWrite 70 0x33) hoopBase (fun t => t.rd (R.hoopEngMap 70) == 0x33) &&
    after (.hoopEngMapWrite 70 0) hoopLive (fun t => t.rd (R.hoopEngMap 70) == 0x12 && t.fld F.hoopCtrl_REASON (R.hoopCtrl 2) == 8)) = true := by decide +kernel
theorem test_hoopFnMapWrite : (after (.hoopFnMapWrite 4 0x13) hoopLive (fun t => t.rd (R.hoopFnMap 4) == 0x13) &&
    after (.hoopFnMapWrite 4 0) (hoopLive.onObjs (fun o => { o with ctxs := [(3, ctx3)] })) (fun t => t.rd (R.hoopFnMap 4) == 0x12 && t.fld F.hoopCtrl_REASON (R.hoopCtrl 2) == 12) &&
    after (.hoopFnMapWrite 4 0) (hoopLive.onHost (fun h => { h with tdi := [(4, .locked)] })) (fun t => t.rd (R.hoopFnMap 4) == 0x12 && t.tdi 4 == .error)) = true := by decide +kernel
theorem test_hoopSaveStatClear : after (.hoopSaveStatClear 2) (regs [(R.hoopSaveStat 2, 0x70003)] awake) (fun t => t.fld F.hoopSaveStat_SHORT (R.hoopSaveStat 2) == 0) = true := by decide +kernel
theorem test_hoopPreemptClear : after (.hoopPreemptClear 2) (regs [(R.hoopPreempt 2, 0x70003)] awake) (fun t => t.rd (R.hoopPreempt 2) == 0) = true := by decide +kernel
/-- Queue 6 of context 8 waits for engine 70 under engine set 0; queue 5 and three idle queues fill it. -/
def contended (u : Queue) (slots : List Nat) : State :=
  ((regs [(R.hoopEset 2 0, Fset F.hoopEset_DIES 1 (Fset F.hoopEset_QUADS 2 (Fset F.hoopEset_FIRST 6 (Fset F.hoopEset_COUNT 1 (Fset F.hoopEset_VALID 1 0)))))] hoopLive).onHoop 2 (fun x => { x with freeSlots := slots })).onObjs (fun o => { o with
    ctxs := [(3, ctx3), (8, { ctx3 with slot := some 1 })], queues := [(5, u), (6, { queue5 with ctx := 8, bound := false, run := none, members := [], pSeen := 4 })] ++
      [10, 11, 12].map (fun k => (k, { queue5 with run := none, members := [70], pSeen := 0 })) })
theorem test_sliceEnd : (after (.sliceEnd 5) (contended { queue5 with members := [70], run := some { launchRun with members := [70] } } [4]) (fun t => (t.queue? 5).any (fun u => u.run.any (fun r => r.phase == .saving && r.slots == [(70, 4)])) &&
      (t.hoop 2).freeSlots == []) &&
    after (.sliceEnd 5) (contended { queue5 with members := [70], run := some { launchRun with members := [70] } } []) (fun t => (t.queue? 5).any (fun u => u.hasRun .running) && t.fld F.hoopSaveStat_SHORT (R.hoopSaveStat 2) == 1) &&
    after (.sliceEnd 5) (contended { queue5 with members := [70], run := none, pSeen := 0 } []) (fun t => (t.queue? 5).any (fun u => !u.bound) && (t.queue? 6).any (fun u => u.bound))) = true := by decide +kernel
/-- Entry 1 of hoop 2's roll: queue 5 under engine set 0 of reserved engines, at 1,000. -/
def rolling (u : Queue) : State := (regs [(R.rollPeriod 2, 1250), (R.rollEntLo 2 1, 1000), (R.rollEntHi 2 1, Fset F.rollEntHi_VALID 1 (Fset F.rollEntHi_QUEUE 5 0)), (R.rollLead 2, 500), (R.rollCtrl 2, 0),
  (R.hoopEset 2 0, Fset F.hoopEset_RT 1 (Fset F.hoopEset_DIES 1 (Fset F.hoopEset_QUADS 2 (Fset F.hoopEset_FIRST 6 (Fset F.hoopEset_COUNT 2 (Fset F.hoopEset_VALID 1 0)))))), (R.hoopEngMap 70, 0x32)] hoopLive).onObjs (fun o => { o with
    ctxs := [(3, ctx3)], queues := [(5, { u with kind := .realTime, bound := false, members := [] })] })
theorem test_rollEnable : (after (.rollEnable 2 5) (rolling idle5) (fun t => t.rd (R.rollCtrl 2) == 5 && (t.queue? 5).any (fun u => u.bound && u.members == [70]) && t.rd (R.rollPos 2) == 1) &&
    after (.rollEnable 2 5) (regs [(R.rollPeriod 2, 1000)] (rolling idle5)) (fun t => t.bit F.rollCtrl_REFUSED (R.rollCtrl 2) && !t.bit F.rollCtrl_EN (R.rollCtrl 2))) = true := by decide +kernel
def rollRun (r : Option Run) : State := (regs [(R.rollCtrl 2, 5), (R.rollPos 2, 1)] (rolling idle5)).onQueue 5 (fun u => { u with bound := true, members := [70], run := r })
theorem test_rollDisable : after (.rollDisable 2 4) (rollRun none) (fun t => t.rd (R.rollCtrl 2) == 4 && (t.queue? 5).any (fun u => !u.bound)) = true := by decide +kernel
theorem test_rollEntryDue : (after (.rollEntryDue 2) (rollRun (some { launchRun with phase := .held })) (fun t => t.sched.aligned.map (fun p => (p.2.queue, p.2.lead, p.2.pendingDies)) == [(5, 500, [0])] &&
      (t.queue? 5).any (fun u => u.hasRun .running) && t.fld F.rollPos_PASS (R.rollPos 2) == 1) &&
    after (.rollEntryDue 2) (rollRun (some launchRun)) (fun t => t.fld F.rollStat_MISSED (R.rollStat 2) == 1) && after (.rollEntryDue 2) (rollRun none) (fun t => t.fld F.rollStat_MISSED (R.rollStat 2) == 0)) = true := by
  decide +kernel
theorem test_rollStatClear : after (.rollStatClear 2) (regs [(R.rollStat 2, 0x10003)] awake) (fun t => t.rd (R.rollStat 2) == 0) = true := by decide +kernel
def alignedOn (lead : Nat) (pend : List Nat) (hold : SMap Nat) : State := (gotMsg (.aligned 3 0) (rollRun (some { launchRun with launch := 6 }))).onSched (fun c => { c with
  aligned := [(3, { hoop := 2, queue := 5, launch := 6, pillow := false, lead := lead, pendingDies := pend, holding := hold })] })
theorem test_alignedLaunchArrive : (after (.alignedLaunchArrive 3 0 100) (alignedOn 500 [0, 1] []) (fun t => t.sched.aligned.map (fun p => (p.2.pendingDies, p.2.holding.map (·.1))) == [([1], [0])] && t.fld F.rollStat_LATE (R.rollStat 2) == 0) &&
    after (.alignedLaunchArrive 3 0 405) (alignedOn 500 [0, 1] []) (fun t => t.fld F.rollStat_LATE (R.rollStat 2) == 1)) = true := by decide +kernel
theorem test_alignedLaunchRelease : (after (.alignedLaunchRelease 3 0) (alignedOn 500 [] [(0, 7)]) (fun t => (t.share? 71 5).any (fun h => h.k == 1 && h.e == 2) && t.sched.aligned == []) &&
    after (.alignedLaunchRelease 3 0) ((alignedOn 500 [] [(0, 7)]).onQueue 5 (fun u => { u with run := none })) (fun t => t.engs == [])) = true := by decide +kernel

/-! ### The pillow -/

/-- A server block: kernel 0x1000, 20 registers, 1 group, no window, spans of 16 positions in 1 page, queue 5, PRICK_OFF 0x4000, rings of 16 records. -/
def srvBlock : Bytes := leBytes 8 0x1000 ++ zeros 8 ++ [20, 1, 0, 4] ++ leBytes 2 1 ++ zeros 2 ++ leBytes 4 5 ++ leBytes 4 0x4000 ++ leBytes 8 0x11000 ++ leBytes 8 0x11800 ++
  [4, 4] ++ zeros 6 ++ leBytes 8 0x10000 ++ leBytes 8 0x11508 ++ zeros 56
def srv0 : Server := { ctx := 3, block := srvBlock, reqC := 2, w := 0, h := 0, rows := [], launched := false, ended := false }
def entry7 (st : EState) : PEntry := { seqId := 0x55, pos := 16, promptEnd := 16, maxPos := 0, arg := 9, root := 12, lastStep := 0, affinity := 0, st := st, prio := 0, server := 1, ctxSlot := 0, cause := 2, data := [14], leaves := [13], joinNo := 0 }
def pilHoop (es : SMap PEntry) (w : Server) : PilHoop := { PilHoop.empty with idle := false, free := [15, 16, 17, 18], servers := [(1, w)], entries := es }
/-- The eyelet of the server reads `p`; the pool of 20 pages lies at the start of set 5. -/
def pillowOn (p : Nat) (x : PilHoop) : State :=
  ((regs [(R.pilCtrl 2, Fset F.pilCtrl_LEAD 512 1), (R.hoopStat 2, 2), (R.memSetStat 5, 2), (R.pilPoolBaseLo 2 + 4, 5 * 16), (R.pilPoolPages 2, 20), (R.pilBudget 2, 0), (R.pilSrvCtrl 2 1, 0xC1)]
    (paged (engineWith lane0))).onMem (fun m => { m with cells := cellsPut m.cells 0x50800 (leBytes 8 p) })).onPilH 2 (fun _ => x)
theorem test_pillowStepBuild : after (.pillowStepBuild 2 []) (pillowOn 2 (pilHoop [(7, entry7 .done)] srv0)) (fun t => (t.pilH 2).idle && t.rd64 (R.pilStepLo 2) == 1 &&
    (t.pilH 2).free == [12, 13, 14, 15, 16, 17, 18] && (t.pilH 2).entries == [] &&
    (List.range 8).all (fun d => cellsAt t.mem.cells (prickAddr srv0 1 d) 24 == [1, BitVec.ofNat 8 d, 1] ++ zeros 5 ++ [1] ++ zeros 15)) = true := by decide +kernel
/-- A JOIN of a prompt of 20 tokens on die 0, at record 2 of the request ring. -/
def joining : State := (regs [(R.hoopPil 2, Fset F.hoopPil_COUNT 8 0)] (pillowOn 3 { pilHoop [] srv0 with idle := true })).onMem (fun m => { m with cells := cellsPut m.cells 0x50080 ([1, 0, 0] ++ zeros 5 ++ leBytes 8 0x99 ++ leBytes 8 20) })
theorem test_pillowIdlePoll : (after (.pillowIdlePoll 2 []) (pillowOn 2 { pilHoop [] srv0 with idle := true }) (fun t => t.rd64 (R.pilStepLo 2) == 0) &&
    after (.pillowIdlePoll 2 []) (joining.setMark (5 * 2 ^ 31) true) (fun t => (t.pilH 2).stopped && t.rd64 (R.pilStepLo 2) == 1 &&
      (t.pilH 2).entries.map (fun p => (p.1, p.2.seqId, p.2.st, p.2.promptEnd, p.2.cause)) == [(0, 0x99, .done, 20, 4)] && (t.pilH 2).free == [15, 16, 17, 18] &&
      (t.server? 2 1).any (fun w => w.reqC == 3))) = true := by decide +kernel
theorem test_reportRingHeadReread : (let s (n : Nat) := (pillowOn 2 { pilHoop [] { srv0 with w := 16 } with paused := true, reports := [(1, zeros 31)] }).onMem (fun m => { m with cells := cellsPut m.cells 0x50508 (leBytes 8 n) })
    after (.reportRingHeadReread 2 1 []) (s 0) (fun t => (t.pilH 2).paused) &&
    after (.reportRingHeadReread 2 1 []) (s 3) (fun t => !(t.pilH 2).paused && (t.server? 2 1).any (fun w => w.w == 17 && w.h == 3))) = true := by decide +kernel
theorem test_serverContextRelease : after (.serverContextRelease 2 1) ((pillowOn 2 { pilHoop [(7, entry7 .decode)] srv0 with idle := true }).onObjs (fun o => { o with ctxs := [] })) (fun t => (t.server? 2 1).isNone && (t.pilH 2).entries == [] &&
    (t.pilH 2).free == [12, 13, 14, 15, 16, 17, 18] && t.rd (R.pilSrvCtrl 2 1) == 0xC0) = true := by decide +kernel
def pillowOff : State := regs [(R.pilCtrl 2, 0)] (pillowOn 2 PilHoop.empty)
theorem test_pilEnable : (after (.pilEnable 2 3) pillowOff (fun t => t.bit F.pilCtrl_EN (R.pilCtrl 2) && t.bit F.pilCtrl_BUSY (R.pilCtrl 2) && t.fld F.pilCtrl_LEAD (R.pilCtrl 2) == 512 && (t.pilH 2).free == (List.range 19).map (· + 1)) &&
    after (.pilEnable 2 1) (regs [(R.pilPoolPages 2, 1)] pillowOff) (fun t => !t.bit F.pilCtrl_EN (R.pilCtrl 2) && t.fld F.pilCtrl_REASON (R.pilCtrl 2) == 2)) = true := by decide +kernel
theorem test_pilFreeListBuilt : after (.pilFreeListBuilt 2) (regs [(R.pilCtrl 2, Fset F.pilCtrl_BUSY 1 1)] pillowOff) (fun t => t.rd (R.pilCtrl 2) == 1) = true := by decide +kernel
def serving (q : Nat) : State := (regs [(R.pilSrvCtrl 2 1, 0), (R.pilSrvBlockLo 2 1, 0x11100), (R.hoopFnMap 4, Fset F.hoopFnMap_VALID 1 (Fset F.hoopFnMap_HOOP 2 0))] (pillowOn 2 PilHoop.empty)).onObjs (fun o => { o with
  ctxs := [(3, ctx3)], queues := [(q, queue5)] }) |>.onMem (fun m => { m with cells := cellsPut m.cells 0x50100 srvBlock })
def srvW : Word := Fset F.pilSrvCtrl_CTX 3 1
theorem test_pilServerEnable : (after (.pilServerEnable 2 1 srvW []) (serving 5) (fun t => t.bit F.pilSrvCtrl_EN (R.pilSrvCtrl 2 1) && (t.server? 2 1).any (fun w => w.ctx == 3 && w.block == srvBlock && w.reqC == 0)) &&
    after (.pilServerEnable 2 1 srvW []) (serving 6) (fun t => !t.bit F.pilSrvCtrl_EN (R.pilSrvCtrl 2 1) && t.fld F.pilSrvCtrl_REASON (R.pilSrvCtrl 2 1) == 4)) = true := by decide +kernel
theorem test_pilEntSelWrite : (let k := Fset F.pilEntSel_ENTRY 7 0
    after (.pilEntSelWrite k) (pillowOn 2 (pilHoop [(7, entry7 .decode)] srv0)) (fun t => t.rd (R.pilEntData 0) == 0x55 && t.rd (R.pilEntData 10) == 12 && t.rd (R.pilEntData 11) == 3 && t.rd (R.pilEntData 14) == 0x04030000) &&
    after (.pilEntSelWrite k) (regs [(R.pilEntData 0, 5)] (pillowOn 2 PilHoop.empty)) (fun t => t.rd (R.pilEntData 0) == 0)) = true := by decide +kernel
theorem test_pilStatClears : (after (.pilStatClear 2) (regs [(R.pilStat 2, 0x10003)] awake) (fun t => t.rd (R.pilStat 2) == 0) &&
    after (.pilStat2Clear 2) (regs [(R.pilStat2 2, 0x10003)] awake) (fun t => t.rd (R.pilStat2 2) == 0)) = true := by decide +kernel

/-! ### The exchange -/

/-- Exchange 1 of hoop 2: rows and output rows of one line, 4 toile slots at offset 0x20000, 1 spill slot, 2 buckets, expert queue 5 on every die. -/
def xBlock (drec doneVa : Nat) : Bytes := leBytes 8 0x10000 ++ leBytes 8 0x11000 ++ [20, 1, 0, 0] ++ leBytes 4 128 ++ leBytes 4 128 ++ leBytes 4 0 ++ leBytes 8 drec ++ leBytes 8 0x12040 ++ leBytes 8 doneVa ++ leBytes 8 0x11800 ++
  leBytes 8 0x11C00 ++ leBytes 4 1 ++ leBytes 4 0x20000 ++ (List.range 8).flatMap (fun _ => leBytes 4 5) ++ [0, 0] ++ leBytes 2 2 ++ leBytes 2 4 ++ zeros 10
def die_ (d : Nat) : Peer := { die := d, port := none }
/-- The context has a page of fences at 0x12000, of its object 0, beside its data page. -/
def xMem : State := (paged (engineWith lane0)).onMem (fun m => { m with cells := cellsPut (cellsPut (cellsPut (cellsPut m.cells 0x5080 (leBytes 8 (0x40000 + 9 + 2 ^ 48))) 0x5090 (leBytes 8 (0x51000 + 5))) 0x20000 (leBytes 8 0x12000 ++ leBytes 8 0x1000 ++ leBytes 4 0 ++ [1, 8])) 0x51040 (leBytes 8 4) })
def xOn (opened : Bool) (last drec : Nat) (u : Nat → XDie) : State := (regs [(R.shxXCtrl 2 1, 1), (R.hoopStat 2, 2), (R.hoopFnMap 4, Fset F.hoopFnMap_VALID 1 (Fset F.hoopFnMap_HOOP 2 0))] (withQueue { queue5 with run := none } xMem)).onShx (fun y => { y with
  xchs := [(9, { ctx := 3, block := xBlock drec 0x12040, last := last, opened := opened, status := 0, gone := [], multiAt := 0, dies := (List.range 8).map (fun d => (d, u d)) })] })
def between (m : ShxMsg) (s : State) : State := gotMsg (.shx m) s
/-- The messages between exchange units that are on their way. -/
def shxOf (t : State) : List ShxMsg := t.msgs.filterMap (fun p => match p.2.kind with | .shx m => some m | _ => none)
def fresh3 : XDie := XDie.fresh 3
def tabsOf (l : List Nat) : List CountTab := l.map (fun d => { peer := die_ d, last := true, cells := [] })
def countMsg : ShxMsg := { shxMsg 9 7 4 2 1 with entries := [(1, 2, 0), (0, 4, 0)] }
theorem test_count : (after (.count 8 countMsg) (between countMsg (xOn false 3 0x11400 (fun _ => { fresh3 with tabs := tabsOf [0, 2, 3, 4, 5, 6, 7] }))) (fun t => (t.xdie? 9 2).any (fun y => y.phase == 1 &&
      y.grants == [{ peer := die_ 1, bucket := 0, count := 4, first := 0 }, { peer := die_ 1, bucket := 1, count := 1, first := 4 }] && y.ungranted.map (·.count) == [1]) &&
      (shxOf t).map (fun m => (m.kind, m.dst, m.entries)) == (List.range 8).map (fun d => (8, d, if d = 1 then [(0, 4, 0), (1, 1, 4)] else []))) &&
    after (.count 8 { countMsg with dispatch := 5 }) (between { countMsg with dispatch := 5 } (xOn false 3 0x11400 (fun _ => fresh3))) (fun t => (t.xdie? 9 2).any (fun y => y.tabs2.map (·.cells) == [[(1, 2), (0, 4)]] && y.phase == 0)) &&
    after (.count 8 countMsg) (between countMsg (xOn false 3 0x11400 (fun _ => fresh3))) (fun t => (t.xdie? 9 2).any (fun y => y.tabs.map (·.peer.die) == [1] && y.phase == 0))) = true := by decide +kernel
theorem test_count_dropped : (let s := regs [(R.gmpStat 1, Fset F.gmpStat_STATE 3 0), (R.gmpInMap 1 6, 0)] awake
    s.gmpUp 1 && after (.count 1 { countMsg with tag := 6 }) s (fun t => t.rd R.shxDrop == 1)) = true := by decide +kernel
def route3 (tok : Nat) (d : Nat) : Route := { token := tok, g := 7, ef := 1, bucket := 1, dst := die_ d }
def grantMsg : ShxMsg := { shxMsg 9 8 4 1 2 with entries := [(1, 1, 3)], round := 0 }
def drec1 : Bytes := zeros 16 ++ leBytes 8 0x11200 ++ leBytes 8 0x11000
theorem test_grant : (let s := between grantMsg (xOn true 4 0x11400 (fun _ => { fresh3 with record := drec1, routes := [route3 2 1, route3 3 2, route3 4 2] }))
    after (.grant 8 grantMsg) s (fun t => (t.xdie? 9 1).any (fun y => y.routes == [route3 2 1, route3 4 2] && y.fills.map (fun f => (f.slots, f.closed)) == [(1, true)]) &&
      t.shx.moves.map (fun m => (m.2.token, m.2.slot, m.2.target)) == [(3, 3, 0x50180)] && t.txns.map (fun p => (p.2.op, p.2.addr)) == [(.read, 0x50380)])) = true := by decide +kernel
def filledMsg : ShxMsg := { shxMsg 9 11 4 2 1 with body := leBytes 4 1 }
def grantsOf (l : List (Nat × Nat)) : List Grant := l.map (fun p => { peer := die_ p.1, bucket := 1, count := 1, first := p.2 })
theorem test_filled : (let s (g : List (Nat × Nat)) := between filledMsg (xOn false 3 0x11400 (fun _ => { fresh3 with phase := 1, grants := grantsOf g, arrived := [0] }))
    after (.filled 8 filledMsg) (s [(1, 0), (3, 1)]) (fun t => (t.xdie? 9 2).any (fun y => y.phase == 1 && y.filled == [die_ 1])) &&
    after (.filled 8 filledMsg) (s [(1, 0)]) (fun t => (t.xdie? 9 2).any (fun y => y.phase == 2) && cellsAt t.mem.cells (toileAt 2 (0x20000 + 512 + 80)) 32 == leBytes 8 4 ++ zeros 4 ++ leBytes 4 1 ++ zeros 12 ++ leBytes 4 1 &&
      (t.queue? 5).any (fun u => u.run.any (fun r => descOp r.desc == 2 && r.sender == 2 && numAt r.desc 8 8 == 4)))) = true := by decide +kernel
def doneMsg : ShxMsg := { shxMsg 9 12 4 1 2 with body := leBytes 4 2 ++ leBytes 4 5 }
def fill3 : Fill := { dst := die_ 2, round := 0, slots := 3, closed := true, sent := true }
theorem test_done : (let s (left : Nat) := between doneMsg (xOn true 4 0x11400 (fun d => if d = 1 then { fresh3 with counted := true, left := left, fills := [fill3] } else { fresh3 with wrote := true }))
    after (.done 8 doneMsg) (s 8) (fun t => (t.xdie? 9 1).any (fun y => y.left == 5 && y.combined == 2 && y.lost == 1 && y.poisoned == 5 && !y.wrote)) &&
    after (.done 8 doneMsg) (s 3) (fun t => (t.xch? 9).any (fun z => !z.opened) && (t.xdie? 9 1).any (·.wrote) && t.msgs.map (·.2.kind) == [.signal 3 0x51040 4 none none] &&
      (t.peek 0x504C0 20).1 == leBytes 8 4 ++ [0x44, 0, 0, 0] ++ leBytes 4 0 ++ leBytes 4 1)) = true := by decide +kernel
def partnered (u : XDie) : State := regs [(R.gmpStat 1, Fset F.gmpStat_STATE 3 0), (R.gmpInMap 1 6, Fset F.gmpInMap_VALID 1 (Fset F.gmpInMap_HOOP 2 0)), (R.shxXDomain 2 1, Fset F.shxXDomain_PORTS 2 (Fset F.shxXDomain_XID 9 0))]
  (xOn true 4 0x11400 (fun _ => u))
theorem test_abort : (let r : Route := { route3 4 5 with dst := { die := 5, port := some 1 } }
    let m : ShxMsg := { shxMsg 9 13 4 0 3 with tag := 6, xid := 9 }
    after (.abort 1 m) (partnered { fresh3 with routes := [route3 3 2, r], left := 2 }) (fun t => (t.xch? 9).any (fun z => z.status == 0x41 && z.gone == [1]) &&
      (t.xdie? 9 4).any (fun y => y.routes == [route3 3 2] && y.left == 1 && y.lost == 1))) = true := by decide +kernel
def lineMsg (slot line : Nat) (bad : Bool) : ShxMsg := { shxMsg 9 9 4 2 1 with id := 6, slot := slot, line := line, last := bad, body := List.replicate 128 5 }
def move6 : Move := { key := 9, die := 1, fill := true, token := 3, g := 7, ef := 1, peer := die_ 2, slot := 3, round := 0, line := 0, target := 0x50180, port := none, buf := [], bad := false, ss := 0, hasSs := false }
theorem test_slotLine : (let s (m : ShxMsg) := (between m (xOn true 4 0x11400 (fun _ => fresh3))).onShx (fun y => { y with moves := [(6, move6)] })
    after (.slotLine 8 (lineMsg 3 0 true)) (s (lineMsg 3 0 true)) (fun t => t.txns.map (fun p => (p.2.op, p.2.space, p.2.addr, p.2.poison, p.2.issuer)) == [(.store, .toile, toileAt 2 0x20180, 15, .movement 2 1 6)]) &&
    after (.slotLine 8 (lineMsg 4 0 false)) (s (lineMsg 4 0 false)) (fun t => t.txns.map (fun p => (p.2.op, p.2.space, p.2.addr, p.2.poison)) == [(.store, .stack, 0x50900, 0)]) &&
    after (.slotLine 8 (lineMsg 3 1 false)) (s (lineMsg 3 1 false)) (fun t => faultOf t 5 4 0x11480)) = true := by decide +kernel
theorem test_slotRecord : (let m : ShxMsg := { shxMsg 9 10 4 2 1 with slot := 3, body := leBytes 8 0x50180 ++ leBytes 2 7 ++ [1, 0] ++ leBytes 4 3 }
    after (.slotRecord 8 m) (between m (xOn true 4 0x11400 (fun _ => fresh3))) (fun t => t.txns.map (fun p => (p.2.addr, p.2.mask, cut p.2.data 48 16)) == [(toileAt 2 0x20200, 0xFFFF * 2 ^ 48, leBytes 8 0x50180 ++ leBytes 2 7 ++ [1, 0] ++ leBytes 4 3)] &&
      (t.xdie? 9 2).any (fun y => y.arrived == [3] && y.received == 1))) = true := by decide +kernel
/-- The record of die d names dispatch 4; die 0's holds one route, to expert 2. -/
def records (n : Nat) : State := (regs [(R.shxXMap 2 1, Fset F.shxXMap_MAP_COUNT 4 (Fset F.shxXMap_MAP_FIRST 8 0)), (R.shxMap 10, Fset F.shxMap_VALID 1 (Fset F.shxMap_DIE 6 (Fset F.shxMap_BUCKET 1 0)))]
  (xOn false 3 0x11400 (fun _ => fresh3))).onMem (fun m => { m with cells := (List.range 8).foldl (fun c d => cellsPut c (0x50400 + 128 * d) ((if d = 0 then leBytes 8 0x11C00 ++ leBytes 4 1 ++ leBytes 4 5 else zeros 16) ++ zeros 16 ++ leBytes 8 n)) (cellsPut m.cells 0x50C00 ([3, 0, 0, 2, 0] ++ leBytes 2 7 ++ [1])) })
theorem test_dispatchStart : (after (.dispatchStart 2 1 []) (records 4) (fun t => (t.xch? 9).any (fun z => z.opened && z.last == 4) && t.rd (R.shxXLast 2 1) == 4 && (t.xdie? 9 0).any (fun y => y.routes == [{ token := 3, g := 7, ef := 1, bucket := 1, dst := die_ 6 }] && y.left == 1) &&
      (shxOf t).length == 64 && (shxOf t).all (fun m => m.kind == 7 && m.entries == (if m.src = 0 ∧ m.dst = 6 then [(1, 1, 0)] else []))) &&
    after (.dispatchStart 2 1 []) (records 5) (fun t => faultOf t 5 4 0x11400)) = true := by decide +kernel
theorem test_dispatchStart_value : (after (.dispatchStart 2 1 []) (xOn false 4 0x11400 (fun _ => fresh3)) (fun t => (t.xch? 9).any (fun z => z.last == 4) && (shxOf t) == []) &&
    after (.dispatchStart 2 1 []) (xOn false 2 0x11400 (fun _ => fresh3)) (fun t => faultOf t 5 4 0x12040)) = true := by decide +kernel
theorem test_expertLaunchComplete : (let s (fl : Byte) := (xOn false 3 0x11400 (fun _ => { fresh3 with phase := 2, grants := grantsOf [(0, 2)] })).onMem (fun m => { m with cells := cellsPut m.cells (toileAt 6 0x20220) (leBytes 8 0x50180 ++ leBytes 2 7 ++ [1, fl]) })
    after (.expertLaunchComplete 2 1 6 []) (s 0) (fun t => (t.xdie? 9 6).any (fun y => y.phase == 3) && t.shx.moves.map (fun m => (m.2.slot, m.2.target, m.2.g)) == [(2, 0x50180, 7)]) &&
    after (.expertLaunchComplete 2 1 6 []) (s 1) (fun t => (t.xdie? 9 6).any (fun y => y.phase == 0 && y.serving == 5) && (shxOf t).map (·.kind) == List.replicate 8 12)) = true := by decide +kernel
theorem test_dispatchWaitLimit : (after (.dispatchWaitLimit 2 1) (xOn true 4 0x11400 (fun _ => fresh3)) (fun t => faultOf t 14 0 0x11400) &&
    after (.dispatchWaitLimit 2 1) (xOn false 4 0x11400 (fun _ => fresh3)) (fun t => (t.ctx? 3).any (·.fault.isNone))) = true := by decide +kernel
def enabling (n : Nat) : State := ((regs [(R.shxXCtrl 2 1, 0), (R.shxXBlockLo 2 1, 0x11100), (R.shxXMap 2 1, Fset F.shxXMap_MAP_COUNT n 0)] (xOn false 3 0x11400 (fun _ => fresh3))).onShx (fun y => { y with xchs := [] })).onMem (fun m => { m with
  cells := cellsPut m.cells 0x50100 (xBlock 0x11400 0x12040) })
theorem test_exchangeEnable : (let w := Fset F.shxXCtrl_CTX 3 1
    after (.exchangeEnable 2 1 w []) (enabling 4) (fun t => t.bit F.shxXCtrl_EN (R.shxXCtrl 2 1) && (t.xch? 9).any (fun z => z.last == 4 && z.ctx == 3 && !z.opened) && (t.xdie? 9 7).any (fun y => y.serving == 5) && t.rd (R.shxXLast 2 1) == 4) &&
    after (.exchangeEnable 2 1 w []) (enabling 0) (fun t => !t.bit F.shxXCtrl_EN (R.shxXCtrl 2 1) && t.fld F.shxXCtrl_REASON (R.shxXCtrl 2 1) == 6)) = true := by decide +kernel
theorem test_exchangeDisable : (after (.exchangeDisable 2 1 0) (between countMsg (xOn false 4 0x11400 (fun _ => fresh3))) (fun t => (t.xch? 9).isNone && (shxOf t) == [] && !t.bit F.shxXCtrl_EN (R.shxXCtrl 2 1)) &&
    after (.exchangeDisable 2 1 0) (xOn true 4 0x11400 (fun _ => fresh3)) (fun t => t.bit F.shxXCtrl_EN (R.shxXCtrl 2 1) && t.fld F.shxXCtrl_REASON (R.shxXCtrl 2 1) == 8)) = true := by decide +kernel
theorem test_shxMapWrite : after (.shxMapWrite 4095 0xFFFFFFFF#32) awake (fun t => t.rd (R.shxMap 4095) == 0x8003FF7F) = true := by decide +kernel
theorem test_shxClears : (after (.shxXStatClear 2 1) (regs [(R.shxXStat 2 1, 0x10003)] awake) (fun t => t.rd (R.shxXStat 2 1) == 0) &&
    after .shxDropClear (regs [(R.shxDrop, 3)] awake) (fun t => t.rd R.shxDrop == 0)) = true := by decide +kernel

/-! ### The gimp ports -/

/-- Port 1 in a STATE, with what its unit holds. -/
def portAt (st : Nat) (q : Port) : State := (regs [(R.gmpCtrl 1, 1), (R.gmpStat 1, Fset F.gmpStat_STATE st 0)] awake).onPort 1 (fun _ => q)
def bondW : Word := Fset F.gmpCtrl_BOND_PORT 2 (Fset F.gmpCtrl_BOND_EN 1 1)
theorem test_portEnable : after (.portEnable 1 bondW) (regs [(R.gmpPeerHash 1 7, 0x77)] (regs [(R.gmpCtrl 1, 0)] (portAt 4 Port.empty))) (fun t => t.gmpState 1 == 1 && (t.port 1).step == 1 && (t.port 1).bondEn && (t.port 1).bondPort == 2 &&
    (t.port 1).peerHash == [0, 0, 0, 0, 0, 0, 0, 0x77] && t.rd (R.gmpCtrl 1) == bondW) = true := by decide +kernel
def pmsg (k : Nat) : PMsg := { kind := k, chunks := 1, tag := 6, xid := 0, id := 5, addr := 0x80, dst := 0, src := 0, aux := 0, body := [1] }
theorem test_portDisable : (after (.portDisable 1 0) (portAt 3 Port.empty) (fun t => t.gmpState 1 == 0) && after (.portDisable 1 0) (portAt 4 Port.empty) (fun t => t.gmpState 1 == 4 && t.rd (R.gmpCtrl 1) == 0) &&
    after (.portDisable 1 0) (portAt 3 { Port.empty with queue := [pmsg 4] }) (fun t => t.gmpState 1 == 3 && (t.port 1).closing)) = true := by decide +kernel
theorem test_portElectricalTrained : (let s := portAt 1 { Port.empty with step := 1 }
    after (.portElectricalTrained 1 { tx := 0x7FD, rx := 0x3FF, reversed := true } 160) s (fun t => t.gmpState 1 == 2 && t.fld F.gmpStat_WIDTH (R.gmpStat 1) == 10 && t.rd (R.gmpDelay 1) == 160 + 250 * 256 &&
      t.fld F.gmpLaneStat_TX_LANES (R.gmpLaneStat 1) == 0x7FD && t.fld F.gmpLaneStat_RX_SPARE (R.gmpLaneStat 1) == 10 + 5 && t.posted == [.gimp 1 0x102 [] (leBytes 8 awake.part.serial)]) &&
    after (.portElectricalTrained 1 { tx := 0x7F, rx := 0x3FF, reversed := false } 160) s (fun t => t.gmpState 1 == 4 && t.fld F.gmpStat_FAIL_REASON (R.gmpStat 1) == 2)) = true := by decide +kernel
theorem test_serialExchange : (let s := portAt 2 { Port.empty with step := 2 }
    let n := s.part.serial
    after (.serialExchange 1 (n + 1)) s (fun t => t.bit F.gmpStat_ROLE (R.gmpStat 1) && (t.port 1).step == 3 && t.rd64 (R.gmpPeerSnLo 1) == n + 1 && t.posted.length == 1) &&
    after (.serialExchange 1 n) s (fun t => t.fld F.gmpStat_FAIL_REASON (R.gmpStat 1) == 6) &&
    after (.serialExchange 1 (n + 1)) (regs [(R.secStat, Fset F.secStat_RNG_FAIL 1 0)] s) (fun t => t.fld F.gmpStat_FAIL_REASON (R.gmpStat 1) == 8)) = true := by decide +kernel
theorem test_kemEncapsulationKey : (let s := portAt 2 { Port.empty with step := 3 }
    after (.kemEncapsulationKey 1 [5, 6]) s (fun t => (t.port 1).step == 4 && t.sec.signing.any (fun r => r.who == 0 && r.arg == 1) && t.posted.length == 2) &&
    after (.kemEncapsulationKey 1 [5, 6]) (regs [(R.secStat, Fset F.secStat_RNG_FAIL 1 0)] s) (fun t => t.fld F.gmpStat_FAIL_REASON (R.gmpStat 1) == 8)) = true := by decide +kernel
theorem test_kemCiphertext : after (.kemCiphertext 1 [5, 6]) ((portAt 2 { Port.empty with step := 3 }).setF F.gmpStat_ROLE (R.gmpStat 1) 1) (fun t => (t.port 1).step == 4 && (t.port 1).transcript.take 2 == [5, 6] && t.sec.signing.isSome) = true := by
  decide +kernel
def verified : ChainVerdict := { chain := true, signature := true, keyHash := leBytes 4 7 ++ zeros 28 }
theorem test_identityChainSignature : (let q := { Port.empty with step := 4, bondEn := true, bondPort := 2, peerCheck := true, peerHash := [7, 0, 0, 0, 0, 0, 0, 0] }
    let s := (regs [(R.gmpStat 2, Fset F.gmpStat_STATE 3 0)] (portAt 2 q)).onPort 2 (fun _ => { Port.empty with bondEn := true, bondPort := 1 })
    after (.identityChainSignature 1 verified) s (fun t => t.gmpState 1 == 3 && t.bondOf 1 == some 2 && t.bondOf 2 == some 1 && (t.port 1).step == 0) &&
    after (.identityChainSignature 1 { verified with signature := false }) s (fun t => t.fld F.gmpStat_FAIL_REASON (R.gmpStat 1) == 4) &&
    after (.identityChainSignature 1 { verified with keyHash := zeros 32 }) s (fun t => t.fld F.gmpStat_FAIL_REASON (R.gmpStat 1) == 5) &&
    after (.identityChainSignature 1 verified) (s.onPort 2 (fun q => { q with bondPort := 3 })) (fun t => t.gmpState 1 == 3 && t.bit F.gmpStat_BOND_ERR (R.gmpStat 1) && t.bondOf 1 == none)) = true := by decide +kernel
theorem test_bringupTimeout : (after (.bringupTimeout 1) (portAt 1 { Port.empty with step := 1 }) (fun t => t.fld F.gmpStat_FAIL_REASON (R.gmpStat 1) == 1) &&
    after (.bringupTimeout 1) (portAt 2 { Port.empty with step := 3 }) (fun t => t.fld F.gmpStat_FAIL_REASON (R.gmpStat 1) == 8 && t.fld F.gmpSecErr_BRINGUP_FAIL (R.gmpSecErr 1) == 1)) = true := by decide +kernel
theorem test_gmpClears : (after (.gmpErrClear 1) (regs [(R.gmpErr 1, 0x10003)] awake) (fun t => t.rd (R.gmpErr 1) == 0) &&
    after (.gmpSecErrClear 1) (regs [(R.gmpSecErr 1, 0x10003)] awake) (fun t => t.rd (R.gmpSecErr 1) == 0)) = true := by decide +kernel
theorem test_portRetrainRequest : after (.portRetrainRequest 1 3) (portAt 3 Port.empty) (fun t => t.rd (R.gmpCtrl 1) == 3 && t.fld F.gmpErr_RETRAINS (R.gmpErr 1) == 1) = true := by decide +kernel
def goodFlit : GimpFlit := { fkind := 0, seq := 6, ack := 2, credit := [1, 0, 3, 0], crc := true, tag := true, nak := false, chunks := [] }
def flitOf (seq sends : Nat) : PFlit := { seq := seq, sends := sends, fkind := 0, msgs := [pmsg 4] }
def inFlight : Port := { Port.empty with expSeq := 6, nextSeq := 4, replay := [flitOf 1 1, flitOf 2 1, flitOf 3 1], credits := [31, 0, 1022, 5], rxCount := 9 }
theorem test_flitReceive : (after (.flitReceive 1 goodFlit) (portAt 3 inFlight) (fun t => (t.port 1).expSeq == 7 && (t.port 1).replay == [flitOf 3 1] && (t.port 1).credits == [32, 0, 1024, 5] && (t.port 1).rxCount == 10) &&
    after (.flitReceive 1 { goodFlit with crc := false }) (portAt 3 inFlight) (fun t => (t.port 1).nak && (t.port 1).expSeq == 6 && t.fld F.gmpErr_CRC_ERR (R.gmpErr 1) == 1) &&
    after (.flitReceive 1 { goodFlit with tag := false }) (portAt 3 inFlight) (fun t => t.fld F.gmpStat_FAIL_REASON (R.gmpStat 1) == 7 && t.fld F.gmpSecErr_TAG_FAIL (R.gmpSecErr 1) == 1) &&
    after (.flitReceive 1 { goodFlit with seq := 7 }) (portAt 3 inFlight) (fun t => (t.port 1).nak && (t.port 1).expSeq == 6)) = true := by decide +kernel
theorem test_flitReceive_send : after (.flitReceive 1 { goodFlit with credit := [0, 1, 0, 0] }) (portAt 3 { inFlight with queue := [pmsg 4] }) (fun t => (t.port 1).queue == [] && (t.port 1).replay == [flitOf 3 1, flitOf 4 1] &&
    (t.port 1).credits == [31, 0, 1022, 5] && (t.port 1).nextSeq == 5 && t.posted == [.gimp 1 4 [6, 0, 5, 0x80, 0, 0, 0] [1]]) = true := by decide +kernel
theorem test_nakReplay : (after (.nakReplay 1 1) (portAt 3 inFlight) (fun t => (t.port 1).replay == [flitOf 2 2, flitOf 3 2] && t.posted.length == 2 && (t.port 1).txCount == 2) &&
    after (.nakReplay 1 1) (portAt 3 { inFlight with replay := [flitOf 2 1, flitOf 3 8] }) (fun t => t.rd (R.gmpCtrl 1) == 3 && t.posted == [])) = true := by decide +kernel
theorem test_replayTimerExpiry : after (.replayTimerExpiry 1) (portAt 3 inFlight) (fun t => t.posted.length == 3 && (t.port 1).replay.map (·.sends) == [2, 2, 2]) = true := by decide +kernel
theorem test_portRetrainEnd : (let s := regs [(R.gmpCtrl 1, 3)] (portAt 3 { inFlight with txCount := 2 ^ 32 })
    after (.portRetrainEnd 1 { tx := 0x7FF, rx := 0x7FF, reversed := false }) s (fun t => t.rd (R.gmpCtrl 1) == 1 && (t.port 1).resuming && (t.port 1).txCount == 2 ^ 33 && t.posted == [.gimp 1 0x202 [] (leBytes 8 (2 ^ 33))]) &&
    after (.portRetrainEnd 1 { tx := 0x7FF, rx := 0x1FF, reversed := false }) s (fun t => t.fld F.gmpStat_WIDTH (R.gmpStat 1) == 8 && t.gmpState 1 == 3) &&
    after (.portRetrainEnd 1 { tx := 0x7FF, rx := 0x7F, reversed := false }) s (fun t => t.gmpState 1 == 4 && t.fld F.gmpStat_FAIL_REASON (R.gmpStat 1) == 3)) = true := by decide +kernel
theorem test_keyUpdate : (after (.keyUpdate 1) (portAt 3 { Port.empty with txCount := 2 ^ 36 }) (fun t => (t.port 1).txCount == 0 && t.fld F.gmpStat_KEY_EPOCH (R.gmpStat 1) == 1 && t.posted == [.gimp 1 0x203 [] []]) &&
    after (.keyUpdate 1) (portAt 3 { Port.empty with txCount := 2 ^ 36 - 1 }) (fun t => t.posted == [])) = true := by decide +kernel
theorem test_counterResume : (let q := { inFlight with resuming := true, rxLast := 2 ^ 33 }
    after (.counterResume 1 (2 ^ 34)) (portAt 3 q) (fun t => !(t.port 1).resuming && (t.port 1).rxLast == 2 ^ 34 && t.posted.length == 3) &&
    after (.counterResume 1 (2 ^ 33)) (portAt 3 q) (fun t => (t.port 1).resuming && t.posted == [])) = true := by decide +kernel
/-- Tag 6 of port 1 names hoop 2, which owns set 0. -/
def peered : State := regs [(R.gmpInMap 1 6, Fset F.gmpInMap_VALID 1 (Fset F.gmpInMap_HOOP 2 0)), (R.memSetStat 0, 2), (R.cshSliceMap (homeIndex 0x50040), 0)] (portAt 3 Port.empty)
def peerM (addr mask : Nat) (b : Bytes) : PeerMsg := { tag := 6, id := 9, addr := addr, mask := mask, body := b }
theorem test_sectorWrite : (after (.sectorWrite 1 (peerM 0x50060 0xF (List.replicate 32 7))) peered (fun t => t.txns.map (fun p => (p.2.addr, p.2.mask, p.2.issuer, p.2.op)) == [(0x50000, 0xF * 2 ^ 96, .peer 1 9, .store)]) &&
    after (.sectorWrite 1 (peerM 0x50060 0xF [])) (regs [(R.memSetStat 0, 3)] peered) (fun t => t.txns == [] && t.posted.any (fun x => match x with | .gimp 1 5 _ b => b == [5, 1, 0x49, 0, 9, 0, 0, 0] | _ => false))) = true := by
  decide +kernel
theorem test_lineWrite : after (.lineWrite 1 (peerM 0x50080 (2 ^ 128 - 1) (List.replicate 128 7))) peered (fun t => t.txns.map (fun p => (p.2.addr, p.2.mask == 2 ^ 128 - 1, p.2.secs)) == [(0x50080, true, 15)]) = true := by decide +kernel
def reduceBody (k : Nat) : Bytes := leBytes 5 (0x50080 / 128) ++ leBytes 1 k ++ leBytes 2 7 ++ [0xFF, 2, 3, 0] ++ leBytes 2 4 ++ leBytes 2 5 ++ List.replicate 128 1
theorem test_lineReduce : (after (.lineReduce 1 (peerM 0 0 (reduceBody 1))) peered (fun t => t.txns.map (fun p => (p.2.addr, p.2.op)) == [(0x50080, .reduce 1 7 (-1) 2 3 4 5)]) &&
    after (.lineReduce 1 (peerM 0 0 (reduceBody 2))) peered (fun t => t.txns == [] && t.posted.length == 1)) = true := by decide +kernel
theorem test_gmpFenceSignal : (after (.gmpFenceSignal 1 (peerM 0x50040 0 (leBytes 8 9))) peered (fun t => (t.peek 0x50040 8).1 == leBytes 8 9 && t.posted.any (fun x => match x with | .gimp 1 5 _ b => b == [5, 1, 0, 0, 9, 0, 0, 0] | _ => false)) &&
    after (.gmpFenceSignal 1 (peerM 0x50048 0 (leBytes 8 9))) peered (fun t => t.posted.any (fun x => match x with | .gimp 1 5 _ b => b == [5, 1, 0x49, 0, 9, 0, 0, 0] | _ => false))) = true := by decide +kernel
def storeOut (id : Nat) : Unacked := { id := id, kind := 1, ctx := some 3, addr := 0x50060, req := some (4, Txn.blank (.lane 70 1) 0 1 (some 2) (some 3) .store (.peer 1) 0x50000), move := none, late := false }
def peerStore (us : List Unacked) : State := (regs [(R.gmpCtrl 1, 1), (R.gmpStat 1, Fset F.gmpStat_STATE 3 0)] (withQueue queue5 (engineWith lane0))).onPort 1 (fun _ => { Port.empty with unacked := us })
theorem test_ack : (after (.ack 1 [9] 0) (peerStore [storeOut 9, storeOut 10]) (fun t => (t.port 1).unacked == [storeOut 10] && (t.ctx? 3).all (fun c => c.fault.isNone)) &&
    after (.ack 1 [9] 0x49) (peerStore [storeOut 9]) (fun t => (t.port 1).unacked == [] && (t.ctx? 3).any (fun c => c.fault.any (fun x => x.code == 1 && x.detail == 1 && x.addr == 0x50060 && x.engine == 70))) &&
    after (.ack 1 [9] 0x44) (peerStore [{ storeOut 9 with kind := 4 }]) (fun t => (t.ctx? 3).any (fun c => c.fault.any (fun x => x.code == 9 && x.detail == 4)))) = true := by decide +kernel
theorem test_peerFenceHoldEnd : (let h : HeldSignal := { id := 2, who := { storeOut 2 with kind := 4, addr := 0x40 }, tag := 6, value := 8, after := [(1, 9)] }
    after (.peerFenceHoldEnd 1 2) (portAt 3 { Port.empty with signals := [h], unacked := [storeOut 9] }) (fun t => t.posted == []) &&
    after (.peerFenceHoldEnd 1 2) (portAt 3 { Port.empty with signals := [h] }) (fun t => (t.port 1).signals == [] && t.posted == [.gimp 1 4 [6, 0, 0, 0x40, 0, 0, 0] (leBytes 8 8)] && (t.port 1).unacked == [{ h.who with id := 0 }])) = true := by
  decide +kernel
def barrier3 (ready : Bool) : SysBarrier := { queue := 5, num := 1, inst := 3, hoop := 2, ready := ready, sent := ready, after := [], from_ := [] }
/-- The last peer store that a barrier waits for is acknowledged, and BARRIER leaves for the partner. -/
theorem test_ack_barrier : after (.ack 1 [9] 0) ((regs [(R.gmpBdom 2, Fset F.gmpBdom_PORTS 2 0)] (peerStore [storeOut 9])).onGmp (fun g => { g with barriers := [{ barrier3 true with sent := false, after := [4] }] }))
    (fun t => t.gmp.barriers == [barrier3 true] && t.posted.any (fun x => match x with | .gimp 1 6 _ b => b == leBytes 4 5 ++ leBytes 8 3 | _ => false)) = true := by decide +kernel
theorem test_barrierMessage : (let s (bs : List SysBarrier) (k : Nat) := (withQueue queue5 (regs [(R.gmpBdom 2, Fset F.gmpBdom_PORTS 2 0)] peered)).onGmp (fun g => { g with barriers := bs, instances := [(21, k)] })
    after (.barrierMessage 1 6 1 5 3) (s [barrier3 true] 4) (fun t => t.gmp.barriers == [] && t.msgs.map (·.2.kind) == [.release 5 1 4 70, .release 5 1 4 71]) &&
    after (.barrierMessage 1 6 1 5 3) (s [] 3) (fun t => t.gmp.barriers.map (·.from_) == [[1]]) && after (.barrierMessage 1 6 1 5 3) (s [] 4) (fun t => t.gmp.barriers == [])) = true := by decide +kernel

/-! ### Reliability and darning -/

def heldRas (k : Nat) : Bytes := heldBytes (rasRec k 3 1 9 0xFFFF) 2 true
theorem test_rasRecordRelease : (let s := (adminUp AdminQ.empty).onRas (fun r => { r with hold := [heldRas 5, heldRas 6] })
    after .rasRecordRelease s (fun t => t.ras.hold.length == 2) &&
    after .rasRecordRelease (regs [(R.qfeFnAdmqCtrl 0, 1), (R.qfeFnAdmqCplLo 0, 0x4000)] s) (fun t => t.ras.hold == [] && t.rd R.wndRasCnt == 2 && (t.adm 0).w == 2)) = true := by decide +kernel
theorem test_wndRasCntClear : after .wndRasCntClear (regs [(R.wndRasCnt, 0x10003)] awake) (fun t => t.rd R.wndRasCnt == 0) = true := by decide +kernel
theorem test_engineInternalError : after (.engineInternalError 70) (regs [(R.engStat 70, 1)] (engineWith lane0)) (fun t => faultOf t 9 5 0 && t.darningEngine 70 && t.ras.hold.length == 1) = true := by decide +kernel
def autoOn : State := regs [(R.wndDarnCtrl, Fset F.wndDarnCtrl_AUTO 1 0), (R.engStat 70, 1), (R.memChStat 9, 1), (R.cshSliceMap 40, Fset F.cshSliceMap_PHYS_DIE 1 (Fset F.cshSliceMap_PHYS_POS 8 0))] awake
theorem test_darnThreshold : (after (.darnThreshold (.engine 70)) autoOn (fun t => t.ras.darnings == [{ kind := 0, unit := 70, spare := none, fromReq := false }] && t.bit F.wndDarnStat_BUSY R.wndDarnStat) &&
    after (.darnThreshold (.slice 40)) autoOn (fun t => t.ras.darnings.map (·.kind) == [1]) && after (.darnThreshold (.channel 9)) autoOn (fun t => t.chanState 9 == 1 && t.ras.hold.length == 1) &&
    after (.darnThreshold .winder) (regs [(R.wndDarnCtrl, 0)] autoOn) (fun t => !t.ras.takeover)) = true := by decide +kernel
def reqW (kind i : Nat) : Word := Fset F.wndDarnReq_KIND kind (Fset F.wndDarnReq_INDEX i (Fset F.wndDarnReq_GO 1 0))
theorem test_darnRequest : (after (.darnRequest (reqW 0 70)) autoOn (fun t => t.rd R.wndDarnReq == reqW 0 70 && t.darningEngine 70) && after (.darnRequest (reqW 0 71)) autoOn (fun t => t.bit F.wndDarnReq_REFUSED R.wndDarnReq && !t.bit F.wndDarnReq_GO R.wndDarnReq) &&
    after (.darnRequest (reqW 2 9)) autoOn (fun t => t.chanState 9 == 3 && t.ras.generation == 1) && after (.darnRequest (reqW 3 0)) autoOn (fun t => t.bit F.wndDarnReq_REFUSED R.wndDarnReq)) = true := by decide +kernel
def darning (kind unit : Nat) (spare : Option Nat) (s : State) : State := s.onRas (fun r => { r with darnings := [{ kind := kind, unit := unit, spare := spare, fromReq := false }] })
theorem test_engineDarnSwap : (let s := darning 0 70 none (regs [(R.hoopEngMap 70, 0x12), (R.engStat 64, 1), (R.engStat 65, 2)] autoOn)
    after (.engineDarnSwap 70) s (fun t => t.engState 70 == 2 && t.rd (R.hoopEngMap 66) == 0x12 && t.ras.measuring == [66] && t.ras.darnings.map (·.spare) == [some 66] && t.bit F.engFrayCtrl_BUSY R.engFrayCtrl) &&
    after (.engineDarnSwap 70) ((s.onEng 70 (fun n => { n with draining := [3] }))) (fun t => t.engState 70 == 1)) = true := by decide +kernel
theorem test_sliceDarn : (after (.sliceDarn 40) autoOn (fun t => t.darningSlice 40) && after (.sliceDarn 40) (darning 1 40 none autoOn) (fun t => t.ras.darnings.length == 1)) = true := by decide +kernel
/-- The indices that the slice of position 7 of die 1 serves move to the die's spare, at position 32. -/
theorem test_sliceDarnWalkEnd : after (.sliceDarnWalkEnd 39) (darning 1 39 none awake) (fun t => t.physSlice 39 == 65 && t.fld F.cshSliceMap_STATE (R.cshSliceMap 39) == 1 &&
    t.physSlice 40 == 41 && t.ras.sliceOut == [40] && t.ras.sliceSpare == [(1, 7)] && t.ras.darnings == []) = true := by decide +kernel
theorem test_channelRetire : (after (.channelRetire 9) (regs [(R.wndDarnCtrl, Fset F.wndDarnCtrl_CH_AUTO 1 0)] autoOn) (fun t => t.chanState 9 == 3 && t.ras.chanOut == [9]) &&
    after (.channelRetire 9) autoOn (fun t => t.chanState 9 == 1 && t.ras.hold.length == 1)) = true := by decide +kernel
def measured (spare : Option Nat) : State := (darning 0 64 spare (regs [(R.engFrayMargin 70, 0), (R.engFrayCtrl, Fset F.engFrayCtrl_GUARD_MHZ 100 (Fset F.engFrayCtrl_BUSY 1 0)), (R.engFrayLimit 70, 2000),
  (R.engFreq 70, Fset F.engFreq_FUSED_MHZ 1700 (Fset F.engFreq_CAP_MHZ 1700 0))] autoOn)).onRas (fun r => { r with measuring := [70] })
theorem test_frayMeasure : (after .frayMeasure (regs [(R.secBoot, Fset F.secBoot_STAGE 5 0)] autoOn) (fun t => t.ras.measuring == [70] && t.bit F.engFrayCtrl_BUSY R.engFrayCtrl) &&
    after .frayMeasure (regs [(R.secBoot, Fset F.secBoot_STAGE 4 0)] autoOn) (fun t => t.ras.measuring == [])) = true := by decide +kernel
theorem test_frayMeasureEnd : (after (.frayMeasureEnd [(70, some 1503)]) (measured none) (fun t => t.fld F.engFreq_CAP_MHZ (R.engFreq 70) == 1400 && t.fld F.engFrayMargin_MEAS_MHZ (R.engFrayMargin 70) == 1503 && t.ras.measuring == [] &&
      !t.bit F.engFrayCtrl_BUSY R.engFrayCtrl && t.ras.hold.length == 1) &&
    after (.frayMeasureEnd [(70, none)]) (measured none) (fun t => t.bit F.engFrayMargin_STALE (R.engFrayMargin 70) && t.fld F.engFreq_CAP_MHZ (R.engFreq 70) == 1700) &&
    after (.frayMeasureEnd [(70, some 1503)]) ((measured (some 70)).setEng 70 0) (fun t => t.engState 70 == 1 && t.ras.darnings == [] && t.ras.hold.length == 3) &&
    after (.frayMeasureEnd [(70, some 1340)]) (measured none) (fun t => t.darningEngine 70)) = true := by decide +kernel
def known : Heard := { targets := [], seq := 9, generation := 0, routes := (List.range 8).map (fun d => if d = 3 then 0x77 else awake.rd (R.mshRoute d)) }
theorem test_winderHeartbeat : after .winderHeartbeat (regs [(R.mshRoute 3, 0x77)] (awake.onRas (fun r => { r with seq := 9 }))) (fun t =>
    t.msgs.any (fun p => match p.2.kind with | .heartbeat k => k.seq == 9 && k.routes.getD 3 0 == 0x77 && p.2.dst == 4 | _ => false)) = true := by decide +kernel
/-- Its flit leaves the mesh at the barrier stop of die 4. -/
theorem test_heartbeat_heard : (let f : Flit := { vc := .picot, src := 0, dst := 4, stop := .barrier, die := 4, row := (stopRouters .barrier).head!.1, col := (stopRouters .barrier).head!.2, port := 0, link := none,
                                                  slot := 0, since := 0, detour := false, poison := false, seq := 5, cargo := .msg 9 }
    let s := { gotMsg (.heartbeat known) awake with mesh := { Mesh.empty with flits := [(7, f)] } }
    s.hopOf f == .leave && after (.meshFlitForward 7 .none) s (fun t => t.ras.heard == known && t.msgs == [])) = true := by decide +kernel
def standby (ok : Nat) : State := regs [(R.wndDieStat, Fset F.wndDieStat_STBY_WINDER_OK ok (Fset F.wndDieStat_STBY_HIF_OK ok 0))] awake
theorem test_winderTakeover : (let op : LongOp := { cmd := 0x24, via := 0, seq := 1, payload := [], phase := 1, status := 0 }
    after .winderTakeover ((standby 1).onSec (fun c => { c with longOp := some op })) (fun t => t.ras.takeover && t.sec.longOp == none && t.fld F.wndMbxStat_LAST_STATUS R.wndMbxStat == 0x41) &&
    after .winderTakeover (standby 0) (fun t => t.sec.dead && t.posted == [.pin 1 0 true])) = true := by decide +kernel
theorem test_winderTakeoverEnd : after .winderTakeoverEnd ((standby 1).onRas (fun r => { r with takeover := true, heard := { targets := [3], seq := 9, generation := 4, routes := [1, 2] } })) (fun t => t.winder == 4 && Fget F.pwrPkgStat_MGR_DIE t.pkgView == 4 && t.clk.targets == [3] &&
    t.rd (R.mshRoute 1) == 2 && t.ras.seq == 11 && t.ras.generation == 5 && !t.bit F.wndDieStat_STBY_WINDER_OK R.wndDieStat) = true := by decide +kernel
theorem test_hostControllerSwap : (let s (ok : Nat) := txnIn (hostTxn .read) (regs [(R.hifLinkStat, 0x146), (R.clkGate 0, Fset F.clkGate_HIF_STBY 1 0)] (standby ok))
    after .hostControllerSwap (s 1) (fun t => t.fld F.wndDieStat_HIF_CTRL R.wndDieStat == 1 && t.bit F.hifLinkStat_CTRL R.hifLinkStat && (t.txn? 4).any (fun y => y.stage == .reply && y.poison == 6)) &&
    after .hostControllerSwap ((s 0).onObjs (fun o => { o with ctxs := [(3, ctx3)] })) (fun t => t.host.down && faultOf t 0x0D 0x200 0)) = true := by decide +kernel
theorem test_darningRecordWaitExpiry : (let s := awake.onRas (fun r => { r with recordWait := true })
    s.ras.recordWait && s.ras.chanOut.all (fun c => decide (c < 1024)) && (List.range 8).all (fun p => (s.bondOf p).isNone) && factoryEngine 95 == 1 && factoryEngine 96 == 0 &&
    after .darningRecordWaitExpiry awake (fun t => t.stage == awake.stage)) = true := by decide +kernel
theorem test_computeDieLost : (let s := regs [(R.engStat 70, 1), (R.wndDarnCtrl, Fset F.wndDarnCtrl_REHOME 1 0), (R.shxXMap 2 1, Fset F.shxXMap_MAP_COUNT 2 0), (R.shxMap 1, Fset F.shxMap_VALID 1 (Fset F.shxMap_DIE 0 0))] (engineWith lane0)
    after (.computeDieLost 0) s (fun t => t.computeLost 0 && !t.computeLost 1 && t.engState 70 == 2 && t.engs == [] && faultOf t 0x11 0 0 && t.rd (R.shxMap 1) == Fset F.shxMap_VALID 1 0) &&
    after (.computeDieLost 0) (s.onShx (fun y => { y with xchs := [(9, { ctx := 3, block := xBlock 0 0, last := 0, opened := false, status := 0, gone := [], multiAt := 0, dies := [] })] })) (fun t =>
      t.fld F.shxMap_DIE (R.shxMap 1) == 4 && t.fld F.shxMap_BUCKET (R.shxMap 1) == 1)) = true := by decide +kernel
theorem test_baseDieLost : after (.baseDieLost 2) (txnIn { stackTxn .read .crossbar with die := 2 } awake) (fun t => t.baseLost 2 && t.computeLost 2 && t.chanState 300 == 3 && t.chanState 9 == 0 && t.physSlice 70 == t.physSlice (192 + 6) &&
    t.fld F.cshSliceMap_STATE (R.cshSliceMap 70) == 2 && t.cache.dead == [2] && (t.txn? 4).all (·.dead)) = true := by decide +kernel

/-! ### Boot and attestation -/

/-- The firmware runs and an SPDM requester has selected SLH-DSA; session 2 is open. -/
def booted : State := regs [(R.secBoot, Fset F.secBoot_STAGE 5 0)] awake
def spdmUp : State := booted.onSec (fun c => { c with chain := [1, 2, 3, 4, 5], spdm := { version := true, caps := true, algs := true, slh := true, sessions := [(2, { heartbeats := 0, epoch := 0 })] } })
theorem test_firmwareStart : after .firmwareStart (awake.onSec (fun c => { c with current := none })) (fun t => t.stage == 7 && t.bit F.secStat_RECOVERY R.secStat && t.sec.events.length == 1 &&
    t.posted == [.pin pinAlert 0 false]) = true := by decide +kernel
/-- A slot of erased flash fails the checks of R473. -/
theorem test_slotErased : (awake.slotGood 0 || awake.slotGood 1) = false := by decide +kernel
theorem test_firmwareCopyCheck : (let s := regs [(R.secBoot, Fset F.secBoot_STAGE 1 0)] (awake.onSec (fun c => { c with copies := [3] }))
    after (.firmwareCopyCheck 3 true) s (fun t => t.stage == 2 && t.sec.copies == []) && after (.firmwareCopyCheck 2 true) s (fun t => t.stage == 1)) = true := by decide +kernel
theorem test_entropyTestFail : (let s := awake.onSec (fun c => { c with rngRow := [(3, 15)] })
    after (.entropyTestFail 3) s (fun t => t.bit F.secStat_RNG_FAIL R.secStat && t.sec.events.map (fun e => e.take 4) == [[6, 3, 0, 0]]) &&
    after (.entropyTestFail 4) s (fun t => !t.bit F.secStat_RNG_FAIL R.secStat && t.sec.rngRow == [(3, 15), (4, 1)])) = true := by decide +kernel
theorem test_getVersion : (after .getVersion booted (fun t => t.sec.spdm.version && t.posted == [.reply 0 4 [0, 0, 0, 1, 0, 0x12]]) && after .getVersion awake (fun t => t.posted == []) && after .getVersion (booted.onHost (fun h => { h with rrs := true })) (fun t => t.posted == [])) = true := by decide +kernel
theorem test_getCapabilities : (after .getCapabilities spdmUp (fun t => t.posted == [.reply 0 0x61 [0, 0, 0, 18, 0, 0, 0xD6, 0x62, 0, 0, 0, 0, 1, 0, 0, 0, 1, 0]]) &&
    after .getCapabilities booted (fun t => t.posted == [.reply 0 0x7F [4]])) = true := by decide +kernel
theorem test_negotiateAlgorithms : after (.negotiateAlgorithms false) spdmUp (fun t => !t.sec.spdm.slh && t.posted == [.reply 0 0x63 []]) = true := by decide +kernel
def noSlh : State := spdmUp.onSpdm (fun p => { p with slh := false })
theorem test_getDigests : (after .getDigests noSlh (fun t => t.posted == [.reply 0 0x7F [7]]) &&
    after .getDigests spdmUp (fun t => t.posted.length == 1 && t.posted != [.reply 0 0x7F [7]])) = true := by decide +kernel
theorem test_getCertificate : (after (.getCertificate 3 0xFFFF) spdmUp (fun t => t.posted == [.reply 0 2 [2, 0, 0, 0, 4, 5]]) &&
    after (.getCertificate 1 2) spdmUp (fun t => t.posted == [.reply 0 2 [2, 0, 2, 0, 2, 3]])) = true := by decide +kernel
def signReq (n : Nat) : SignReq := { who := 2, arg := 1, message := [BitVec.ofNat 8 n] }
def signing16 : State := spdmUp.onSec (fun c => { c with signing := some (signReq 0), waiting := (List.range 16).map signReq })
theorem test_challenge : (after (.challenge [9]) spdmUp (fun t => t.sec.signing == some { who := 1, arg := 0, message := [9] } && t.posted == []) &&
    after (.challenge [9]) signing16 (fun t => t.posted == [.reply 0 0x7F [3]])) = true := by decide +kernel
theorem test_getMeasurements : (after (.getMeasurements 4 false []) (noSlh.setF F.secStat_DEBUG R.secStat 1) (fun t =>
      t.posted == [.reply 0 0x60 ([0, 4, 1, 19, 0, 0x83, 16, 0] ++ [0, 0, 0, 0, 1, 0] ++ zeros 10)]) &&
    after (.getMeasurements 0 false []) noSlh (fun t => t.posted == [.reply 0 0x60 [5]]) &&
    after (.getMeasurements 0 true []) spdmUp (fun t => t.sec.signing == some { who := 2, arg := 0, message := [] })) = true := by decide +kernel
theorem test_keyExchange : (after .keyExchange spdmUp (fun t => t.sec.signing.any (fun r => r.who == 3)) &&
    after .keyExchange (spdmUp.onSpdm (fun p => { p with sessions := (List.range 4).map (fun n => (n, { heartbeats := 0, epoch := 0 })) })) (fun t => t.posted == [.reply 0 0x7F [10]])) = true := by decide +kernel
theorem test_signatureComplete : (after (.signatureComplete 0) (signing16.onSec (fun c => { c with signing := some { who := 3, arg := 0, message := [] } })) (fun t =>
      t.sec.signing == some (signReq 0) && t.sec.waiting.length == 15 && (SMap.get? t.sec.spdm.sessions 0).isSome) &&
    after (.signatureComplete 4) signing16 (fun t => t.sec.waiting.length == 16)) = true := by decide +kernel
theorem test_heartbeat : (after (.heartbeat 2) spdmUp (fun t => t.sec.spdm.sessions == [(2, { heartbeats := 1, epoch := 0 })] && t.posted == [.reply 0 0x68 []]) &&
    after (.heartbeat 1) spdmUp (fun t => t.posted == [.reply 0 0x7F [2]])) = true := by decide +kernel
theorem test_keyUpdateSpdm : after (.keyUpdateSpdm 2) spdmUp (fun t => t.sec.spdm.sessions == [(2, { heartbeats := 0, epoch := 1 })]) = true := by decide +kernel
theorem test_endSession : after (.endSession 2) spdmUp (fun t => t.sec.spdm.sessions == []) = true := by decide +kernel
theorem test_ideKm : (after (.ideKm 2 7 [5]) spdmUp (fun t => t.sec.ide == [(7, 2, [5])] && t.fld F.hifLinkStat_IDE_STREAMS R.hifLinkStat == 1 && t.posted == [.reply 0 0x7E [7, 0, 0]]) &&
    after (.ideKm 2 9 [5]) (spdmUp.onSec (fun c => { c with ide := (List.range 8).map (fun n => (n, 2, [])) })) (fun t => t.posted == [.reply 0 0x7E [9, 0, 1]])) = true := by decide +kernel
theorem test_lockInterface : (after (.lockInterface 2 5) spdmUp (fun t => t.tdi 5 == .locked && t.posted == [.reply 0 0x7E [5, 0, 0]]) &&
    after (.lockInterface 2 5) (spdmUp.setF F.secStat_DEBUG R.secStat 1) (fun t => t.tdi 5 == .unlocked && t.posted == [.reply 0 0x7E [5, 0, 1]])) = true := by decide +kernel
def tdiAt (x : Tdi) : State := spdmUp.onHost (fun h => { h with tdi := [(5, x)] })
theorem test_startInterface : (after (.startInterface 2 5) (tdiAt .locked) (fun t => t.tdi 5 == .run) && after (.startInterface 2 5) (tdiAt .error) (fun t => t.tdi 5 == .error)) = true := by decide +kernel
theorem test_stopInterface : after (.stopInterface 2 5) (tdiAt .error) (fun t => t.tdi 5 == .unlocked && !t.barDead 5) = true := by decide +kernel

/-- A header that passes every check of R473 but those whose outcome is the signature's and the digest's. -/
def slotA : State := awake.onSec (fun c => { c with slots := [(0, [(0, [1, 3, 0, 0, 0x20, 0, 0, 0] ++ zeros 120)])] })
theorem test_slotGood : slotA.slotGood 0 = (Config.slhVerify (slotA.sec.fwKeys.getD 0 []) (slotA.slotBytes 0 0 128) (slotA.slotBytes 0 128 29792) && shake 64 (slotA.slotBody 0) == cut (slotA.slotBytes 0 0 128) 64 64) := by
  rw [show slotA.slotGood 0 = ((numAt (slotA.slotBytes 0 0 128) 0 1 == 1 && numAt (slotA.slotBytes 0 0 128) 4 4 != 0 && decide (numAt (slotA.slotBytes 0 0 128) 4 4 ≤ 8358688) && numAt (slotA.slotBytes 0 0 128) 4 4 % 16 == 0 && decide (numAt (slotA.slotBytes 0 0 128) 2 1 ≤ 1) && !slotA.sec.revoked.testBit (numAt (slotA.slotBytes 0 0 128) 2 1) &&
    slotA.fwKeysOk.testBit (numAt (slotA.slotBytes 0 0 128) 2 1) && decide (slotA.svnFloor ≤ numAt (slotA.slotBytes 0 0 128) 1 1) && decide (numAt (slotA.slotBytes 0 0 128) 1 1 ≤ 64) && decide (numAt (slotA.slotBytes 0 0 128) 20 1 ≤ slotA.part.rev) &&
    decide (numAt (slotA.slotBytes 0 0 128) 16 4 < numAt (slotA.slotBytes 0 0 128) 4 4)) && Config.slhVerify (slotA.sec.fwKeys.getD (numAt (slotA.slotBytes 0 0 128) 2 1) []) (slotA.slotBytes 0 0 128) (slotA.slotBytes 0 128 29792) && shake 64 (slotA.slotBody 0) == cut (slotA.slotBytes 0 0 128) 64 64) from rfl]
  rw [show numAt (slotA.slotBytes 0 0 128) 2 1 = 0 by decide +kernel, show (numAt (slotA.slotBytes 0 0 128) 0 1 == 1 && numAt (slotA.slotBytes 0 0 128) 4 4 != 0 && decide (numAt (slotA.slotBytes 0 0 128) 4 4 ≤ 8358688) && numAt (slotA.slotBytes 0 0 128) 4 4 % 16 == 0 && decide (0 ≤ 1) && !slotA.sec.revoked.testBit 0 &&
    slotA.fwKeysOk.testBit 0 && decide (slotA.svnFloor ≤ numAt (slotA.slotBytes 0 0 128) 1 1) && decide (numAt (slotA.slotBytes 0 0 128) 1 1 ≤ 64) && decide (numAt (slotA.slotBytes 0 0 128) 20 1 ≤ slotA.part.rev) &&
    decide (numAt (slotA.slotBytes 0 0 128) 16 4 < numAt (slotA.slotBytes 0 0 128) 4 4)) = true by decide +kernel]
  simp

/-! ### The mailbox -/

def reply (cmd status : Nat) (b : Bytes) : List Posted := [response 1 cmd 7 status b]
def doing (cmd phase : Nat) (b : Bytes) (s : State) : State := s.onSec (fun c => { c with longOp := some { cmd := cmd, via := 2, seq := 7, payload := b, phase := phase, status := 0 } })
theorem test_mailboxBusy : (after (.getStatus .pcie 7) (doing 0x30 1 [] booted) (fun t => t.posted == reply 1 0x47 []) && after (.darnGet .pcie 7) awake (fun t => t.posted == []) &&
    after (.svnRaise .pcie 7 1) (booted.setStage 7) (fun t => t.posted == reply 0x22 0x49 [])) = true := by decide +kernel
theorem test_getStatus : after (.getStatus .pcie 7) booted (fun t => t.posted == reply 1 0 ([0, 0, 0, 0] ++ [0, 0, 5, 0] ++ leBytes 4 booted.otpGenView.toNat ++ [0, 0, 0x30, 0] ++ [0, 0, 0, 0] ++ [0, 0, 0, 0])) = true := by decide +kernel
theorem test_getEvent : (let s := booted.onSec (fun c => { c with events := [zeros 16] })
    after (.getEvent .pcie 7) s (fun t => t.sec.events == [] && t.posted == reply 2 0 (zeros 16) ++ [.pin pinAlert 0 true]) &&
    after (.getEvent .pcie 7) booted (fun t => t.posted == reply 2 0 [])) = true := by decide +kernel
theorem test_setCeil : (after (.setCeil .pcie 7 900) booted (fun t => t.fld F.pwrCeil_CEIL_W R.pwrCeil == 1100) &&
    after (.setCeil .pcie 7 3000) booted (fun t => t.fld F.pwrCeil_CEIL_W R.pwrCeil == booted.maxW && t.posted == reply 3 0 [])) = true := by decide +kernel
theorem test_getTelemetry : after (.getTelemetry .smbus 7) (regs [(R.pwrTemp 1, 0x1234)] booted) (fun t => match t.posted with
    | [.reply 2 4 b] => b.length == 104 && numAt b 28 4 == 0x1234
    | _ => false) = true := by decide +kernel
/-- A record of the board: engine 64 * 1 + 5 degraded, channel 9 out, slice 2 of die 1 served by its spare. -/
def boardBody : Bytes := putAt (putAt (putAt (putAt (zeros 992 |> (putAt · 0 [1]) |> (putAt · 8 [1])) 26 [8]) 305 [2]) 316 [4]) 345 [2]
def awaiting : State := (booted.setStage 4).onRas (fun r => { r with recordWait := true })
theorem test_darnPut : (after (.darnPut .pcie 7 [1]) awaiting (fun t => t.posted == reply 0x10 0x4A []) && after (.darnPut .pcie 7 (zeros 1024)) booted (fun t => t.posted == reply 0x10 0x49 []) &&
    after (.darnPut .pcie 7 (zeros 1024)) awaiting (fun t => t.bit F.wndDarnStat_RECORD_BAD R.wndDarnStat && t.posted == reply 0x10 0x4A [])) = true := by decide +kernel
/-- A record under its own tag is good. -/
theorem test_recordGood (s : State) (b : Bytes) (h : b.length = 992) (hv : numAt b 0 1 = 1) (hs : numAt b 8 8 = s.part.serial) :
    s.recordGood (b ++ darningTag b) = true := by
  have hc (x : Bytes) (n : Nat) : (cut x 0 n).length = n := by
    simp only [cut, zeros, List.length_append, List.length_take, List.length_drop, List.length_replicate]; omega
  have ht : (darningTag b).length = 32 := hc _ _
  have h1 : cut (b ++ darningTag b) 992 32 = darningTag b := by
    simp only [cut, zeros]; rw [List.drop_append_of_le_length (by omega), List.drop_eq_nil_of_le (by omega)]; simp [ht]
  have h0 (o n : Nat) (ho : o + n ≤ 992) : cut (b ++ darningTag b) o n = cut b o n := by
    simp only [cut]; rw [List.drop_append_of_le_length (by omega), List.take_append_of_le_length (by simp; omega)]
  have h2 : cut b 0 992 = b := by
    simp only [cut, zeros, List.drop_zero]; rw [List.take_of_length_le (by omega), h]; simp
  simp only [numAt] at hv hs
  simp [State.recordGood, numAt, h0, h1, h2, hv, hs, ht, h]
theorem test_darnPutGood : awaiting.recordGood (boardBody ++ darningTag boardBody) = true ∧ awaiting.ras.recordWait = true ∧
    (awaiting.ras.chanOut.isEmpty && (List.range 8).all (fun p => (awaiting.bondOf p).isNone)) = true ∧ awaiting.mailboxFree 0x10 :=
  ⟨test_recordGood _ _ (by decide +kernel) (by decide +kernel) (by decide +kernel), rfl, by decide +kernel, ⟨rfl, by decide +kernel⟩, rfl, rfl, fun h => absurd h (by decide +kernel)⟩
theorem test_darnGet : after (.darnGet .pcie 7) booted (fun t => t.posted.length == 1) = true := by decide +kernel
theorem test_getCert : (after (.getCert .pcie 7 3 9) spdmUp (fun t => t.posted == reply 0x41 0 [4, 5]) && after (.getCert .pcie 7 3 4097) spdmUp (fun t => t.posted == reply 0x41 0x4A [])) = true := by decide +kernel
theorem test_otpRead : (let s := booted.onSec (fun c => { c with revoked := 2, svnFuses := 7 })
    after (.otpRead .pcie 7 64) s (fun t => t.posted == reply 0x50 0 ([2] ++ zeros 7 ++ [7] ++ zeros 55)) && after (.otpRead .pcie 7 16) s (fun t => t.posted == reply 0x50 0 (zeros 64)) &&
    after (.otpRead .pcie 7 512) s (fun t => t.posted == reply 0x50 0x4A [])) = true := by decide +kernel
theorem test_mctpControl : after (.mctpControl .pcie [1]) booted (fun t => t.posted.length == 1) = true := by decide +kernel
/-- A command of the mailbox, and then the end of its work. -/
def ended (c : Instr) (s : State) (p : State → Bool) : Bool := after c s (fun t => t.bit F.wndMbxStat_BUSY R.wndMbxStat && t.posted == [] && after .mailboxLongOpEnd t p)
def sector : Bytes := zeros 4095 ++ [9]
theorem test_fwWrite : (ended (.fwWrite .pcie 7 0x901000 sector) booted (fun t => t.slotBytes 1 0x1FFF 1 == [9] && t.slotBytes 0 0x1FFF 1 == [0xFF] && t.posted == reply 0x20 0 []) &&
    after (.fwWrite .pcie 7 0x101000 sector) booted (fun t => t.posted == reply 0x20 0x49 [])) = true := by decide +kernel
theorem test_fwActivate : (ended (.fwActivate .pcie 7) booted (fun t => t.sec.first == booted.sec.first && t.fld F.wndMbxStat_LAST_STATUS R.wndMbxStat == 0x4A)) = true := by decide +kernel
theorem test_svnRaise : (let s := (regs [(R.secBoot, Fset F.secBoot_STAGE 5 (Fset F.secBoot_SVN 9 (Fset F.secBoot_FLOOR 2 0)))] awake).onSec (fun c => { c with svnFuses := 0x5 })
    ended (.svnRaise .pcie 7 4) s (fun t => t.sec.svnFuses == 0xF && t.fld F.secBoot_FLOOR R.secBoot == 4 && t.posted == reply 0x22 0 []) &&
    after (.svnRaise .pcie 7 10) s (fun t => t.posted == reply 0x22 0x4A [])) = true := by decide +kernel
theorem test_keyRevoke : (ended (.keyRevoke .pcie 7 1) booted (fun t => t.sec.revoked == 2 && t.posted == reply 0x23 0 []) && after (.keyRevoke .pcie 7 0) booted (fun t => t.posted == reply 0x23 0x49 [])) = true := by decide +kernel
theorem test_attest : (after (.attest .pcie 7 (zeros 32)) booted (fun t => t.sec.signing.any (fun r => r.who == 4) && t.sec.longOp.any (fun l => l.phase == 3)) &&
    after (.attest .pcie 7 (zeros 32)) signing16 (fun t => t.posted == reply 0x40 0x4B [])) = true := by decide +kernel
theorem test_mailboxLongOpEnd : (after .mailboxLongOpEnd (doing 0x40 0 [1, 2] booted) (fun t => t.sec.longOp == none && t.posted == [response 2 0x40 7 0 [1, 2]]) &&
    after .mailboxLongOpEnd (doing 0x30 2 [] booted) (fun t => t.sec.longOp.isSome)) = true := by decide +kernel
/-- Bytes 3 to 223 of a generation: FW_KEYS 3, MAX_W 1,500. -/
def genBody : Bytes := [3, 0xDC, 5] ++ zeros 218
theorem test_settingsAdvance : (after (.settingsAdvance .pcie 7 genBody) booted (fun t => t.sec.longOp.any (fun l => l.phase == 1 && l.payload == genBody)) &&
    after (.settingsAdvance .pcie 7 genBody) (booted.setF F.secStat_SEAL_BROKEN R.secStat 1) (fun t => t.posted == reply 0x30 0x48 []) &&
    after .mailboxLongOpEnd (doing 0x30 0 genBody booted) (fun t => (SMap.get? t.sec.gens 1).any (fun g => goodGen 1 g && numAt g.body 4 2 == 1500) && t.sec.settings == booted.sec.settings)) = true := by decide +kernel
theorem test_svnRollback : (let s := (booted.setF F.secBoot_FLOOR R.secBoot 2).onSec (fun c => { c with svnFuses := 3 })
    after (.svnRollback .pcie 7 1) s (fun t => t.sec.longOp.any (fun l => l.phase == 1 && numAt l.payload 5 1 == 1)) && after (.svnRollback .pcie 7 2) s (fun t => t.posted == reply 0x31 0x4A [])) = true := by decide +kernel
def unlockable : State := booted.onSec (fun c => { c with settings := putAt c.settings 7 [1] })
theorem test_debugUnlock : (after (.debugUnlock .pcie 7) unlockable (fun t => t.sec.longOp.any (fun l => l.phase == 1)) &&
    after (.debugUnlock .pcie 7) (unlockable.setF F.hoopStat_STATE (R.hoopStat 9) 2) (fun t => t.posted == reply 0x32 0x49 []) &&
    after .mailboxLongOpEnd (doing 0x32 0 [] booted) (fun t => t.bit F.secStat_DEBUG R.secStat)) = true := by decide +kernel
theorem test_presencePress : (after .presencePress (doing 0x32 1 [] booted) (fun t => t.sec.longOp.any (fun l => l.phase == 2) && t.rd R.secStat == 8) &&
    after .presencePress (doing 0x32 1 [] (booted.setF F.secStat_PRES R.secStat 1)) (fun t => t.sec.longOp.any (fun l => l.phase == 1))) = true := by decide +kernel
theorem test_presenceRelease : after .presenceRelease (doing 0x32 2 [] (booted.setF F.secStat_PRES R.secStat 1)) (fun t => t.sec.longOp.any (fun l => l.phase == 1) && t.rd R.secStat == 0) = true := by decide +kernel
theorem test_presenceHoldEnd : (after .presenceHoldEnd (doing 0x32 2 [] booted) (fun t => t.sec.longOp.any (fun l => l.phase == 0)) &&
    after .presenceHoldEnd (doing 0x32 2 [] (booted.setF F.hoopStat_STATE (R.hoopStat 9) 2)) (fun t => t.posted == [response 2 0x32 7 0x49 []])) = true := by decide +kernel
theorem test_presenceWaitExpiry : (after .presenceWaitExpiry (doing 0x32 1 [] booted) (fun t => t.posted == [response 2 0x32 7 0x48 []] && t.sec.longOp == none) &&
    after .presenceWaitExpiry (doing 0x32 2 [] booted) (fun t => t.sec.longOp.any (fun l => l.phase == 4)) &&
    after .presenceRelease (doing 0x32 4 [] booted) (fun t => t.posted == [response 2 0x32 7 0x48 []]) && after .presenceHoldEnd (doing 0x32 4 [] booted) (fun t => t.sec.longOp.any (fun l => l.phase == 0))) = true := by decide +kernel
theorem test_sealCheck : (after (.sealCheck false) (doing 0x32 2 [] booted) (fun t => t.rd R.secStat == 4 && t.posted == [response 2 0x32 7 0x48 []]) &&
    after (.sealCheck true) booted (fun t => t.rd R.secStat == 2)) = true := by decide +kernel

/-! ### Pins and the test port -/

theorem test_pinCheck : (after (.pinCheck 0xFF020005) (regs [(R.secPinStat, 5)] awake) (fun t => t.rd R.secPinStat == 0x00020005 && t.sec.events.map (fun e => e.take 4) == [[1, 1, 17, 0]]) &&
    after (.pinCheck 4) (regs [(R.secPinStat, 5)] awake) (fun t => t.rd R.secPinStat == 4 && t.sec.events == []) &&
    after (.pinCheck 3) awake (fun t => t.rd R.secStat == 12)) = true := by decide +kernel
theorem test_bypass : after .bypass (awake.onSec (fun c => { c with jtag := 3 })) (fun t => t.sec.jtag == 0) = true := by decide +kernel
theorem test_idcode : after .idcode awake (fun t => t.sec.jtag == 1 && t.posted.length == 1) = true := by decide +kernel
theorem test_samplePreload : (after (.samplePreload (some [6])) awake (fun t => t.sec.boundary == [6] && t.posted == []) && after (.samplePreload none) awake (fun t => t.posted.length == 1)) = true := by decide +kernel
def dark : State := (awake.onClk (fun c => { c with pwrok := false })).onSec (fun c => { c with boundary := [6] })
theorem test_extest : (after .extest dark (fun t => t.sec.jtag == 3 && t.posted == [.reply 3 3 [6]]) && after .extest awake (fun t => t.posted == [])) = true := by decide +kernel
theorem test_clamp : after .clamp dark (fun t => t.sec.jtag == 4 && t.posted == [.reply 3 4 [6]]) = true := by decide +kernel
theorem test_highz : after .highz dark (fun t => t.sec.jtag == 5 && t.posted == [.reply 3 5 []]) = true := by decide +kernel

/-! ### The machine as a whole -/

theorem test_step : (match step { awake with pending := [.bypass, .presencePress] } with
    | .next t => t.pending == [.presencePress] && t.sec.jtag == 0
    | _ => false) = true := by decide +kernel
theorem test_idle : step awake = .next awake := rfl
theorem test_resetInv : State.reset.Inv := ⟨by decide +kernel, fun _ h => absurd h (List.not_mem_nil)⟩
theorem test_partId : (partId awake.part == 0x0D080161#32 && awake.regLive R.hifPartId && !awake.inReset 3) = true := by decide +kernel
/-- R72's rounding up of the multiplier: 1,000 over 127 at an anchor of 0 takes exponent -4 and multiplier 126.0 rounded up. -/
theorem test_scaleFind : (let p := scaleFind 2 0 (1000 :: List.replicate 31 0)
    p.m * 127 ≥ 1000 * 16 ∧ (p.m - 1) * 127 < 1000 * 2 ^ (-p.e).toNat ∧ p.clamp = false ∧ p.q.getD 0 0 = 127) := by decide +kernel
theorem test_scaleClamp : (scaleFind 0 511 (List.replicate 32 (2 ^ 46))).clamp = true := by decide +kernel
theorem test_slotRoundTrip : slotOf (slotWord { val := -2, anchor := -512, sat := true }) = { val := -2, anchor := -512, sat := true } := by decide +kernel
theorem test_blockRoundTrip : blockElem 1 31 (blockOf 1 (List.replicate 31 7 ++ [-8])) = -8 := by decide +kernel
theorem test_reanchor : saddA48 { v := 2 ^ 46, a := 3, zero := false } 2 0 { val := 2 ^ 46, anchor := 3, sat := false } = { val := 105553116266496, anchor := 4, sat := false } := by decide +kernel

/-! ### Well-formedness: for each check an ill-formed term that it refuses, beside the last term that it takes -/

/-- R7: slot 36 names no engine; slot 35 is the last one. -/
theorem test_wf_eng : (Instr.engFaultClear 36).wf = false ∧ (Instr.engFaultClear 2084).wf = false ∧ (Instr.engFaultClear 2019).wf = true := by decide
/-- R6: eight dies. -/
theorem test_wf_die : (Instr.dieIsolate 8).wf = false ∧ (Instr.dieIsolate 7).wf = true := by decide
/-- R240: functions 0 to 127. -/
theorem test_wf_fn : (Instr.ctxCreate 128).wf = false ∧ (Instr.ctxCreate 127).wf = true := by decide
/-- A package has 16 hoops. -/
theorem test_wf_hex : (Instr.hoopSaveStatClear 16).wf = false ∧ (Instr.hoopSaveStatClear 15).wf = true := by decide
/-- A die has four quadrants, a hoop four server slots. -/
theorem test_wf_quad : (Instr.droopClear 0 4).wf = false ∧ (Instr.serverContextRelease 0 4).wf = false ∧ (Instr.droopClear 7 3).wf = true := by decide
/-- R246: 262,144 queues. -/
theorem test_wf_queue : (Instr.launch 262144).wf = false ∧ (Instr.launch 262143).wf = true := by decide
/-- A package has 1,024 stack channels and as many windows. -/
theorem test_wf_chan : (Instr.tgcStop 1024 0).wf = false ∧ (Instr.windowPropagated 1024).wf = false ∧ (Instr.tgcStop 1023 0).wf = true := by decide
/-- A package has ten die-to-die links. -/
theorem test_wf_link : (Instr.mshLinkErrClear 10).wf = false ∧ (Instr.mshLinkErrClear 9).wf = true := by decide
/-- R286: 65,536 contexts. -/
theorem test_wf_ctx : (Instr.faultDrainEnd 0 65536).wf = false ∧ (Instr.faultDrainEnd 0 65535).wf = true := by decide
/-- A read of a file position has 32 lanes. -/
theorem test_wf_lane : (Instr.hostCompletion 0 32 [] false).wf = false ∧ (Instr.hostCompletion 0 31 [] false).wf = true := by decide
/-- A register number has eight bits. -/
theorem test_wf_byte : (Instr.exit 0 0 256).wf = false ∧ (Instr.exit 0 0 255).wf = true := by decide

end Sys2Proof.Tests
end

section
/-!
PROOF. Rules for registers: what a field reads after a write of another register, of another field, or of another part of the state, and the
frames of the statements.
-/
namespace Sys2Proof.Machine.MeshLaws

variable (s : State)

theorem bit_eq_fld (f : Field) (o : Nat) : s.bit f o = (s.fld f o != 0) := rfl

@[simp] theorem fld_onMesh (f : Mesh → Mesh) (g : Field) (o : Nat) : (s.onMesh f).fld g o = s.fld g o := by simp [State.fld]
@[simp] theorem bit_onMesh (f : Mesh → Mesh) (g : Field) (o : Nat) : (s.onMesh f).bit g o = s.bit g o := by simp [State.bit]

@[simp] theorem setF_mesh (f : Field) (o v : Nat) : (s.setF f o v).mesh = s.mesh := rfl
@[simp] theorem setF_mem (f : Field) (o v : Nat) : (s.setF f o v).mem = s.mem := rfl

/-- A one-bit field reads the bit that it was given. -/
theorem bit_setF_same (f : Field) (o v : Nat) (h : f.lo + f.len ≤ 32) : (s.setF f o v).bit f o = (v % 2 ^ f.len != 0) := by
  rw [bit_eq_fld, State.fld_setF_same s f o v h]

theorem bit_setF_apart (f g : Field) (o v : Nat) (hg : g.lo + g.len ≤ 32) (h : f.lo + f.len ≤ g.lo ∨ g.lo + g.len ≤ f.lo) :
    (s.setF f o v).bit g o = s.bit g o := by
  rw [bit_eq_fld, bit_eq_fld, State.fld_setF_apart s f g o v hg h]

/-- A field that a mask leaves out reads 0 under it. -/
theorem Fget_and_Fmask_apart (f g : Field) (w : Word) (hg : g.lo + g.len ≤ 32) (h : f.lo + f.len ≤ g.lo ∨ g.lo + g.len ≤ f.lo) :
    Fget g (w &&& Fmask f) = 0 := by
  apply Nat.eq_of_testBit_eq
  intro i
  rw [Fget_bit, BitVec.getLsbD_and, Nat.zero_testBit]
  by_cases hi : i < g.len
  · have hmask : (Fmask f).getLsbD (g.lo + i) = false := by
      rw [Fmask, Fmask_bit f _ (by omega)]
      simp only [Bool.and_eq_false_iff, decide_eq_false_iff_not]
      omega
    simp [hmask]
  · simp [hi]

/-! ### Frames -/

theorem atReg_live (off : Nat) (f : State → State) (h : s.regLive off = true) : s.atReg off f = f s := if_pos h

variable {s}

theorem sameButRegs_wr {t : State} (o : Nat) (w : Word) (h : s.sameButRegs t) : s.sameButRegs (t.wr o w) := by
  rw [State.sameButRegs] at *
  rw [h]
  rfl

theorem mem_of_sameButRegs {t : State} (h : s.sameButRegs t) : t.mem = s.mem := by
  rw [State.sameButRegs] at h
  rw [h]

theorem onlyRegs_refl (offs : List Nat) : s.onlyRegs offs s := ⟨rfl, fun _ _ => rfl⟩

/-- Writes of registers of the list, one after the other, change these registers alone. -/
theorem onlyRegs_wr {t : State} {offs : List Nat} {o : Nat} (w : Word) (ho : o ∈ offs) (h : s.onlyRegs offs t) :
    s.onlyRegs offs (t.wr o w) :=
  ⟨sameButRegs_wr o w h.1, fun k hk => (State.rd_wr_other t o k w (fun e => hk (e ▸ ho))).trans (h.2 k hk)⟩

theorem onlyRegs_setF {t : State} {offs : List Nat} {o : Nat} (f : Field) (v : Nat) (ho : o ∈ offs) (h : s.onlyRegs offs t) :
    s.onlyRegs offs (t.setF f o v) := onlyRegs_wr _ ho h

theorem keepsRegsBut_refl (offs : List Nat) : s.keepsRegsBut offs s := fun _ _ => rfl

theorem keepsRegsBut_trans {t u : State} {offs : List Nat} (h : s.keepsRegsBut offs t) (h' : t.keepsRegsBut offs u) :
    s.keepsRegsBut offs u := fun o ho => (h' o ho).trans (h o ho)

theorem keepsRegsBut_setF {t : State} {offs : List Nat} {o : Nat} (f : Field) (v : Nat) (ho : o ∈ offs) (h : s.keepsRegsBut offs t) :
    s.keepsRegsBut offs (t.setF f o v) :=
  fun k hk => (State.rd_setF_other t f o k v (fun e => hk (e ▸ ho))).trans (h k hk)

theorem keepsRegsBut_onMesh {t : State} {offs : List Nat} (f : Mesh → Mesh) (h : s.keepsRegsBut offs t) :
    s.keepsRegsBut offs (t.onMesh f) := fun k hk => (State.rd_onMesh t f k).trans (h k hk)

/-- A register outside the list has the fields that it had. -/
theorem fld_of_keepsRegsBut {t : State} {offs : List Nat} (h : s.keepsRegsBut offs t) (f : Field) {o : Nat} (ho : o ∉ offs) :
    t.fld f o = s.fld f o := by rw [State.fld, h o ho, State.fld]

end Sys2Proof.Machine.MeshLaws
end

section
/-!
PROOF. What the traffic of the mesh leaves alone: the operations that move transactions, messages and sectors' requests change no register,
no byte of memory, no wire, no training, and no count of poisoned flits.
-/
namespace Sys2Proof.Machine.MeshLaws

/-- What is left alone where the mesh carries something, and where a unit takes or answers it. -/
structure Traffic (s t : State) : Prop where
  regs : t.regs = s.regs
  part : t.part = s.part
  sec : t.sec = s.sec
  cells : t.mem.cells = s.mem.cells
  training : t.mesh.training = s.mesh.training
  wires : t.mesh.wires = s.mesh.wires
  poisoned : t.mesh.poisoned = s.mesh.poisoned

variable {s t u : State}

theorem Traffic.refl (s : State) : Traffic s s := ⟨rfl, rfl, rfl, rfl, rfl, rfl, rfl⟩

theorem Traffic.trans (h : Traffic s t) (h' : Traffic t u) : Traffic s u :=
  ⟨h'.regs.trans h.regs, h'.part.trans h.part, h'.sec.trans h.sec, h'.cells.trans h.cells, h'.training.trans h.training,
    h'.wires.trans h.wires, h'.poisoned.trans h.poisoned⟩

theorem Traffic.rd (h : Traffic s t) (o : Nat) : t.rd o = s.rd o :=
  State.rd_congr s t h.regs h.part (congrArg (·.settings) h.sec) o

theorem Traffic.fld (h : Traffic s t) (f : Field) (o : Nat) : t.fld f o = s.fld f o := by rw [State.fld, h.rd, State.fld]

/-- A step that is traffic whatever it starts from is traffic when it is done for each member of a list. -/
theorem traffic_each {α : Type} {f : α → State → State} (hf : ∀ a s, Traffic s (f a s)) (l : List α) (s : State) :
    Traffic s (each l f s) := by
  induction l generalizing s with
  | nil => exact .refl s
  | cons a l ih => exact (hf a s).trans (ih (f a s))

theorem traffic_ite {c : Prop} [Decidable c] (ht : Traffic s t) (hu : Traffic s u) : Traffic s (if c then t else u) := by
  split
  · exact ht
  · exact hu

/-! ### Transactions and messages on their way -/

variable (s)

theorem traffic_onTxn (i : Nat) (f : Txn → Txn) : Traffic s (s.onTxn i f) := ⟨rfl, rfl, rfl, rfl, rfl, rfl, rfl⟩
theorem traffic_onMsgs (f : SMap Msg → SMap Msg) : Traffic s (s.onMsgs f) := ⟨rfl, rfl, rfl, rfl, rfl, rfl, rfl⟩
theorem traffic_delMsg (m : Nat) : Traffic s (s.delMsg m) := traffic_onMsgs s _
theorem traffic_onReqs (f : SMap CtlReq → SMap CtlReq) : Traffic s (s.onMem (fun m => { m with reqs := f m.reqs })) :=
  ⟨rfl, rfl, rfl, rfl, rfl, rfl, rfl⟩
theorem traffic_delReq (r : Nat) : Traffic s (s.delReq r) := traffic_onReqs s _
theorem traffic_onEng (e : Nat) (f : Engine → Engine) : Traffic s (s.onEng e f) := ⟨rfl, rfl, rfl, rfl, rfl, rfl, rfl⟩
theorem traffic_onPort (p : Nat) (f : Port → Port) : Traffic s (s.onPort p f) := ⟨rfl, rfl, rfl, rfl, rfl, rfl, rfl⟩
theorem traffic_onRas (f : Ras → Ras) : Traffic s (s.onRas f) := ⟨rfl, rfl, rfl, rfl, rfl, rfl, rfl⟩
theorem traffic_post (p : Posted) : Traffic s (s.post p) := ⟨rfl, rfl, rfl, rfl, rfl, rfl, rfl⟩

/-- A change of the flits, the order numbers and what the arbiters count is traffic. -/
theorem traffic_onMesh (f : Mesh → Mesh) (ht : (f s.mesh).training = s.mesh.training) (hw : (f s.mesh).wires = s.mesh.wires)
    (hp : (f s.mesh).poisoned = s.mesh.poisoned) : Traffic s (s.onMesh f) := ⟨rfl, rfl, rfl, rfl, ht, hw, hp⟩

theorem traffic_deliver (c : Cargo) (bad : Bool) : Traffic s (s.deliver c bad) := by
  have hclock := traffic_onMesh s (fun m => { m with clock := s.mesh.clock + 1 }) rfl rfl rfl
  cases c with
  | txn i => exact hclock.trans (traffic_onTxn _ i _)
  | msg i => exact hclock.trans (traffic_onMsgs _ _)
  | ctl i => exact hclock.trans (traffic_onReqs _ _)

theorem traffic_sendFlit (vc : Vc) (src dst : Nat) (frm stop : Stop) (c : Cargo) : Traffic s (s.sendFlit vc src dst frm stop c) := by
  unfold State.sendFlit
  exact traffic_ite (traffic_deliver s c false) (traffic_onMesh s _ rfl rfl rfl)

theorem traffic_sendMsg (vc : Vc) (k : MsgKind) (src dst : Nat) (frm stop : Stop) : Traffic s (s.sendMsg vc k src dst frm stop) := by
  unfold State.sendMsg
  extract_lets i x s₁
  have hnew : Traffic s s₁ := ⟨rfl, rfl, rfl, rfl, rfl, rfl, rfl⟩
  exact hnew.trans (traffic_sendFlit s₁ vc src dst frm stop _)

theorem traffic_sendTxn (i : Nat) (vc : Vc) (st : Stage) (src dst : Nat) (frm stop : Stop) :
    Traffic s (s.sendTxn i vc st src dst frm stop) := (traffic_onTxn s i _).trans (traffic_sendFlit _ vc src dst frm stop _)

theorem traffic_answerNow (i st : Nat) : Traffic s (s.answerNow i st) := traffic_onTxn s i _

theorem traffic_replyTxn (i d : Nat) (frm : Stop) : Traffic s (s.replyTxn i d frm) := by
  unfold State.replyTxn
  split
  · exact .refl s
  · exact traffic_sendTxn s i _ _ _ _ _ _

theorem traffic_ackTry (i : Nat) : Traffic s (s.ackTry i) := by
  unfold State.ackTry
  split
  · exact .refl s
  · exact traffic_ite (traffic_replyTxn s i _ _) (.refl s)

theorem traffic_loseCargo (c : Cargo) : Traffic s (s.loseCargo c) := by
  cases c with
  | txn i => exact traffic_answerNow s i _
  | ctl r => exact traffic_onReqs s _
  | msg m =>
    have howned : ∀ i, Traffic s (((s.delMsg m).onTxn i (fun t => { t with waitAns := false })).answerNow i 0x40) := fun i =>
      ((traffic_delMsg s m).trans (traffic_onTxn _ i _)).trans (traffic_answerNow _ i _)
    unfold State.loseCargo
    dsimp only
    cases s.msg? m with
    | none => exact .refl s
    | some x =>
      obtain ⟨kind, src, dst, frm, stop⟩ := x
      cases kind with
      | signal | register | poll | shx => exact traffic_onMsgs s _
      | ownRequest i | ownGrant i => exact howned i
      | evicted => exact traffic_ite (traffic_sendFlit s _ _ _ _ _ _) (traffic_delMsg s m)
      | _ => exact traffic_delMsg s m

/-! ### What a unit takes from the mesh -/

theorem traffic_hostAsk (i : Nat) (x : Txn) : Traffic s (s.hostAsk i x) := by
  have hsent := traffic_onTxn s i (fun t => { t with waitStack := t.waitStack + 1 })
  unfold State.hostAsk
  split
  · split
    · exact hsent.trans (traffic_post _ _)
    · exact hsent
  · exact hsent.trans (traffic_post _ _)

theorem traffic_hostPump (n : Nat) : Traffic s (s.hostPump n) := by
  induction n generalizing s with
  | zero => exact .refl s
  | succ n ih =>
    rw [State.hostPump]
    refine traffic_ite (.refl s) ?_
    dsimp only
    split
    · exact .refl s
    · exact (traffic_hostAsk s _ _).trans (ih _)

theorem traffic_hostGiveUp (i : Nat) : Traffic s (s.hostGiveUp i) := by
  unfold State.hostGiveUp
  split
  · exact .refl s
  · exact traffic_ite (.refl s) ((traffic_onTxn s i _).trans (traffic_replyTxn _ i _ _))

theorem traffic_hostAccept (i : Nat) : Traffic s (s.hostAccept i) := by
  unfold State.hostAccept
  cases s.txn? i with
  | none => exact .refl s
  | some x =>
    dsimp only
    cases s.fnOf x with
    | none => exact traffic_replyTxn s i _ _
    | some fn =>
      dsimp only
      cases x.op with
      | store => exact (traffic_each (fun r t => traffic_post t _) _ s).trans (traffic_replyTxn _ i _ _)
      | reduce | signal => exact traffic_answerNow s i _
      | read | atomic => exact traffic_ite (traffic_hostGiveUp s i) (traffic_hostPump s _)

theorem traffic_postFlit (p kind : Nat) (ms : List PMsg) : Traffic s (s.postFlit p kind ms) := by
  unfold State.postFlit
  exact traffic_ite (traffic_each (fun m t => traffic_post t _) ms s) (traffic_post s _)

theorem traffic_sendPFlit (p kind : Nat) (ms : List PMsg) : Traffic s (s.sendPFlit p kind ms) :=
  (traffic_onPort s p _).trans (traffic_postFlit _ p kind ms)

theorem traffic_portPump (p n : Nat) : Traffic s (s.portPump p n) := by
  induction n generalizing s with
  | zero => exact .refl s
  | succ n ih =>
    rw [State.portPump]
    exact traffic_ite (.refl s) (traffic_ite (.refl s)
      (((traffic_onPort s p _).trans (traffic_sendPFlit _ p 0 _)).trans (ih _)))

theorem traffic_portSend (p : Nat) (m : PMsg) (who : Option Unacked) : Traffic s (s.portSend p m who) :=
  (traffic_onPort s p _).trans (traffic_portPump _ p _)

theorem traffic_portAnswer (p i : Nat) : Traffic s (s.portAnswer p i) := (traffic_onTxn s i _).trans (traffic_answerNow _ i _)

theorem traffic_portAccept (i : Nat) : Traffic s (s.portAccept i) := by
  unfold State.portAccept
  cases s.txn? i with
  | none => exact .refl s
  | some x =>
    refine traffic_ite (traffic_portAnswer s _ i) (Traffic.trans ?_ (traffic_replyTxn _ i _ _))
    cases x.op with
    | signal => exact traffic_ite (traffic_portSend s _ _ _) (traffic_onPort s _ _)
    | read | store | atomic | reduce =>
      exact traffic_ite (traffic_portSend s _ _ _) (traffic_each (fun k t => traffic_portSend t _ _ _) _ s)

theorem traffic_takeIn (i : Nat) : Traffic s (s.takeIn i) := by
  unfold State.takeIn
  cases s.txn? i with
  | none => exact .refl s
  | some x =>
    refine traffic_ite (.refl s) ?_
    cases x.stage with
    | host => exact traffic_hostAccept s i
    | port => exact traffic_portAccept s i
    | _ => exact .refl s

theorem traffic_hear (m : Nat) : Traffic s (s.hear m) := by
  unfold State.hear
  split
  · split
    · exact traffic_ite ((traffic_delMsg s m).trans (traffic_onRas _ _)) (.refl s)
    · exact .refl s
  · exact .refl s

theorem traffic_picotsGo (e n : Nat) : Traffic s (s.picotsGo e n) := by
  induction n generalizing s with
  | zero => exact .refl s
  | succ n ih =>
    rw [State.picotsGo]
    split
    · exact .refl s
    · exact traffic_ite (.refl s) (((traffic_onEng s e _).trans (traffic_sendMsg _ _ _ _ _ _ _)).trans (ih _))

theorem traffic_picotsAll : Traffic s s.picotsAll := traffic_each (fun e t => traffic_picotsGo t e _) _ s

theorem traffic_ask (q : CtlReq) : Traffic s (s.ask q) := by
  have hput : ∀ q : CtlReq, Traffic s (s.onMem (fun m => { m with reqs := SMap.put m.reqs s.mem.nextReq q, nextReq := s.mem.nextReq + 1 })) :=
    fun q => ⟨rfl, rfl, rfl, rfl, rfl, rfl, rfl⟩
  unfold State.ask
  exact traffic_ite ((hput _).trans (traffic_sendFlit _ _ _ _ _ _ _)) (hput _)

theorem traffic_ledgerDec (n region : Nat) : Traffic s (s.ledgerDec n region) := by
  unfold State.ledgerDec
  exact traffic_ite (traffic_sendMsg s _ _ _ _ _ _) (.refl s)

theorem traffic_writeAccepted (q : CtlReq) : Traffic s (s.writeAccepted q) := by
  unfold State.writeAccepted
  cases q.who with
  | mirror i => exact (traffic_onTxn s i _).trans (traffic_ackTry _ i)
  | back h r last => exact traffic_ite (traffic_ask s _) (traffic_ite (traffic_ledgerDec s h r) (.refl s))
  | fill | redirect => exact .refl s

theorem traffic_acceptances : Traffic s s.acceptances :=
  traffic_each (fun (p : Nat × CtlReq) t => (traffic_delReq t p.1).trans (traffic_writeAccepted _ p.2)) _ s

theorem traffic_landed (c : Cargo) : Traffic s (s.landed c) := by
  cases c with
  | txn i => exact traffic_takeIn s i
  | msg m => exact (traffic_hear s m).trans (traffic_picotsAll _)
  | ctl r => exact traffic_acceptances s

/-! ### A flit's move -/

theorem traffic_useTurn (f : Flit) : Traffic s (s.useTurn f) := by
  unfold State.useTurn
  exact traffic_ite (.refl s) (traffic_onMesh s _ rfl rfl rfl)

theorem traffic_leaveMesh (i : Nat) (f : Flit) : Traffic s (s.leaveMesh i f) := by
  have hdel := traffic_onMesh s (fun m => { m with flits := SMap.del m.flits i }) rfl rfl rfl
  unfold State.leaveMesh
  refine traffic_ite ?_ ?_
  · split
    · exact traffic_ite (hdel.trans (traffic_delMsg _ _)) hdel
    · exact hdel
  · exact (traffic_ite (hdel.trans (traffic_onMesh _ _ rfl rfl rfl)) hdel).trans (traffic_deliver _ _ _)

theorem traffic_moveFlit (i : Nat) (f : Flit) : Traffic s (s.moveFlit i f) := by
  unfold State.moveFlit
  cases s.hopOf f with
  | leave => exact traffic_leaveMesh s i f
  | router r c p => exact traffic_onMesh s _ rfl rfl rfl
  | enter l => exact (traffic_onMesh s _ rfl rfl rfl).trans (traffic_onMesh _ _ rfl rfl rfl)
  | arrive d r c p => exact (traffic_onMesh s _ rfl rfl rfl).trans (traffic_onMesh _ _ rfl rfl rfl)
  | nowhere => exact traffic_ite (.refl s) ((traffic_onMesh s _ rfl rfl rfl).trans (traffic_loseCargo _ _))

end Sys2Proof.Machine.MeshLaws
end

section
/-!
PROOF. What a report of the Winder leaves alone (R445, R446, R496).
-/
namespace Sys2Proof.Machine.MeshLaws

/-- What is left alone where the Winder reports an event: the mesh, memory, the transactions, and every register but its counters and its
mailbox status. -/
structure Reports (s t : State) : Prop where
  mesh : t.mesh = s.mesh
  mem : t.mem = s.mem
  txns : t.txns = s.txns
  regs : s.keepsRegsBut [R.wndRasCnt, R.wndMbxStat] t

variable {s t u : State}

theorem Reports.refl (s : State) : Reports s s := ⟨rfl, rfl, rfl, fun _ _ => rfl⟩

theorem Reports.trans (h : Reports s t) (h' : Reports t u) : Reports s u :=
  ⟨h'.mesh.trans h.mesh, h'.mem.trans h.mem, h'.txns.trans h.txns, keepsRegsBut_trans h.regs h'.regs⟩

/-- A register of the links is none of the Winder's. -/
theorem Reports.fld (h : Reports s t) (f : Field) {o : Nat} (ho : o < R.wndRasCnt) : t.fld f o = s.fld f o :=
  fld_of_keepsRegsBut h.regs f (by
    simp only [R.wndRasCnt, R.wndMbxStat, List.mem_cons, List.not_mem_nil, or_false] at *
    omega)

theorem reports_ite {c : Prop} [Decidable c] (ht : Reports s t) (hu : Reports s u) : Reports s (if c then t else u) := by
  split
  · exact ht
  · exact hu

variable (s)

theorem reports_passTime : Reports s s.passTime := ⟨rfl, rfl, rfl, fun o _ => State.rd_congr s _ rfl rfl rfl o⟩
theorem reports_post (p : Posted) : Reports s (s.post p) := ⟨rfl, rfl, rfl, fun o _ => State.rd_onPosted s _ o⟩
theorem reports_onHost (f : HostIf → HostIf) : Reports s (s.onHost f) := ⟨rfl, rfl, rfl, fun o _ => State.rd_onHost s f o⟩
theorem reports_onRas (f : Ras → Ras) : Reports s (s.onRas f) := ⟨rfl, rfl, rfl, fun o _ => State.rd_onRas s f o⟩
theorem reports_onSec (f : Security → Security) (h : (f s.sec).settings = s.sec.settings) : Reports s (s.onSec f) :=
  ⟨rfl, rfl, rfl, fun o _ => State.rd_congr s (s.onSec f) rfl rfl h o⟩

theorem reports_setF (f : Field) {o : Nat} (v : Nat) (ho : o ∈ [R.wndRasCnt, R.wndMbxStat]) : Reports s (s.setF f o v) :=
  ⟨rfl, rfl, rfl, keepsRegsBut_setF f v ho (keepsRegsBut_refl _)⟩

theorem reports_bump (f : Field) (n : Nat) : Reports s (s.bump f R.wndRasCnt n) := reports_setF s f _ (List.mem_cons_self ..)

theorem reports_msix (fn v : Nat) : Reports s (s.msix fn v) := by
  unfold State.msix
  exact reports_ite (.refl s) (reports_ite (reports_onHost s _) (reports_post s _))

theorem reports_admPut (fn : Nat) (r : Rec) (die : Nat) (evt : Bool) : Reports s (s.admPut fn r die evt) := by
  unfold State.admPut
  extract_lets s₁ n w s₂ s₃
  have hput : Reports s s₃ := ((reports_passTime s).trans (reports_post s₁ _)).trans (reports_onHost s₂ _)
  exact reports_ite (hput.trans (reports_msix s₃ _ _)) hput

theorem reports_mgmt (kind die detail : Nat) : Reports s (s.mgmt kind die detail) := by
  unfold State.mgmt
  extract_lets s₁ first s₂
  have hqueued : Reports s s₂ := (reports_passTime s).trans (reports_onSec s₁ _ rfl)
  exact reports_ite (.refl s) (reports_ite (reports_ite (hqueued.trans (reports_post s₂ _)) hqueued)
    (reports_setF s _ _ (List.mem_cons_of_mem _ (List.mem_cons_self ..))))

theorem reports_rasDrain (n : Nat) : Reports s (s.rasDrain n) := by
  induction n generalizing s with
  | zero => exact .refl s
  | succ n ih =>
    rw [State.rasDrain]
    split
    · exact .refl s
    · exact reports_ite ((((reports_onRas s _).trans (reports_admPut _ _ _ _ _)).trans (reports_bump _ _ _)).trans (ih _)) (.refl s)

/-- A report of the Winder leaves everything but its own record keeping. -/
theorem reports_ras0 (code cls unit ctx die : Nat) : Reports s (s.ras0 code cls unit ctx die) := by
  unfold State.ras0
  extract_lets b s₁ s₂ s₃
  have hseq : Reports s s₁ := reports_onRas s _
  have hheld : Reports s s₂ := reports_ite (hseq.trans (reports_onRas s₁ _)) (hseq.trans (reports_bump s₁ _ _))
  have hdrained : Reports s s₃ := hheld.trans (reports_rasDrain s₂ 64)
  exact reports_ite (hdrained.trans (reports_mgmt s₃ _ _ _)) (reports_ite (hdrained.trans (reports_mgmt s₃ _ _ _)) hdrained)

end Sys2Proof.Machine.MeshLaws
end

section
/-!
PROOF. The registers, the training and the wires of a link (R38 to R43, R50 to R53), and the routes (R44, R45).
-/
namespace Sys2Proof.Machine.MeshLaws

/-! ### Lists -/

theorem mem_addNum_self (l : List Nat) (n : Nat) : n ∈ addNum l n := by
  induction l with
  | nil => simp [addNum]
  | cons k r ih =>
    rw [addNum]
    split
    · simp
    · split
      · simp [*]
      · simp [ih]

theorem not_mem_delNum_self (l : List Nat) (n : Nat) : n ∉ delNum l n := by simp [delNum]

/-- What holds and is kept by the step of each member holds after all of them. -/
theorem each_keeps {α : Type} {f : α → State → State} {P : State → Prop} (l : List α) (hf : ∀ a ∈ l, ∀ s, P s → P (f a s))
    (s : State) (h : P s) : P (each l f s) := by
  induction l generalizing s with
  | nil => exact h
  | cons a l ih => exact ih (fun b hb => hf b (List.mem_cons_of_mem _ hb)) _ (hf a (List.mem_cons_self ..) s h)

theorem mem_of_mem_insertBy {α : Type} (before : α → α → Bool) (a x : α) (l : List α) (h : x ∈ insertBy before a l) : x = a ∨ x ∈ l := by
  induction l with
  | nil => simpa [insertBy] using h
  | cons b r ih =>
    rw [insertBy] at h
    split at h
    · exact List.mem_cons.1 h
    · rcases List.mem_cons.1 h with rfl | h
      · exact .inr (List.mem_cons_self ..)
      · exact (ih h).imp_right (List.mem_cons_of_mem _)

/-- Sorting adds no member. -/
theorem mem_of_mem_sortBy {α : Type} (before : α → α → Bool) (x : α) (l : List α) (h : x ∈ sortBy before l) : x ∈ l := by
  induction l with
  | nil => exact h
  | cons a r ih =>
    rcases mem_of_mem_insertBy before a x _ h with rfl | h
    · exact List.mem_cons_self ..
    · exact List.mem_cons_of_mem _ (ih h)

variable (s : State)

/-! ### The registers of a link -/

theorem linkStat_ne_linkCtrl (k l : Nat) : R.mshLinkStat k ≠ R.mshLinkCtrl l := by unfold R.mshLinkStat R.mshLinkCtrl; omega
theorem linkCtrl_ne_linkStat (k l : Nat) : R.mshLinkCtrl k ≠ R.mshLinkStat l := (linkStat_ne_linkCtrl l k).symm
theorem linkStat_ne_linkDelay (k l : Nat) : R.mshLinkStat k ≠ R.mshLinkDelay l := by unfold R.mshLinkStat R.mshLinkDelay; omega
theorem linkDelay_ne_linkStat (k l : Nat) : R.mshLinkDelay k ≠ R.mshLinkStat l := (linkStat_ne_linkDelay l k).symm
theorem linkStat_ne_linkErr (k l : Nat) : R.mshLinkStat k ≠ R.mshLinkErr l := by unfold R.mshLinkStat R.mshLinkErr; omega
theorem linkErr_ne_linkCtrl (k l : Nat) : R.mshLinkErr k ≠ R.mshLinkCtrl l := by unfold R.mshLinkErr R.mshLinkCtrl; omega

theorem linkCtrl_lt_wndRasCnt {l : Nat} (hl : l < 10) : R.mshLinkCtrl l < R.wndRasCnt := by unfold R.mshLinkCtrl R.wndRasCnt; omega
theorem linkStat_lt_wndRasCnt {l : Nat} (hl : l < 10) : R.mshLinkStat l < R.wndRasCnt := by unfold R.mshLinkStat R.wndRasCnt; omega

@[simp] theorem linkState_onMesh (f : Mesh → Mesh) (l : Nat) : (s.onMesh f).linkState l = s.linkState l := fld_onMesh s f _ _

@[simp] theorem linkState_setF_linkCtrl (f : Field) (k v l : Nat) : (s.setF f (R.mshLinkCtrl k) v).linkState l = s.linkState l :=
  State.fld_setF_other s f _ _ _ _ (linkStat_ne_linkCtrl l k)

@[simp] theorem linkState_bump_linkErr (f : Field) (k n l : Nat) : (s.bump f (R.mshLinkErr k) n).linkState l = s.linkState l :=
  State.fld_setF_other s f _ _ _ _ (linkStat_ne_linkErr l k)

@[simp] theorem linkState_setF_STATE (l v : Nat) : (s.setF F.mshLinkStat_STATE (R.mshLinkStat l) v).linkState l = v % 4 :=
  State.fld_setF_same s _ _ v (by decide)

theorem linkState_setF_apart (f : Field) (l v : Nat) (h : F.mshLinkStat_STATE.lo + F.mshLinkStat_STATE.len ≤ f.lo) :
    (s.setF f (R.mshLinkStat l) v).linkState l = s.linkState l :=
  State.fld_setF_apart s f _ _ v (by decide) (.inr h)

/-- A field of MSH_LINK_STAT beside STATE keeps its value where STATE changes. -/
theorem fld_linkStat_setF_STATE (g : Field) (l v : Nat) (hg : g.lo + g.len ≤ 32)
    (h : F.mshLinkStat_STATE.lo + F.mshLinkStat_STATE.len ≤ g.lo) :
    (s.setF F.mshLinkStat_STATE (R.mshLinkStat l) v).fld g (R.mshLinkStat l) = s.fld g (R.mshLinkStat l) :=
  State.fld_setF_apart s _ g _ v hg (.inl h)

@[simp] theorem fld_linkStat_setF_linkCtrl (f g : Field) (k v l : Nat) :
    (s.setF f (R.mshLinkCtrl k) v).fld g (R.mshLinkStat l) = s.fld g (R.mshLinkStat l) :=
  State.fld_setF_other s f g _ _ v (linkStat_ne_linkCtrl l k)

@[simp] theorem fld_linkStat_setF_linkDelay (f g : Field) (k v l : Nat) :
    (s.setF f (R.mshLinkDelay k) v).fld g (R.mshLinkStat l) = s.fld g (R.mshLinkStat l) :=
  State.fld_setF_other s f g _ _ v (linkStat_ne_linkDelay l k)

@[simp] theorem fld_linkErr_setF_linkCtrl (f g : Field) (k v l : Nat) :
    (s.setF f (R.mshLinkCtrl k) v).fld g (R.mshLinkErr l) = s.fld g (R.mshLinkErr l) :=
  State.fld_setF_other s f g _ _ v (linkErr_ne_linkCtrl l k)

@[simp] theorem bit_linkCtrl_setF_linkStat (f g : Field) (k v l : Nat) :
    (s.setF f (R.mshLinkStat k) v).bit g (R.mshLinkCtrl l) = s.bit g (R.mshLinkCtrl l) :=
  State.bit_setF_other s f g _ _ v (linkCtrl_ne_linkStat l k)

/-- EN and RETRAIN read the bit that they were given. -/
@[simp] theorem bit_setF_EN (l v : Nat) :
    (s.setF F.mshLinkCtrl_EN (R.mshLinkCtrl l) v).bit F.mshLinkCtrl_EN (R.mshLinkCtrl l) = (v % 2 != 0) := bit_setF_same s _ _ v (by decide)

@[simp] theorem bit_setF_RETRAIN (l v : Nat) :
    (s.setF F.mshLinkCtrl_RETRAIN (R.mshLinkCtrl l) v).bit F.mshLinkCtrl_RETRAIN (R.mshLinkCtrl l) = (v % 2 != 0) :=
  bit_setF_same s _ _ v (by decide)

@[simp] theorem EN_setF_RETRAIN (l v : Nat) :
    (s.setF F.mshLinkCtrl_RETRAIN (R.mshLinkCtrl l) v).bit F.mshLinkCtrl_EN (R.mshLinkCtrl l) = s.bit F.mshLinkCtrl_EN (R.mshLinkCtrl l) :=
  bit_setF_apart s _ _ _ v (by decide) (by decide)

@[simp] theorem EN_setF_SWAP_THRESH (l v : Nat) :
    (s.setF F.mshLinkCtrl_SWAP_THRESH (R.mshLinkCtrl l) v).bit F.mshLinkCtrl_EN (R.mshLinkCtrl l) = s.bit F.mshLinkCtrl_EN (R.mshLinkCtrl l) :=
  bit_setF_apart s _ _ _ v (by decide) (by decide)

/-! ### Training -/

@[simp] theorem linkState_trainOn (k l : Nat) : (trainOn k s).linkState l = s.linkState l := linkState_onMesh s _ l
@[simp] theorem linkState_trainOff (k l : Nat) : (trainOff k s).linkState l = s.linkState l := linkState_onMesh s _ l
@[simp] theorem linkState_clearReplay (k l : Nat) : (clearReplay k s).linkState l = s.linkState l := linkState_onMesh s _ l
@[simp] theorem bit_trainOn (k : Nat) (f : Field) (o : Nat) : (trainOn k s).bit f o = s.bit f o := bit_onMesh s _ f o
@[simp] theorem bit_trainOff (k : Nat) (f : Field) (o : Nat) : (trainOff k s).bit f o = s.bit f o := bit_onMesh s _ f o
@[simp] theorem bit_clearReplay (k : Nat) (f : Field) (o : Nat) : (clearReplay k s).bit f o = s.bit f o := bit_onMesh s _ f o
@[simp] theorem fld_trainOn (k : Nat) (f : Field) (o : Nat) : (trainOn k s).fld f o = s.fld f o := fld_onMesh s _ f o
@[simp] theorem fld_trainOff (k : Nat) (f : Field) (o : Nat) : (trainOff k s).fld f o = s.fld f o := fld_onMesh s _ f o
@[simp] theorem fld_clearReplay (k : Nat) (f : Field) (o : Nat) : (clearReplay k s).fld f o = s.fld f o := fld_onMesh s _ f o

theorem mem_training_trainOn (l : Nat) : l ∈ (trainOn l s).mesh.training := mem_addNum_self _ l
theorem not_mem_training_trainOff (l : Nat) : l ∉ (trainOff l s).mesh.training := not_mem_delNum_self _ l
@[simp] theorem training_clearReplay (l : Nat) : (clearReplay l s).mesh.training = s.mesh.training := rfl
@[simp] theorem wires_clearReplay (l : Nat) : (clearReplay l s).mesh.wires = s.mesh.wires := rfl
@[simp] theorem wires_trainOff (l : Nat) : (trainOff l s).mesh.wires = s.mesh.wires := rfl

/-- A link that is up starts to retrain: RETRAIN reads 1 and the link trains, in STATE 2. -/
theorem retrainStart_up {l : Nat} (h : s.linkState l = 2) :
    retrainStart l s = clearReplay l (trainOn l (s.setF F.mshLinkCtrl_RETRAIN (R.mshLinkCtrl l) 1)) := if_pos h

/-! ### Wires -/

/-- `t` is `s` but for wires that have failed since. -/
structure Worn (s t : State) : Prop where
  only : t = s.onMesh (fun m => { m with wires := t.mesh.wires })
  grows : ∀ l dir b, s.wiresOut l dir b ≤ t.wiresOut l dir b

variable {s} in
theorem Worn.trans {t u : State} (h : Worn s t) (h' : Worn t u) : Worn s u := by
  refine ⟨?_, fun l dir b => (h.grows l dir b).trans (h'.grows l dir b)⟩
  have ht := h.only
  have hu := h'.only
  rw [ht] at hu
  exact hu

theorem Worn.refl : Worn s s := ⟨rfl, fun _ _ _ => le_refl _⟩

theorem worn_wireFails (l dir b : Nat) : Worn s (s.wireFails l dir b) := by
  unfold State.wireFails
  split
  · exact .refl s
  · refine ⟨rfl, fun l' dir' b' => ?_⟩
    unfold State.wiresOut
    by_cases hk : 32 * (2 * l' + dir') + b' = 32 * (2 * l + dir) + b
    · rw [hk]
      exact (Nat.le_succ _).trans_eq (SMapLaws.getD_upd_same s.mesh.wires _ 0 (· + 1)).symm
    · exact (SMapLaws.getD_upd_other s.mesh.wires _ _ 0 (· + 1) hk).ge

theorem worn_each (l dir : Nat) (bs : List Nat) : Worn s (each bs (fun b s => s.wireFails l dir b) s) :=
  each_keeps (P := Worn s) bs (fun b _ t h => h.trans (worn_wireFails t l dir b)) s (.refl s)

/-- The state after the wires that a scan names have been swapped or their bundles disabled. -/
def scanned (l : Nat) (c : LinkScan) : State :=
  each c.hi (fun b s => s.wireFails l 1 b) (each c.lo (fun b s => s.wireFails l 0 b) s)

theorem worn_scanned (l : Nat) (c : LinkScan) : Worn s (scanned s l c) := (worn_each s l 0 c.lo).trans (worn_each _ l 1 c.hi)

theorem putScan_eq (l : Nat) (c : LinkScan) :
    s.putScan l c = (((scanned s l c).setF F.mshLinkStat_BUNDLES (R.mshLinkStat l) ((scanned s l c).bundlesOn l)).setF
      F.mshLinkStat_SPARES_LO (R.mshLinkStat l) ((scanned s l c).sparesIn l 0)).setF
      F.mshLinkStat_SPARES_HI (R.mshLinkStat l) ((scanned s l c).sparesIn l 1) := rfl

theorem wiresOut_congr {t : State} (h : t.mesh.wires = s.mesh.wires) (l dir b : Nat) : t.wiresOut l dir b = s.wiresOut l dir b := by
  simp only [State.wiresOut, h]

/-- The width and the spares of a link depend on its wires alone. -/
theorem bundlesOn_congr {t : State} (h : t.mesh.wires = s.mesh.wires) (l : Nat) : t.bundlesOn l = s.bundlesOn l := by
  have hoff : ∀ b, t.bundleOff l b = s.bundleOff l b := fun b => by
    simp only [State.bundleOff, wiresOut_congr s h]
  simp only [State.bundlesOn, hoff]

theorem sparesIn_congr {t : State} (h : t.mesh.wires = s.mesh.wires) (l dir : Nat) : t.sparesIn l dir = s.sparesIn l dir := by
  simp only [State.sparesIn, State.wiresOut, h]

theorem bundlesOn_le (l : Nat) : s.bundlesOn l ≤ 25 :=
  (List.length_filter_le _ _).trans_eq List.length_range

theorem sparesIn_le (l dir : Nat) : s.sparesIn l dir ≤ 50 := by
  have hsum : ∀ (bs : List Nat) (a : Nat), bs.foldl (fun a b => a + min 2 (s.wiresOut l dir b)) a ≤ a + 2 * bs.length := by
    intro bs
    induction bs with
    | nil => simp
    | cons b bs ih =>
      intro a
      have := ih (a + min 2 (s.wiresOut l dir b))
      simp only [List.foldl_cons, List.length_cons]
      omega
  exact (hsum (List.range 25) 0).trans_eq rfl

/-- No bundle comes back. -/
theorem bundlesOn_anti {t : State} (h : ∀ l dir b, s.wiresOut l dir b ≤ t.wiresOut l dir b) (l : Nat) : t.bundlesOn l ≤ s.bundlesOn l := by
  refine (List.Sublist.length_le (List.monotone_filter_right _ fun b hb => ?_))
  have h0 := h l 0 b
  have h1 := h l 1 b
  simp only [State.bundleOff, Bool.not_eq_true', Bool.or_eq_false_iff, decide_eq_false_iff_not] at hb ⊢
  omega

section putScan

variable (l : Nat) (c : LinkScan)

theorem putScan_wiresOut (k dir b : Nat) : s.wiresOut k dir b ≤ (s.putScan l c).wiresOut k dir b :=
  (worn_scanned s l c).grows k dir b

theorem putScan_bundlesOn_le : (s.putScan l c).bundlesOn l ≤ s.bundlesOn l := bundlesOn_anti s (putScan_wiresOut s l c) l

theorem scanned_keepsRegsBut (offs : List Nat) : s.keepsRegsBut offs (scanned s l c) := by
  rw [(worn_scanned s l c).only]
  exact keepsRegsBut_onMesh _ (keepsRegsBut_refl _)

theorem putScan_keepsRegsBut {offs : List Nat} (h : R.mshLinkStat l ∈ offs) : s.keepsRegsBut offs (s.putScan l c) :=
  keepsRegsBut_setF _ _ h (keepsRegsBut_setF _ _ h (keepsRegsBut_setF _ _ h (scanned_keepsRegsBut s l c offs)))

@[simp] theorem putScan_linkState : (s.putScan l c).linkState l = s.linkState l := by
  rw [putScan_eq, linkState_setF_apart _ _ _ _ (by decide), linkState_setF_apart _ _ _ _ (by decide),
    linkState_setF_apart _ _ _ _ (by decide)]
  exact fld_of_keepsRegsBut (scanned_keepsRegsBut s l c []) _ List.not_mem_nil

theorem putScan_BUNDLES : (s.putScan l c).fld F.mshLinkStat_BUNDLES (R.mshLinkStat l) = (s.putScan l c).bundlesOn l := by
  rw [putScan_eq, State.fld_setF_apart _ _ _ _ _ (by decide) (by decide), State.fld_setF_apart _ _ _ _ _ (by decide) (by decide),
    State.fld_setF_same _ _ _ _ (by decide)]
  exact Nat.mod_eq_of_lt ((bundlesOn_le _ l).trans_lt (by decide))

theorem putScan_SPARES_LO : (s.putScan l c).fld F.mshLinkStat_SPARES_LO (R.mshLinkStat l) = (s.putScan l c).sparesIn l 0 := by
  rw [putScan_eq, State.fld_setF_apart _ _ _ _ _ (by decide) (by decide), State.fld_setF_same _ _ _ _ (by decide)]
  exact Nat.mod_eq_of_lt ((sparesIn_le _ l 0).trans_lt (by decide))

theorem putScan_SPARES_HI : (s.putScan l c).fld F.mshLinkStat_SPARES_HI (R.mshLinkStat l) = (s.putScan l c).sparesIn l 1 := by
  rw [putScan_eq, State.fld_setF_same _ _ _ _ (by decide)]
  exact Nat.mod_eq_of_lt ((sparesIn_le _ l 1).trans_lt (by decide))

end putScan

/-! ### Routes -/

/-- Writes of registers of a list, one for each member, change these registers alone. -/
theorem onlyRegs_each_wr {α : Type} {offs : List Nat} (l : List α) (off : α → Nat) (w : α → Word) (h : ∀ a ∈ l, off a ∈ offs) :
    s.onlyRegs offs (each l (fun a t => t.wr (off a) (w a)) s) :=
  each_keeps (P := s.onlyRegs offs) l (fun a ha _ ht => onlyRegs_wr _ (h a ha) ht) s (onlyRegs_refl offs)

/-- What a register reads after each member of a list has been written into one of its own. -/
theorem rd_each_wr {α : Type} [DecidableEq α] (l : List α) (off : α → Nat) (hoff : Function.Injective off) (w : α → Word) (a : α) :
    (each l (fun a t => t.wr (off a) (w a)) s).rd (off a) = if a ∈ l then w a else s.rd (off a) := by
  induction l generalizing s with
  | nil => rfl
  | cons b l ih =>
    refine (ih (s.wr (off b) (w b))).trans ?_
    by_cases hl : a ∈ l
    · simp [hl]
    · by_cases hab : a = b
      · subst hab
        simp [hl]
      · simp [hl, hab, State.rd_wr_other _ _ _ _ (hoff.ne hab)]

/-- The word of MSH_ROUTE_d in which EDGE_k is `e k`. -/
def routeWord (e : Nat → Nat) : Word := BitVec.ofNat 32 ((List.range 8).foldl (fun a k => a + e k * 16 ^ k) 0)

/-- The number whose hexadecimal digits are the first values of `e`, lowest first. -/
def hexNum (e : Nat → Nat) : Nat → Nat
  | 0 => 0
  | n + 1 => hexNum e n + e n * 16 ^ n

theorem hexNum_eq_foldl (e : Nat → Nat) (n : Nat) : (List.range n).foldl (fun a k => a + e k * 16 ^ k) 0 = hexNum e n := by
  induction n with
  | zero => rfl
  | succ n ih => rw [List.range_succ, List.foldl_append, ih]; rfl

theorem hexNum_lt (e : Nat → Nat) (he : ∀ k, e k < 16) (n : Nat) : hexNum e n < 16 ^ n := by
  induction n with
  | zero => exact Nat.one_pos
  | succ n ih =>
    have hdigit := Nat.mul_le_mul_right (16 ^ n) (Nat.le_of_lt_succ (he n))
    rw [hexNum, Nat.pow_succ]
    omega

theorem hexNum_digit (e : Nat → Nat) (he : ∀ k, e k < 16) (k n : Nat) (hk : k < n) : hexNum e n / 16 ^ k % 16 = e k := by
  induction n with
  | zero => omega
  | succ n ih =>
    rw [hexNum]
    rcases Nat.lt_succ_iff_lt_or_eq.1 hk with hkn | rfl
    · obtain ⟨m, rfl⟩ := Nat.exists_eq_add_of_lt hkn
      have hshift : e (k + m + 1) * 16 ^ (k + m + 1) = 16 ^ k * (16 * (e (k + m + 1) * 16 ^ m)) := by ring
      rw [hshift, Nat.add_mul_div_left _ _ (by positivity), Nat.add_mul_mod_self_left, ih hkn]
    · rw [Nat.add_mul_div_right _ _ (by positivity), Nat.div_eq_of_lt (hexNum_lt e he k), Nat.zero_add, Nat.mod_eq_of_lt (he k)]

theorem routeWord_edge (e : Nat → Nat) (he : ∀ k, e k < 16) (k : Nat) (hk : k < 8) : (routeWord e).toNat / 16 ^ k % 16 = e k := by
  have hnum : (routeWord e).toNat = hexNum e 8 := by
    rw [routeWord, hexNum_eq_foldl, BitVec.toNat_ofNat]
    exact Nat.mod_eq_of_lt ((hexNum_lt e he 8).trans_eq (by norm_num))
  rw [hnum, hexNum_digit e he k 8 hk]

theorem mshRoute_injective : Function.Injective R.mshRoute := fun a b h => by unfold R.mshRoute at h; omega

theorem recompute_onlyRegs : s.onlyRegs ((List.range 8).map R.mshRoute) s.recompute :=
  onlyRegs_each_wr s _ _ _ (fun _ hd => List.mem_map_of_mem hd)

theorem recompute_rd (d : Nat) (hd : d < 8) : s.recompute.rd (R.mshRoute d) = routeWord (s.bestEdge d) :=
  (rd_each_wr s (List.range 8) R.mshRoute mshRoute_injective (fun d => routeWord (s.bestEdge d)) d).trans (if_pos (List.mem_range.2 hd))

theorem bestEdge_lt (d k : Nat) : s.bestEdge d k < 16 := by
  have hrow : rowFirst d k < 16 := by unfold rowFirst; split_ifs <;> decide
  unfold State.bestEdge
  split
  · decide
  · split
    · exact hrow
    · split
      · decide
      · split
        · rename_i e he
          have hmem := List.mem_of_find?_eq_some he
          simp only [List.mem_cons, List.not_mem_nil, or_false] at hmem
          omega
        · decide

/-- The active Winder loads the best edges (R45). -/
theorem recompute_edge (d k : Nat) (hd : d < 8) (hk : k < 8) : s.recompute.edge d k = s.bestEdge d k := by
  rw [State.edge, recompute_rd s d hd, routeWord_edge _ (bestEdge_lt s d) k hk]

/-- The hops of the row-first way between two dies: along the row, then along the column (R44). -/
def rowFirstHops (d k : Nat) : Nat := gap (d % 4) (k % 4) + gap (d / 4) (k / 4)

/-- The row-first edge leads over a link to a die that is one hop nearer. -/
theorem rowFirst_nearer : ∀ d < 8, ∀ k < 8, d ≠ k → ∃ l < 10, linkOf d (rowFirst d k) = some l ∧ dieBy d (rowFirst d k) < 8 ∧
    rowFirstHops (dieBy d (rowFirst d k)) k + 1 = rowFirstHops d k := by decide

theorem rowFirstOk_of_usable (h : ∀ l, l < 10 → s.linkUsable l = true) (n d k : Nat) (hd : d < 8) (hk : k < 8)
    (hn : rowFirstHops d k ≤ n) : s.rowFirstOk n d k = true := by
  induction n generalizing d with
  | zero =>
    by_cases hdk : d = k
    · simp [State.rowFirstOk, hdk]
    · obtain ⟨l, -, -, -, hnear⟩ := rowFirst_nearer d hd k hk hdk
      omega
  | succ n ih =>
    by_cases hdk : d = k
    · simp [State.rowFirstOk, hdk]
    · obtain ⟨l, hl, hlink, hdie, hnear⟩ := rowFirst_nearer d hd k hk hdk
      simp [State.rowFirstOk, hdk, hlink, h l hl, ih _ hdie (by omega)]

/-- Where every link may be used the best edges are the row-first ones. -/
theorem bestEdge_rowFirst (h : ∀ l, l < 10 → s.linkUsable l = true) (d k : Nat) (hd : d < 8) (hk : k < 8) :
    s.bestEdge d k = rowFirst d k := by
  have hhops : ∀ d < 8, ∀ k < 8, rowFirstHops d k ≤ 4 := by decide
  unfold State.bestEdge
  split
  · rename_i hdk
    simp [rowFirst, hdk]
  · rw [rowFirstOk_of_usable s h 4 d k hd hk (hhops d hd k hk), if_pos rfl]

end Sys2Proof.Machine.MeshLaws
end

section
/-!
PROOF. The stand-alone test mode of a die (R55, R56).
-/
namespace Sys2Proof.Machine.MeshLaws

variable (s : State) (d : Nat)

/-! ### The registers of the test logic -/

theorem testStat_ne_testCtrl : R.mshTestStat d ≠ R.mshTestCtrl d := by unfold R.mshTestStat R.mshTestCtrl; omega
theorem testCtrl_ne_testStat : R.mshTestCtrl d ≠ R.mshTestStat d := (testStat_ne_testCtrl d).symm

theorem secStat_ne_testCtrl (hd : d < 8) : R.secStat ≠ R.mshTestCtrl d := by unfold R.secStat R.mshTestCtrl; omega

theorem linkCtrl_ne_testCtrl (l : Nat) : R.mshLinkCtrl l ≠ R.mshTestCtrl d := by
  unfold R.mshLinkCtrl R.mshTestCtrl; omega
theorem linkStat_ne_testCtrl (l : Nat) (hl : l < 10) : R.mshLinkStat l ≠ R.mshTestCtrl d := by
  unfold R.mshLinkStat R.mshTestCtrl; omega

/-- A link of one of the eight dies is one of the ten. -/
theorem lt_ten_of_mem_linksOf (hd : d < 8) : ∀ l ∈ linksOf d, l < 10 := by
  have h : ∀ d < 8, ∀ l ∈ linksOf d, l < 10 := by decide
  exact h d hd

/-- The two registers of a die that its test mode changes. -/
abbrev testRegs : List Nat := [R.mshTestCtrl d, R.mshTestStat d]

theorem testCtrl_mem : R.mshTestCtrl d ∈ testRegs d := by simp
theorem testStat_mem : R.mshTestStat d ∈ testRegs d := by simp

/-! ### MSH_TEST_MODE_WRITE -/

/-- A die may enter or leave test mode: debug is unlocked, and its links are disabled and down (R55). -/
def mayChangeMode : Bool :=
  s.bit F.secStat_DEBUG R.secStat && (linksOf d).all (fun l => !s.bit F.mshLinkCtrl_EN (R.mshLinkCtrl l) && s.linkState l == 0)

theorem mayChangeMode_iff : mayChangeMode s d = true ↔ s.bit F.secStat_DEBUG R.secStat = true ∧
    ∀ l ∈ linksOf d, s.bit F.mshLinkCtrl_EN (R.mshLinkCtrl l) = false ∧ s.linkState l = 0 := by
  simp [mayChangeMode]

/-- A write of the die's MSH_TEST_CTRL leaves what decides on the change. -/
theorem mayChangeMode_setF (hd : d < 8) (f : Field) (v : Nat) : mayChangeMode (s.setF f (R.mshTestCtrl d) v) d = mayChangeMode s d := by
  rw [Bool.eq_iff_iff, mayChangeMode_iff, mayChangeMode_iff, State.bit_setF_other s f _ _ _ _ (secStat_ne_testCtrl d hd)]
  refine and_congr_right fun _ => forall₂_congr fun l hl => ?_
  rw [State.bit_setF_other s f _ _ _ _ (linkCtrl_ne_testCtrl d l), State.linkState,
    State.fld_setF_other s f _ _ _ _ (linkStat_ne_testCtrl d l (lt_ten_of_mem_linksOf d hd l hl)), State.linkState]

/-- The state after the plain field PATTERN of a written word. -/
def withPattern (w : Word) : State := s.setF F.mshTestCtrl_PATTERN (R.mshTestCtrl d) (Fget F.mshTestCtrl_PATTERN w)

@[simp] theorem withPattern_MODE (w : Word) :
    (withPattern s d w).fld F.mshTestCtrl_MODE (R.mshTestCtrl d) = s.fld F.mshTestCtrl_MODE (R.mshTestCtrl d) :=
  State.fld_setF_apart s _ _ _ _ (by decide) (by decide)

@[simp] theorem withPattern_START (w : Word) :
    (withPattern s d w).bit F.mshTestCtrl_START (R.mshTestCtrl d) = s.bit F.mshTestCtrl_START (R.mshTestCtrl d) :=
  bit_setF_apart s _ _ _ _ (by decide) (by decide)

theorem withPattern_onlyRegs (w : Word) : s.onlyRegs (testRegs d) (withPattern s d w) :=
  onlyRegs_setF _ _ (testCtrl_mem d) (onlyRegs_refl _)

/-- A change of MODE is taken, or refused. -/
theorem mshTestModeWrite_change (w : Word) (hd : d < 8) (h3 : Fget F.mshTestCtrl_MODE w ≠ 3)
    (hm : Fget F.mshTestCtrl_MODE w ≠ s.fld F.mshTestCtrl_MODE (R.mshTestCtrl d)) :
    mshTestModeWrite d w s = if mayChangeMode s d then
        (withPattern s d w).setF F.mshTestCtrl_MODE (R.mshTestCtrl d) (Fget F.mshTestCtrl_MODE w)
      else (withPattern s d w).setF F.mshTestStat_REFUSED (R.mshTestStat d) 1 := by
  rw [← mayChangeMode_setF s d hd F.mshTestCtrl_PATTERN (Fget F.mshTestCtrl_PATTERN w)]
  rw [← withPattern_MODE s d w] at hm
  rw [mshTestModeWrite, if_neg (by omega)]
  exact if_neg (not_or.2 ⟨h3, hm⟩)

theorem mshTestModeWrite_next (w : Word) (hlive : s.regLive (R.mshTestCtrl d) = true) :
    exec (.mshTestModeWrite d w) s = .next (mshTestModeWrite d w s) :=
  congrArg Host.Outcome.next (atReg_live s _ (mshTestModeWrite d w) hlive)

/-! ### MSH_TEST_START -/

/-- The results of an earlier pattern are gone; REFUSED stays. -/
theorem mshTestStart_starts (w : Word) (hd : d < 8) (hw : Fbit F.mshTestCtrl_START w = true) (ht : s.inTest d = true)
    (h0 : s.bit F.mshTestCtrl_START (R.mshTestCtrl d) = false) :
    mshTestStart d w s = ((withPattern s d w).setF F.mshTestCtrl_START (R.mshTestCtrl d) 1).wr (R.mshTestStat d)
      ((withPattern s d w).rd (R.mshTestStat d) &&& Fmask F.mshTestStat_REFUSED) := by
  have ht' : (withPattern s d w).inTest d = true := by rw [State.inTest, withPattern_MODE]; exact ht
  have h0' := (withPattern_START s d w).trans h0
  have hgo : (decide (8 ≤ d) || !Fbit F.mshTestCtrl_START w) = false := by simp [hw, hd]
  rw [mshTestStart, hgo]
  exact if_pos (show ((withPattern s d w).inTest d && !(withPattern s d w).bit _ _) = true by rw [ht', h0']; rfl)

theorem mshTestStart_next (w : Word) (hlive : s.regLive (R.mshTestCtrl d) = true) :
    exec (.mshTestStart d w) s = .next (mshTestStart d w s) :=
  congrArg Host.Outcome.next (atReg_live s _ (mshTestStart d w) hlive)

/-! ### MSH_TEST_PATTERN_END -/

/-- The results of a pattern, written into MSH_TEST_STAT one field after the other. -/
def withResults (e b : Nat) : State :=
  (((s.setF F.mshTestStat_DONE (R.mshTestStat d) 1).setF F.mshTestStat_PASS (R.mshTestStat d) (if e = 0 then 1 else 0)).setF
    F.mshTestStat_ERRORS (R.mshTestStat d) (min e 0xFFFF)).setF F.mshTestStat_BUNDLE (R.mshTestStat d) (if e = 0 then 0 else b)

theorem mshTestPatternEnd_ends (e b : Nat) (hd : d < 8) (h1 : s.bit F.mshTestCtrl_START (R.mshTestCtrl d) = true) :
    mshTestPatternEnd d e b s = withResults (s.setF F.mshTestCtrl_START (R.mshTestCtrl d) 0) d e b :=
  if_pos (by rw [h1, decide_eq_true hd]; rfl)

variable (e b : Nat)

theorem withResults_DONE : (withResults s d e b).bit F.mshTestStat_DONE (R.mshTestStat d) = true := by
  rw [withResults, bit_setF_apart _ _ _ _ _ (by decide) (by decide), bit_setF_apart _ _ _ _ _ (by decide) (by decide),
    bit_setF_apart _ _ _ _ _ (by decide) (by decide), bit_setF_same _ _ _ _ (by decide)]
  decide

theorem withResults_PASS : (withResults s d e b).bit F.mshTestStat_PASS (R.mshTestStat d) = decide (e = 0) := by
  rw [withResults, bit_setF_apart _ _ _ _ _ (by decide) (by decide), bit_setF_apart _ _ _ _ _ (by decide) (by decide),
    bit_setF_same _ _ _ _ (by decide)]
  by_cases he : e = 0 <;> simp [he, F.mshTestStat_PASS]

theorem withResults_ERRORS : (withResults s d e b).fld F.mshTestStat_ERRORS (R.mshTestStat d) = min e 65535 := by
  rw [withResults, State.fld_setF_apart _ _ _ _ _ (by decide) (by decide), State.fld_setF_same _ _ _ _ (by decide)]
  exact Nat.mod_eq_of_lt (by simp only [F.mshTestStat_ERRORS]; omega)

theorem withResults_BUNDLE :
    (withResults s d e b).fld F.mshTestStat_BUNDLE (R.mshTestStat d) = if e = 0 then 0 else b % 32 := by
  rw [withResults, State.fld_setF_same _ _ _ _ (by decide), apply_ite (· % 2 ^ F.mshTestStat_BUNDLE.len)]
  rfl

theorem withResults_START :
    (withResults s d e b).bit F.mshTestCtrl_START (R.mshTestCtrl d) = s.bit F.mshTestCtrl_START (R.mshTestCtrl d) := by
  simp only [withResults, State.bit_setF_other _ _ _ _ _ _ (testCtrl_ne_testStat d)]

theorem withResults_onlyRegs {t : State} (h : t.onlyRegs (testRegs d) s) : t.onlyRegs (testRegs d) (withResults s d e b) := by
  have hm := testStat_mem d
  exact onlyRegs_setF _ _ hm (onlyRegs_setF _ _ hm (onlyRegs_setF _ _ hm (onlyRegs_setF _ _ hm h)))

end Sys2Proof.Machine.MeshLaws

namespace Sys2Proof.Machine
open MeshLaws

/-- Settles O13, by what each of the three commands makes of MSH_TEST_CTRL and MSH_TEST_STAT. -/
theorem meshTestMode : Obligations.MeshTestMode := by
  unfold Obligations.MeshTestMode
  refine ⟨fun s d w hd hlive h3 hm => ?_, fun s d w hd hlive hw ht h0 => ?_, fun s d e b hd h1 => ?_⟩
  · refine ⟨_, mshTestModeWrite_next s d w hlive, ?_⟩
    rw [mshTestModeWrite_change s d w hd h3 hm, ← mayChangeMode_iff]
    cases mayChangeMode s d with
    | true =>
      refine ⟨onlyRegs_setF _ _ (testCtrl_mem d) (withPattern_onlyRegs s d w), fun _ => ?_, fun h => absurd rfl h⟩
      rw [if_pos rfl, State.fld_setF_same _ _ _ _ (by decide)]
      exact Nat.mod_eq_of_lt (Fget_lt _ w)
    | false =>
      refine ⟨onlyRegs_setF _ _ (testStat_mem d) (withPattern_onlyRegs s d w), fun h => absurd h (by decide), fun _ => ⟨?_, ?_⟩⟩
      · rw [if_neg (by decide), State.fld_setF_other _ _ _ _ _ _ (testCtrl_ne_testStat d), withPattern_MODE]
      · rw [if_neg (by decide), bit_setF_same _ _ _ _ (by decide)]
        decide
  · refine ⟨_, mshTestStart_next s d w hlive, ?_⟩
    rw [mshTestStart_starts s d w hd hw ht h0]
    refine ⟨?_, ?_, ?_, onlyRegs_wr _ (testStat_mem d) (onlyRegs_setF _ _ (testCtrl_mem d) (withPattern_onlyRegs s d w))⟩
    · rw [State.bit, State.rd_wr_other _ _ _ _ (testCtrl_ne_testStat d), ← State.bit, bit_setF_same _ _ _ _ (by decide)]
      decide
    · rw [State.bit, State.rd_wr_same, Fget_and_Fmask_apart _ _ _ (by decide) (by decide)]
      rfl
    · rw [State.fld, State.rd_wr_same, Fget_and_Fmask_apart _ _ _ (by decide) (by decide)]
  · refine ⟨_, congrArg Host.Outcome.next (mshTestPatternEnd_ends s d e b hd h1), ?_, withResults_DONE _ d e b,
      withResults_PASS _ d e b, withResults_ERRORS _ d e b, withResults_BUNDLE _ d e b,
      withResults_onlyRegs _ d e b (onlyRegs_setF _ _ (testCtrl_mem d) (onlyRegs_refl _))⟩
    rw [withResults_START, bit_setF_same _ _ _ _ (by decide)]
    decide

end Sys2Proof.Machine
end

section
/-!
PROOF. A link fails: what its replay buffer held is answered, and the failure is reported (R42, R46, R47).
-/
namespace Sys2Proof.Machine.MeshLaws

variable (s : State) (l : Nat)

/-- The link shows its failure, and trains no more. -/
def markFailed : State :=
  clearReplay l (trainOff l ((s.setF F.mshLinkStat_STATE (R.mshLinkStat l) 3).setF F.mshLinkCtrl_RETRAIN (R.mshLinkCtrl l) 0))

/-- One flit of the replay buffer: a picot is sent again over the detour, and what another carries is lost. -/
def loseFlit (p : Nat × Flit) (s : State) : State :=
  if p.2.vc = .picot then s.onMesh (fun m => { m with flits := SMap.modify m.flits p.1 (fun f => { f with link := none, detour := true }) })
  else (s.onMesh (fun m => { m with flits := SMap.del m.flits p.1 })).loseCargo p.2.cargo

/-- The flits that a link's replay buffers hold. -/
def heldBy : List (Nat × Flit) := s.mesh.flits.filter (fun p => p.2.link = some l)

theorem linkFailed_eq :
    s.linkFailed l = (each (heldBy s l) loseFlit (markFailed s l)).ras0 0x0A 4 l 0xFFFF (linkEnds l).1 := rfl

theorem traffic_loseFlit (p : Nat × Flit) : Traffic s (loseFlit p s) :=
  traffic_ite (traffic_onMesh s _ rfl rfl rfl) ((traffic_onMesh s _ rfl rfl rfl).trans (traffic_loseCargo _ _))

theorem traffic_loseHeld (ps : List (Nat × Flit)) : Traffic s (each ps loseFlit s) := traffic_each (fun p t => traffic_loseFlit t p) ps s

/-- Beside the registers of the Winder a failed link's registers are as the failure has marked them. -/
theorem linkFailed_fld (f : Field) {o : Nat} (ho : o < R.wndRasCnt) : (s.linkFailed l).fld f o = (markFailed s l).fld f o := by
  rw [linkFailed_eq, (reports_ras0 _ _ _ _ _ _).fld f ho, (traffic_loseHeld _ _).fld]

theorem linkFailed_bit (f : Field) {o : Nat} (ho : o < R.wndRasCnt) : (s.linkFailed l).bit f o = (markFailed s l).bit f o := by
  rw [bit_eq_fld, bit_eq_fld, linkFailed_fld s l f ho]

theorem linkFailed_linkState (hl : l < 10) : (s.linkFailed l).linkState l = 3 := by
  rw [State.linkState, linkFailed_fld s l _ (linkStat_lt_wndRasCnt hl)]
  change (markFailed s l).linkState l = 3
  simp [markFailed]

theorem linkFailed_RETRAIN (hl : l < 10) : (s.linkFailed l).bit F.mshLinkCtrl_RETRAIN (R.mshLinkCtrl l) = false := by
  rw [linkFailed_bit s l _ (linkCtrl_lt_wndRasCnt hl)]
  simp [markFailed]

theorem linkFailed_BUNDLES (hl : l < 10) :
    (s.linkFailed l).fld F.mshLinkStat_BUNDLES (R.mshLinkStat l) = s.fld F.mshLinkStat_BUNDLES (R.mshLinkStat l) := by
  rw [linkFailed_fld s l _ (linkStat_lt_wndRasCnt hl)]
  simp [markFailed, fld_linkStat_setF_STATE s _ l 3 (by decide : F.mshLinkStat_BUNDLES.lo + F.mshLinkStat_BUNDLES.len ≤ 32) (by decide)]

theorem linkFailed_training : l ∉ (s.linkFailed l).mesh.training := by
  rw [linkFailed_eq, (reports_ras0 _ _ _ _ _ _).mesh, (traffic_loseHeld _ _).training]
  exact not_mem_training_trainOff _ l

theorem linkFailed_wires : (s.linkFailed l).mesh.wires = s.mesh.wires := by
  rw [linkFailed_eq, (reports_ras0 _ _ _ _ _ _).mesh, (traffic_loseHeld _ _).wires]
  rfl

theorem linkFailed_cells : (s.linkFailed l).mem.cells = s.mem.cells := by
  rw [linkFailed_eq, (reports_ras0 _ _ _ _ _ _).mem, (traffic_loseHeld _ _).cells]
  rfl

/-! ### Transactions that a failed link has held -/

/-- A transaction of `s` is in `t` answered with STAT_LINK_FAILED, or has the status that it had. -/
def KeptOrFailed (s t : State) : Prop :=
  ∀ i, ∃ g : Txn → Txn, t.txn? i = (s.txn? i).map g ∧ ∀ x, (g x).status = x.status ∨ (g x).status = 0x40

variable {s} in
theorem KeptOrFailed.of_eq {t : State} (h : t.txns = s.txns) : KeptOrFailed s t :=
  fun i => ⟨id, by rw [State.txn?, h, Option.map_id_fun, State.txn?, id], fun _ => .inl rfl⟩

variable {s} in
theorem KeptOrFailed.trans {t u : State} (h : KeptOrFailed s t) (h' : KeptOrFailed t u) : KeptOrFailed s u := by
  intro i
  obtain ⟨g, hg, hst⟩ := h i
  obtain ⟨g', hg', hst'⟩ := h' i
  refine ⟨g' ∘ g, by rw [hg', hg, Option.map_map], fun x => ?_⟩
  rcases hst' (g x) with e | e
  · exact (hst x).imp e.trans e.trans
  · exact .inr e

theorem keptOrFailed_onTxn (j : Nat) (f : Txn → Txn) (hf : ∀ x, (f x).status = x.status ∨ (f x).status = 0x40) :
    KeptOrFailed s (s.onTxn j f) := by
  intro i
  by_cases hij : i = j
  · exact ⟨f, by rw [State.txn_onTxn, if_pos hij], hf⟩
  · exact ⟨id, by rw [State.txn_onTxn, if_neg hij, Option.map_id_fun, id], fun _ => .inl rfl⟩

theorem keptOrFailed_answerNow (j : Nat) : KeptOrFailed s (s.answerNow j 0x40) := keptOrFailed_onTxn s j _ (fun _ => .inr rfl)

/-- A message that sets out touches no transaction. -/
theorem sendFlit_msg_txns (vc : Vc) (src dst : Nat) (frm stop : Stop) (m : Nat) :
    (s.sendFlit vc src dst frm stop (.msg m)).txns = s.txns := by
  unfold State.sendFlit
  split <;> rfl

theorem keptOrFailed_loseCargo (c : Cargo) : KeptOrFailed s (s.loseCargo c) := by
  cases c with
  | txn i => exact keptOrFailed_answerNow s i
  | ctl r => exact .of_eq rfl
  | msg m =>
    have howned : ∀ i, KeptOrFailed s (((s.delMsg m).onTxn i (fun t => { t with waitAns := false })).answerNow i 0x40) := fun i =>
      (KeptOrFailed.of_eq (t := s.delMsg m) rfl).trans
        ((keptOrFailed_onTxn _ i (fun t => { t with waitAns := false }) (fun _ => .inl rfl)).trans (keptOrFailed_answerNow _ i))
    unfold State.loseCargo
    dsimp only
    cases s.msg? m with
    | none => exact .of_eq rfl
    | some x =>
      obtain ⟨kind, src, dst, frm, stop⟩ := x
      cases kind with
      | ownRequest i | ownGrant i => exact howned i
      | evicted =>
        dsimp only
        split
        · exact .of_eq (sendFlit_msg_txns s _ _ _ _ _ _)
        · exact .of_eq rfl
      | _ => exact .of_eq rfl

theorem keptOrFailed_loseFlit (p : Nat × Flit) : KeptOrFailed s (loseFlit p s) := by
  unfold loseFlit
  split
  · exact .of_eq rfl
  · exact (KeptOrFailed.of_eq (t := s.onMesh _) rfl).trans (keptOrFailed_loseCargo _ _)

variable {s} in
theorem KeptOrFailed.isSome {t : State} (h : KeptOrFailed s t) {i : Nat} (hi : (s.txn? i).isSome) : (t.txn? i).isSome := by
  obtain ⟨g, hg, -⟩ := h i
  rw [hg, Option.isSome_map]
  exact hi

variable {s} in
theorem KeptOrFailed.failed {t : State} (h : KeptOrFailed s t) {i : Nat} (hi : (s.txn? i).map (·.status) = some 0x40) :
    (t.txn? i).map (·.status) = some 0x40 := by
  obtain ⟨g, hg, hst⟩ := h i
  obtain ⟨x, hx, hxs⟩ := Option.map_eq_some_iff.1 hi
  rw [hg, hx, Option.map_some, Option.map_some]
  rcases hst x with e | e
  · rw [e, hxs]
  · rw [e]

/-- A flit that carries a transaction loses it with STAT_LINK_FAILED. -/
theorem loseFlit_txn (p : Nat × Flit) (i : Nat) (hvc : p.2.vc ≠ .picot) (hc : p.2.cargo = .txn i) (hi : (s.txn? i).isSome) :
    ((loseFlit p s).txn? i).map (·.status) = some 0x40 := by
  obtain ⟨x, hx⟩ := Option.isSome_iff_exists.1 hi
  have hx' : (s.onMesh (fun m => { m with flits := SMap.del m.flits p.1 })).txn? i = some x := hx
  rw [loseFlit, if_neg hvc, hc]
  simp [State.loseCargo, State.answerNow, State.txn_onTxn, hx']

/-- Of a list of flits every one that carries a transaction loses it so, whatever the others do. -/
theorem loseHeld_txn (ps : List (Nat × Flit)) (p : Nat × Flit) (i : Nat) (hp : p ∈ ps) (hvc : p.2.vc ≠ .picot)
    (hc : p.2.cargo = .txn i) (hi : (s.txn? i).isSome) : ((each ps loseFlit s).txn? i).map (·.status) = some 0x40 := by
  induction ps generalizing s with
  | nil => exact absurd hp List.not_mem_nil
  | cons q ps ih =>
    rcases List.mem_cons.1 hp with rfl | hp
    · exact each_keeps ps (P := fun t => (t.txn? i).map (·.status) = some 0x40) (fun q _ t ht => (keptOrFailed_loseFlit t q).failed ht)
        _ (loseFlit_txn s p i hvc hc hi)
    · exact ih (loseFlit q s) hp ((keptOrFailed_loseFlit s q).isSome hi)

theorem linkFailed_txn (p : Nat × Flit) (i : Nat) (hp : p ∈ s.mesh.flits) (hlink : p.2.link = some l) (hvc : p.2.vc ≠ .picot)
    (hc : p.2.cargo = .txn i) (hi : (s.txn? i).isSome) : ((s.linkFailed l).txn? i).map (·.status) = some 0x40 := by
  rw [linkFailed_eq, State.txn?, (reports_ras0 _ _ _ _ _ _).txns]
  exact loseHeld_txn (markFailed s l) _ p i (List.mem_filter.2 ⟨hp, decide_eq_true hlink⟩) hvc hc hi

end Sys2Proof.Machine.MeshLaws
end

section
/-!
PROOF. A link is enabled, trains, comes up, retrains and is disabled (R41 to R43, R48, R51 to R53).
-/
namespace Sys2Proof.Machine.MeshLaws

variable (s : State) (l : Nat)

/-! ### LINK_ENABLE -/

/-- EN reads 1 and the link trains. -/
def enabled (w : Word) : State :=
  trainOn l ((s.setF F.mshLinkCtrl_SWAP_THRESH (R.mshLinkCtrl l) (Fget F.mshLinkCtrl_SWAP_THRESH w)).setF F.mshLinkCtrl_EN (R.mshLinkCtrl l) 1)

theorem linkEnable_off (w : Word) (hl : l < 10) (hw : Fbit F.mshLinkCtrl_EN w = true) (h0 : s.bit F.mshLinkCtrl_EN (R.mshLinkCtrl l) = false) :
    linkEnable l w s = if s.linkState l = 3 then enabled s l w else (enabled s l w).setF F.mshLinkStat_STATE (R.mshLinkStat l) 1 := by
  have hgo : (decide (10 ≤ l) || !Fbit F.mshLinkCtrl_EN w) = false := by simp [hw, hl]
  rw [linkEnable, hgo, h0]
  rfl

theorem linkEnable_next (w : Word) (hlive : s.regLive (R.mshLinkCtrl l) = true) : exec (.linkEnable l w) s = .next (linkEnable l w s) :=
  congrArg Host.Outcome.next (atReg_live s _ (linkEnable l w) hlive)

theorem enabled_EN (w : Word) : (enabled s l w).bit F.mshLinkCtrl_EN (R.mshLinkCtrl l) = true := by simp [enabled]

theorem enabled_keepsRegsBut (w : Word) : s.keepsRegsBut [R.mshLinkCtrl l, R.mshLinkStat l] (enabled s l w) :=
  keepsRegsBut_onMesh _ (keepsRegsBut_setF _ _ (List.mem_cons_self ..) (keepsRegsBut_setF _ _ (List.mem_cons_self ..) (keepsRegsBut_refl _)))

/-! ### LINK_TRAINED and LINK_TRAIN_TIMEOUT -/

/-- The link is up, with what the training has measured. -/
def trained (d : Nat) (c : LinkScan) : State :=
  trainOff l (((s.putScan l c).setF F.mshLinkDelay_DELAY (R.mshLinkDelay l) d).setF F.mshLinkStat_STATE (R.mshLinkStat l) 2)

theorem linkTrained_up (d : Nat) (c : LinkScan) (hl : l < 10) (hen : s.bit F.mshLinkCtrl_EN (R.mshLinkCtrl l) = true) (h1 : s.linkState l = 1)
    (hw : 20 ≤ (s.putScan l c).bundlesOn l) (hlo : 48 ≤ d) (hhi : d ≤ 56) (ht1 : s.inTest (linkEnds l).1 = false)
    (ht2 : s.inTest (linkEnds l).2 = false) : linkTrained l d c s = trained s l d c :=
  if_pos (by simp [hl, hen, h1, hw, hlo, hhi, ht1, ht2])

/-- A field of MSH_LINK_STAT beside STATE shows what the scan has left. -/
theorem trained_fld (d : Nat) (c : LinkScan) (f : Field) (hf : f.lo + f.len ≤ 32)
    (h : F.mshLinkStat_STATE.lo + F.mshLinkStat_STATE.len ≤ f.lo) :
    (trained s l d c).fld f (R.mshLinkStat l) = (s.putScan l c).fld f (R.mshLinkStat l) := by
  rw [trained, fld_trainOff, fld_linkStat_setF_STATE _ f l 2 hf h, fld_linkStat_setF_linkDelay]

theorem trained_wires (d : Nat) (c : LinkScan) : (trained s l d c).mesh.wires = (s.putScan l c).mesh.wires := by
  rw [trained, wires_trainOff, setF_mesh, setF_mesh]

theorem trained_DELAY (d : Nat) (c : LinkScan) (hhi : d ≤ 56) : (trained s l d c).fld F.mshLinkDelay_DELAY (R.mshLinkDelay l) = d := by
  rw [trained, fld_trainOff, State.fld_setF_other _ _ _ _ _ _ (linkDelay_ne_linkStat l l), State.fld_setF_same _ _ _ _ (by decide)]
  exact Nat.mod_eq_of_lt (hhi.trans_lt (by decide))

theorem trained_keepsRegsBut (d : Nat) (c : LinkScan) : s.keepsRegsBut [R.mshLinkStat l, R.mshLinkDelay l] (trained s l d c) :=
  keepsRegsBut_onMesh _ (keepsRegsBut_setF _ _ (List.mem_cons_self ..)
    (keepsRegsBut_setF _ _ (List.mem_cons_of_mem _ (List.mem_cons_self ..)) (putScan_keepsRegsBut s l c (List.mem_cons_self ..))))

theorem linkTrainTimeout_fails (hl : l < 10) (hp : s.clk.pwrok = true) (hen : s.bit F.mshLinkCtrl_EN (R.mshLinkCtrl l) = true)
    (h1 : s.linkState l = 1) : exec (.linkTrainTimeout l) s = .next (s.linkFailed l) := by
  have hpow : s.powered (linkTrainTimeout l) = linkTrainTimeout l s := if_pos hp
  have hfail : linkTrainTimeout l s = s.linkFailed l := if_pos (by simp [hl, hen, h1])
  exact congrArg Host.Outcome.next (hpow.trans hfail)

/-! ### LINK_DISABLE -/

/-- A flit on a link that moves arrives at its far end, and nothing of memory changes. -/
theorem moveFlit_onLink_mem (i : Nat) (f : Flit) (k : Nat) (h : f.link = some k) : (s.moveFlit i f).mem = s.mem := by
  have hhop : s.hopOf f = .arrive (farSeat k f.die f.row f.col).1 (farSeat k f.die f.row f.col).2.1 (farSeat k f.die f.row f.col).2.2.1
      (farSeat k f.die f.row f.col).2.2.2 := by simp only [State.hopOf, h]
  simp only [State.moveFlit, hhop, State.onMesh_mem]

/-- EN reads 0 and the link trains no more; its flits have still to arrive. -/
def closing (w : Word) : State :=
  clearReplay l (trainOff l (((s.setF F.mshLinkCtrl_EN (R.mshLinkCtrl l) 0).setF F.mshLinkCtrl_SWAP_THRESH (R.mshLinkCtrl l)
    (Fget F.mshLinkCtrl_SWAP_THRESH w)).setF F.mshLinkCtrl_RETRAIN (R.mshLinkCtrl l) 0))

/-- The flits of a link's replay buffers, in the order in which they came. -/
def heldInOrder : List (Nat × Flit) := sortBy (fun a b => decide (a.2.since < b.2.since)) (heldBy s l)

/-- The link is disabled, its flits have arrived, and the routes avoid it. -/
def emptied (w : Word) : State := (each (heldInOrder s l) (fun p t => t.moveFlit p.1 p.2) (closing s l w)).recompute

theorem linkDisable_on (w : Word) (hl : l < 10) (hw : Fbit F.mshLinkCtrl_EN w = false) (h1 : s.bit F.mshLinkCtrl_EN (R.mshLinkCtrl l) = true) :
    linkDisable l w s =
      if (emptied s l w).linkState l = 3 then emptied s l w else (emptied s l w).setF F.mshLinkStat_STATE (R.mshLinkStat l) 0 := by
  have hgo : (decide (10 ≤ l) || Fbit F.mshLinkCtrl_EN w || !s.bit F.mshLinkCtrl_EN (R.mshLinkCtrl l)) = false := by simp [hw, hl, h1]
  rw [linkDisable, hgo]
  exact if_neg Bool.false_ne_true

theorem linkDisable_next (w : Word) (hlive : s.regLive (R.mshLinkCtrl l) = true) : exec (.linkDisable l w) s = .next (linkDisable l w s) :=
  congrArg Host.Outcome.next (atReg_live s _ (linkDisable l w) hlive)

theorem linkReg_not_route {o : Nat} (ho : o < R.mshRoute 0) : o ∉ (List.range 8).map R.mshRoute := by
  intro h
  obtain ⟨d, -, rfl⟩ := List.mem_map.1 h
  unfold R.mshRoute at ho
  omega

/-- The registers of the links are as the disabling has left them. -/
theorem emptied_fld (w : Word) (f : Field) {o : Nat} (ho : o < R.mshRoute 0) : (emptied s l w).fld f o = (closing s l w).fld f o := by
  have harrived := traffic_each (fun (p : Nat × Flit) t => traffic_moveFlit t p.1 p.2) (heldInOrder s l) (closing s l w)
  rw [emptied, fld_of_keepsRegsBut (recompute_onlyRegs _).2 f (linkReg_not_route ho), harrived.fld]

theorem emptied_linkState (w : Word) (hl : l < 10) : (emptied s l w).linkState l = s.linkState l := by
  rw [State.linkState, emptied_fld s l w _ (by unfold R.mshLinkStat R.mshRoute; omega)]
  change (closing s l w).linkState l = _
  simp [closing]

theorem emptied_EN (w : Word) (hl : l < 10) : (emptied s l w).bit F.mshLinkCtrl_EN (R.mshLinkCtrl l) = false := by
  rw [bit_eq_fld, emptied_fld s l w _ (by unfold R.mshLinkCtrl R.mshRoute; omega), ← bit_eq_fld]
  simp [closing]

theorem emptied_mem (w : Word) : (emptied s l w).mem = s.mem := by
  refine (mem_of_sameButRegs (recompute_onlyRegs _).1).trans ?_
  refine each_keeps (P := fun t => t.mem = s.mem) _ (fun p hp t ht => ?_) (closing s l w) rfl
  have hlink : p.2.link = some l := of_decide_eq_true (List.mem_filter.1 (mem_of_mem_sortBy _ p _ hp)).2
  rw [moveFlit_onLink_mem t p.1 p.2 l hlink, ht]

/-! ### LINK_RETRAIN_REQUEST and MSH_LINK_ERR_CLEAR -/

/-- A link that was up retrains, with the written threshold. -/
def retraining (w : Word) : State :=
  clearReplay l (trainOn l ((s.setF F.mshLinkCtrl_SWAP_THRESH (R.mshLinkCtrl l) (Fget F.mshLinkCtrl_SWAP_THRESH w)).setF
    F.mshLinkCtrl_RETRAIN (R.mshLinkCtrl l) 1))

theorem linkRetrainRequest_up (w : Word) (hl : l < 10) (hlive : s.regLive (R.mshLinkCtrl l) = true)
    (hw : Fbit F.mshLinkCtrl_RETRAIN w = true) (h2 : s.linkState l = 2) :
    exec (.linkRetrainRequest l w) s = .next (retraining s l w) := by
  have hgo : (decide (10 ≤ l) || !Fbit F.mshLinkCtrl_RETRAIN w) = false := by simp [hw, hl]
  refine congrArg Host.Outcome.next ((atReg_live s _ (linkRetrainRequest l w) hlive).trans ?_)
  rw [linkRetrainRequest, hgo]
  exact retrainStart_up _ ((linkState_setF_linkCtrl s _ l _ l).trans h2)

theorem retraining_keepsRegsBut (w : Word) : s.keepsRegsBut [R.mshLinkCtrl l] (retraining s l w) :=
  keepsRegsBut_onMesh _ (keepsRegsBut_onMesh _
    (keepsRegsBut_setF _ _ (List.mem_cons_self ..) (keepsRegsBut_setF _ _ (List.mem_cons_self ..) (keepsRegsBut_refl _))))

theorem mshLinkErrClear_next (hl : l < 10) (hlive : s.regLive (R.mshLinkErr l) = true) :
    exec (.mshLinkErrClear l) s = .next (s.wr (R.mshLinkErr l) 0) :=
  congrArg Host.Outcome.next ((atReg_live s _ (mshLinkErrClear l) hlive).trans (if_pos hl))

end Sys2Proof.Machine.MeshLaws

namespace Sys2Proof.Machine
open MeshLaws

/-- Settles O11, by the state that each of the six commands makes of its link; what a failed link answers is followed through the flits
of its replay buffer, one after the other. -/
theorem linkTrainingAndFailure : Obligations.LinkTrainingAndFailure := by
  unfold Obligations.LinkTrainingAndFailure
  refine ⟨fun s l w hl hlive hw h0 => ?_, fun s l d c hl hen h1 hwidth hlo hhi ht1 ht2 => ?_, fun s l hl hp hen h1 => ?_,
    fun s l w hl hlive hw h1 => ?_, fun s l w hl hlive hw h2 => ?_, fun s l hl hlive => ?_⟩
  · refine ⟨_, linkEnable_next s l w hlive, ?_⟩
    rw [linkEnable_off s l w hl hw h0]
    by_cases h3 : s.linkState l = 3
    · simp only [if_pos h3]
      exact ⟨enabled_EN s l w, mem_training_trainOn _ l, by simpa [enabled] using h3, enabled_keepsRegsBut s l w, rfl⟩
    · simp only [if_neg h3]
      exact ⟨by rw [bit_linkCtrl_setF_linkStat, enabled_EN], mem_training_trainOn _ l, linkState_setF_STATE _ l 1,
        keepsRegsBut_setF _ _ (List.mem_cons_of_mem _ (List.mem_cons_self ..)) (enabled_keepsRegsBut s l w), rfl⟩
  · refine ⟨_, congrArg Host.Outcome.next (linkTrained_up s l d c hl hen h1 hwidth hlo hhi ht1 ht2), ?_, not_mem_training_trainOff _ l,
      ?_, ?_, ?_, ?_, fun dir b => ?_, trained_DELAY s l d c hhi, trained_keepsRegsBut s l d c⟩
    · simp [trained]
    · rw [trained_fld s l d c _ (by decide) (by decide), putScan_BUNDLES, bundlesOn_congr _ (trained_wires s l d c)]
    · rw [trained_fld s l d c _ (by decide) (by decide), putScan_SPARES_LO, sparesIn_congr _ (trained_wires s l d c)]
    · rw [trained_fld s l d c _ (by decide) (by decide), putScan_SPARES_HI, sparesIn_congr _ (trained_wires s l d c)]
    · rw [bundlesOn_congr _ (trained_wires s l d c)]
      exact putScan_bundlesOn_le s l c
    · rw [wiresOut_congr _ (trained_wires s l d c)]
      exact putScan_wiresOut s l c l dir b
  · exact ⟨_, linkTrainTimeout_fails s l hl hp hen h1, linkFailed_linkState s l hl, linkFailed_training s l, linkFailed_cells s l,
      fun p hp hlink hvc i hc hi => linkFailed_txn s l p i hp hlink hvc hc hi⟩
  · refine ⟨_, linkDisable_next s l w hlive, ?_⟩
    rw [linkDisable_on s l w hl hw h1, emptied_linkState s l w hl]
    by_cases h3 : s.linkState l = 3
    · simp only [if_pos h3]
      exact ⟨emptied_EN s l w hl, (emptied_linkState s l w hl).trans h3, emptied_mem s l w⟩
    · simp only [if_neg h3]
      exact ⟨by rw [bit_linkCtrl_setF_linkStat, emptied_EN s l w hl], linkState_setF_STATE _ l 0, (setF_mem _ _ _ _).trans (emptied_mem s l w)⟩
  · refine ⟨_, linkRetrainRequest_up s l w hl hlive hw h2, ?_, mem_training_trainOn _ l, ?_, retraining_keepsRegsBut s l w⟩
    · simp [retraining]
    · simpa [retraining] using h2
  · exact ⟨_, mshLinkErrClear_next s l hl hlive, State.rd_wr_same _ _ _, onlyRegs_wr _ (List.mem_cons_self ..) (onlyRegs_refl _)⟩

end Sys2Proof.Machine
end

section
/-!
PROOF. CRC errors, thresholds and the end of a retraining (R41, R42).
-/
namespace Sys2Proof.Machine.MeshLaws

variable (s : State) (l : Nat)

/-! ### LINK_CRC_ERROR_REPLAY and BUNDLE_ERROR_THRESHOLD -/

/-- A CRC error of a bundle is counted, and it was the `n`-th failure of its slot group. -/
def crcCounted (b key n : Nat) : State :=
  (s.bump F.mshLinkErr_CRC_ERR (R.mshLinkErr l) 1).onMesh (fun m => { m with
    groupFails := SMap.put m.groupFails key n, bundleErrs := SMap.upd m.bundleErrs (32 * l + b) 0 (· + 1) })

/-- A replay that has failed is counted. -/
def replayFailed : State := s.bump F.mshLinkErr_REPLAY_FAIL (R.mshLinkErr l) 1

@[simp] theorem crcCounted_groupFails (b key n : Nat) : SMap.getD (crcCounted s l b key n).mesh.groupFails key 0 = n := by
  simp [crcCounted, SMap.getD]

theorem crcCounted_linkState (b key n : Nat) : (crcCounted s l b key n).linkState l = s.linkState l := by simp [crcCounted]

theorem crcCounted_CRC_ERR (b key n : Nat) : (crcCounted s l b key n).fld F.mshLinkErr_CRC_ERR (R.mshLinkErr l) =
    min (2 ^ F.mshLinkErr_CRC_ERR.len - 1) (s.fld F.mshLinkErr_CRC_ERR (R.mshLinkErr l) + 1) := by
  rw [crcCounted, fld_onMesh, State.fld_bump_same _ _ _ _ (by decide)]

theorem crcCounted_REPLAY_FAIL (b key n : Nat) :
    (crcCounted s l b key n).fld F.mshLinkErr_REPLAY_FAIL (R.mshLinkErr l) = s.fld F.mshLinkErr_REPLAY_FAIL (R.mshLinkErr l) := by
  rw [crcCounted, fld_onMesh, State.bump, State.fld_setF_apart _ _ _ _ _ (by decide) (by decide)]

theorem replayFailed_CRC_ERR :
    (replayFailed s l).fld F.mshLinkErr_CRC_ERR (R.mshLinkErr l) = s.fld F.mshLinkErr_CRC_ERR (R.mshLinkErr l) :=
  State.fld_setF_apart s _ _ _ _ (by decide) (by decide)

theorem replayFailed_REPLAY_FAIL : (replayFailed s l).fld F.mshLinkErr_REPLAY_FAIL (R.mshLinkErr l) =
    min (2 ^ F.mshLinkErr_REPLAY_FAIL.len - 1) (s.fld F.mshLinkErr_REPLAY_FAIL (R.mshLinkErr l) + 1) :=
  State.fld_bump_same s _ _ 1 (by decide)

/-- The fourth failure of a slot group starts a retraining (R41). -/
theorem linkCrcErrorReplay_counts (low again : Bool) (g b key n : Nat) (hl : l < 10) (hg : g < 64) (hb : b < 25) (h2 : s.linkState l = 2)
    (ht : l ∉ s.mesh.training) (hkey : key = 64 * (2 * l + if low then 0 else 1) + g)
    (hn : n = if again then SMap.getD s.mesh.groupFails key 0 + 1 else 1) :
    linkCrcErrorReplay l low g b again s =
      if n < 4 then crcCounted s l b key n else retrainStart l (replayFailed (crcCounted s l b key n) l) := by
  have hgo : (decide (10 ≤ l) || decide (64 ≤ g) || decide (25 ≤ b) || s.linkState l != 2 || s.mesh.training.contains l) = false := by
    simp [hl, hg, hb, h2, ht]
  subst hkey hn
  rw [linkCrcErrorReplay, hgo, if_neg (by decide)]
  change (if SMap.getD (crcCounted s l b _ _).mesh.groupFails _ 0 < 4 then _ else _) = _
  rw [crcCounted_groupFails]
  rfl

theorem bundleErrorThreshold_retrains (b : Nat) (hl : l < 10) (hb : b < 25)
    (h0 : s.fld F.mshLinkCtrl_SWAP_THRESH (R.mshLinkCtrl l) ≠ 0)
    (he : s.fld F.mshLinkCtrl_SWAP_THRESH (R.mshLinkCtrl l) ≤ SMap.getD s.mesh.bundleErrs (32 * l + b) 0) :
    bundleErrorThreshold l b s = retrainStart l s :=
  if_pos (by simp [hl, hb, h0, he])

/-- A link that was up retrains, in STATE 2. -/
theorem retrainStart_spec (h2 : s.linkState l = 2) : l ∈ (retrainStart l s).mesh.training ∧
    (retrainStart l s).bit F.mshLinkCtrl_RETRAIN (R.mshLinkCtrl l) = true ∧ (retrainStart l s).linkState l = 2 := by
  rw [retrainStart_up s h2]
  exact ⟨mem_training_trainOn _ l, by simp, by simpa using h2⟩

theorem retrainStart_mem : (retrainStart l s).mem = s.mem := by
  unfold retrainStart
  split <;> rfl

theorem retrainStart_fld_linkErr (h2 : s.linkState l = 2) (f : Field) :
    (retrainStart l s).fld f (R.mshLinkErr l) = s.fld f (R.mshLinkErr l) := by
  simp [retrainStart_up s h2]

/-! ### LINK_RETRAIN_END -/

/-- The link is in service again, at the width that the scan has left. -/
def resumed (c : LinkScan) : State :=
  clearReplay l (trainOff l ((s.putScan l c).setF F.mshLinkCtrl_RETRAIN (R.mshLinkCtrl l) 0))

theorem linkRetrainEnd_training (c : LinkScan) (hl : l < 10) (ht : l ∈ s.mesh.training) (h2 : s.linkState l = 2) :
    linkRetrainEnd l c s = if (s.putScan l c).bundlesOn l < 20 then (s.putScan l c).linkFailed l
      else if decide ((s.putScan l c).bundlesOn l < s.bundlesOn l) then (resumed s l c).ras0 0x09 4 l 0xFFFF (linkEnds l).1
      else resumed s l c :=
  if_pos (by simp [hl, ht, h2])

/-- What the end of a retraining shows of its link, with the scan's wires: the width, and that no bundle and no wire comes back. -/
theorem scan_shown (c : LinkScan) (t : State) (hw : t.mesh.wires = (s.putScan l c).mesh.wires)
    (hb : t.fld F.mshLinkStat_BUNDLES (R.mshLinkStat l) = (s.putScan l c).fld F.mshLinkStat_BUNDLES (R.mshLinkStat l)) :
    t.fld F.mshLinkStat_BUNDLES (R.mshLinkStat l) = t.bundlesOn l ∧ t.bundlesOn l ≤ s.bundlesOn l ∧
      ∀ dir b, s.wiresOut l dir b ≤ t.wiresOut l dir b := by
  refine ⟨?_, ?_, fun dir b => ?_⟩
  · rw [hb, putScan_BUNDLES, bundlesOn_congr _ hw]
  · rw [bundlesOn_congr _ hw]
    exact putScan_bundlesOn_le s l c
  · rw [wiresOut_congr _ hw]
    exact putScan_wiresOut s l c l dir b

/-- A report leaves a link that is in service as it is. -/
theorem resumed_spec (c : LinkScan) (t : State) (hl : l < 10) (h2 : s.linkState l = 2) (h : Reports (resumed s l c) t) :
    l ∉ t.mesh.training ∧ t.linkState l = 2 ∧ t.bit F.mshLinkCtrl_RETRAIN (R.mshLinkCtrl l) = false ∧
      t.mesh.wires = (s.putScan l c).mesh.wires ∧
      t.fld F.mshLinkStat_BUNDLES (R.mshLinkStat l) = (s.putScan l c).fld F.mshLinkStat_BUNDLES (R.mshLinkStat l) := by
  refine ⟨?_, ?_, ?_, ?_, ?_⟩
  · rw [h.mesh, resumed, training_clearReplay]
    exact not_mem_training_trainOff _ l
  · refine (h.fld _ (linkStat_lt_wndRasCnt hl)).trans ((?_ : (resumed s l c).linkState l = 2))
    simp [resumed, h2]
  · rw [bit_eq_fld, h.fld _ (linkCtrl_lt_wndRasCnt hl), ← bit_eq_fld]
    simp [resumed]
  · rw [h.mesh, resumed, wires_clearReplay, wires_trainOff, setF_mesh]
  · rw [h.fld _ (linkStat_lt_wndRasCnt hl)]
    simp [resumed]

end Sys2Proof.Machine.MeshLaws
end

section
/-!
PROOF. The move of a flit (R33 to R37).
-/
namespace Sys2Proof.Machine.MeshLaws

variable (s : State)

/-! ### A flit's next move depends on registers alone -/

section congr

variable {s} {t : State} (h : ∀ o, t.rd o = s.rd o)

include h

theorem edge_congr (d k : Nat) : t.edge d k = s.edge d k := by rw [State.edge, h, State.edge]

theorem canReach_congr (d k : Nat) : t.canReach d k = s.canReach d k := by
  have hstate : ∀ l, t.linkState l = s.linkState l := fun l => by rw [State.linkState, State.fld, h, State.linkState, State.fld]
  simp only [State.canReach, edge_congr h, hstate]

theorem hopOf_congr (f : Flit) : t.hopOf f = s.hopOf f := by
  have haims : t.aims f.die f.dst f.stop = s.aims f.die f.dst f.stop := by rw [State.aims, edge_congr h, State.aims]
  rw [State.hopOf, haims, canReach_congr h, edge_congr h, State.hopOf]

theorem onRoute_congr (f : Flit) : t.onRoute f = s.onRoute f := by rw [State.onRoute, edge_congr h, State.onRoute]

end congr

/-! ### Where a flit lies after its move -/

theorem moveFlit_router (i : Nat) (f : Flit) (r c p : Nat) (h : s.hopOf f = .router r c p) :
    SMap.get? (s.moveFlit i f).mesh.flits i = some { s.onRoute f with row := r, col := c, port := p, since := s.mesh.clock } := by
  simp [State.moveFlit, h]

theorem moveFlit_enter (i : Nat) (f : Flit) (l : Nat) (h : s.hopOf f = .enter l) :
    SMap.get? (s.moveFlit i f).mesh.flits i =
      some { s.onRoute f with link := some l, slot := SMap.getD s.mesh.slots (16 * f.die + l) 0, since := s.mesh.clock } := by
  simp [State.moveFlit, h]

theorem moveFlit_arrive (i : Nat) (f : Flit) (d r c p : Nat) (h : s.hopOf f = .arrive d r c p) :
    SMap.get? (s.moveFlit i f).mesh.flits i =
      some { f with die := d, row := r, col := c, port := p, link := none, since := s.mesh.clock } := by
  simp [State.moveFlit, h]

/-- A flit that carries a transaction and is no picot delivers it where it leaves. -/
theorem moveFlit_leave (i j : Nat) (f : Flit) (h : s.hopOf f = .leave) (hvc : f.vc ≠ .picot) (hc : f.cargo = .txn j) :
    s.moveFlit i f = (s.onMesh (fun m => { m with flits := SMap.del m.flits i })).deliver (.txn j) f.poison := by
  simp [State.moveFlit, h, State.leaveMesh, hvc, hc]

theorem deliver_flits (c : Cargo) (bad : Bool) : (s.deliver c bad).mesh.flits = s.mesh.flits := by cases c <;> rfl

/-- A transaction after its delivery. -/
theorem deliver_txn (j : Nat) (bad : Bool) (x : Txn) (h : s.txn? j = some x) : (s.deliver (.txn j) bad).txn? j =
    some { x with moving := false, came := s.mesh.clock, poison := if bad then x.poison ||| x.secs else x.poison,
                  words := if bad then 0xFFFF else x.words } := by
  have hx : (s.onMesh (fun m => { m with clock := s.mesh.clock + 1 })).txn? j = some x := h
  rw [State.deliver, State.txn_onTxn, if_pos rfl, hx, Option.map_some]

/-! ### MESH_FLIT_FORWARD -/

/-- What flit `i` carries is taken where the flit has left the mesh. -/
def afterMove (i : Nat) (c : Cargo) (t : State) : State := if (SMap.get? t.mesh.flits i).isNone then t.landed c else t

theorem traffic_afterMove (i : Nat) (c : Cargo) : Traffic s (afterMove i c s) := traffic_ite (traffic_landed s c) (.refl s)

variable {s} in
/-- Where a flit has moved to another place of the mesh, nothing is taken from it. -/
theorem afterMove_of_some {i : Nat} {g : Flit} (c : Cargo) (h : SMap.get? s.mesh.flits i = some g) : afterMove i c s = s := by
  simp [afterMove, h]

/-- A transaction that is bound neither for the host controller nor for a port stays as it was delivered. -/
theorem afterMove_txn (i j : Nat) (x : Txn) (h : s.txn? j = some x) (h1 : x.stage ≠ .host) (h2 : x.stage ≠ .port) :
    afterMove i (.txn j) s = s := by
  have hlanded : s.landed (.txn j) = s := by
    cases hst : x.stage with
    | host => exact absurd hst h1
    | port => exact absurd hst h2
    | _ => simp [State.landed, State.takeIn, h, hst]
  rw [afterMove, hlanded, ite_self]

/-- The flit has used its turn and moved. -/
def moved (i : Nat) (f : Flit) : State := (s.useTurn f).moveFlit i f

/-- The Winder has counted a flit of a die as poisoned. -/
def poisonCounted (d : Nat) : State := s.onMesh (fun m => { m with poisoned := SMap.upd m.poisoned d 0 (· + 1) })

/-- The flit has used its turn, and has been counted, marked and moved. -/
def movedPoisoned (i : Nat) (f : Flit) : State := (poisonCounted (s.useTurn f) f.die).moveFlit i { f with poison := true }

section forward

variable (i : Nat) (f : Flit)

theorem rd_useTurn (o : Nat) : (s.useTurn f).rd o = s.rd o := (traffic_useTurn s f).rd o

theorem rd_poisonCounted (o : Nat) : (poisonCounted (s.useTurn f) f.die).rd o = s.rd o := (State.rd_onMesh _ _ o).trans (rd_useTurn s f o)

theorem moved_router (r c p : Nat) (h : s.hopOf f = .router r c p) : SMap.get? (moved s i f).mesh.flits i =
    some { s.onRoute f with row := r, col := c, port := p, since := (s.useTurn f).mesh.clock } := by
  rw [moved, moveFlit_router _ i f r c p ((hopOf_congr (rd_useTurn s f) f).trans h), onRoute_congr (rd_useTurn s f)]

theorem moved_enter (l : Nat) (h : s.hopOf f = .enter l) : SMap.get? (moved s i f).mesh.flits i =
    some { s.onRoute f with link := some l, slot := SMap.getD (s.useTurn f).mesh.slots (16 * f.die + l) 0, since := (s.useTurn f).mesh.clock } := by
  rw [moved, moveFlit_enter _ i f l ((hopOf_congr (rd_useTurn s f) f).trans h), onRoute_congr (rd_useTurn s f)]

theorem moved_arrive (d r c p : Nat) (h : s.hopOf f = .arrive d r c p) : SMap.get? (moved s i f).mesh.flits i =
    some { f with die := d, row := r, col := c, port := p, link := none, since := (s.useTurn f).mesh.clock } :=
  moveFlit_arrive _ i f d r c p ((hopOf_congr (rd_useTurn s f) f).trans h)

/-- The turn that a flit uses touches no transaction. -/
theorem useTurn_txns : (s.useTurn f).txns = s.txns := by
  unfold State.useTurn
  split <;> rfl

/-- A flit that has left at its stop has delivered its transaction. -/
theorem moved_leave (j : Nat) (x : Txn) (h : s.hopOf f = .leave) (hvc : f.vc ≠ .picot) (hcargo : f.cargo = .txn j) (hx : s.txn? j = some x) :
    SMap.get? (moved s i f).mesh.flits i = none ∧ (moved s i f).txn? j = some { x with
      moving := false, came := (s.useTurn f).mesh.clock, poison := if f.poison then x.poison ||| x.secs else x.poison,
      words := if f.poison then 0xFFFF else x.words } := by
  rw [moved, moveFlit_leave _ i j f ((hopOf_congr (rd_useTurn s f) f).trans h) hvc hcargo, deliver_flits]
  refine ⟨SMapLaws.get_del_same _ i, deliver_txn _ j f.poison x ?_⟩
  rw [← hx, State.txn?, State.onMesh_txns, useTurn_txns, State.txn?]

theorem movedPoisoned_router (r c p : Nat) (h : s.hopOf f = .router r c p) : SMap.get? (movedPoisoned s i f).mesh.flits i =
    some { s.onRoute f with row := r, col := c, port := p, since := (s.useTurn f).mesh.clock, poison := true } := by
  have hhop : (poisonCounted (s.useTurn f) f.die).hopOf { f with poison := true } = .router r c p :=
    (hopOf_congr (rd_poisonCounted s f) _).trans h
  rw [movedPoisoned, moveFlit_router _ i _ r c p hhop, onRoute_congr (rd_poisonCounted s f)]
  rfl

theorem movedPoisoned_poisoned :
    SMap.getD (movedPoisoned s i f).mesh.poisoned f.die 0 = SMap.getD s.mesh.poisoned f.die 0 + 1 := by
  rw [movedPoisoned, (traffic_moveFlit _ i _).poisoned, ← (traffic_useTurn s f).poisoned]
  exact SMapLaws.getD_upd_same _ _ 0 (· + 1)

theorem moved_cells : (moved s i f).mem.cells = s.mem.cells := ((traffic_useTurn s f).trans (traffic_moveFlit _ i f)).cells

theorem movedPoisoned_cells : (movedPoisoned s i f).mem.cells = s.mem.cells :=
  (traffic_moveFlit _ i _).cells.trans (traffic_useTurn s f).cells

variable (e : CodeError) (hf : SMap.get? s.mesh.flits i = some f)

include hf

/-- A flit that may move moves; an error of two bits inside a die marks it, and is counted and reported (R37). -/
theorem meshFlitForward_moves (hc : s.hasCredit f = true) (hg : s.granted f = true) (hh : s.isHead f = true) :
    meshFlitForward i e s =
      if e = .double ∧ f.link = none then (movedPoisoned s i f).ras0 0x08 2 f.die 0xFFFF f.die else moved s i f := by
  simp only [meshFlitForward, hf, hc, hg, hh, Bool.and_self, if_true, movedPoisoned, poisonCounted, moved]

/-- The flit moves while its die's clocks run, and what it brings is taken. -/
theorem meshFlitForward_next (hr : s.runs f.die = true) :
    exec (.meshFlitForward i e) s = .next (afterMove i f.cargo (meshFlitForward i e s)) := by
  refine congrArg Host.Outcome.next ?_
  simp only [forwardFlit, hf, hr, if_true, afterMove]

end forward

end Sys2Proof.Machine.MeshLaws

namespace Sys2Proof.Machine
open MeshLaws

/-- Settles O12. Of the errors and the retraining by the state that each command makes of its link; of the routes by the best edges that
are loaded; of a flit by its move, where it lies then, and what is taken of it where it has left. -/
theorem linkErrorsRoutesAndFlits : Obligations.LinkErrorsRoutesAndFlits := by
  unfold Obligations.LinkErrorsRoutesAndFlits
  refine ⟨fun s l g b n key low again hl hg hb h2 ht hkey hn => ?_, fun s l b hl hb h2 h0 he => ?_, fun s l c hl ht h2 => ?_,
    fun s hp => ?_, fun s i f e hf hr hc hg hh => ?_⟩
  · refine ⟨_, congrArg Host.Outcome.next (linkCrcErrorReplay_counts s l low again g b key n hl hg hb h2 ht hkey hn), ?_⟩
    have hcounted := (crcCounted_linkState s l b key n).trans h2
    by_cases h4 : n < 4
    · rw [if_pos h4]
      exact ⟨hcounted, rfl, crcCounted_CRC_ERR s l b key n, fun _ => ⟨ht, crcCounted_groupFails s l b key n⟩,
        fun h => absurd h4 (Nat.not_lt.2 h)⟩
    · have hfailed : (replayFailed (crcCounted s l b key n) l).linkState l = 2 := (linkState_bump_linkErr _ _ l 1 l).trans hcounted
      obtain ⟨htrain, hretrain, hstate⟩ := retrainStart_spec _ l hfailed
      rw [if_neg h4]
      refine ⟨hstate, retrainStart_mem _ l, ?_, fun h => absurd h h4, fun _ => ⟨htrain, hretrain, ?_⟩⟩
      · rw [retrainStart_fld_linkErr _ l hfailed, replayFailed_CRC_ERR, crcCounted_CRC_ERR]
      · rw [retrainStart_fld_linkErr _ l hfailed, replayFailed_REPLAY_FAIL, crcCounted_REPLAY_FAIL]
  · obtain ⟨htrain, hretrain, -⟩ := retrainStart_spec s l h2
    exact ⟨_, congrArg Host.Outcome.next (bundleErrorThreshold_retrains s l b hl hb h0 he), htrain, hretrain⟩
  · refine ⟨_, congrArg Host.Outcome.next (linkRetrainEnd_training s l c hl ht h2), ?_⟩
    by_cases hw : (s.putScan l c).bundlesOn l < 20
    · have hwires := linkFailed_wires (s.putScan l c) l
      obtain ⟨hb, hle, hgrow⟩ := scan_shown s l c _ hwires (linkFailed_BUNDLES (s.putScan l c) l hl)
      rw [if_pos hw]
      refine ⟨linkFailed_training _ l, ?_, hb, hle, hgrow, linkFailed_RETRAIN _ l hl⟩
      rw [linkFailed_linkState _ l hl, bundlesOn_congr _ hwires, if_pos hw]
    · rw [if_neg hw]
      obtain ⟨htrain, hstate, hretrain, hwires, hfld⟩ := resumed_spec s l c _ hl h2
        (reports_ite (c := decide ((s.putScan l c).bundlesOn l < s.bundlesOn l) = true) (reports_ras0 _ 0x09 4 l 0xFFFF (linkEnds l).1) (.refl _))
      obtain ⟨hb, hle, hgrow⟩ := scan_shown s l c _ hwires hfld
      refine ⟨htrain, ?_, hb, hle, hgrow, hretrain⟩
      rw [hstate, bundlesOn_congr _ hwires, if_neg hw]
  · exact ⟨_, congrArg Host.Outcome.next (if_pos hp : s.powered State.recompute = s.recompute), recompute_onlyRegs s, fun d k hd hk =>
      ⟨recompute_edge s d k hd hk, fun h => (recompute_edge s d k hd hk).trans (bestEdge_rowFirst s h d k hd hk)⟩⟩
  · have hmove := meshFlitForward_moves s i f e hf hc hg hh
    refine ⟨_, meshFlitForward_next s i f e hf hr, ?_, fun he => ?_, fun hd hn => ?_⟩
    · refine (traffic_afterMove _ i f.cargo).cells.trans ?_
      rw [hmove]
      split
      · rw [(reports_ras0 _ _ _ _ _ _).mem, movedPoisoned_cells]
      · exact moved_cells s i f
    · rw [hmove, if_neg (fun h => he.elim (· h.1) (· h.2))]
      refine ⟨fun r c p h => ?_, fun l h => ?_, fun d r c p h => ?_, fun j x h hvc hcargo hx h1 h2 => ?_⟩
      · have hg := moved_router s i f r c p h
        rw [afterMove_of_some f.cargo hg]
        exact ⟨_, hg, rfl⟩
      · have hg := moved_enter s i f l h
        rw [afterMove_of_some f.cargo hg]
        exact ⟨_, hg, rfl⟩
      · have hg := moved_arrive s i f d r c p h
        rw [afterMove_of_some f.cargo hg]
        exact ⟨_, hg, rfl⟩
      · obtain ⟨hleft, hy⟩ := moved_leave s i f j x h hvc hcargo hx
        rw [hcargo, afterMove_txn _ i j _ hy h1 h2]
        exact ⟨hleft, _, hy, rfl, rfl, rfl, rfl⟩
    · rw [hmove, if_pos ⟨hd, hn⟩]
      have hreport := (reports_ras0 (movedPoisoned s i f) 0x08 2 f.die 0xFFFF f.die).mesh
      refine ⟨?_, fun r c p h => ?_⟩
      · rw [(traffic_afterMove _ i f.cargo).poisoned, hreport, movedPoisoned_poisoned]
      · have hg := movedPoisoned_router s i f r c p h
        rw [← hreport] at hg
        rw [afterMove_of_some f.cargo hg]
        exact ⟨_, hg, rfl⟩

end Sys2Proof.Machine
end

section
/-!
PROOF. O24 fails: a store to a line whose home die has lost its dirty ledger, in timeout mode (R178).
-/
namespace Sys2Proof.Machine.LostLedger

/-- A store of four bytes to the line at address 0, which has reached its home: slice 0 of die 0. -/
def request : Txn :=
  { Txn.blank (.lane 0 1) 0 0 (some 2) (some 3) .store .stack 0 with secs := 1, mask := 0xF, stage := .home }

/-- The line at its home: allocated, with no near copy, and not counted by the dirty ledger. -/
def line : Line := Line.fresh 0 0 .home none (some 2) 4 .normal 9

/-- Die 0 runs and holds the line; base die 4, which keeps the dirty ledger of die 0 (R174), has been declared lost, and
DEAD_MODE is 1 (R178). -/
def before : State := { State.reset with
  regs := [(R.cshCtrl, Fset F.cshCtrl_DEAD_MODE 1 0), (R.wndDieStat, Fset F.wndDieStat_BASE_LOST (2 ^ 4) 0)]
  clk := { Clocks.start with dies := [(0, { DieClk.start with stage := .running, safe := false })] }
  cache := { Cache.empty with slices := [(0, { Slice.empty with lines := [line] })] }
  txns := [(4, request)]
  nextId := 5 }

/-- The request is the next that its home serves. -/
theorem before_ready : before.readyAtHome 4 request := by
  unfold State.readyAtHome
  decide +kernel

theorem before_homeLine : before.homeLine request = some line := by decide +kernel

/-- The answer of the lost ledger counts as timed out at once: the store's line has every sector poisoned (R178). -/
theorem after_homeStore_poisoned (t : State) (h : exec (.homeStore 4) before = .next t) :
    (t.homeLine request).map (fun m => m.secs.map (·.poison)) = some [true, true, true, true] := by
  have ht : t = before.atHome 4 .none (fun x => x.isStore && !x.mirrored) := (Host.Outcome.next.inj h).symm
  subst ht
  decide +kernel

/-- The store's own bytes poison no sector. -/
theorem stored_unpoisoned : (Line.store request line).secs.map (·.poison) = [false, false, false, false] := by decide +kernel

end Sys2Proof.Machine.LostLedger

namespace Sys2Proof.Machine

/-- Refutes O24: its clause about `homeStore` says that the line holds exactly the store's bytes whatever the ledger's state. In timeout
mode (DEAD_MODE 1) with the base die of the home's dirty ledger declared lost, the increment counts as timed out at once and the home
poisons the line's sectors (R178), so the line differs from the stored one. -/
theorem not_homeRequests : ¬ Obligations.HomeRequests := by
  unfold Obligations.HomeRequests
  rintro ⟨-, -, -, hstore, -⟩
  obtain ⟨hplain, -⟩ := hstore LostLedger.before 4 LostLedger.request LostLedger.line LostLedger.before_ready rfl
    LostLedger.before_homeLine rfl (by decide +kernel)
  obtain ⟨t, m, -, hexec, -, hline, hsecs, -⟩ := hplain rfl
  have hpoison := LostLedger.after_homeStore_poisoned t hexec
  rw [hline, Option.map_some, hsecs, LostLedger.stored_unpoisoned] at hpoison
  exact absurd hpoison (by decide)

end Sys2Proof.Machine
end

section
/-!
PROOF. The issue of an instruction, and the frames of one that has issued (R93, R94, R103, R107).
-/
namespace Sys2Proof.Machine.IssueLaws

variable {s t u : State} {e g opc : Nat} {v : Group}

/-! ### Groups and engines by number -/

theorem grp_onGrp (s : State) (e g k : Nat) (f : Group → Group) :
    (s.onGrp e g f).grp? e k = if k = g then (s.grp? e k).map f else s.grp? e k := by
  rw [State.grp?, State.onGrp, State.eng_onEng_same]
  exact SMapLaws.get_modify _ g k f

theorem grp_onGrp_self (h : s.grp? e g = some v) (f : Group → Group) : (s.onGrp e g f).grp? e g = some (f v) := by
  rw [grp_onGrp, if_pos rfl, h, Option.map_some]

theorem eng_onGrp (s : State) (e g : Nat) (f : Group → Group) :
    (s.onGrp e g f).eng e = { s.eng e with groups := SMap.modify (s.eng e).groups g f } := State.eng_onEng_same s e _

/-- A change of an engine that keeps its groups keeps every group. -/
theorem grp_onEng (s : State) (e e' k : Nat) (f : Engine → Engine) (hf : ∀ n, (f n).groups = n.groups) :
    (s.onEng e f).grp? e' k = s.grp? e' k := by
  unfold State.grp?
  by_cases h : e' = e
  · subst h
    rw [State.eng_onEng_same, hf]
  · rw [State.eng_onEng_other s e e' f h]

/-! ### What a group may change -/

theorem onlyEngine_onEng (s : State) (e : Nat) (f : Engine → Engine) : s.onlyEngine e (s.onEng e f) :=
  ⟨rfl, fun k hk => State.eng_onEng_other s e k f hk⟩

theorem onlyEngine_trans (h : s.onlyEngine e t) (h' : t.onlyEngine e u) : s.onlyEngine e u := by
  obtain ⟨ht, hk⟩ := h
  obtain ⟨hu, hk'⟩ := h'
  refine ⟨?_, fun k hne => (hk' k hne).trans (hk k hne)⟩
  rw [ht] at hu
  exact hu

theorem onlyGroup_trans (h : s.onlyGroup e g t) (h' : t.onlyGroup e g u) : s.onlyGroup e g u := by
  obtain ⟨hs, he, hgiven, hk⟩ := h
  obtain ⟨hs', he', hgiven', hk'⟩ := h'
  refine ⟨onlyEngine_trans hs hs', ?_, hgiven'.trans hgiven, fun k hne => (hk' k hne).trans (hk k hne)⟩
  rw [he] at he'
  exact he'

theorem onlyGroup_onGrp (s : State) (e g : Nat) (f : Group → Group) : s.onlyGroup e g (s.onGrp e g f) := by
  refine ⟨onlyEngine_onEng s e _, ?_, ?_, fun k hk => ?_⟩
  · rw [eng_onGrp]
  · rw [State.keepsGiven, eng_onGrp]
  · rw [grp_onGrp, if_neg hk]

theorem onlyGroup_spend (s : State) (e g : Nat) : s.onlyGroup e g (s.onEng e (Engine.spend g)) := by
  refine ⟨onlyEngine_onEng s e _, ?_, ?_, fun k _ => grp_onEng s e e k _ (fun _ => rfl)⟩
  · rw [State.eng_onEng_same, Engine.spend]
  · rw [State.keepsGiven, State.eng_onEng_same, Engine.spend, List.filter_filter]
    simp

/-- An instruction that has issued gives up what walks delivered to it, or had nothing to give up. -/
theorem spent_cases (s : State) (e g : Nat) (pc : VAddr) : s.spent e g pc = s ∨ s.spent e g pc = s.onEng e (Engine.spend g) := by
  unfold State.spent
  split
  · exact .inl rfl
  · exact .inr rfl

theorem onlyGroup_spent (h : s.onlyGroup e g t) (pc : VAddr) : s.onlyGroup e g (t.spent e g pc) := by
  rcases spent_cases t e g pc with h' | h' <;> rw [h']
  · exact h
  · exact onlyGroup_trans h (onlyGroup_spend t e g)

/-- Of the engine it gives up nothing else. -/
theorem eng_spent (s : State) (e g : Nat) (pc : VAddr) : (s.spent e g pc).eng e = { s.eng e with given := ((s.spent e g pc).eng e).given } := by
  rcases spent_cases s e g pc with h | h <;> rw [h]
  rw [State.eng_onEng_same, Engine.spend]

theorem spent_only (s : State) (e g : Nat) (pc : VAddr) : s.spent e g pc = { s with engs := (s.spent e g pc).engs } := by
  rcases spent_cases s e g pc with h | h
  · rw [h]
  · rw [h]
    rfl

@[simp] theorem grp_spent (s : State) (e g : Nat) (pc : VAddr) (e' k : Nat) : (s.spent e g pc).grp? e' k = s.grp? e' k := by
  rcases spent_cases s e g pc with h | h <;> rw [h]
  exact grp_onEng s e e' k _ (fun _ => rfl)

/-! ### Issue -/

/-- An instruction whose group stands ready and whose opcode is assigned is checked for its registers, and then for their availability. -/
theorem issue_of_fetched (h : s.fetched e g opc v) (rs : List Nat) (k : Group → State → State) :
    s.issue e g opc rs k = if v.owns rs = false then s.insnFault e g 0x05 2 v.pc.toNat
      else if v.free rs = false then s else (k v s).spent e g v.pc := by
  obtain ⟨hg, hrun, hst, hctx, hopc, l, m, c, hpage, hl1, hpoison⟩ := h
  simp [State.issue, hg, hst, hctx, hrun, hpage, hl1, hpoison, hopc]

theorem issue_of_mayIssue {rs : List Nat} (h : s.mayIssue e g opc rs v) (k : Group → State → State) :
    s.issue e g opc rs k = (k v s).spent e g v.pc := by
  obtain ⟨hf, howns, hfree⟩ := h
  rw [issue_of_fetched hf, howns, hfree]
  rfl

theorem grp_of_mayIssue {rs : List Nat} (h : s.mayIssue e g opc rs v) : s.grp? e g = some v := by
  obtain ⟨⟨hg, -⟩, -⟩ := h
  exact hg

theorem ready_of_mayIssue {rs : List Nat} (h : s.mayIssue e g opc rs v) : v.st = .ready := by
  obtain ⟨⟨-, -, hst, -⟩, -⟩ := h
  exact hst

/-- An instruction that makes its group into another, and does nothing else. -/
theorem setsGroup_of_onGrp (h : s.grp? e g = some v) (f : Group → Group) (pc : VAddr) :
    s.setsGroup e g (f v) ((s.onGrp e g f).spent e g pc) := by
  refine ⟨onlyGroup_spent (onlyGroup_onGrp s e g f) pc, ?_⟩
  rw [grp_spent]
  exact grp_onGrp_self h f

/-! ### A register written in every active lane (R91, R93) -/

theorem mem_lanesOf {m : Mask32} {l : Nat} : l ∈ lanesOf m ↔ l < 32 ∧ m.toNat.testBit l = true := by
  simp [lanesOf]

theorem setReg_regs (r l : Nat) (w : Word) (v : Group) : ∃ m, v.setReg r l w = { v with regs := m } := by
  unfold Group.setReg
  split
  · exact ⟨v.regs, rfl⟩
  · exact ⟨_, rfl⟩

theorem reg_setReg (v : Group) (r l : Nat) (w : Word) (r' l' : Nat) (hl : l < 32) (hl' : l' < 32) :
    (v.setReg r l w).reg r' l' = if r' = r ∧ r' ≠ 255 ∧ l' = l then w else v.reg r' l' := by
  by_cases h255 : r' = 255
  · simp [Group.reg, h255]
  · by_cases hr : r = 255
    · rw [Group.setReg, if_pos hr, if_neg (fun h => h255 (h.1.trans hr))]
    · rw [Group.setReg, if_neg hr]
      by_cases hhit : r' = r ∧ l' = l
      · obtain ⟨rfl, rfl⟩ := hhit
        simp [Group.reg, h255, SMap.getD]
      · have hkey : 32 * r' + l' ≠ 32 * r + l := by omega
        rw [if_neg (by tauto)]
        simp [Group.reg, h255, SMap.getD, SMapLaws.get_put_other _ _ _ _ hkey]

/-- The same register written in some lanes, one after the other. -/
def setLanes (r : Nat) (f : Nat → Word) (ls : List Nat) (v : Group) : Group := ls.foldl (fun v l => v.setReg r l (f l)) v

theorem setLanes_regs (r : Nat) (f : Nat → Word) (ls : List Nat) (v : Group) : ∃ m, setLanes r f ls v = { v with regs := m } := by
  induction ls generalizing v with
  | nil => exact ⟨v.regs, rfl⟩
  | cons l ls ih =>
    obtain ⟨m, hm⟩ := setReg_regs r l (f l) v
    obtain ⟨m', hm'⟩ := ih (v.setReg r l (f l))
    refine ⟨m', hm'.trans ?_⟩
    rw [hm]

theorem reg_setLanes (r : Nat) (f : Nat → Word) (ls : List Nat) (hls : ∀ l ∈ ls, l < 32) (v : Group) (r' l' : Nat) (hl' : l' < 32) :
    (setLanes r f ls v).reg r' l' = if r' = r ∧ r' ≠ 255 ∧ l' ∈ ls then f l' else v.reg r' l' := by
  induction ls generalizing v with
  | nil => simp [setLanes]
  | cons l ls ih =>
    refine (ih (fun k hk => hls k (List.mem_cons_of_mem _ hk)) (v.setReg r l (f l))).trans ?_
    rw [reg_setReg v r l _ r' l' (hls l (List.mem_cons_self ..)) hl']
    by_cases hr : r' = r ∧ r' ≠ 255
    · obtain ⟨rfl, h255⟩ := hr
      by_cases hl : l' = l
      · subst hl
        simp [h255]
      · simp [h255, hl]
    · rw [if_neg (fun h => hr ⟨h.1, h.2.1⟩), if_neg (fun h => hr ⟨h.1, h.2.1⟩), if_neg (fun h => hr ⟨h.1, h.2.1⟩)]

/-- A group that has written a register in every active lane and goes on has done no more than that. -/
theorem wrote_setAll (r : Nat) (f : Nat → Word) (v : Group) : v.wrote r f (v.setAll r f).step := by
  have hset : v.setAll r f = setLanes r f (lanesOf v.active) v := rfl
  refine ⟨?_, fun r' l' hl' => ?_⟩
  · obtain ⟨m, hm⟩ := setLanes_regs r f (lanesOf v.active) v
    rw [hset, hm]
    rfl
  · change (v.setAll r f).reg r' l' = _
    rw [hset, reg_setLanes r f _ (fun l hl => (mem_lanesOf.1 hl).1) v r' l' hl']
    simp only [mem_lanesOf, hl', true_and]

/-- An instruction that writes a register in every active lane, and does nothing else. -/
theorem writesLanes_of_setAll (h : s.grp? e g = some v) (r : Nat) (f : Nat → Word) (pc : VAddr) :
    s.writesLanes e g r v f ((s.onGrp e g (fun _ => (v.setAll r f).step)).spent e g pc) := by
  obtain ⟨honly, hg⟩ := setsGroup_of_onGrp h (fun _ => (v.setAll r f).step) pc
  exact ⟨honly, _, hg, wrote_setAll r f v⟩

end Sys2Proof.Machine.IssueLaws
end

section
/-!
PROOF. A fault is taken: the syndrome of the engine, the capture in the context, and the stop of the context's groups (R132 to R136, R287, R288).
-/
namespace Sys2Proof.Machine.FaultLaws
open MeshLaws IssueLaws

theorem get_mapVals {V W : Type} (m : SMap V) (f : Nat → V → W) (k : Nat) : SMap.get? (SMap.mapVals m f) k = (SMap.get? m k).map (f k) := by
  induction m with
  | nil => rfl
  | cons p m ih =>
    obtain ⟨j, v⟩ := p
    have hcons : SMap.mapVals ((j, v) :: m) f = (j, f j v) :: SMap.mapVals m f := rfl
    rw [hcons]
    by_cases h : j = k
    · subst h
      simp [SMap.get?]
    · simp only [SMap.get?, if_neg h, ih]


/-! ### What the bookkeeping of a fault leaves alone -/

/-- What a context shows of its state and its fault. -/
def shown (x : Ctx) : CtxState × Option FaultRec × Nat := (x.st, x.fault, x.lost)

/-- What is left alone where a table entry is written, an exchange stops, a wait is withdrawn or a picot leaves: the groups, what drains, the
faults of the contexts, and every register whose offset is no multiple of 64, as those of the exchanges are. -/
structure Aside (s t : State) : Prop where
  groups : ∀ e g, t.grp? e g = s.grp? e g
  draining : ∀ e, (t.eng e).draining = (s.eng e).draining
  ctxs : ∀ c, (t.ctx? c).map shown = (s.ctx? c).map shown
  regs : ∀ o, o % 64 ≠ 0 → t.rd o = s.rd o

variable {s t u : State}

theorem Aside.refl (s : State) : Aside s s := ⟨fun _ _ => rfl, fun _ => rfl, fun _ => rfl, fun _ _ => rfl⟩

theorem Aside.trans (h : Aside s t) (h' : Aside t u) : Aside s u :=
  ⟨fun e g => (h'.groups e g).trans (h.groups e g), fun e => (h'.draining e).trans (h.draining e), fun c => (h'.ctxs c).trans (h.ctxs c),
    fun o ho => (h'.regs o ho).trans (h.regs o ho)⟩

/-- A step that leaves all this alone wherever it starts does so when it is done for each member of a list. -/
theorem aside_each {α : Type} {f : α → State → State} (l : List α) (hf : ∀ a ∈ l, ∀ s, Aside s (f a s)) (s : State) : Aside s (each l f s) :=
  each_keeps (P := Aside s) l (fun a ha t ht => ht.trans (hf a ha t)) s (.refl s)

theorem aside_ite {c : Prop} [Decidable c] (ht : Aside s t) (hu : Aside s u) : Aside s (if c then t else u) := by
  split
  · exact ht
  · exact hu

/-- A state with the same engines, contexts, registers and settings. -/
theorem aside_of_eq (he : t.engs = s.engs) (hc : t.objs.ctxs = s.objs.ctxs) (hr : t.regs = s.regs) (hp : t.part = s.part) (hs : t.sec = s.sec) :
    Aside s t :=
  ⟨fun e g => by simp only [State.grp?, State.eng, he], fun e => by simp only [State.eng, he], fun c => by simp only [State.ctx?, hc],
    fun o _ => State.rd_congr s t hr hp (congrArg (·.settings) hs) o⟩

variable (s)

theorem aside_passTime : Aside s s.passTime := aside_of_eq rfl rfl rfl rfl rfl
theorem aside_post (p : Posted) : Aside s (s.post p) := aside_of_eq rfl rfl rfl rfl rfl
theorem aside_onPort (p : Nat) (f : Port → Port) : Aside s (s.onPort p f) := aside_of_eq rfl rfl rfl rfl rfl
theorem aside_onTxns (f : SMap Txn → SMap Txn) : Aside s (s.onTxns f) := aside_of_eq rfl rfl rfl rfl rfl
theorem aside_onMsgs (f : SMap Msg → SMap Msg) : Aside s (s.onMsgs f) := aside_of_eq rfl rfl rfl rfl rfl
theorem aside_onShx (f : Shx → Shx) : Aside s (s.onShx f) := aside_of_eq rfl rfl rfl rfl rfl
theorem aside_onMem (f : Memory → Memory) : Aside s (s.onMem f) := aside_of_eq rfl rfl rfl rfl rfl
theorem aside_unregister (who : Nat × Nat) : Aside s (s.unregister who) := aside_of_eq rfl rfl rfl rfl rfl
theorem aside_onQueues (f : SMap Queue → SMap Queue) : Aside s (s.onObjs (fun o => { o with queues := f o.queues })) :=
  aside_of_eq rfl rfl rfl rfl rfl

/-- A change of an engine beside its groups and what drains. -/
theorem aside_onEng (e : Nat) (f : Engine → Engine) (hg : ∀ n, (f n).groups = n.groups) (hd : ∀ n, (f n).draining = n.draining) :
    Aside s (s.onEng e f) := by
  refine ⟨fun e' k => grp_onEng s e e' k f hg, fun e' => ?_, fun _ => rfl, fun o _ => State.rd_onEngs s _ o⟩
  by_cases h : e' = e
  · subst h
    rw [State.eng_onEng_same, hd]
  · rw [State.eng_onEng_other s e e' f h]

/-- A change of a context beside its state and its fault. -/
theorem aside_onCtx (c : Nat) (f : Ctx → Ctx) (hf : ∀ x, shown (f x) = shown x) : Aside s (s.onCtx c f) := by
  refine ⟨fun _ _ => rfl, fun _ => rfl, fun k => ?_, fun o _ => State.rd_onObjs s _ o⟩
  rw [State.ctx_onCtx]
  split
  · rw [Option.map_map]
    exact congrArg (fun h => (s.ctx? k).map h) (funext hf)
  · rfl

/-! ### Table entries (R282, R283) -/

/-- Bytes written at toile's first address or above it. -/
theorem aside_pokeSector (sec mask : Nat) (bs : Bytes) (h : toileBase ≤ 32 * sec) : Aside s (s.pokeSector sec mask bs) := by
  have hstack : s.isStack (32 * sec) = false := by
    have hend : s.stackEnd ≤ toileBase := by
      unfold State.stackEnd State.setBits toileBase
      split <;> decide
    exact decide_eq_false (by omega)
  unfold State.pokeSector
  rw [hstack]
  exact aside_ite (.refl s) (aside_ite (aside_onMem s _) (.refl s))

theorem aside_poke (pa : Nat) (bs : Bytes) (h : toileBase ≤ pa) : Aside s (s.poke pa bs) := by
  refine aside_each _ (fun i _ t => aside_pokeSector t _ _ _ ?_) s
  unfold toileBase at *
  omega

theorem aside_putTable (off : Nat) (bs : Bytes) : Aside s (s.putTable off bs) :=
  aside_each _ (fun d _ t => aside_ite (.refl t) (aside_poke t _ _ (by unfold tableAddr; omega))) s

theorem aside_saveCtx (c : Nat) : Aside s (s.saveCtx c) := by
  unfold State.saveCtx
  split
  · exact .refl s
  · exact aside_ite (.refl s) (aside_putTable s _ _)

theorem aside_saveQueue (q : Nat) : Aside s (s.saveQueue q) := by
  unfold State.saveQueue
  split
  · exact .refl s
  · exact aside_ite (.refl s) (aside_putTable s _ _)

theorem aside_saveQueues (c : Nat) : Aside s (s.saveQueues c) := aside_each _ (fun q _ t => aside_saveQueue t q) s

/-! ### An exchange stops (R397, R415) -/

theorem aside_sendPFlit (p kind : Nat) (ms : List PMsg) : Aside s (s.sendPFlit p kind ms) := by
  unfold State.sendPFlit State.postFlit
  exact (aside_onPort s p _).trans (aside_ite (aside_each _ (fun m _ t => aside_post t _) _) (aside_post _ _))

theorem aside_portPump (p n : Nat) : Aside s (s.portPump p n) := by
  induction n generalizing s with
  | zero => exact .refl s
  | succ n ih =>
    rw [State.portPump]
    exact aside_ite (.refl s) (aside_ite (.refl s) (((aside_onPort s p _).trans (aside_sendPFlit _ p 0 _)).trans (ih _)))

theorem aside_portSend (p : Nat) (m : PMsg) (who : Option Unacked) : Aside s (s.portSend p m who) :=
  (aside_onPort s p _).trans (aside_portPump _ p _)

theorem eng_purge (c e : Nat) : ∃ l1 tlb held, (s.purge c).eng e = { s.eng e with l1 := l1, tlb := tlb, held := held } := by
  rw [State.eng, State.purge, State.onEngs_engs, SMap.getD, get_mapVals, State.eng, SMap.getD]
  cases SMap.get? s.engs e with
  | none => exact ⟨_, _, _, rfl⟩
  | some n => exact ⟨_, _, _, rfl⟩

theorem aside_purge (c : Nat) : Aside s (s.purge c) := by
  refine ⟨fun e g => ?_, fun e => ?_, fun _ => rfl, fun o _ => State.rd_onEngs s _ o⟩
  all_goals obtain ⟨l1, tlb, held, h⟩ := eng_purge s c e
  · rw [State.grp?, h, State.grp?]
  · rw [h]

theorem aside_freeCtxSlot (c : Nat) : Aside s (s.freeCtxSlot c) := by
  unfold State.freeCtxSlot
  exact aside_ite (.refl s) (((aside_onCtx s c (fun x => { x with slot := none }) (fun _ => rfl)).trans (aside_saveCtx _ c)).trans (aside_purge _ c))

theorem aside_setF (f : Field) (o v : Nat) (h : o % 64 = 0) : Aside s (s.setF f o v) :=
  ⟨fun _ _ => rfl, fun _ => rfl, fun _ => rfl, fun k hk => State.rd_setF_other s f o k v (fun e => hk (e ▸ h))⟩

theorem aside_xchStop (key : Nat) : Aside s (s.xchStop key) := by
  unfold State.xchStop
  split
  · exact .refl s
  · extract_lets s₁ s₂ s₃ s₄
    have hsent : Aside s s₁ := aside_each _ (fun p _ t => aside_portSend t _ _ _) s
    have hgone : Aside s₁ s₄ := ((aside_onTxns s₁ _).trans (aside_onMsgs s₂ _)).trans (aside_onShx s₃ _)
    have hoff : Aside s₄ (s₄.setF F.shxXCtrl_EN (R.shxXCtrl (key / 4) (key % 4)) 0) :=
      aside_setF s₄ _ _ _ (by unfold R.shxXCtrl; omega)
    exact ((hsent.trans hgone).trans hoff).trans (aside_freeCtxSlot _ _)

theorem aside_ctxLeaves (c : Nat) : Aside s (s.ctxLeaves c) := aside_each _ (fun k _ t => aside_xchStop t k) s

/-! ### A picot leaves (R130, R133) -/

theorem aside_sendMsg (vc : Vc) (k : MsgKind) (src dst : Nat) (frm stop : Stop) : Aside s (s.sendMsg vc k src dst frm stop) := by
  unfold State.sendMsg State.sendFlit
  split
  · exact aside_of_eq rfl rfl rfl rfl rfl
  · exact aside_of_eq rfl rfl rfl rfl rfl

theorem aside_enginePicot (e : Nat) (k : MsgKind) (dst : Nat) (stop : Stop) : Aside s (s.enginePicot e k dst stop) := by
  unfold State.enginePicot
  exact aside_ite (aside_sendMsg s _ _ _ _ _ _) (aside_onEng s e _ (fun _ => rfl) (fun _ => rfl))

/-! ### The syndrome (R135, R137, R138) -/

variable (e slot g lane code detail pc addr : Nat)

theorem rd_wr64_other (lo v o : Nat) (h : o ≠ lo) (h' : o ≠ lo + 4) : (s.wr64 lo v).rd o = s.rd o := by
  rw [State.wr64, State.rd_onHold, State.rd_wr_other _ _ _ _ h', State.rd_wr_other _ _ _ _ h]

/-- A first fault writes ENG_FAULT with these fields. -/
theorem syndrome_first (h : s.bit F.engFault_VALID (R.engFault e) = false) :
    (s.syndrome e slot g lane code detail pc addr).rd (R.engFault e) = Fset F.engFault_CODE code (Fset F.engFault_CTX_SLOT slot
      (Fset F.engFault_GROUP g (Fset F.engFault_LANE lane (Fset F.engFault_VALID 1 0)))) := by
  have hapart : R.engFault e ≠ R.engFaultDetail e ∧ R.engFault e ≠ R.engFaultAddrLo e ∧ R.engFault e ≠ R.engFaultAddrLo e + 4 ∧
      R.engFault e ≠ R.engFaultPcLo e ∧ R.engFault e ≠ R.engFaultPcLo e + 4 := by
    unfold R.engFault R.engFaultDetail R.engFaultAddrLo R.engFaultPcLo
    omega
  obtain ⟨hdetail, haddr, haddr', hpc, hpc'⟩ := hapart
  unfold State.syndrome
  rw [h, if_neg Bool.false_ne_true, State.rd_setF_other _ _ _ _ _ hdetail, rd_wr64_other _ _ _ _ haddr haddr',
    rd_wr64_other _ _ _ _ hpc hpc', State.rd_wr_same]

theorem syndrome_VALID (h : s.bit F.engFault_VALID (R.engFault e) = false) :
    (s.syndrome e slot g lane code detail pc addr).bit F.engFault_VALID (R.engFault e) = true := by
  rw [State.bit, syndrome_first s e slot g lane code detail pc addr h, Fget_Fset_other _ _ _ _ (by decide) (by decide),
    Fget_Fset_other _ _ _ _ (by decide) (by decide), Fget_Fset_other _ _ _ _ (by decide) (by decide),
    Fget_Fset_other _ _ _ _ (by decide) (by decide), Fget_Fset_same _ _ _ (by decide)]
  decide

theorem syndrome_CODE (h : s.bit F.engFault_VALID (R.engFault e) = false) (hc : code < 256) :
    (s.syndrome e slot g lane code detail pc addr).fld F.engFault_CODE (R.engFault e) = code := by
  rw [State.fld, syndrome_first s e slot g lane code detail pc addr h, Fget_Fset_same _ _ _ (by decide)]
  exact Nat.mod_eq_of_lt hc

theorem syndrome_GROUP (h : s.bit F.engFault_VALID (R.engFault e) = false) (hg : g < 16) :
    (s.syndrome e slot g lane code detail pc addr).fld F.engFault_GROUP (R.engFault e) = g := by
  rw [State.fld, syndrome_first s e slot g lane code detail pc addr h, Fget_Fset_other _ _ _ _ (by decide) (by decide),
    Fget_Fset_other _ _ _ _ (by decide) (by decide), Fget_Fset_same _ _ _ (by decide)]
  exact Nat.mod_eq_of_lt hg

/-- The syndrome is in registers alone. -/
theorem syndrome_only : (s.syndrome e slot g lane code detail pc addr).engs = s.engs ∧
    (s.syndrome e slot g lane code detail pc addr).objs = s.objs := by
  unfold State.syndrome
  split <;> exact ⟨rfl, rfl⟩

/-! ### The capture in the context (R287, R288) -/

variable (c : Nat) (f : FaultRec)

/-- A context with its first fault. -/
def firstFault (x : Ctx) : Ctx := { x with fault := some f, st := if x.st = .live then .faulted else x.st }

/-- A first fault is held by the context, and stops it where it was live. -/
theorem capture_first {x : Ctx} (hx : s.ctx? c = some x) (hf : x.fault = none) : Aside (s.onCtx c (firstFault f)) (s.capture c f) := by
  have hsaved : Aside (s.onCtx c (firstFault f)) ((s.onCtx c (firstFault f)).saveCtx c) := aside_saveCtx _ c
  have hstopped : ∀ h : SMap Queue → SMap Queue, Aside (s.onCtx c (firstFault f))
      (((((s.onCtx c (firstFault f)).saveCtx c).onObjs (fun o => { o with queues := h o.queues })).saveQueues c).ctxLeaves c) :=
    fun h => ((hsaved.trans (aside_onQueues _ h)).trans (aside_saveQueues _ c)).trans (aside_ctxLeaves _ c)
  unfold State.capture
  rw [hx]
  dsimp only
  rw [hf, if_neg (by decide)]
  exact aside_ite (hstopped _) hsaved

/-- A later one is counted. -/
theorem capture_again {x : Ctx} (hx : s.ctx? c = some x) (hf : x.fault.isSome = true) :
    Aside (s.onCtx c (fun x => { x with lost := satAdd 0xFFFFFFFF x.lost 1 })) (s.capture c f) := by
  unfold State.capture
  rw [hx]
  dsimp only
  rw [if_pos hf]
  exact aside_saveCtx _ c

theorem capture_ctx_first {x : Ctx} (hx : s.ctx? c = some x) (hf : x.fault = none) :
    ∃ y, (s.capture c f).ctx? c = some y ∧ y.fault = some f ∧ (x.st = .live → y.st = .faulted) := by
  have h := (capture_first s c f hx hf).ctxs c
  rw [State.ctx_onCtx, if_pos rfl, hx, Option.map_some, Option.map_some, Option.map_eq_some_iff] at h
  obtain ⟨y, hy, hshown⟩ := h
  obtain ⟨hst, hfault, -⟩ := Prod.mk.inj hshown |>.imp_right Prod.mk.inj
  exact ⟨y, hy, hfault, fun hlive => hst.trans (if_pos hlive)⟩

theorem capture_ctx_again {x : Ctx} (hx : s.ctx? c = some x) (hf : x.fault.isSome = true) :
    ∃ y, (s.capture c f).ctx? c = some y ∧ y.fault = x.fault ∧ y.lost = min 0xFFFFFFFF (x.lost + 1) := by
  have h := (capture_again s c f hx hf).ctxs c
  rw [State.ctx_onCtx, if_pos rfl, hx, Option.map_some, Option.map_some, Option.map_eq_some_iff] at h
  obtain ⟨y, hy, hshown⟩ := h
  obtain ⟨-, hfault, hlost⟩ := Prod.mk.inj hshown |>.imp_right Prod.mk.inj
  exact ⟨y, hy, hfault, hlost⟩

theorem grp_capture (e g : Nat) : (s.capture c f).grp? e g = s.grp? e g := by
  cases hx : s.ctx? c with
  | none => rw [State.capture, hx]
  | some x =>
    cases hf : x.fault with
    | none => exact (capture_first s c f hx hf).groups e g
    | some _ => exact (capture_again s c f hx (by rw [hf]; rfl)).groups e g

theorem rd_capture (o : Nat) (ho : o % 64 ≠ 0) : (s.capture c f).rd o = s.rd o := by
  cases hx : s.ctx? c with
  | none => rw [State.capture, hx]
  | some x =>
    cases hf : x.fault with
    | none => exact ((capture_first s c f hx hf).regs o ho).trans (State.rd_onObjs s _ o)
    | some _ => exact ((capture_again s c f hx (by rw [hf]; rfl)).regs o ho).trans (State.rd_onObjs s _ o)

/-! ### The context stops on the engine (R133, R136) -/

variable (mine : Nat → Nat → Bool)

/-- The groups of an engine that a stop names are stopped, and their operations that have not started are gone. -/
def stoppedOn (n : Engine) : Engine :=
  { n with
    groups := SMap.mapVals n.groups (fun _ g => if mine g.ctx g.queue then { g with st := .stopped, ftr := 0 } else g)
    filet := n.filet.filter (fun p => !mine p.2.ctx p.2.queue || p.2.started)
    walks := SMap.mapVals n.walks (fun _ w =>
      if (n.groups.filter (fun p => mine p.2.ctx p.2.queue)).any (fun p => p.1 = w.group) then { w with drop := true } else w) }

/-- Beside them a stop withdraws waits and drops the answers of requests. -/
theorem aside_stopOn : Aside (s.onEng e (fun _ => stoppedOn mine (s.eng e))) (s.stopOn e mine) := by
  have hstop : s.onEng e (fun n => { n with
      groups := SMap.mapVals n.groups (fun _ g => if mine g.ctx g.queue then { g with st := .stopped, ftr := 0 } else g)
      filet := n.filet.filter (fun p => !mine p.2.ctx p.2.queue || p.2.started)
      walks := SMap.mapVals n.walks (fun _ w => if ((s.eng e).groups.filter (fun p => mine p.2.ctx p.2.queue)).any (fun p => p.1 = w.group)
        then { w with drop := true } else w) }) = s.onEng e (fun _ => stoppedOn mine (s.eng e)) := rfl
  unfold State.stopOn
  dsimp only
  rw [hstop]
  exact (aside_each _ (fun p _ t => aside_unregister t _) _).trans (aside_onTxns _ _)

theorem draining_stopCtx : ((s.stopCtx e c).eng e).draining = addNum (s.eng e).draining c := by
  have h := (aside_stopOn s e (fun x _ => x == c)).draining e
  rw [State.eng_onEng_same] at h
  rw [State.stopCtx, State.eng_onEng_same]
  exact congrArg (fun l => addNum l c) h

theorem grp_stopCtx (g : Nat) : (s.stopCtx e c).grp? e g =
    (s.grp? e g).map (fun v => if (v.ctx == c) = true then { v with st := .stopped, ftr := 0 } else v) := by
  have h := (aside_stopOn s e (fun x _ => x == c)).groups e g
  have hdrain : (s.stopCtx e c).grp? e g = (s.stopOn e (fun x _ => x == c)).grp? e g := grp_onEng _ e e g _ (fun _ => rfl)
  rw [hdrain, h, State.grp?, State.eng_onEng_same]
  exact get_mapVals (s.eng e).groups (fun _ v => if (v.ctx == c) = true then { v with st := .stopped, ftr := 0 } else v) g

theorem ctx_stopCtx (k : Nat) : ((s.stopCtx e c).ctx? k).map shown = (s.ctx? k).map shown := (aside_stopOn s e (fun x _ => x == c)).ctxs k

theorem rd_stopCtx (o : Nat) (ho : o % 64 ≠ 0) : (s.stopCtx e c).rd o = s.rd o := by
  rw [State.stopCtx, State.onEng, State.rd_onEngs, (aside_stopOn s e (fun x _ => x == c)).regs o ho]
  exact State.rd_onEngs s _ o

/-! ### A fault of an engine (R133) -/

variable (queue : Nat) (cmd : Bool) (b : Trouble)

/-- The state in which an engine has captured the syndrome of a fault of a context. -/
def withSyndrome : State :=
  s.passTime.syndrome e (((s.passTime.ctx? c).bind (·.slot)).getD 0) g lane b.code b.detail pc b.addr

/-- The record that the context captures. -/
def faultRec (s : State) : FaultRec :=
  { code := b.code, detail := b.detail, engine := e, group := g, lane := lane, queue := queue, pc := pc, addr := b.addr,
    time := s.count (engDie e), die := engDie e, cmd := cmd }

/-- The state in which the context has captured the fault too, and has stopped on the engine. -/
def faultStopped : State :=
  ((withSyndrome s e g lane pc c b).capture c (faultRec e g lane pc queue cmd b (withSyndrome s e g lane pc c b))).stopCtx e c

/-- Then a picot leaves for the front end. -/
theorem aside_engineFaultOf : Aside (faultStopped s e g lane pc c queue cmd b) (s.engineFaultOf e g lane c queue cmd b pc) :=
  aside_enginePicot _ _ _ _ _

theorem ctx_withSyndrome (k : Nat) : (withSyndrome s e g lane pc c b).ctx? k = s.ctx? k := by
  rw [State.ctx?, withSyndrome, (syndrome_only _ _ _ _ _ _ _ _ _).2]
  rfl

theorem grp_withSyndrome (e' k : Nat) : (withSyndrome s e g lane pc c b).grp? e' k = s.grp? e' k := by
  rw [State.grp?, State.eng, withSyndrome, (syndrome_only _ _ _ _ _ _ _ _ _).1]
  rfl

/-- A register of the engine's syndrome is as the syndrome has left it. -/
theorem fld_engineFaultOf (w : Field) :
    (s.engineFaultOf e g lane c queue cmd b pc).fld w (R.engFault e) = (withSyndrome s e g lane pc c b).fld w (R.engFault e) := by
  have ho : R.engFault e % 64 ≠ 0 := by
    unfold R.engFault
    omega
  rw [State.fld, (aside_engineFaultOf s e g lane pc c queue cmd b).regs _ ho, faultStopped, rd_stopCtx _ _ _ _ ho, rd_capture _ _ _ _ ho, State.fld]

theorem ctx_engineFaultOf (k : Nat) : ((s.engineFaultOf e g lane c queue cmd b pc).ctx? k).map shown =
    (((withSyndrome s e g lane pc c b).capture c (faultRec e g lane pc queue cmd b (withSyndrome s e g lane pc c b))).ctx? k).map shown :=
  ((aside_engineFaultOf s e g lane pc c queue cmd b).ctxs k).trans (ctx_stopCtx _ _ _ _)

/-- A first fault of a context: it holds the record, and is FAULTED where it was live. -/
theorem engineFaultOf_first {x : Ctx} (hx : s.ctx? c = some x) (hf : x.fault = none) :
    ∃ y r, (s.engineFaultOf e g lane c queue cmd b pc).ctx? c = some y ∧ y.fault = some (faultRec e g lane pc queue cmd b r) ∧
      (x.st = .live → y.st = .faulted) := by
  obtain ⟨y, hy, hfault, hst⟩ := capture_ctx_first (withSyndrome s e g lane pc c b) c
    (faultRec e g lane pc queue cmd b (withSyndrome s e g lane pc c b)) ((ctx_withSyndrome s e g lane pc c b c).trans hx) hf
  have h := ctx_engineFaultOf s e g lane pc c queue cmd b c
  rw [hy, Option.map_some, Option.map_eq_some_iff] at h
  obtain ⟨z, hz, hshown⟩ := h
  obtain ⟨hzst, hzfault, -⟩ := Prod.mk.inj hshown |>.imp_right Prod.mk.inj
  exact ⟨z, _, hz, hzfault.trans hfault, fun hlive => hzst.trans (hst hlive)⟩

theorem engineFaultOf_again {x : Ctx} (hx : s.ctx? c = some x) (hf : x.fault.isSome = true) :
    ∃ y, (s.engineFaultOf e g lane c queue cmd b pc).ctx? c = some y ∧ y.fault = x.fault ∧ y.lost = min 0xFFFFFFFF (x.lost + 1) := by
  obtain ⟨y, hy, hfault, hlost⟩ := capture_ctx_again (withSyndrome s e g lane pc c b) c
    (faultRec e g lane pc queue cmd b (withSyndrome s e g lane pc c b)) ((ctx_withSyndrome s e g lane pc c b c).trans hx) hf
  have h := ctx_engineFaultOf s e g lane pc c queue cmd b c
  rw [hy, Option.map_some, Option.map_eq_some_iff] at h
  obtain ⟨z, hz, hshown⟩ := h
  obtain ⟨-, hzfault, hzlost⟩ := Prod.mk.inj hshown |>.imp_right Prod.mk.inj
  exact ⟨z, hz, hzfault.trans hfault, hzlost.trans hlost⟩

/-- An engine's fault of a group is taken as the statements say. -/
theorem faultTakenAt_engineFaultOf {v : Group} (hv : s.grp? e g = some v) :
    s.faultTakenAt pc e g lane b.code b.detail b.addr v (s.engineFaultOf e g lane v.ctx v.queue cmd b pc) := by
  refine ⟨fun x hx hf => ?_, fun x hx hf => engineFaultOf_again s e g lane pc v.ctx v.queue cmd b hx hf, fun _ hvalid => ?_, ?_, ?_⟩
  · obtain ⟨y, r, hy, hfault, hst⟩ := engineFaultOf_first s e g lane pc v.ctx v.queue cmd b hx hf
    exact ⟨y, _, hy, hfault, rfl, rfl, rfl, rfl, rfl, rfl, rfl, rfl, hst⟩
  · have hvalid' : s.passTime.bit F.engFault_VALID (R.engFault e) = false := by
      rw [State.bit, (aside_passTime s).regs _ (by unfold R.engFault; omega)]
      exact hvalid
    rw [bit_eq_fld, fld_engineFaultOf, fld_engineFaultOf, fld_engineFaultOf]
    exact ⟨syndrome_VALID _ _ _ _ _ _ _ _ _ hvalid', fun hc => syndrome_CODE _ _ _ _ _ _ _ _ _ hvalid' hc,
      fun hg => syndrome_GROUP _ _ _ _ _ _ _ _ _ hvalid' hg⟩
  · rw [(aside_engineFaultOf s e g lane pc v.ctx v.queue cmd b).draining e, faultStopped, draining_stopCtx]
    exact mem_addNum_self _ _
  · rw [(aside_engineFaultOf s e g lane pc v.ctx v.queue cmd b).groups e g, faultStopped, grp_stopCtx, grp_capture, grp_withSyndrome, hv]
    simp

theorem faultTakenAt_groupFault {v : Group} (hv : s.grp? e g = some v) :
    s.faultTakenAt pc e g lane b.code b.detail b.addr v (s.groupFault e g lane b pc) := by
  rw [State.groupFault, hv]
  exact faultTakenAt_engineFaultOf s e g lane pc true b hv

/-- A fault of an instruction as a whole names its lowest active lane and its address. -/
theorem faultTaken_insnFault {v : Group} (hv : s.grp? e g = some v) :
    s.faultTaken e g v.lane0 code detail addr v (s.insnFault e g code detail addr) := by
  rw [State.insnFault, hv]
  exact faultTakenAt_groupFault s e g v.lane0 v.pc.toNat { code := code, detail := detail, addr := addr } hv

/-- What walks have delivered to a group plays no part in a fault. -/
theorem faultTakenAt_spent {v : Group} {t : State} {pc e g lane code detail addr : Nat} (h : s.faultTakenAt pc e g lane code detail addr v t) (k : VAddr) :
    s.faultTakenAt pc e g lane code detail addr v (t.spent e g k) := by
  rcases spent_cases t e g k with h' | h'
  · rw [h']
    exact h
  · have haside : Aside t (t.spent e g k) := by
      rw [h']
      exact aside_onEng t e _ (fun _ => rfl) (fun _ => rfl)
    obtain ⟨hfirst, hagain, hreg, hdrain, hstop⟩ := h
    have hctx : ∀ c, (t.spent e g k).ctx? c = t.ctx? c := fun c => by rw [h']; rfl
    have hrd : (t.spent e g k).rd (R.engFault e) = t.rd (R.engFault e) := haside.regs _ (by unfold R.engFault; omega)
    simp only [State.faultTakenAt, hctx, State.bit, State.fld, hrd, haside.draining, haside.groups]
    exact ⟨hfirst, hagain, hreg, hdrain, hstop⟩

end Sys2Proof.Machine.FaultLaws
end

section
/-!
PROOF. O14: integer operations, multiplies and lane exchanges (R63, R91, R93, R100, R103).
-/
namespace Sys2Proof.Machine.LaneLaws
open IssueLaws FaultLaws

/-- A list that names a register which the group does not have is not the group's. -/
theorem owns_false {v : Group} {rs : List Nat} (h : ∃ r, r ∈ rs ∧ r ≠ 255 ∧ v.n ≤ r) : v.owns rs = false := by
  obtain ⟨r, hr, h255, hn⟩ := h
  refine List.all_eq_false.2 ⟨r, hr, ?_⟩
  simp [h255, hn]

/-- An instruction that names such a register faults, whatever it would do. -/
theorem faultTaken_of_owns_false {s : State} {e g opc : Nat} {v : Group} {rs : List Nat} (h : s.fetched e g opc v)
    (hr : ∃ r, r ∈ rs ∧ r ≠ 255 ∧ v.n ≤ r) (k : Group → State → State) :
    s.faultTaken e g v.lane0 0x05 2 v.pc.toNat v (s.issue e g opc rs k) := by
  rw [issue_of_fetched h, owns_false hr, if_pos rfl]
  exact faultTaken_insnFault s e g 0x05 2 v.pc.toNat h.1

/-- A product and a sum of words, and their exact ones. -/
theorem mul_add_eq_ofNat (a b c : Word) : a * b + c = BitVec.ofNat 32 (a.toNat * b.toNat + c.toNat) := by
  apply BitVec.eq_of_toNat_eq
  simp

/-- The operations of R63 by the numbers of their words. -/
theorem i32Op_toNat (a b c : Word) : (i32Op .add a b c).toNat = (a.toNat + b.toNat) % 2 ^ 32 ∧
    (i32Op .sub a b c).toNat = (2 ^ 32 + a.toNat - b.toNat) % 2 ^ 32 ∧
    (i32Op .shl a b c).toNat = a.toNat * 2 ^ (b.toNat % 32) % 2 ^ 32 ∧ (i32Op .shr a b c).toNat = a.toNat / 2 ^ (b.toNat % 32) := by
  refine ⟨BitVec.toNat_add a b, ?_, ?_, ?_⟩
  · rw [i32Op, BitVec.toNat_sub, Nat.sub_add_comm b.isLt.le]
  · rw [i32Op, BitVec.toNat_shiftLeft, Nat.shiftLeft_eq]
  · rw [i32Op, BitVec.toNat_ushiftRight, Nat.shiftRight_eq_div_pow]

theorem i32Op_sar_toInt (a b c : Word) : (i32Op .sar a b c).toInt = a.toInt / 2 ^ (b.toNat % 32) := by
  rw [i32Op, BitVec.toInt_sshiftRight, Int.shiftRight_eq_div_pow]
  norm_cast

theorem i32Op_lts (a b c : Word) : i32Op (.cmp .lts) a b c = if a.toInt < b.toInt then Config.cmpTrue else Config.cmpFalse := by
  simp [i32Op, cmpHolds, BitVec.slt]

theorem i32Op_geu (a b c : Word) : i32Op (.cmp .geu) a b c = if b.toNat ≤ a.toNat then Config.cmpTrue else Config.cmpFalse := by
  simp [i32Op, cmpHolds]

end Sys2Proof.Machine.LaneLaws

namespace Sys2Proof.Machine
open IssueLaws FaultLaws LaneLaws

/-- Settles O14: each of the three writes one register in every active lane and goes on, and what it writes is the exact result's low word. -/
theorem laneArithmetic : Obligations.LaneArithmetic := by
  unfold Obligations.LaneArithmetic
  refine ⟨fun s e g opc rd op a b u h => ?_, fun s e g opc rd a b c u h => ?_, fun s e g opc rd a b u h => ?_,
    fun s e g opc rd ra op b u h => ?_, fun u l => rfl, fun s e g opc rd op a b u hf hr => ?_, fun a b c => ?_⟩
  · refine ⟨_, rfl, ?_⟩
    rw [i32Simple, issue_of_mayIssue h]
    exact writesLanes_of_setAll (grp_of_mayIssue h) rd _ _
  · refine ⟨_, rfl, ?_⟩
    rw [i32Multiply, issue_of_mayIssue h]
    simp only [mul_add_eq_ofNat]
    exact writesLanes_of_setAll (grp_of_mayIssue h) rd _ _
  · refine ⟨_, rfl, ?_⟩
    rw [i32Multiply, List.append_nil, issue_of_mayIssue h]
    simp only [mul_add_eq_ofNat]
    exact writesLanes_of_setAll (grp_of_mayIssue h) rd _ _
  · refine ⟨_, rfl, ?_⟩
    rw [laneExchange, issue_of_mayIssue h]
    exact writesLanes_of_setAll (grp_of_mayIssue h) rd _ _
  · exact ⟨_, rfl, faultTaken_of_owns_false hf hr _⟩
  · obtain ⟨hadd, hsub, hshl, hshr⟩ := i32Op_toNat a b c
    exact ⟨hadd, hsub, hshl, hshr, i32Op_sar_toInt a b c, i32Op_lts a b c, i32Op_geu a b c⟩

end Sys2Proof.Machine
end

section
/-!
PROOF. O16: special reads, AFLAGS, traps, and the end of a fault on an engine (R100, R102, R132, R133, R135, R137, R138).
-/
namespace Sys2Proof.Machine.SyndromeLaws
open MeshLaws IssueLaws FaultLaws

variable {s : State} {e g : Nat} {v : Group}

/-! ### Special reads -/

/-- A special read lets time pass and writes its register; the counter is read after that. -/
theorem specialRead_effect (h : s.grp? e g = some v) (w : Special) (rd : Nat) (pc : VAddr) (t : State)
    (ht : t = (s.passTime.onGrp e g (fun _ => (v.setAll rd (special w e g (s.passTime.count (engDie e)) v)).step)).spent e g pc) :
    t = { s with engs := t.engs, clk := t.clk, free := t.free } ∧ (∀ k, k ≠ e → t.eng k = s.eng k) ∧
    (∀ k, k ≠ g → t.grp? e k = s.grp? e k) ∧ ∃ u, t.grp? e g = some u ∧ v.wrote rd (special w e g (t.count (engDie e)) v) u := by
  have hg : s.passTime.grp? e g = some v := h
  obtain ⟨⟨⟨honly, heng⟩, -, -, hgrp⟩, u, hu, hwrote⟩ := writesLanes_of_setAll hg rd (special w e g (s.passTime.count (engDie e)) v) pc
  rw [← ht] at honly heng hgrp hu
  have hcount : t.count (engDie e) = s.passTime.count (engDie e) := by
    rw [honly]
    rfl
  refine ⟨?_, heng, hgrp, u, hu, ?_⟩
  · rw [honly]
    rfl
  · rw [hcount]
    exact hwrote

/-! ### A context is torn down (R133, R271, R288) -/

/-- What a step for each member of a list sets and every other keeps. -/
theorem each_reaches {α : Type} {f : α → State → State} {P : State → Prop} {a : α} {l : List α} (ha : a ∈ l) (hset : ∀ s, P (f a s))
    (hkeep : ∀ b s, P s → P (f b s)) (s : State) : P (each l f s) := by
  induction l generalizing s with
  | nil => exact absurd ha List.not_mem_nil
  | cons b l ih =>
    rcases List.mem_cons.1 ha with rfl | ha
    · exact each_keeps l (fun b _ => hkeep b) _ (hset s)
    · exact ih ha (f b s)

theorem get_filter_none {V : Type} (m : SMap V) (p : Nat × V → Bool) (k : Nat) (h : SMap.get? m k = none) : SMap.get? (m.filter p) k = none := by
  induction m with
  | nil => rfl
  | cons q m ih =>
    obtain ⟨j, u⟩ := q
    by_cases hj : j = k
    · simp [SMap.get?, hj] at h
    · rw [SMap.get?, if_neg hj] at h
      rw [List.filter_cons]
      split
      · rw [SMap.get?, if_neg hj]
        exact ih h
      · exact ih h

/-- A message that is gone stays gone. -/
def Gone (m : Nat) (s t : State) : Prop := s.msg? m = none → t.msg? m = none

theorem gone_of_eq {m : Nat} {s t : State} (h : t.msgs = s.msgs) : Gone m s t := fun hm => by
  rw [State.msg?, h]
  exact hm

theorem gone_unregister (m : Nat) (s : State) (who : Nat × Nat) : Gone m s (s.unregister who) := fun hm => get_filter_none _ _ m hm

theorem gone_each {α : Type} {m : Nat} {f : α → State → State} (hf : ∀ a s, Gone m s (f a s)) (l : List α) (s : State) : Gone m s (each l f s) :=
  fun hm => each_keeps (P := fun t => t.msg? m = none) l (fun a _ t ht => hf a t ht) s hm

theorem gone_stopCtx (m : Nat) (s : State) (e c : Nat) : Gone m s (s.stopCtx e c) := fun hm =>
  gone_each (f := fun (p : Nat × Group) t => t.unregister (1, 16 * e + p.1)) (fun _ t => gone_unregister m t _) _ _ hm

/-- The engines and the messages are left alone. -/
def Still (s t : State) : Prop := t.engs = s.engs ∧ t.msgs = s.msgs

theorem Still.refl (s : State) : Still s s := ⟨rfl, rfl⟩

theorem Still.trans {s t u : State} (h : Still s t) (h' : Still t u) : Still s u := ⟨h'.1.trans h.1, h'.2.trans h.2⟩

theorem still_ite {s t u : State} {c : Prop} [Decidable c] (ht : Still s t) (hu : Still s u) : Still s (if c then t else u) := by
  split
  · exact ht
  · exact hu

theorem still_each {α : Type} {f : α → State → State} (hf : ∀ a s, Still s (f a s)) (l : List α) (s : State) : Still s (each l f s) :=
  each_keeps (P := Still s) l (fun a _ t ht => ht.trans (hf a t)) s (.refl s)

theorem still_onMem (s : State) (f : Memory → Memory) : Still s (s.onMem f) := ⟨rfl, rfl⟩

theorem still_pokeSector (s : State) (sec mask : Nat) (bs : Bytes) : Still s (s.pokeSector sec mask bs) := by
  unfold State.pokeSector
  extract_lets c s₁ s₂
  have hmarked : Still s (if mask = fullMask then s.setMark sec false else s) := still_ite (still_onMem s _) (.refl s)
  have hput : Still s s₁ := still_ite ⟨rfl, rfl⟩ (hmarked.trans (still_onMem _ _))
  have hqueued : Still s s₂ := hput.trans (still_onMem s₁ _)
  exact still_ite (.refl s) (still_ite (still_onMem s _) (still_ite (.refl s) (hqueued.trans ⟨rfl, rfl⟩)))

theorem still_pin (s : State) (c i : Nat) (up : Bool) : Still s (s.pin c i up) := by
  unfold State.pin
  split
  · exact .refl s
  · exact still_each (fun i t => still_pokeSector t _ _ _) _ s

theorem still_dropHeld (s : State) (q : Nat) : Still s (s.dropHeld q) := by
  unfold State.dropHeld
  split
  · exact .refl s
  · exact still_each (fun (p : Nat × Nat) t => still_pin t p.1 p.2 false) _ s

/-- A command that stops leaves the engines, and sends nothing. -/
theorem stopRun_only (m : Nat) (s : State) (q : Nat) (f : Option FaultRec) : (s.stopRun q f).engs = s.engs ∧ Gone m s (s.stopRun q f) := by
  have hstay : s.engs = s.engs ∧ Gone m s s := ⟨rfl, id⟩
  unfold State.stopRun
  split
  · exact hstay
  · split
    · exact hstay
    · split
      · exact ⟨(still_dropHeld s q).1, gone_of_eq (still_dropHeld s q).2⟩
      · split
        · exact hstay
        · extract_lets own units s₁
          have hended : Still s s₁ := ⟨rfl, rfl⟩
          exact ⟨hended.1, fun hm => gone_unregister m s₁ _ (gone_of_eq hended.2 hm)⟩

theorem draining_stopCtx_kept (s : State) (e c k : Nat) (h : c ∈ (s.eng k).draining) : c ∈ ((s.stopCtx e c).eng k).draining := by
  by_cases hk : k = e
  · subst hk
    rw [draining_stopCtx]
    exact mem_addNum_self _ c
  · have hstop := (aside_stopOn s e (fun x _ => x == c)).draining k
    rw [State.eng_onEng_other _ _ _ _ hk] at hstop
    rw [State.stopCtx, State.eng_onEng_other _ _ _ _ hk, hstop]
    exact h

/-- A context that is torn down drains on every engine that holds something of it, and no message is sent. -/
theorem teardown_effect (s : State) (c m k : Nat) {x : Ctx} (hx : s.ctx? c = some x) {n : Engine} (hk : (k, n) ∈ s.engs) (hn : n.holdsCtx c = true)
    (hm : s.msg? m = none) : (s.teardown c).msg? m = none ∧ c ∈ ((s.teardown c).eng k).draining := by
  have hkey : k ∈ (s.engs.filter (fun p => p.2.holdsCtx c)).map (·.1) := List.mem_map.2 ⟨(k, n), List.mem_filter.2 ⟨hk, hn⟩, rfl⟩
  unfold State.teardown
  rw [hx]
  refine each_keeps (P := fun t => t.msg? m = none ∧ c ∈ (t.eng k).draining) _ (fun q _ t ht => ?_) _ ⟨?_, ?_⟩
  · obtain ⟨hengs, hgone⟩ := stopRun_only m t q x.fault
    refine ⟨hgone ht.1, ?_⟩
    rw [State.eng, hengs]
    exact ht.2
  · exact gone_each (fun e t => gone_stopCtx m t e c) _ s hm
  · refine each_reaches hkey (fun t => ?_) (fun e t ht => draining_stopCtx_kept t e c k ht) s
    rw [draining_stopCtx]
    exact mem_addNum_self _ c

/-! ### The end of a drain (R133) -/

theorem get_filter_some {V : Type} (m : SMap V) (p : Nat × V → Bool) (k : Nat) (v : V) (h : SMap.get? m k = some v) (hp : p (k, v) = true) :
    SMap.get? (m.filter p) k = some v := by
  induction m with
  | nil => simp [SMap.get?] at h
  | cons q m ih =>
    obtain ⟨j, u⟩ := q
    by_cases hj : j = k
    · subst hj
      simp only [SMap.get?, if_true, Option.some.injEq] at h
      subst h
      simp [hp, SMap.get?]
    · rw [SMap.get?, if_neg hj] at h
      rw [List.filter_cons]
      split
      · rw [SMap.get?, if_neg hj]
        exact ih h
      · exact ih h

/-- What a filtered map lists has passed the filter. -/
theorem pass_of_get_filter {V : Type} (m : SMap V) (p : Nat × V → Bool) (k : Nat) (v : V) (h : SMap.get? (m.filter p) k = some v) :
    p (k, v) = true := by
  induction m with
  | nil => simp [SMap.get?] at h
  | cons q m ih =>
    obtain ⟨j, u⟩ := q
    rw [List.filter_cons] at h
    split at h
    · rename_i hq
      by_cases hj : j = k
      · subst hj
        simp only [SMap.get?, if_true, Option.some.injEq] at h
        exact h ▸ hq
      · rw [SMap.get?, if_neg hj] at h
        exact ih h
    · exact ih h

theorem freeCtxOn_groups (s : State) (e c : Nat) : (∀ g u, s.grp? e g = some u → u.ctx ≠ c → (s.freeCtxOn e c).grp? e g = some u) ∧
    ∀ g u, (s.freeCtxOn e c).grp? e g = some u → u.ctx ≠ c := by
  have hgroups : ((s.freeCtxOn e c).eng e).groups = (s.eng e).groups.filter (fun p => p.2.ctx != c) := by
    rw [State.freeCtxOn, State.eng_onEng_same]
  refine ⟨fun g u hu hc => ?_, fun g u hu => ?_⟩
  · rw [State.grp?, hgroups]
    exact get_filter_some _ _ g u hu (bne_iff_ne.2 hc)
  · rw [State.grp?, hgroups] at hu
    exact bne_iff_ne.1 (pass_of_get_filter _ _ g u hu)

theorem freeCtxOn_draining (s : State) (e c : Nat) : c ∉ ((s.freeCtxOn e c).eng e).draining := by
  rw [State.freeCtxOn, State.eng_onEng_same]
  exact not_mem_delNum_self _ c

/-! ### The syndrome is cleared (R137, R138) -/

theorem engFault_ne_engFaultCnt (e : Nat) : R.engFault e ≠ R.engFaultCnt e := by unfold R.engFault R.engFaultCnt; omega

theorem engFaultClear_effect (s : State) (he : engineId e = true) :
    (engFaultClear e s).bit F.engFault_VALID (R.engFault e) = false ∧ (engFaultClear e s).fld F.engFaultCnt_LOST (R.engFaultCnt e) = 0 ∧
    (engFaultClear e s).fld F.engFault_CODE (R.engFault e) = s.fld F.engFault_CODE (R.engFault e) ∧
    s.onlyRegs [R.engFault e, R.engFaultCnt e] (engFaultClear e s) := by
  rw [engFaultClear, if_pos he, State.bit_setF_other _ _ _ _ _ _ (engFault_ne_engFaultCnt e), bit_setF_same _ _ _ _ (by decide),
    State.fld_setF_same _ _ _ _ (by decide), State.fld_setF_other _ _ _ _ _ _ (engFault_ne_engFaultCnt e),
    State.fld_setF_apart _ _ _ _ _ (by decide) (by decide)]
  exact ⟨by decide, by decide, rfl, onlyRegs_setF _ _ (by simp) (onlyRegs_setF _ _ (by simp) (onlyRegs_refl _))⟩

end Sys2Proof.Machine.SyndromeLaws

namespace Sys2Proof.Machine
open MeshLaws IssueLaws FaultLaws SyndromeLaws

/-- Settles O16, command by command: what a special read delivers, the flags that are cleared, the trap's fault, the teardown on every engine
that holds something of the context, what the end of a drain frees, and the two fields that a clear writes. -/
theorem flagsTrapsAndSyndromes : Obligations.FlagsTrapsAndSyndromes := by
  unfold Obligations.FlagsTrapsAndSyndromes
  refine ⟨fun s e g opc rd w u h => ?_, fun s e g opc m u h hm => ?_, fun s e g opc c u h hc => ?_,
    fun s m c q k e x y hx hkind harrived hy hfault hholds => ?_, fun s e c hdrains hdrained => ?_, fun s e he hlive => ?_⟩
  · obtain ⟨honly, heng, hgrp, v, hv, hwrote⟩ := specialRead_effect (grp_of_mayIssue h) w rd u.pc _ rfl
    refine ⟨_, congrArg Host.Outcome.next (issue_of_mayIssue h _), honly, heng, hgrp, v, hv, ?_⟩
    cases w <;> exact hwrote
  · refine ⟨_, congrArg Host.Outcome.next (issue_of_mayIssue h _), ?_⟩
    rw [Nat.mod_eq_of_lt hm]
    exact setsGroup_of_onGrp (grp_of_mayIssue h) _ _
  · refine ⟨_, congrArg Host.Outcome.next (issue_of_mayIssue h _), ?_⟩
    rw [Nat.mod_eq_of_lt hc]
    exact faultTakenAt_spent s (faultTaken_insnFault s e g 0x0F c _ (grp_of_mayIssue h)) _
  · obtain ⟨n, hk, hn⟩ := hholds
    have harrive : faultPicotArrive m s = (s.delMsg m).teardown c := by
      simp [faultPicotArrive, hx, hkind, harrived, hy, hfault]
    refine ⟨_, congrArg Host.Outcome.next harrive, ?_⟩
    exact teardown_effect (s.delMsg m) c m e hy hk hn (State.delMsg_none s m)
  · have hend : faultDrainEnd e c s = s.freeCtxOn e c := by
      simp [faultDrainEnd, hdrains, hdrained]
    obtain ⟨hkept, hgone⟩ := freeCtxOn_groups s e c
    exact ⟨_, congrArg Host.Outcome.next hend, rfl, fun k hk => State.eng_onEng_other s e k _ hk, freeCtxOn_draining s e c, hkept, hgone⟩
  · exact ⟨_, congrArg Host.Outcome.next (atReg_live s _ (engFaultClear e) hlive), engFaultClear_effect s he⟩

end Sys2Proof.Machine
end

section
/-!
PROOF. O19: motif slots (R80 to R86), acquire and release (R188, R189).
-/
namespace Sys2Proof.Machine.MotifLaws
open MeshLaws IssueLaws FaultLaws SyndromeLaws

variable {s t u : State} {e g : Nat} {v : Group}

/-! ### What an access may change -/

theorem onlyAccess_trans (h : s.onlyAccess e g t) (h' : t.onlyAccess e g u) : s.onlyAccess e g u := by
  obtain ⟨ht, heng, hgrp⟩ := h
  obtain ⟨hu, heng', hgrp'⟩ := h'
  refine ⟨?_, fun k hk => (heng' k hk).trans (heng k hk), fun k hk => (hgrp' k hk).trans (hgrp k hk)⟩
  rw [ht] at hu
  exact hu

theorem onlyAccess_of_onlyGroup (h : s.onlyGroup e g t) : s.onlyAccess e g t := by
  obtain ⟨⟨ht, heng⟩, -, -, hgrp⟩ := h
  refine ⟨?_, heng, hgrp⟩
  rw [ht]

theorem onlyAccess_onGrp (s : State) (e g : Nat) (f : Group → Group) : s.onlyAccess e g (s.onGrp e g f) :=
  onlyAccess_of_onlyGroup (onlyGroup_onGrp s e g f)

theorem onlyAccess_onEng (s : State) (e g : Nat) (f : Engine → Engine) (hf : ∀ n, (f n).groups = n.groups) : s.onlyAccess e g (s.onEng e f) :=
  ⟨rfl, fun k hk => State.eng_onEng_other s e k f hk, fun k _ => grp_onEng s e e k f hf⟩

theorem onlyAccess_onTxns (s : State) (e g : Nat) (f : SMap Txn → SMap Txn) : s.onlyAccess e g (s.onTxns f) :=
  ⟨rfl, fun _ _ => rfl, fun _ _ => rfl⟩

theorem onlyAccess_spent (h : s.onlyAccess e g t) (pc : VAddr) : s.onlyAccess e g (t.spent e g pc) := by
  rcases spent_cases t e g pc with h' | h' <;> rw [h']
  · exact h
  · exact onlyAccess_trans h (onlyAccess_onEng t e g _ (fun _ => rfl))

/-- Requests that leave one after the other: `y` gives each from its number and the state that it leaves. -/
def asks (y : Nat → State → Txn) (n : Nat) (s : State) : State := each (List.range n) (fun i t => (t.addTxn (y i t)).2) s

theorem asks_succ (y : Nat → State → Txn) (n : Nat) (s : State) : asks y (n + 1) s = ((asks y n s).addTxn (y n (asks y n s))).2 := by
  rw [asks, List.range_succ, each, List.foldl_append]
  rfl

theorem asks_only (y : Nat → State → Txn) (n : Nat) (s : State) :
    asks y n s = { s with txns := (asks y n s).txns, nextId := s.nextId + n } := by
  induction n with
  | zero => rfl
  | succ n ih =>
    rw [asks_succ, State.addTxn, ih]
    rfl

theorem eng_asks (y : Nat → State → Txn) (n : Nat) (s : State) (e : Nat) : (asks y n s).eng e = s.eng e := by
  rw [asks_only]
  rfl

/-- Each request is on its way under a number of its own. -/
theorem txn_asks (y : Nat → State → Txn) (n i : Nat) (hi : i < n) (s : State) : ∃ r, (asks y n s).txn? (s.nextId + i) = some (y i r) := by
  induction n with
  | zero => omega
  | succ n ih =>
    have hid : (asks y n s).nextId = s.nextId + n := by rw [asks_only]
    rw [asks_succ, State.addTxn, State.txn?, hid]
    rcases Nat.lt_succ_iff_lt_or_eq.1 hi with hn | rfl
    · obtain ⟨r, hr⟩ := ih hn
      exact ⟨r, (SMapLaws.get_put_other _ _ _ _ (by omega)).trans hr⟩
    · exact ⟨_, SMapLaws.get_put_same _ _ _⟩

theorem onlyAccess_asks (y : Nat → State → Txn) (n : Nat) (s : State) (e g : Nat) : s.onlyAccess e g (asks y n s) := by
  rw [asks_only]
  exact ⟨rfl, fun _ _ => rfl, fun _ _ => rfl⟩

/-! ### MOTIF_EVALUATE (R81, R82, R86) -/

theorem setAll_regs (r : Nat) (f : Nat → Word) (v : Group) : ∃ m, v.setAll r f = { v with regs := m } := setLanes_regs r f (lanesOf v.active) v

/-- A group whose active lanes have evaluated a table: the result in each, and the flags of clamped inputs and results. -/
def evaluated (img : Bytes) (rd ra : Nat) (v : Group) : Group :=
  { (v.setAll rd (fun l => (motifEval img (v.reg ra l)).1)).step with
    aflags := setFlag ((lanesOf v.active).any (fun l => (motifEval img (v.reg ra l)).2.2)) .motifOutSat
      (setFlag ((lanesOf v.active).any (fun l => (motifEval img (v.reg ra l)).2.1)) .motifInSat v.aflags) }

/-- But for its flags it has written its register. -/
theorem wrote_evaluated (img : Bytes) (rd ra : Nat) (v : Group) :
    v.wrote rd (fun l => (motifEval img (v.reg ra l)).1) { evaluated img rd ra v with aflags := v.aflags } := by
  have hflags : { evaluated img rd ra v with aflags := v.aflags } = (v.setAll rd (fun l => (motifEval img (v.reg ra l)).1)).step := by
    obtain ⟨m, hm⟩ := setAll_regs rd (fun l => (motifEval img (v.reg ra l)).1) v
    rw [evaluated, hm]
    rfl
  rw [hflags]
  exact wrote_setAll rd _ v

theorem motifEvaluate_hit {opc slot rd ra : Nat} {m : Motif} {img : Bytes} (h : s.mayIssue e g opc [rd, ra] v)
    (hm : SMap.get? (s.eng e).motifs (8 * v.ctx + slot % 8) = some m) (hl : m.loading = false) (himg : m.image = some img) :
    motifEvaluate e g opc slot rd ra s = (s.onGrp e g (fun _ => evaluated img rd ra v)).spent e g v.pc := by
  have hset : ((lanesOf v.active).map (fun l => (l, motifEval img (v.reg ra l)))).foldl (fun v p => v.setReg rd p.1 p.2.1) v =
      v.setAll rd (fun l => (motifEval img (v.reg ra l)).1) := List.foldl_map
  rw [motifEvaluate, issue_of_mayIssue h, motifKey, hm]
  simp only [hl, himg, hset, List.any_map, Bool.false_eq_true, if_false, Function.comp_def, evaluated]

theorem motifEvaluate_empty {opc slot rd ra : Nat} (h : s.mayIssue e g opc [rd, ra] v)
    (hm : SMap.get? (s.eng e).motifs (8 * v.ctx + slot % 8) = none) :
    motifEvaluate e g opc slot rd ra s = (s.insnFault e g 0x0B (slot % 8) v.pc.toNat).spent e g v.pc := by
  rw [motifEvaluate, issue_of_mayIssue h, motifKey, hm]

/-! ### MOTIF_LOAD (R81, R83, R130) -/

/-- The slot is marked as loading an image from an address. -/
def slotLoads (key va : Nat) (n : Engine) : Engine :=
  { n with
    motifs := SMap.upd n.motifs key { src := va, image := none, loading := false, lines := [] }
      (fun x => { x with src := va, loading := true, lines := [] }) }

/-- The request for line `i` of an image, on the first page or on the last. -/
def lineAsk (e g slot va : Nat) (v : Group) (l l2 : Leaf) (m : Mobj) (i : Nat) (t : State) : Txn :=
  let lf := if l.va ≤ va + 128 * i ∧ va + 128 * i < l.va + l.size then l else l2
  { Txn.blank (.motif e v.ctx (slot % 8)) (engDie e) (engQuad e) ((t.ctx? v.ctx).map (·.hoop)) (some v.ctx) .read lf.space
      (lf.phys (va + 128 * i)) with
    secs := if i = 6 then 1 else 15, va := va + 128 * i, pc := v.pc.toNat, rd := g, size := i, offs := [(v.lane0, 0)], queue := v.queue,
    noInstall := true, mirrored := t.isMirrored m }

theorem motifLoad_asks {opc slot : Nat} {va : VAddr} {l l2 : Leaf} {m m2 : Mobj} (h : s.mayIssue e g opc [] v) (hva : va.toNat % 256 = 0)
    (hl : s.page e g v.ctx .read va.toNat = .ok l m) (hl2 : s.page e g v.ctx .read (va.toNat + 783) = .ok l2 m2)
    (hend : va.toNat + 784 ≤ m.va + m.size) (hbusy : s.motifBusy e v.ctx slot = false) :
    motifLoad e g opc slot va s = (asks (lineAsk e g slot va.toNat v l l2 m) 7
      ((s.onGrp e g Group.step).onEng e (slotLoads (motifKey v.ctx slot) va.toNat))).spent e g v.pc := by
  rw [motifLoad, issue_of_mayIssue h]
  simp only [hva, hbusy, hl, hl2, Nat.not_lt.2 hend, ne_eq, not_true_eq_false, Bool.false_eq_true, if_false]
  rfl

/-- What a load has done once it has issued. -/
theorem motifLoad_effect {opc slot : Nat} {va : VAddr} {l l2 : Leaf} {m m2 : Mobj} (h : s.mayIssue e g opc [] v) (hva : va.toNat % 256 = 0)
    (hl : s.page e g v.ctx .read va.toNat = .ok l m) (hl2 : s.page e g v.ctx .read (va.toNat + 783) = .ok l2 m2)
    (hend : va.toNat + 784 ≤ m.va + m.size) (hbusy : s.motifBusy e v.ctx slot = false) (t : State) (ht : t = motifLoad e g opc slot va s) :
    s.onlyAccess e g t ∧ t.grp? e g = some v.step ∧
    (∃ x, SMap.get? (t.eng e).motifs (8 * v.ctx + slot % 8) = some x ∧ x.loading = true ∧ x.src = va.toNat) ∧
    ∀ i, i < 7 → ∃ r, t.txn? (s.nextId + i) = some (lineAsk e g slot va.toNat v l l2 m i r) := by
  rw [motifLoad_asks h hva hl hl2 hend hbusy] at ht
  have hmarked : s.onlyAccess e g ((s.onGrp e g Group.step).onEng e (slotLoads (motifKey v.ctx slot) va.toNat)) :=
    onlyAccess_trans (onlyAccess_onGrp s e g _) (onlyAccess_onEng _ e g (slotLoads (motifKey v.ctx slot) va.toNat) (fun _ => rfl))
  have hgrp : ((s.onGrp e g Group.step).onEng e (slotLoads (motifKey v.ctx slot) va.toNat)).grp? e g = some v.step :=
    (grp_onEng _ e e g (slotLoads (motifKey v.ctx slot) va.toNat) (fun _ => rfl)).trans (grp_onGrp_self (grp_of_mayIssue h) _)
  have heng := State.eng_onEng_same (s.onGrp e g Group.step) e (slotLoads (motifKey v.ctx slot) va.toNat)
  have hnext : ((s.onGrp e g Group.step).onEng e (slotLoads (motifKey v.ctx slot) va.toNat)).nextId = s.nextId := rfl
  generalize (s.onGrp e g Group.step).onEng e (slotLoads (motifKey v.ctx slot) va.toNat) = r at *
  subst ht
  refine ⟨onlyAccess_spent (onlyAccess_trans hmarked (onlyAccess_asks _ 7 r e g)) _, ?_, ?_, fun i hi => ?_⟩
  · rw [grp_spent, State.grp?, eng_asks]
    exact hgrp
  · have hmotifs : (((asks (lineAsk e g slot va.toNat v l l2 m) 7 r).spent e g v.pc).eng e).motifs = (r.eng e).motifs := by
      rw [eng_spent, eng_asks]
    rw [hmotifs, heng]
    exact ⟨_, SMapLaws.get_put_same _ _ _, rfl, rfl⟩
  · rw [State.txn?, spent_only, ← hnext]
    exact txn_asks (lineAsk e g slot va.toNat v l l2 m) 7 i hi r

/-! ### MOTIF_LOAD_COMPLETE (R83, R84) -/

theorem cut_all (b : Bytes) (n : Nat) (h : b.length = n) : cut b 0 n = b := by
  simp [cut, zeros, ← h]

/-- The lines of a load as they have come back: answered, unpoisoned, each of its 128 bytes. -/
def Came (y : Nat → Txn) : Prop :=
  ∀ i, i < 7 → (y i).size = i ∧ (y i).stage = .reply ∧ (y i).moving = false ∧ (y i).dead = false ∧ (y i).status = 0 ∧
    (y i).poison = 0 ∧ (y i).words = 0 ∧ (y i).data.length = 128

/-- The seven lines by the numbers of their requests. -/
def sevenLines (k : Nat) (y : Nat → Txn) : SMap Txn := (List.range 7).map (fun i => (k + i, y i))

theorem came_of_mem {k : Nat} {y : Nat → Txn} (h : Came y) {p : Nat × Txn} (hp : p ∈ sevenLines k y) :
    p.2.stage = .reply ∧ p.2.moving = false ∧ p.2.dead = false ∧ p.2.status = 0 ∧ p.2.poison = 0 ∧ p.2.words = 0 := by
  obtain ⟨i, hi, rfl⟩ := List.mem_map.1 hp
  obtain ⟨-, hstage, hmoving, hdead, hstatus, hpoison, hwords, -⟩ := h i (List.mem_range.1 hi)
  exact ⟨hstage, hmoving, hdead, hstatus, hpoison, hwords⟩

/-- An answer without a poisoned sector or word has no poisoned place. -/
theorem badAt_none {x : Txn} (hp : x.poison = 0) (hw : x.words = 0) (off len : Nat) : x.badAt off len = none := by
  have hbad : ∀ k, x.badWords k = 0 := fun k => by
    unfold Txn.badWords
    rw [hp, hw]
    split
    · rfl
    · split <;> simp
  rw [Txn.badAt, List.find?_eq_none.2]
  · rfl
  · intro w _
    simp [hbad]

theorem findLine {k i : Nat} {y : Nat → Txn} (h : Came y) (hi : i < 7) :
    (((sevenLines k y).find? (fun p => p.2.size = i)).map (fun p => cut p.2.data 0 128)).getD (zeros 128) = (y i).data := by
  have hsize : ∀ j, j < 7 → (y j).size = j := fun j hj => (h j hj).1
  have hfind : (sevenLines k y).find? (fun p => p.2.size = i) = some (k + i, y i) := by
    rw [sevenLines, List.find?_map]
    have hrange : (List.range 7).find? ((fun p => decide (p.2.size = i)) ∘ fun j => (k + j, y j)) = (List.range 7).find? (fun j => decide (j = i)) :=
      List.find?_congr (fun j hj => by simp [hsize j (List.mem_range.1 hj)])
    rw [hrange]
    interval_cases i <;> rfl
  obtain ⟨-, -, -, -, -, -, -, hlen⟩ := h i hi
  rw [hfind, Option.map_some, Option.getD_some, cut_all _ _ hlen]

/-- The image that the lines bring. -/
def imageOf (y : Nat → Txn) : Bytes := ((List.range 7).flatMap (fun i => (y i).data)).take 784

/-- The requests of a load are gone, and its slot is loading no more. -/
def loadEnds (s : State) (e c slot : Nat) : State :=
  (s.onTxns (fun m => m.filter (fun p => !(p.2.issuer == .motif e c (slot % 8) && !p.2.dead)))).onEng e
    (fun n => { n with motifs := SMap.modify n.motifs (motifKey c slot) (fun x => { x with loading := false }) })

theorem motifLoadComplete_came {c slot k : Nat} {y : Nat → Txn} (hslot : slot < 8) (h : Came y)
    (hts : s.txns.filter (fun p => p.2.issuer == .motif e c slot) = sevenLines k y) :
    motifLoadComplete e c slot s = if motifVersion (imageOf y) ≠ 1 then
        (loadEnds s e c slot).engineFault e (y 0).rd ((y 0).offs.headD (0, 0)).1 c (y 0).queue (trouble 0x0C 1 ((y 0).va / 256 * 256)) (y 0).pc
      else (loadEnds s e c slot).onEng e (fun n => { n with
        motifs := SMap.modify n.motifs (motifKey c slot) (fun x => { x with image := some (imageOf y) }) }) := by
  have hmod : slot % 8 = slot := Nat.mod_eq_of_lt hslot
  have hlive : ∀ p ∈ s.txns, (p.2.issuer == .motif e c slot) = true → p.2.dead = false := fun p hp hi => by
    obtain ⟨-, -, hdead, -⟩ := came_of_mem (k := k) h (hts ▸ List.mem_filter.2 ⟨hp, hi⟩)
    exact hdead
  have hkept : s.onTxns (fun m => m.filter (fun p => !(p.2.issuer == .motif e c (slot % 8) && p.2.dead && p.2.stage == .reply && !p.2.moving))) = s := by
    have hall : s.txns.filter (fun p => !(p.2.issuer == .motif e c (slot % 8) && p.2.dead && p.2.stage == .reply && !p.2.moving)) = s.txns :=
      List.filter_eq_self.2 (fun p hp => by
        rw [hmod]
        cases hi : p.2.issuer == .motif e c slot with
        | false => rfl
        | true => rw [hlive p hp hi]; rfl)
    rw [State.onTxns, hall]
  have hlines : s.txns.filter (fun p => p.2.issuer == .motif e c (slot % 8) && !p.2.dead) = sevenLines k y := by
    rw [← hts, hmod]
    refine List.filter_congr (fun p hp => ?_)
    cases hi : p.2.issuer == .motif e c slot with
    | false => rfl
    | true => rw [hlive p hp hi]; rfl
  have hready : (sevenLines k y).any (fun p => p.2.stage != .reply || p.2.moving) = false :=
    List.any_eq_false.2 (fun p hp => by
      obtain ⟨hstage, hmoving, -⟩ := came_of_mem h hp
      simp [hstage, hmoving])
  have hstatus : ∀ r : State, (sevenLines k y).filterMap (fun p => r.statusTrouble p.2) = [] := fun r =>
    List.filterMap_eq_nil_iff.2 (fun p hp => by
      obtain ⟨-, -, -, hst, -⟩ := came_of_mem h hp
      simp [State.statusTrouble, hst])
  have hpoison : (sevenLines k y).findSome? (fun p => (p.2.badAt 0 (if p.2.size = 6 then 16 else 128)).map (fun a => p.2.va + a)) = none :=
    List.findSome?_eq_none_iff.2 (fun p hp => by
      obtain ⟨-, -, -, -, hp, hw⟩ := came_of_mem h hp
      rw [badAt_none hp hw]
      rfl)
  have himg : ((List.range 7).flatMap (fun i => (((sevenLines k y).find? (fun p => p.2.size = i)).map (fun p => cut p.2.data 0 128)).getD
      (zeros 128))).take 784 = imageOf y := by
    rw [imageOf, List.flatMap_congr (fun i hi => findLine h (List.mem_range.1 hi))]
  have hseven : decide ((sevenLines k y).length < 7) = false := rfl
  unfold motifLoadComplete
  simp only [hkept, hlines, hready, hstatus, hpoison, himg, hseven]
  rfl

/-- The slot after its load has ended, and after it has taken an image. -/
theorem motif_loadEnds {c slot : Nat} {x : Motif} (hslot : slot < 8) (hx : SMap.get? (s.eng e).motifs (8 * c + slot) = some x) (img : Bytes) :
    SMap.get? (((loadEnds s e c slot).onEng e (fun n => { n with
      motifs := SMap.modify n.motifs (motifKey c slot) (fun x => { x with image := some img }) })).eng e).motifs (8 * c + slot) =
      some { x with loading := false, image := some img } := by
  have hkey : 8 * c + slot = motifKey c slot := by rw [motifKey, Nat.mod_eq_of_lt hslot]
  rw [hkey] at hx ⊢
  rw [State.eng_onEng_same, loadEnds, State.eng_onEng_same]
  have hold : SMap.get? ((s.onTxns (fun m => m.filter (fun p => !(p.2.issuer == .motif e c (slot % 8) && !p.2.dead)))).eng e).motifs
    (motifKey c slot) = some x := hx
  simp only [SMapLaws.get_modify, if_true, hold, Option.map_some]

/-! ### MOTIF_CLEAR (R80) -/

/-- The engine's slot is empty. -/
def slotClears (key : Nat) (n : Engine) : Engine := { n with motifs := SMap.del n.motifs key }

/-- A clear empties the slot and drops the requests of a load under way. -/
theorem motifClear_effect {opc slot : Nat} (h : s.mayIssue e g opc [] v) (t : State) (ht : t = motifClear e g opc slot s) :
    s.onlyAccess e g t ∧ t.grp? e g = some v.step ∧ SMap.get? (t.eng e).motifs (8 * v.ctx + slot % 8) = none ∧
    ∀ i y, t.txn? i = some y → y.issuer = .motif e v.ctx (slot % 8) → y.dead = true := by
  have hcleared : s.onlyAccess e g ((s.onGrp e g Group.step).onEng e (slotClears (motifKey v.ctx slot))) :=
    onlyAccess_trans (onlyAccess_onGrp s e g _) (onlyAccess_onEng _ e g (slotClears (motifKey v.ctx slot)) (fun _ => rfl))
  have hgrp : ((s.onGrp e g Group.step).onEng e (slotClears (motifKey v.ctx slot))).grp? e g = some v.step :=
    (grp_onEng _ e e g (slotClears (motifKey v.ctx slot)) (fun _ => rfl)).trans (grp_onGrp_self (grp_of_mayIssue h) _)
  have heng := State.eng_onEng_same (s.onGrp e g Group.step) e (slotClears (motifKey v.ctx slot))
  rw [motifClear, issue_of_mayIssue h] at ht
  subst ht
  refine ⟨onlyAccess_spent (onlyAccess_trans hcleared (onlyAccess_onTxns _ e g _)) _, ?_, ?_, fun i y hy hissuer => ?_⟩
  · rw [grp_spent]
    exact hgrp
  · rw [eng_spent]
    refine (congrArg (fun n => SMap.get? n.motifs (8 * v.ctx + slot % 8)) heng).trans ?_
    exact SMapLaws.get_del_same _ _
  · rw [State.txn?, spent_only, State.onTxns_txns, get_mapVals, Option.map_eq_some_iff] at hy
    obtain ⟨x, -, rfl⟩ := hy
    split at hissuer
    · rw [if_pos ‹_›]
    · rename_i hother
      exact absurd (beq_iff_eq.2 hissuer) hother

/-! ### Acquire and release (R188, R189) -/

/-- A group that stands ready at an address, and has not issued, keeps what walks delivered to it. -/
theorem spent_self (hg : s.grp? e g = some v) (hst : v.st = .ready) : s.spent e g v.pc = s := by
  simp [State.spent, hg, hst]

theorem readsOut_onGrp (s : State) (e g e' g' : Nat) (f : Group → Group) : (s.onGrp e g f).readsOut e' g' = s.readsOut e' g' := rfl

/-- A group that begins an acquire. -/
def acquires (scope : Nat) (v : Group) : Group := { v.step with st := .acquire scope, fenceElapsed := 0 }

/-- With a load or an atomic outstanding an acquire waits. -/
theorem resume_waits (hg : s.grp? e g = some v) (scope : Nat) (hout : s.readsOut e g = true) :
    s.resume e g scope = s.onGrp e g (acquires scope) := by
  have hstep : s.resume e g scope = (s.onGrp e g (acquires scope)).acquireTry e g := rfl
  rw [hstep, State.acquireTry, grp_onGrp_self hg]
  simp [acquires, readsOut_onGrp, hout]

theorem resume_ends (hg : s.grp? e g = some v) (scope : Nat) (hout : s.readsOut e g = false) :
    s.resume e g scope = (if 2 ≤ scope then (s.onGrp e g (acquires scope)).l1Invalidate e v.ctx else s.onGrp e g (acquires scope)).onGrp e g
      (fun v => { v with st := .ready }) := by
  have hstep : s.resume e g scope = (s.onGrp e g (acquires scope)).acquireTry e g := rfl
  rw [hstep, State.acquireTry, grp_onGrp_self hg]
  simp [acquires, readsOut_onGrp, hout, Group.step]

/-- The L1 loses the lines of a context. -/
def l1Drops (c : Nat) (n : Engine) : Engine := { n with l1 := n.l1.filter (fun l => l.ctx != c) }

theorem onlyAccess_l1Invalidate (s : State) (e g c : Nat) : s.onlyAccess e g (s.l1Invalidate e c) :=
  onlyAccess_trans (onlyAccess_onEng s e g (l1Drops c) (fun _ => rfl)) (onlyAccess_onTxns _ e g _)

theorem grp_l1Invalidate (s : State) (e g c : Nat) : (s.l1Invalidate e c).grp? e g = s.grp? e g :=
  grp_onEng s e e g (l1Drops c) (fun _ => rfl)

theorem l1_spent (s : State) (e g : Nat) (pc : VAddr) : ((s.spent e g pc).eng e).l1 = (s.eng e).l1 := by rw [eng_spent]

theorem l1_onGrp (s : State) (e g : Nat) (f : Group → Group) : ((s.onGrp e g f).eng e).l1 = (s.eng e).l1 := by rw [eng_onGrp]

/-- No line of the context is left in the L1. -/
theorem ctx_of_mem_l1Invalidate (s : State) (e c : Nat) : ∀ x ∈ ((s.l1Invalidate e c).eng e).l1, x.ctx ≠ c := by
  have hl1 : ((s.l1Invalidate e c).eng e).l1 = (s.eng e).l1.filter (fun l => l.ctx != c) :=
    congrArg Engine.l1 (State.eng_onEng_same s e (l1Drops c))
  intro x hx
  rw [hl1] at hx
  exact bne_iff_ne.1 (List.mem_filter.1 hx).2

/-- What an acquire that need not wait has done. -/
theorem resume_ends_effect (hg : s.grp? e g = some v) (scope : Nat) (hout : s.readsOut e g = false) :
    s.onlyAccess e g (s.resume e g scope) ∧
    (s.resume e g scope).grp? e g = some { v with pc := v.pc + 8, krec := none, st := .ready, fenceElapsed := 0 } ∧
    (scope < 2 → ((s.resume e g scope).eng e).l1 = (s.eng e).l1) ∧ (2 ≤ scope → ∀ x ∈ ((s.resume e g scope).eng e).l1, x.ctx ≠ v.ctx) := by
  rw [resume_ends hg scope hout]
  have hbegun := onlyAccess_onGrp s e g (acquires scope)
  have hgrp := grp_onGrp_self hg (acquires scope)
  split
  · refine ⟨onlyAccess_trans (onlyAccess_trans hbegun (onlyAccess_l1Invalidate _ e g v.ctx)) (onlyAccess_onGrp _ e g _), ?_,
      fun hlow => by omega, fun _ => ?_⟩
    · exact grp_onGrp_self ((grp_l1Invalidate _ e g v.ctx).trans hgrp) _
    · rw [l1_onGrp]
      exact ctx_of_mem_l1Invalidate _ e v.ctx
  · refine ⟨onlyAccess_trans hbegun (onlyAccess_onGrp _ e g _), grp_onGrp_self hgrp _, fun _ => ?_, fun hwide => by omega⟩
    rw [l1_onGrp, l1_onGrp]

end Sys2Proof.Machine.MotifLaws

namespace Sys2Proof.Machine
open MeshLaws IssueLaws FaultLaws SyndromeLaws MotifLaws

/-- Settles O19, instruction by instruction: an evaluation by its one write and its flags, a load by its seven requests and its end, and an
acquire and a release by whether the group has anything outstanding. -/
theorem motifsAcquireRelease : Obligations.MotifsAcquireRelease := by
  unfold Obligations.MotifsAcquireRelease
  refine ⟨fun s e g opc slot rd ra u h => ⟨fun m img hm hl himg => ?_, fun hm => ?_⟩,
    fun s e g opc slot va u l l2 m m2 h hva hl hl2 hend hbusy => ?_, fun s e c slot k y x hslot hx hts hcame => ⟨fun hver => ?_, fun hver z hz hfree => ?_⟩,
    fun s e g opc slot u h => ?_, fun s e g opc scope u h hscope => ?_, fun s e g opc scope u h hscope => ?_⟩
  · obtain ⟨honly, hgrp⟩ := setsGroup_of_onGrp (grp_of_mayIssue h) (fun _ => evaluated img rd ra u) u.pc
    exact ⟨_, congrArg Host.Outcome.next (motifEvaluate_hit h hm hl himg), honly, _, hgrp, rfl, wrote_evaluated img rd ra u⟩
  · refine ⟨_, congrArg Host.Outcome.next (motifEvaluate_empty h hm), ?_⟩
    exact faultTakenAt_spent s (faultTaken_insnFault s e g 0x0B _ _ (grp_of_mayIssue h)) _
  · obtain ⟨honly, hgrp, hslot, hasked⟩ := motifLoad_effect h hva hl hl2 hend hbusy _ rfl
    refine ⟨_, rfl, honly, hgrp, hslot, fun i hi => ?_⟩
    obtain ⟨r, hr⟩ := hasked i hi
    exact ⟨_, _, hr, rfl, rfl, rfl, rfl, rfl⟩
  · have hver' : ¬ motifVersion (imageOf y) ≠ 1 := not_not.2 hver
    exact ⟨_, congrArg Host.Outcome.next ((motifLoadComplete_came hslot hcame hts).trans (if_neg hver')), rfl, motif_loadEnds hslot hx _⟩
  · have hver' : motifVersion (imageOf y) ≠ 1 := hver
    obtain ⟨w, r, hw, hfault, -⟩ := engineFaultOf_first (loadEnds s e c slot) e (y 0).rd ((y 0).offs.headD (0, 0)).1 (y 0).pc c (y 0).queue true
      (trouble 0x0C 1 ((y 0).va / 256 * 256)) hz hfree
    exact ⟨_, w, _, congrArg Host.Outcome.next ((motifLoadComplete_came hslot hcame hts).trans (if_pos hver')), hw, hfault, rfl, rfl⟩
  · exact ⟨_, rfl, motifClear_effect h _ rfl⟩
  · have hnarrow : ¬ 4 < scope := Nat.not_lt.2 hscope
    refine ⟨_, congrArg Host.Outcome.next (issue_of_mayIssue h _), ?_⟩
    rw [if_neg hnarrow]
    cases hout : s.readsOut e g with
    | true =>
      rw [resume_waits (grp_of_mayIssue h) scope hout]
      obtain ⟨honly, hgrp⟩ := setsGroup_of_onGrp (grp_of_mayIssue h) (acquires scope) u.pc
      exact ⟨onlyAccess_of_onlyGroup honly, fun _ => ⟨honly.2.1, hgrp⟩, fun hno => absurd hno (by decide)⟩
    | false =>
      obtain ⟨honly, hgrp, hkept, hdropped⟩ := resume_ends_effect (grp_of_mayIssue h) scope hout
      refine ⟨onlyAccess_spent honly _, fun hno => absurd hno (by decide), fun _ => ?_⟩
      rw [grp_spent, l1_spent]
      exact ⟨hgrp, hkept, hdropped⟩
  · have hnarrow : ¬ 4 < scope := Nat.not_lt.2 hscope
    have hissue := issue_of_mayIssue h (fun u t =>
      if 4 < scope then t.insnFault e g 0x05 4 u.pc.toNat else if t.releaseDone e g scope then t.onGrp e g Group.step else t)
    rw [if_neg hnarrow] at hissue
    refine ⟨fun hdone => ⟨_, congrArg Host.Outcome.next hissue, ?_⟩, fun hwide hout => ?_⟩
    · have hdone' : s.releaseDone e g scope = true := by
        rcases hdone with hlow | hnone
        · simp [State.releaseDone, hlow]
        · simp [State.releaseDone, hnone]
      rw [if_pos hdone']
      exact setsGroup_of_onGrp (grp_of_mayIssue h) Group.step _
    · have hwait : s.releaseDone e g scope = false := by simp [State.releaseDone, hout, Nat.not_lt.2 hwide]
      rw [hwait, if_neg Bool.false_ne_true, spent_self (grp_of_mayIssue h) (ready_of_mayIssue h)] at hissue
      exact congrArg Host.Outcome.next hissue

end Sys2Proof.Machine
end

section
/-!
PROOF. What a byte of a memory or of a tile store reads after a run of bytes has been written (R126, R128).
-/
namespace Sys2Proof.Machine.CellLaws

/-- Cells below an address play no part in a write there. -/
theorem cellPut_append (l m : List Host.Cell) (a : Nat) (v : Byte) (h : ∀ c ∈ l, c.1 < a) : cellPut (l ++ m) a v = l ++ cellPut m a v := by
  induction l with
  | nil => rfl
  | cons c l ih =>
    obtain ⟨b, u⟩ := c
    have hb : b < a := h (b, u) (List.mem_cons_self ..)
    rw [List.cons_append, cellPut, if_neg (by omega), if_neg (by omega), ih (fun c hc => h c (List.mem_cons_of_mem _ hc))]
    rfl

theorem cellsWrite_append (bs : Bytes) (l m : List Host.Cell) (a mask : Nat) (h : ∀ c ∈ l, c.1 < a) :
    cellsWrite (l ++ m) a mask bs = l ++ cellsWrite m a mask bs := by
  induction bs generalizing m a mask with
  | nil => rfl
  | cons b bs ih =>
    rw [cellsWrite, cellsWrite, ← ih _ _ _ (fun c hc => Nat.lt_succ_of_lt (h c hc))]
    split
    · rw [cellPut_append l m a b h]
    · rfl

theorem cellsMask_eq_cellsWrite (m : List Host.Cell) (a mask : Nat) (bs : Bytes) : cellsMask m a mask bs = cellsWrite m a mask bs := by
  rw [cellsMask, ← cellsWrite_append bs _ _ a mask (takeWhile_lt m a), List.takeWhile_append_dropWhile]

theorem cellAt_cellPut (m : List Host.Cell) (a x : Nat) (v : Byte) (h : Memory.wfCells m = true) :
    cellAt (cellPut m a v) x = if x = a then v else cellAt m x := by
  split
  · rename_i hx
    subst hx
    exact cellAt_cellPut_same m x v h
  · exact cellAt_cellPut_other m a x v ‹_› h

/-- A byte after a masked write: one of the bytes that the mask names, or as before. -/
theorem cellAt_cellsWrite (bs : Bytes) (m : List Host.Cell) (a mask x : Nat) (h : Memory.wfCells m = true) :
    cellAt (cellsWrite m a mask bs) x = if a ≤ x ∧ x < a + bs.length ∧ mask.testBit (x - a) = true then bs.getD (x - a) 0 else cellAt m x := by
  induction bs generalizing m a mask with
  | nil => rw [cellsWrite, if_neg (by simp only [List.length_nil]; omega)]
  | cons b bs ih =>
    have hwf : Memory.wfCells (if mask % 2 = 1 then cellPut m a b else m) = true := by
      split
      · exact wfCells_cellPut m a b h
      · exact h
    have hfirst : cellAt (if mask % 2 = 1 then cellPut m a b else m) x = if x = a ∧ mask % 2 = 1 then b else cellAt m x := by
      by_cases hbit : mask % 2 = 1
      · simp only [hbit, if_true, cellAt_cellPut m a x b h, and_true]
      · simp only [hbit, if_false, and_false]
    rw [cellsWrite, ih _ _ _ hwf, hfirst]
    rcases Nat.lt_trichotomy x a with hlt | rfl | hgt
    · rw [if_neg (by omega), if_neg (by omega), if_neg (by omega)]
    · rw [if_neg (by omega)]
      simp [Nat.testBit_zero]
    · obtain ⟨k, rfl⟩ := Nat.exists_eq_add_of_lt hgt
      have hk : a + k + 1 - a = k + 1 := by omega
      have hk' : a + k + 1 - (a + 1) = k := by omega
      have hin : (a + 1 ≤ a + k + 1 ∧ a + k + 1 < a + 1 + bs.length) = (a ≤ a + k + 1 ∧ a + k + 1 < a + (b :: bs).length) := by
        rw [List.length_cons]
        exact propext (by omega)
      have hne : ¬ (a + k + 1 = a ∧ mask % 2 = 1) := by omega
      rw [if_neg hne, hk, hk', Nat.testBit_div_two, List.getD_cons_succ]
      simp only [← and_assoc, hin]

theorem cellAt_cellsPut (m : List Host.Cell) (a x : Nat) (bs : Bytes) (h : Memory.wfCells m = true) :
    cellAt (cellsPut m a bs) x = if a ≤ x ∧ x < a + bs.length then bs.getD (x - a) 0 else cellAt m x := by
  rw [cellsPut, cellsMask_eq_cellsWrite, cellAt_cellsWrite bs m a _ x h, Nat.testBit_two_pow_sub_one]
  by_cases hx : a ≤ x ∧ x < a + bs.length
  · rw [if_pos hx, if_pos ⟨hx.1, hx.2, decide_eq_true (by omega)⟩]
  · rw [if_neg hx, if_neg (fun hin => hx ⟨hin.1, hin.2.1⟩)]

theorem cellsAt_eq_map (m : List Host.Cell) (a n : Nat) : cellsAt m a n = (List.range n).map (fun i => cellAt m (a + i)) := by
  induction n generalizing a with
  | zero => rfl
  | succ n ih =>
    rw [cellsAt, ih, List.range_succ_eq_map, List.map_cons, List.map_map]
    refine congrArg (cellAt m a :: ·) (List.map_congr_left (fun i _ => ?_))
    rw [Function.comp_apply, Nat.succ_eq_add_one, Nat.add_right_comm, Nat.add_assoc]

/-- A run of bytes reads back as it was written. -/
theorem cellsAt_cellsPut_same (m : List Host.Cell) (a : Nat) (bs : Bytes) (h : Memory.wfCells m = true) :
    cellsAt (cellsPut m a bs) a bs.length = bs := by
  rw [cellsAt_eq_map]
  refine List.ext_getElem (by simp) (fun i hi _ => ?_)
  have hlen : i < bs.length := by simpa using hi
  rw [List.getElem_map, List.getElem_range, cellAt_cellsPut m a _ bs h, if_pos ⟨by omega, by omega⟩, Nat.add_sub_cancel_left,
    List.getD_eq_getElem _ _ hlen]

theorem cellAt_cellsPut_apart (m : List Host.Cell) (a x : Nat) (bs : Bytes) (h : Memory.wfCells m = true) (hx : x < a ∨ a + bs.length ≤ x) :
    cellAt (cellsPut m a bs) x = cellAt m x := by
  rw [cellAt_cellsPut m a x bs h, if_neg (by omega)]

end Sys2Proof.Machine.CellLaws
end

section
/-!
PROOF. O20: filet operations are issued, waited for and started (R109 to R119, R128).
-/
namespace Sys2Proof.Machine.FiletLaws
open MeshLaws IssueLaws FaultLaws SyndromeLaws MotifLaws CellLaws

variable {s : State} {e g k : Nat} {v : Group}

/-! ### FILET (R109, R116, R117) -/

/-- The group once its operation has entry `k`: the token in every active lane, and the entry's bit in FTR. -/
def tokened (k rd : Nat) (v : Group) : Group := ((v.setAll rd (fun _ => BitVec.ofNat 32 (2 ^ k))).step).setFtr k

theorem tokened_ftr (k rd : Nat) (v : Group) : (tokened k rd v).ftr = v.ftr ||| 2 ^ k := by
  obtain ⟨m, hm⟩ := setAll_regs rd (fun _ => BitVec.ofNat 32 (2 ^ k)) v
  rw [tokened, hm]
  rfl

/-- But for FTR it has written the token. -/
theorem wrote_tokened (k rd : Nat) (v : Group) : v.wrote rd (fun _ => BitVec.ofNat 32 (2 ^ k)) { tokened k rd v with ftr := v.ftr } := by
  have hftr : { tokened k rd v with ftr := v.ftr } = (v.setAll rd (fun _ => BitVec.ofNat 32 (2 ^ k))).step := by
    obtain ⟨m, hm⟩ := setAll_regs rd (fun _ => BitVec.ofNat 32 (2 ^ k)) v
    rw [tokened, hm]
    rfl
  rw [hftr]
  exact wrote_setAll rd _ v

/-- The eight words of an operation, as a lane's registers hold them. -/
def filetWords (v : Group) (vb : Nat) : List Nat := (List.range 8).map (fun i => (v.reg (vb + i) v.lane0).toNat)

/-- The entry of an operation that a group issues. -/
def newEntry (g vb : Nat) (v : Group) (n : Engine) : FEntry :=
  { group := g, lane := v.lane0, queue := v.queue, ctx := v.ctx, pc := v.pc, words := filetWords v vb, order := n.order,
    started := false, flags := 0, todo := [], page := none }

/-- The engine with the entry taken. -/
def entryTaken (k : Nat) (f : FEntry) (n : Engine) : Engine := { n with filet := SMap.put n.filet k f, order := n.order + 1 }

section issue

variable {opc vb rd : Nat} (h : s.mayIssue e g opc [rd] v) (hown : v.ownsBlock vb 8 8 = true) (hfree : v.free (blockRegs vb 8) = true)
  (hk : freeNum 8 ((s.eng e).filet.map (·.1)) = some k)
  (hroom : ((s.eng e).filet.filter (fun p => p.2.group = g && v.ftr.testBit p.1)).length < 4)

include h hown hfree hk hroom

theorem filet_taken (hcheck : filetCheck ((s.eng e).winBS v.queue).2 v.pc.toNat (filetWords v vb) = none)
    (hext : s.extentsBad e g v.ctx (filetExtents (filetWords v vb)) = none) :
    filet e g opc vb rd s = ((s.onEng e (entryTaken k (newEntry g vb v (s.eng e)))).onGrp e g (tokened k rd)).spent e g v.pc := by
  rw [filetWords] at hcheck hext
  rw [filet, issue_of_mayIssue h]
  simp only [hown, hfree, hk, Nat.not_le.2 hroom, hcheck, hext, Bool.not_true, Bool.false_eq_true, if_false]
  rfl

theorem filet_refused {f : Trouble} (hcheck : filetCheck ((s.eng e).winBS v.queue).2 v.pc.toNat (filetWords v vb) = some f) :
    filet e g opc vb rd s = (s.groupFault e g v.lane0 f v.pc.toNat).spent e g v.pc := by
  rw [filetWords] at hcheck
  rw [filet, issue_of_mayIssue h]
  simp only [hown, hfree, hk, Nat.not_le.2 hroom, hcheck, Bool.not_true, Bool.false_eq_true, if_false]

end issue

/-! ### FWAIT (R118, R327) -/

theorem share_onGrp (s : State) (e g q : Nat) (f : Group → Group) : (s.onGrp e g f).share? e q = s.share? e q := by
  rw [State.share?, eng_onGrp, State.share?]

theorem fwait_passes {opc : Nat} {m : Src} (h : s.mayIssue e g opc (srcRegs m) v) (hm : v.ftr &&& (v.src m v.lane0).toNat % 256 = 0) :
    fwait e g opc m s = (s.onGrp e g Group.step).spent e g v.pc := by
  rw [fwait, issue_of_mayIssue h]
  simp only [hm, if_true]

theorem fwait_stays {opc : Nat} {m : Src} (h : s.mayIssue e g opc (srcRegs m) v) (hm : v.ftr &&& (v.src m v.lane0).toNat % 256 ≠ 0) :
    fwait e g opc m s = (s.waitOrPark e g (.fwait ((v.src m v.lane0).toNat % 256)) id).spent e g v.pc := by
  rw [fwait, issue_of_mayIssue h]
  simp only [hm, if_false]

/-- A group whose command is not being saved waits. -/
theorem waitOrPark_waits (hg : s.grp? e g = some v) (st : GState) (go : State → State) (hs : ∀ h, s.share? e v.queue = some h → h.saving = none) :
    s.waitOrPark e g st go = go (s.onGrp e g (fun v => { v with st := st })) := by
  have hnone : (s.share? e v.queue).any (fun h => h.saving.isSome) = false := by
    cases hh : s.share? e v.queue with
    | none => rfl
    | some h => simp [hs h hh]
  rw [State.waitOrPark, hg]
  simp only [share_onGrp, hnone, Bool.false_eq_true, if_false]

/-- One whose command is being saved, and that has passed no KNOT, parks with every register and its whole window. -/
theorem waitOrPark_parks (hg : s.grp? e g = some v) (st : GState) (go : State → State) {h : Share} (hh : s.share? e v.queue = some h)
    (hs : h.saving.isSome = true) (hk : v.krec = none) :
    ∃ ranges, s.waitOrPark e g st go = (s.onGrp e g (fun v => { v with st := st })).setPark e g (2 ^ v.n - 1) ranges (parkWhy { v with st := st }) := by
  rw [State.waitOrPark, hg]
  simp only [share_onGrp, hh, Option.any_some, hs, if_true]
  rw [State.parkGroup, grp_onGrp_self hg]
  simp only [hk]
  exact ⟨_, rfl⟩

theorem grp_setPark {t : State} (hg : t.grp? e g = some v) (live : Nat) (ranges : List (Nat × Nat)) (why : Nat × Nat × Nat × Nat) :
    (t.setPark e g live ranges why).grp? e g = some { v with
      st := .parked { why := why.1, live := live % 2 ^ v.n, ranges := ranges, arg := why.2.1, va := why.2.2.1, target := why.2.2.2 } } :=
  grp_onGrp_self (((aside_unregister t _).groups e g).trans hg) _

/-! ### Entries of the filet -/

theorem entry_onEntry (s : State) (e k : Nat) (f : FEntry → FEntry) : (s.onEntry e k f).entry? e k = (s.entry? e k).map f := by
  rw [State.entry?, State.onEntry, State.eng_onEng_same]
  exact (SMapLaws.get_modify _ k k f).trans (if_pos rfl)

theorem entry_onEng (s : State) (e k : Nat) (f : Engine → Engine) (hf : ∀ n, (f n).filet = n.filet) : (s.onEng e f).entry? e k = s.entry? e k := by
  rw [State.entry?, State.eng_onEng_same, hf, State.entry?]

theorem entry_tilePut (s : State) (e k a : Nat) (bs : Bytes) : (s.onEng e (Engine.tilePut a bs)).entry? e k = s.entry? e k :=
  entry_onEng s e k _ (fun _ => rfl)

theorem eng_onEntry (s : State) (e k : Nat) (f : FEntry → FEntry) :
    (s.onEntry e k f).eng e = { s.eng e with filet := SMap.modify (s.eng e).filet k f } := State.eng_onEng_same s e _

/-! ### A start (R119, R128) -/

/-- The state in which the reads of an operation have met their code errors. -/
def withErrs (s : State) (e kind : Nat) (errs : List (Nat × CodeError)) : State := if kind = 3 then s else s.onEng e (Engine.tileErrs errs)

/-- The engine beside the poison of its tile store is as before, and so is all else. -/
theorem withErrs_only (s : State) (e kind : Nat) (errs : List (Nat × CodeError)) : withErrs s e kind errs = { s with engs := (withErrs s e kind errs).engs } ∧
    (withErrs s e kind errs).eng e = { s.eng e with tilePoison := ((withErrs s e kind errs).eng e).tilePoison } := by
  unfold withErrs
  split
  · exact ⟨rfl, rfl⟩
  · refine ⟨rfl, ?_⟩
    rw [State.eng_onEng_same, Engine.tileErrs]

/-- And the entry counts as started. -/
def started (s : State) (e k kind : Nat) (errs : List (Nat × CodeError)) : State := (withErrs s e kind errs).onEntry e k (fun f => { f with started := true })

section start

variable {f : FEntry} {kind : Nat} (errs : List (Nat × CodeError)) (hf : s.entry? e k = some f) (hkind : fKind f.words = kind)
  (hruns : s.runs (engDie e) = true) (hmay : (s.eng e).mayStart k f = true)

include hf hkind hruns hmay

theorem startOp_eq (go : FEntry → State → State) : s.startOp e k kind errs go = match ((withErrs s e kind errs).eng e).readBad f with
    | some w => (withErrs s e kind errs).entryFault e k (trouble 0x09 2 (8 * w - (((withErrs s e kind errs).eng e).winBS f.queue).1))
    | none => go f (started s e k kind errs) := by
  have hpass : (fKind f.words != kind || !(s.eng e).mayStart k f || !s.runs (engDie e)) = false := by simp [hkind, hmay, hruns]
  rw [State.startOp, hf]
  simp only [hpass, Bool.false_eq_true, if_false]
  rfl

theorem startOp_starts (go : FEntry → State → State) (hgood : ((withErrs s e kind errs).eng e).readBad f = none) :
    s.startOp e k kind errs go = go f (started s e k kind errs) := by
  rw [startOp_eq errs hf hkind hruns hmay go, hgood]

end start

theorem eng_started (s : State) (e k kind : Nat) (errs : List (Nat × CodeError)) : ∃ p, (started s e k kind errs).eng e =
    { s.eng e with tilePoison := p, filet := SMap.modify (s.eng e).filet k (fun f => { f with started := true }) } := by
  rw [started, eng_onEntry, (withErrs_only s e kind errs).2]
  exact ⟨_, rfl⟩

theorem started_only (s : State) (e k kind : Nat) (errs : List (Nat × CodeError)) :
    started s e k kind errs = { s with engs := (started s e k kind errs).engs } := by
  unfold started withErrs
  split <;> rfl

theorem winAt_started (s : State) (e k kind : Nat) (errs : List (Nat × CodeError)) (f : FEntry) (r : Range) :
    (started s e k kind errs).winAt e f r = s.winAt e f r := by
  obtain ⟨p, hp⟩ := eng_started s e k kind errs
  rw [State.winAt, hp]
  rfl

theorem winBS_started (s : State) (e k kind : Nat) (errs : List (Nat × CodeError)) (q : Nat) :
    ((started s e k kind errs).eng e).winBS q = (s.eng e).winBS q := by
  obtain ⟨p, hp⟩ := eng_started s e k kind errs
  rw [hp]
  rfl

theorem tile_started (s : State) (e k kind : Nat) (errs : List (Nat × CodeError)) : ((started s e k kind errs).eng e).tile = (s.eng e).tile := by
  obtain ⟨p, hp⟩ := eng_started s e k kind errs
  rw [hp]

theorem entry_started {f : FEntry} (hf : s.entry? e k = some f) (kind : Nat) (errs : List (Nat × CodeError)) :
    (started s e k kind errs).entry? e k = some { f with started := true } := by
  obtain ⟨p, hp⟩ := eng_started s e k kind errs
  rw [State.entry?, hp]
  change SMap.get? (SMap.modify (s.eng e).filet k (fun f => { f with started := true })) k = _
  rw [SMapLaws.get_modify, if_pos rfl]
  exact congrArg (Option.map _) hf

/-- The tile store of every engine of a state that keeps the invariant is in its canonical form. -/
theorem wfCells_tile (h : s.Inv) (e : Nat) : Memory.wfCells (s.eng e).tile = true := by
  have hlisted : ∀ (l : SMap Engine) (n : Engine), SMap.get? l e = some n → (e, n) ∈ l := fun l => by
    induction l with
    | nil => simp [SMap.get?]
    | cons p l ih =>
      obtain ⟨j, m⟩ := p
      intro n hn
      rw [SMap.get?] at hn
      split at hn
      · rename_i hj
        obtain rfl := Option.some.inj hn
        rw [hj]
        exact List.mem_cons_self ..
      · exact List.mem_cons_of_mem _ (ih n hn)
  rw [State.eng, SMap.getD]
  cases hn : SMap.get? s.engs e with
  | none => rfl
  | some n => exact h.2 _ (hlisted _ n hn)

/-! ### MMA_START (R67 to R71) -/

/-- What an MMA makes of its accumulator tile. -/
def mmaOf (s : State) (e : Nat) (f : FEntry) : Bytes × Bool :=
  mmaResult f.words (s.winAt e f ((mmaOperands f.words).getD 0 { lo := 0, len := 0 })) (s.winAt e f ((mmaOperands f.words).getD 1 { lo := 0, len := 0 }))
    (s.winAt e f ((mmaOperands f.words).getD 2 { lo := 0, len := 0 })) (s.winAt e f ((mmaOperands f.words).getD 3 { lo := 0, len := 0 }))
    (s.winAt e f (mmaAcc f.words))

/-- The place of its accumulator tile in the tile store. -/
def accPlace (s : State) (e : Nat) (f : FEntry) : Nat := ((s.eng e).winBS f.queue).1 + off20 f.words 5

/-- The state in which the tile has been replaced and a saturation noted. -/
def accumulated (s : State) (e k : Nat) (f : FEntry) (errs : List (Nat × CodeError)) : State :=
  ((started s e k 1 errs).onEng e (Engine.tilePut (accPlace s e f) (mmaOf s e f).1)).onEntry e k
    (fun h => { h with flags := setFlag (mmaOf s e f).2 .accSat h.flags })

theorem mmaStart_accumulates {f : FEntry} (errs : List (Nat × CodeError)) (hf : s.entry? e k = some f) (hkind : fKind f.words = 1)
    (hruns : s.runs (engDie e) = true) (hmay : (s.eng e).mayStart k f = true) (hgood : ((s.eng e).tileErrs errs).readBad f = none) :
    mmaStart e k errs s = accumulated s e k f errs := by
  have hgood' : ((withErrs s e 1 errs).eng e).readBad f = none := by
    rw [withErrs, if_neg (by decide), State.eng_onEng_same]
    exact hgood
  rw [mmaStart, startOp_starts errs hf hkind hruns hmay _ hgood']
  simp only [winAt_started, winBS_started]
  rfl

theorem eng_accumulated (s : State) (e k : Nat) (f : FEntry) (errs : List (Nat × CodeError)) : ∃ p fs, (accumulated s e k f errs).eng e =
    { s.eng e with tile := cellsPut (s.eng e).tile (accPlace s e f) (mmaOf s e f).1, tilePoison := p, filet := fs } := by
  obtain ⟨p, hp⟩ := eng_started s e k 1 errs
  rw [accumulated, eng_onEntry, State.eng_onEng_same, hp]
  exact ⟨_, _, rfl⟩

theorem entry_accumulated {f : FEntry} (hf : s.entry? e k = some f) (errs : List (Nat × CodeError)) :
    (accumulated s e k f errs).entry? e k = some { f with started := true, flags := setFlag (mmaOf s e f).2 .accSat f.flags } := by
  rw [accumulated, entry_onEntry, entry_tilePut, entry_started hf, Option.map_some]

theorem accumulated_only (s : State) (e k : Nat) (f : FEntry) (errs : List (Nat × CodeError)) :
    accumulated s e k f errs = { s with engs := (accumulated s e k f errs).engs } := by
  rw [accumulated, started_only]
  rfl

/-! ### OUT_START (R64, R72 to R74) -/

/-- The lines of an OUT. -/
def outLines (s : State) (e : Nat) (f : FEntry) : List (Bytes × Nat × Bool × Bool) :=
  (List.range 32).map (outLineOf f.words (s.winAt e f { lo := off20 f.words 1, len := 8192 }))

/-- What it has to write to memory. -/
def outTodo (ws : List Nat) (ls : List (Bytes × Nat × Bool × Bool)) : List Piece :=
  lineGroups ((List.range 32).flatMap (fun i => partsOf (va57 ws 2 + i * outDpitch ws) 0 ((ls.getD i ([], 0, false, false)).1)) ++
    (if outMode ws = 0 then [] else (List.range 32).flatMap (fun i =>
      partsOf (va57 ws 4 + i * outSpitch ws) 0 (leBytes 2 (ls.getD i ([], 0, false, false)).2.1))))

/-- The flags of clamped blocks and elements. -/
def outFlags (ls : List (Bytes × Nat × Bool × Bool)) (w : Word) : Word :=
  setFlag (ls.any (·.2.2.2)) .narrowSat (setFlag (ls.any (·.2.2.1)) .packClamp w)

/-- The state in which an OUT has started and noted its flags. -/
def outFlagged (s : State) (e k : Nat) (f : FEntry) (errs : List (Nat × CodeError)) : State :=
  (started s e k 2 errs).onEntry e k (fun h => { h with flags := outFlags (outLines s e f) h.flags })

/-- And in which it has written the bytes of its lines into the tile store. -/
def outWritten (s : State) (e k : Nat) (f : FEntry) (errs : List (Nat × CodeError)) : State :=
  (outFlagged s e k f errs).onEng e (Engine.tilePut (((s.eng e).winBS f.queue).1 + off20 f.words 2) ((outLines s e f).flatMap (·.1)))

theorem outStart_writes {f : FEntry} (errs : List (Nat × CodeError)) (hf : s.entry? e k = some f) (hkind : fKind f.words = 2)
    (hruns : s.runs (engDie e) = true) (hmay : (s.eng e).mayStart k f = true) (hgood : ((s.eng e).tileErrs errs).readBad f = none) :
    outStart e k errs s = if outMem f.words then (outFlagged s e k f errs).onEntry e k (fun h => { h with todo := outTodo f.words (outLines s e f) })
      else if outMode f.words = 0 then outWritten s e k f errs
      else (outWritten s e k f errs).onEng e (Engine.tilePut (((s.eng e).winBS f.queue).1 + off20 f.words 3)
        ((outLines s e f).flatMap (fun l => leBytes 2 l.2.1))) := by
  have hgood' : ((withErrs s e 2 errs).eng e).readBad f = none := by
    rw [withErrs, if_neg (by decide), State.eng_onEng_same]
    exact hgood
  rw [outStart, startOp_starts errs hf hkind hruns hmay _ hgood']
  simp only [winAt_started, winBS_started]
  rfl

theorem outFlagged_only (s : State) (e k : Nat) (f : FEntry) (errs : List (Nat × CodeError)) :
    outFlagged s e k f errs = { s with engs := (outFlagged s e k f errs).engs } := by
  rw [outFlagged, started_only]
  rfl

theorem entry_outFlagged {f : FEntry} (hf : s.entry? e k = some f) (errs : List (Nat × CodeError)) :
    (outFlagged s e k f errs).entry? e k = some { f with started := true, flags := outFlags (outLines s e f) f.flags } := by
  rw [outFlagged, entry_onEntry, entry_started hf, Option.map_some]

theorem tile_outFlagged (s : State) (e k : Nat) (f : FEntry) (errs : List (Nat × CodeError)) :
    ((outFlagged s e k f errs).eng e).tile = (s.eng e).tile := by
  rw [outFlagged, eng_onEntry]
  exact tile_started s e k 2 errs

theorem tile_tilePut (s : State) (e a : Nat) (bs : Bytes) : ((s.onEng e (Engine.tilePut a bs)).eng e).tile = cellsPut (s.eng e).tile a bs := by
  rw [State.eng_onEng_same, Engine.tilePut]

/-- The bytes that a write leaves in the tile store. -/
theorem tileAt_tilePut (s : State) (e a : Nat) (bs : Bytes) (h : Memory.wfCells (s.eng e).tile = true) :
    ((s.onEng e (Engine.tilePut a bs)).eng e).tileAt a bs.length = bs := by
  rw [Engine.tileAt, tile_tilePut]
  exact cellsAt_cellsPut_same _ a bs h

theorem wfCells_tilePut (s : State) (e a : Nat) (bs : Bytes) (h : Memory.wfCells (s.eng e).tile = true) :
    Memory.wfCells ((s.onEng e (Engine.tilePut a bs)).eng e).tile = true := by
  rw [tile_tilePut]
  exact wfCells_cellsPut _ a bs h

theorem length_leBytes (n x : Nat) : (leBytes n x).length = n := by
  induction n generalizing x with
  | zero => rfl
  | succ n ih => rw [leBytes, List.length_cons, ih]

/-- The 32 scale words take 64 bytes. -/
theorem length_outScales (s : State) (e : Nat) (f : FEntry) : ((outLines s e f).flatMap (fun l => leBytes 2 l.2.1)).length = 64 := by
  rw [List.length_flatMap, outLines, List.map_map]
  simp only [Function.comp_def, length_leBytes, List.map_const', List.length_range, List.sum_replicate]
  rfl

/-! ### FILET_LOAD_START and FILET_STORE_START (R114, R115) -/

/-- The rows that a LOAD has to read. -/
def loadTodo (s : State) (e : Nat) (f : FEntry) : List Piece :=
  lineGroups ((List.range (mvRows f.words)).flatMap (fun r =>
    partsOf (va57 f.words 2 + r * mvMpitch f.words) (((s.eng e).winBS f.queue).1 + off20 f.words 1 + r * mvTpitch f.words) (zeros (mvLen f.words))))

/-- The rows that a STORE of the eight words has to write, with their bytes. -/
def storeTodo (s : State) (e : Nat) (ws : List Nat) (f : FEntry) : List Piece :=
  lineGroups ((List.range (mvRows ws)).flatMap (fun r =>
    partsOf (va57 ws 2 + r * mvMpitch ws) 0 (s.winAt e f { lo := off20 ws 1 + r * mvTpitch ws, len := mvLen ws })))

/-- An operation that has started, with what it has to move. -/
def toMove (s : State) (e k kind : Nat) (errs : List (Nat × CodeError)) (todo : FEntry → List Piece) : State :=
  (started s e k kind errs).onEntry e k (fun h => { h with todo := todo h })

/-- A LOAD reads nothing of the tile store. -/
theorem readBad_load (n : Engine) {f : FEntry} (hkind : fKind f.words = 3) : n.readBad f = none := by
  simp [Engine.readBad, filetReads, hkind]

theorem filetLoadStart_reads {f : FEntry} (hf : s.entry? e k = some f) (hkind : fKind f.words = 3) (hruns : s.runs (engDie e) = true)
    (hmay : (s.eng e).mayStart k f = true) : filetLoadStart e k s = toMove s e k 3 [] (fun _ => loadTodo s e f) := by
  rw [filetLoadStart, startOp_starts [] hf hkind hruns hmay _ (readBad_load _ hkind)]
  simp only [winBS_started]
  rfl

theorem filetStoreStart_writes {f : FEntry} (errs : List (Nat × CodeError)) (hf : s.entry? e k = some f) (hkind : fKind f.words = 4)
    (hruns : s.runs (engDie e) = true) (hmay : (s.eng e).mayStart k f = true) (hgood : ((s.eng e).tileErrs errs).readBad f = none) :
    filetStoreStart e k errs s = toMove s e k 4 errs (fun h => storeTodo s e f.words h) := by
  have hgood' : ((withErrs s e 4 errs).eng e).readBad f = none := by
    rw [withErrs, if_neg (by decide), State.eng_onEng_same]
    exact hgood
  rw [filetStoreStart, startOp_starts errs hf hkind hruns hmay _ hgood']
  simp only [winAt_started]
  rfl

theorem toMove_only (s : State) (e k kind : Nat) (errs : List (Nat × CodeError)) (todo : FEntry → List Piece) :
    toMove s e k kind errs todo = { s with engs := (toMove s e k kind errs todo).engs } := by
  rw [toMove, started_only]
  rfl

theorem entry_toMove {f : FEntry} (hf : s.entry? e k = some f) (kind : Nat) (errs : List (Nat × CodeError)) (todo : FEntry → List Piece) :
    (toMove s e k kind errs todo).entry? e k = some { f with started := true, todo := todo { f with started := true } } := by
  rw [toMove, entry_onEntry, entry_started hf, Option.map_some]

/-! ### An operation is given up (R128, R133, R134) -/

theorem ctx_onTxns (s : State) (f : SMap Txn → SMap Txn) (c : Nat) : (s.onTxns f).ctx? c = s.ctx? c := rfl
theorem ctx_onEng (s : State) (e : Nat) (f : Engine → Engine) (c : Nat) : (s.onEng e f).ctx? c = s.ctx? c := rfl
theorem eng_onTxns (s : State) (f : SMap Txn → SMap Txn) (e : Nat) : (s.onTxns f).eng e = s.eng e := rfl

/-- Its entry is gone, and its context holds the fault. -/
theorem entryFault_effect {f : FEntry} (hf : s.entry? e k = some f) (b : Trouble) {x : Ctx} (hx : s.ctx? f.ctx = some x) (hfree : x.fault = none) :
    (s.entryFault e k b).entry? e k = none ∧ ∃ y r, (s.entryFault e k b).ctx? f.ctx = some y ∧
      y.fault = some (faultRec e f.group f.lane f.pc.toNat f.queue true b r) := by
  obtain ⟨y, r, hy, hfault, -⟩ := engineFaultOf_first s e f.group f.lane f.pc.toNat f.ctx f.queue true b hx hfree
  rw [State.entryFault, hf]
  dsimp only
  rw [State.entry?, eng_onTxns, State.eng_onEng_same, ctx_onTxns, ctx_onEng]
  exact ⟨SMapLaws.get_del_same _ k, y, r, hy, hfault⟩

end Sys2Proof.Machine.FiletLaws

namespace Sys2Proof.Machine
open MeshLaws IssueLaws FaultLaws SyndromeLaws MotifLaws CellLaws FiletLaws

/-- Settles O20: what a FILET and an FWAIT make of their group, and what each start makes of the tile store and of its entry. -/
theorem filetIssueAndStart : Obligations.FiletIssueAndStart := by
  unfold Obligations.FiletIssueAndStart
  refine ⟨fun s e g opc vb rd u h hown hfree => ?_, fun s e g opc m u h => ⟨fun hm => ?_, fun hm hs => ?_, fun hm sh hsh hs hkrec => ?_⟩,
    fun s e k f errs hinv hf hkind hruns hmay hgood => ?_, fun s e k f errs hinv hf hkind hruns hmay hgood => ?_,
    fun s e k f errs hf hruns hmay => ⟨fun hkind => ?_, fun hkind hgood => ?_⟩, fun s e k w f errs x hf hkind hruns hmay hbad hx hfree => ?_⟩
  · intro lane ws k hk hroom
    refine ⟨fun hcheck hext => ?_, fun f hcheck => ?_⟩
    · have hg : (s.onEng e (entryTaken k (newEntry g vb u (s.eng e)))).grp? e g = some u :=
        (grp_onEng s e e g (entryTaken k (newEntry g vb u (s.eng e))) (fun _ => rfl)).trans (grp_of_mayIssue h)
      refine ⟨_, congrArg Host.Outcome.next (filet_taken h hown hfree hk hroom hcheck hext), ?_, ⟨tokened k rd u, ?_, tokened_ftr k rd u,
        wrote_tokened k rd u⟩, newEntry g vb u (s.eng e), ?_, rfl, rfl, rfl, rfl, rfl, rfl, rfl⟩
      · exact spent_only _ e g u.pc
      · rw [grp_spent]
        exact grp_onGrp_self hg _
      · rw [State.entry?, eng_spent, eng_onGrp, State.eng_onEng_same]
        exact SMapLaws.get_put_same _ _ _
    · refine ⟨_, congrArg Host.Outcome.next (filet_refused h hown hfree hk hroom hcheck), ?_⟩
      exact faultTakenAt_spent s (faultTakenAt_groupFault s e g u.lane0 u.pc.toNat f (grp_of_mayIssue h)) _
  · exact ⟨_, congrArg Host.Outcome.next (fwait_passes h hm), setsGroup_of_onGrp (grp_of_mayIssue h) Group.step _⟩
  · refine ⟨_, congrArg Host.Outcome.next (fwait_stays h hm), ?_⟩
    rw [waitOrPark_waits (grp_of_mayIssue h) _ _ hs]
    exact setsGroup_of_onGrp (grp_of_mayIssue h) _ _
  · obtain ⟨ranges, hpark⟩ := waitOrPark_parks (grp_of_mayIssue h) (.fwait ((u.src m u.lane0).toNat % 256)) id hsh hs hkrec
    have hgrp := grp_setPark (grp_onGrp_self (grp_of_mayIssue h) (fun v => { v with st := .fwait ((u.src m u.lane0).toNat % 256) })) (2 ^ u.n - 1)
      ranges (parkWhy { u with st := .fwait ((u.src m u.lane0).toNat % 256) })
    rw [← hpark, ← grp_spent _ e g u.pc] at hgrp
    refine ⟨_, _, _, congrArg Host.Outcome.next (fwait_stays h hm), hgrp, rfl, rfl, ?_, rfl, rfl⟩
    exact Nat.mod_eq_of_lt (Nat.sub_lt (Nat.two_pow_pos _) Nat.one_pos)
  · intro at_ r b
    obtain ⟨p, fs, heng⟩ := eng_accumulated s e k f errs
    have htile : ((accumulated s e k f errs).eng e).tile = cellsPut (s.eng e).tile b r.1 := by
      rw [heng]
      rfl
    have hwf := wfCells_tile hinv e
    refine ⟨_, congrArg Host.Outcome.next (mmaStart_accumulates errs hf hkind hruns hmay hgood), accumulated_only s e k f errs, ?_,
      fun a ha => ?_, entry_accumulated hf errs, ?_⟩
    · rw [Engine.tileAt, htile]
      exact cellsAt_cellsPut_same _ b r.1 hwf
    · rw [htile]
      exact cellAt_cellsPut_apart _ b a r.1 hwf ha
    · rw [heng]
  · intro ls b
    have hexec := congrArg (Host.Outcome.next (φ := Fault) (ρ := Refusal)) (outStart_writes errs hf hkind hruns hmay hgood)
    have hwf : Memory.wfCells ((outFlagged s e k f errs).eng e).tile = true := by
      rw [tile_outFlagged]
      exact wfCells_tile hinv e
    have hentry := entry_outFlagged hf errs
    have honly := outFlagged_only s e k f errs
    cases hmem : outMem f.words with
    | true =>
      rw [hmem, if_pos rfl] at hexec
      refine ⟨_, { f with started := true, flags := outFlags (outLines s e f) f.flags, todo := outTodo f.words (outLines s e f) }, hexec, ?_, ?_,
        rfl, rfl, fun hno => absurd hno (by decide), fun hno => absurd hno (by decide), fun _ => ⟨?_, rfl⟩⟩
      · rw [honly]
        rfl
      · rw [entry_onEntry, hentry, Option.map_some]
      · rw [eng_onEntry]
        exact tile_outFlagged s e k f errs
    | false =>
      rw [hmem, if_neg Bool.false_ne_true] at hexec
      by_cases hmode : outMode f.words = 0
      · rw [if_pos hmode] at hexec
        refine ⟨_, { f with started := true, flags := outFlags (outLines s e f) f.flags }, hexec, ?_, ?_, rfl, rfl, fun _ _ => ?_, fun _ hno => absurd hmode hno, fun hno => absurd hno (by decide)⟩
        · rw [outWritten, honly]
          rfl
        · rw [outWritten, entry_tilePut, hentry]
        · exact tileAt_tilePut _ e _ _ hwf
      · rw [if_neg hmode] at hexec
        refine ⟨_, { f with started := true, flags := outFlags (outLines s e f) f.flags }, hexec, ?_, ?_, rfl, rfl, fun _ hno => absurd hno hmode, fun _ _ => ?_, fun hno => absurd hno (by decide)⟩
        · rw [outWritten, honly]
          rfl
        · rw [entry_tilePut, outWritten, entry_tilePut, hentry]
        · have hscales := tileAt_tilePut (outWritten s e k f errs) e (((s.eng e).winBS f.queue).1 + off20 f.words 3)
            ((outLines s e f).flatMap (fun l => leBytes 2 l.2.1)) (wfCells_tilePut _ e _ _ hwf)
          rw [length_outScales] at hscales
          exact hscales
  · exact ⟨_, congrArg Host.Outcome.next (filetLoadStart_reads hf hkind hruns hmay), toMove_only s e k 3 [] _, entry_toMove hf 3 [] _⟩
  · exact ⟨_, congrArg Host.Outcome.next (filetStoreStart_writes errs hf hkind hruns hmay hgood), toMove_only s e k 4 errs _, entry_toMove hf 4 errs _⟩
  · have hbad' : ((withErrs s e 1 errs).eng e).readBad f = some w := by
      rw [withErrs, if_neg (by decide), State.eng_onEng_same]
      exact hbad
    have hf' : (withErrs s e 1 errs).entry? e k = some f := by
      rw [State.entry?, (withErrs_only s e 1 errs).2]
      exact hf
    have hx' : (withErrs s e 1 errs).ctx? f.ctx = some x := by
      rw [(withErrs_only s e 1 errs).1]
      exact hx
    obtain ⟨hgone, y, r, hy, hfault⟩ := entryFault_effect hf'
      (trouble 0x09 2 (8 * w - (((withErrs s e 1 errs).eng e).winBS f.queue).1)) hx' hfree
    have hgives : mmaStart e k errs s = (withErrs s e 1 errs).entryFault e k
        (trouble 0x09 2 (8 * w - (((withErrs s e 1 errs).eng e).winBS f.queue).1)) := by
      rw [mmaStart, startOp_eq errs hf hkind hruns hmay, hbad']
    exact ⟨_, y, _, congrArg Host.Outcome.next hgives, hgone, hy, hfault, rfl, rfl, rfl⟩

end Sys2Proof.Machine
end

section
/-!
PROOF. Rounding, saturation and the two's-complement fields: what the arithmetic of R67 keeps, and what a written
block, scale word or A48 slot reads back as (R57 to R77).
-/
namespace Sys2Proof.Machine.RoundLaws

/-! ### Rounding half to even (R67) -/

/-- The quotient is within half of the rounded one, which is even where it is half-way. -/
theorem rhe_nearest (n : Int) {d : Nat} (hd : 0 < d) :
    2 * (n - d * rhe n d).natAbs ≤ d ∧ (2 * (n - d * rhe n d).natAbs = d → rhe n d % 2 = 0) := by
  have hdiv := Int.mul_ediv_add_emod n d
  have hlo := Int.emod_nonneg n (b := d) (by omega)
  have hhi := Int.emod_lt_of_pos n (b := d) (by omega)
  rw [rhe]
  split
  case isTrue hup =>
    have hrest : n - d * (n / d + 1) = n % d - d := by rw [mul_add]; omega
    rw [hrest]
    omega
  case isFalse hdown =>
    have hrest : n - d * (n / d) = n % d := by omega
    rw [hrest]
    omega

/-- A quotient of magnitude at most `c` is rounded to one of magnitude at most `c`. -/
theorem natAbs_rhe_le (n : Int) {d c : Nat} (hd : 0 < d) (h : n.natAbs ≤ d * c) : (rhe n d).natAbs ≤ c := by
  by_contra hc
  have hmul : d * (c + 1) ≤ d * (rhe n d).natAbs := Nat.mul_le_mul_left d (by omega)
  have hfar := (rhe_nearest n hd).1
  have habs : ((d : Int) * rhe n d).natAbs = d * (rhe n d).natAbs := by rw [Int.natAbs_mul, Int.natAbs_natCast]
  rw [mul_add] at hmul
  omega

/-- A shift to the left by at most `k` multiplies the magnitude by at most 2^k, and one to the right does not raise it. -/
theorem natAbs_shiftRound_le (p s : Int) {k : Nat} (hs : s ≤ k) : (shiftRound p s).natAbs ≤ p.natAbs * 2 ^ k := by
  rw [shiftRound]
  split
  case isTrue h =>
    rw [Int.natAbs_mul, Int.natAbs_natCast]
    exact Nat.mul_le_mul_left _ (Nat.pow_le_pow_right (by decide) (by omega))
  case isFalse h =>
    calc (rhe p (2 ^ (-s).toNat)).natAbs ≤ p.natAbs := natAbs_rhe_le p (Nat.two_pow_pos _) (Nat.le_mul_of_pos_left _ (Nat.two_pow_pos _))
      _ ≤ p.natAbs * 2 ^ k := Nat.le_mul_of_pos_right _ (Nat.two_pow_pos k)

/-! ### Saturation (R67) -/

/-- A saturated value has the bits asked for. -/
theorem satBits_bounds (x : Int) (b : Nat) :
    -((2 ^ (b - 1) : Nat) : Int) ≤ (satBits x b).1 ∧ (satBits x b).1 < ((2 ^ (b - 1) : Nat) : Int) := by
  have hpos : 0 < 2 ^ (b - 1) := Nat.two_pow_pos _
  rw [satBits]
  split
  · dsimp only; omega
  · split <;> dsimp only <;> omega

/-- A value that has the bits asked for is not clamped. -/
theorem satBits_of_fits {x : Int} {b : Nat} (hlo : -((2 ^ (b - 1) : Nat) : Int) ≤ x) (hhi : x < ((2 ^ (b - 1) : Nat) : Int)) :
    satBits x b = (x, false) := by
  rw [satBits, if_neg (by omega), if_neg (by omega)]

theorem fits48_iff (x : Int) : fits48 x = true ↔ -(2 ^ 47) ≤ x ∧ x < 2 ^ 47 := by
  rw [fits48, Bool.and_eq_true, decide_eq_true_iff, decide_eq_true_iff]
  omega

theorem fits48_satBits (x : Int) : fits48 (satBits x 48).1 = true :=
  (fits48_iff _).mpr (satBits_bounds x 48)

theorem satBits_48 {x : Int} (h : fits48 x = true) : satBits x 48 = (x, false) :=
  satBits_of_fits ((fits48_iff x).mp h).1 ((fits48_iff x).mp h).2

/-! ### Accumulation (R67) -/

/-- A K block with a zero multiplier adds nothing. -/
theorem accStep_zero (anchor : Int) (a : Acc) {k : KBlock} (h : scaleM k.sw = 0 ∨ scaleM k.sx = 0) : accStep anchor a k = a := by
  rw [accStep, if_pos h]

theorem accStep_keeps (anchor : Int) {a : Acc} (k : KBlock) (h : fits48 a.val = true) :
    fits48 (accStep anchor a k).val = true ∧ (a.sat = true → (accStep anchor a k).sat = true) := by
  rw [accStep]
  split
  · exact ⟨h, id⟩
  · exact ⟨fits48_satBits _, fun hs => by simp [hs]⟩

theorem accumulate_keeps (anchor : Int) (ks : List KBlock) {a : Acc} (h : fits48 a.val = true) :
    fits48 (accumulate anchor a ks).val = true ∧ (a.sat = true → (accumulate anchor a ks).sat = true) := by
  induction ks generalizing a with
  | nil => exact ⟨h, id⟩
  | cons k ks ih =>
    obtain ⟨hstep, hsat⟩ := accStep_keeps anchor k h
    obtain ⟨hrest, hsats⟩ := ih hstep
    exact ⟨hrest, fun hs => hsats (hsat hs)⟩

/-- Where neither the product nor the sum is clamped, the block adds exactly the rounded product. -/
theorem accStep_exact (anchor : Int) (a : Acc) {k : KBlock} (hw : scaleM k.sw ≠ 0) (hx : scaleM k.sx ≠ 0)
    (hp : fits48 (shiftRound (k.dot * (scaleM k.sw * scaleM k.sx : Nat)) (scaleE k.sw + scaleE k.sx - anchor)) = true)
    (hsum : fits48 (a.val + shiftRound (k.dot * (scaleM k.sw * scaleM k.sx : Nat)) (scaleE k.sw + scaleE k.sx - anchor)) = true) :
    accStep anchor a k = { a with val := a.val + shiftRound (k.dot * (scaleM k.sw * scaleM k.sx : Nat)) (scaleE k.sw + scaleE k.sx - anchor) } := by
  rw [accStep, if_neg (by simp [hw, hx])]
  dsimp only
  rw [satBits_48 hp]
  dsimp only
  rw [satBits_48 hsum]
  simp

/-! ### The AUTO anchor (R71) -/

/-- One step of the search for the largest exponent. -/
def expStep (m : Option Int) (w : Nat) : Option Int :=
  if scaleM w = 0 then m
  else match m with
    | none => some (scaleE w)
    | some e => some (max e (scaleE w))

theorem maxExp_eq (ws : List Nat) : maxExp ws = ws.foldl expStep none := rfl

/-- What was found is not lowered. -/
theorem expStep_ge (e : Int) (w : Nat) : ∃ e', expStep (some e) w = some e' ∧ e ≤ e' := by
  rw [expStep]
  split
  · exact ⟨e, rfl, le_rfl⟩
  · exact ⟨_, rfl, le_max_left _ _⟩

/-- The exponent of a block whose multiplier is not 0 counts. -/
theorem expStep_takes (m : Option Int) {w : Nat} (hw : scaleM w ≠ 0) : ∃ e', expStep m w = some e' ∧ scaleE w ≤ e' := by
  unfold expStep
  rw [if_neg hw]
  cases m with
  | none => exact ⟨_, rfl, le_rfl⟩
  | some e => exact ⟨_, rfl, le_max_right _ _⟩

theorem foldl_expStep_ge (ws : List Nat) (e : Int) : ∃ e', ws.foldl expStep (some e) = some e' ∧ e ≤ e' := by
  induction ws generalizing e with
  | nil => exact ⟨e, rfl, le_rfl⟩
  | cons w ws ih =>
    obtain ⟨e₁, hstep, hle⟩ := expStep_ge e w
    obtain ⟨e₂, hrest, hle'⟩ := ih e₁
    exact ⟨e₂, by rw [List.foldl_cons, hstep, hrest], hle.trans hle'⟩

theorem foldl_expStep_takes {w : Nat} (hw : scaleM w ≠ 0) (ws : List Nat) (m : Option Int) (h : w ∈ ws) :
    ∃ e', ws.foldl expStep m = some e' ∧ scaleE w ≤ e' := by
  induction ws generalizing m with
  | nil => exact absurd h List.not_mem_nil
  | cons v ws ih =>
    rcases List.mem_cons.mp h with rfl | hrest
    · obtain ⟨e₁, hstep, hle⟩ := expStep_takes m hw
      obtain ⟨e₂, hrest, hle'⟩ := foldl_expStep_ge ws e₁
      exact ⟨e₂, by rw [List.foldl_cons, hstep, hrest], hle.trans hle'⟩
    · exact ih (expStep m v) hrest

/-- Under AUTO no product is shifted to the left. -/
theorem le_autoAnchor (fa fb : Nat) {ws xs : List Nat} {w x : Nat} (hw : w ∈ ws) (hx : x ∈ xs) (hmw : scaleM w ≠ 0) (hmx : scaleM x ≠ 0) :
    scaleE w + scaleE x ≤ autoAnchor fa fb ws xs := by
  obtain ⟨ew, hew, hlew⟩ := foldl_expStep_takes hmw ws none hw
  obtain ⟨ex, hex, hlex⟩ := foldl_expStep_takes hmx xs none hx
  rw [autoAnchor, maxExp_eq, maxExp_eq, hew, hex]
  dsimp only
  split <;> omega

/-! ### Scaled adds (R75 to R77) -/

/-- A value that one of the shifts that are tried brings to 48 bits is brought there by the one that is taken. -/
theorem fits48_reanchorN {x : Int} {k : Nat} (hk : k < 2000) (hx : x.natAbs ≤ 2 ^ (k + 1) * (2 ^ 47 - 1)) :
    fits48 (rhe x (2 ^ reanchorN x)) = true := by
  have hfits : fits48 (rhe x (2 ^ (k + 1))) = true := by
    have hle := natAbs_rhe_le x (Nat.two_pow_pos (k + 1)) hx
    rw [fits48_iff]
    omega
  have hsome : (((List.range 2000).map (· + 1)).find? (fun n => fits48 (rhe x (2 ^ n)))).isSome = true :=
    List.find?_isSome.mpr ⟨k + 1, List.mem_map.mpr ⟨k, List.mem_range.mpr hk, rfl⟩, hfits⟩
  obtain ⟨n, hn⟩ := Option.isSome_iff_exists.mp hsome
  rw [reanchorN, hn, Option.getD_some]
  exact List.find?_some (p := fun n => fits48 (rhe x (2 ^ n))) hn

/-- The sum of a scaled add whose product has at most 80 bits and is shifted to the left by at most `k`. -/
theorem natAbs_sum_le {v p s : Int} {k : Nat} (hv : fits48 v = true) (hp : p.natAbs < 2 ^ 80) (hs : s ≤ k) :
    (v + shiftRound p s).natAbs ≤ 2 ^ (80 + k + 1) := by
  have hshift : (shiftRound p s).natAbs ≤ 2 ^ 80 * 2 ^ k := (natAbs_shiftRound_le p s hs).trans (Nat.mul_le_mul_right _ hp.le)
  have hval : v.natAbs ≤ 2 ^ 80 * 2 ^ k := by
    rw [fits48_iff] at hv
    exact (show v.natAbs ≤ 2 ^ 80 by omega).trans (Nat.le_mul_of_pos_right _ (Nat.two_pow_pos _))
  calc (v + shiftRound p s).natAbs ≤ v.natAbs + (shiftRound p s).natAbs := Int.natAbs_add_le _ _
    _ ≤ 2 ^ 80 * 2 ^ k + 2 ^ 80 * 2 ^ k := Nat.add_le_add hval hshift
    _ = 2 ^ (80 + k + 1) := by rw [← two_mul, ← pow_add, ← pow_succ']

/-- So the shift that is taken brings that sum to 48 bits. -/
theorem fits48_reanchorN_sum {v p s : Int} {k : Nat} (hk : k < 1900) (hv : fits48 v = true) (hp : p.natAbs < 2 ^ 80) (hs : s ≤ k) :
    fits48 (rhe (v + shiftRound p s) (2 ^ reanchorN (v + shiftRound p s))) = true :=
  fits48_reanchorN (k := 80 + k) (by omega) ((natAbs_sum_le hv hp hs).trans (Nat.le_mul_of_pos_right _ (by decide)))

theorem saddA48_keeps {c : Contribution} {g : Nat} {ef : Int} {t : Slot} (hval : fits48 t.val = true) (hhi : t.anchor ≤ 511)
    (hp : (c.v * g).natAbs < 2 ^ 80) (hs : c.a + ef - t.anchor ≤ 1500) :
    fits48 (saddA48 c g ef t).val = true ∧ t.anchor ≤ (saddA48 c g ef t).anchor ∧ (saddA48 c g ef t).anchor ≤ 511 ∧
      (t.sat = true → (saddA48 c g ef t).sat = true) := by
  rw [saddA48]
  split
  case isTrue => exact ⟨hval, le_rfl, hhi, id⟩
  case isFalse =>
    dsimp only
    split
    case isTrue hfits => exact ⟨hfits, le_rfl, hhi, id⟩
    case isFalse =>
      split
      case isTrue hroom => exact ⟨fits48_reanchorN_sum (k := 1500) (by decide) hval hp hs, by dsimp only; omega, hroom, id⟩
      case isFalse => exact ⟨fits48_satBits _, hhi, le_rfl, fun _ => rfl⟩

theorem saddS16_bounds (c : Contribution) (g : Nat) (ef et : Int) {q : Int} (hlo : -(2 ^ 15) ≤ q) (hhi : q < 2 ^ 15) :
    -(2 ^ 15) ≤ (saddS16 c g ef et q).1 ∧ (saddS16 c g ef et q).1 < 2 ^ 15 := by
  rw [saddS16]
  split
  · exact ⟨hlo, hhi⟩
  · exact satBits_bounds _ 16

/-! ### Two's-complement fields (R58, R59, R64) -/

theorem uNat_lt (w : Nat) (x : Int) : uNat w x < 2 ^ w := by
  have hpos : (0 : Int) < ((2 ^ w : Nat) : Int) := Int.natCast_pos.mpr (Nat.two_pow_pos w)
  have hlo := Int.emod_nonneg x hpos.ne'
  have hhi := Int.emod_lt_of_pos x hpos
  rw [uNat]
  omega

/-- A reading in two's complement looks at the low `w` bits alone. -/
theorem sInt_mod (w v : Nat) : sInt w (v % 2 ^ w) = sInt w v := by
  rw [sInt, sInt, Nat.mod_mod]

/-- A value of `w` bits reads back as what was written. -/
theorem sInt_uNat {w : Nat} {x : Int} (hw : 0 < w) (hlo : -(2 ^ (w - 1)) ≤ x) (hhi : x < 2 ^ (w - 1)) : sInt w (uNat w x) = x := by
  obtain ⟨k, rfl⟩ : ∃ k, w = k + 1 := ⟨w - 1, by omega⟩
  rw [Nat.add_sub_cancel] at hlo hhi
  have hcast : ((2 ^ k : Nat) : Int) = 2 ^ k := by push_cast; rfl
  have hdouble : 2 ^ (k + 1) = 2 * 2 ^ k := pow_succ' 2 k
  rw [← hcast] at hlo hhi
  rw [sInt, Nat.mod_eq_of_lt (uNat_lt _ _), uNat, Nat.add_sub_cancel, hdouble]
  by_cases hx : 0 ≤ x
  · rw [Int.emod_eq_of_lt hx (by omega), if_pos (by omega)]
    omega
  · have hmod : x % ((2 * 2 ^ k : Nat) : Int) = x + (2 * 2 ^ k : Nat) := by
      rw [← Int.add_emod_right, Int.emod_eq_of_lt (by omega) (by omega)]
    rw [hmod, if_neg (by omega)]
    omega

/-- A field below other bits reads back as what was written. -/
theorem sInt_uNat_add {w : Nat} {x : Int} (hw : 0 < w) (hlo : -(2 ^ (w - 1)) ≤ x) (hhi : x < 2 ^ (w - 1)) (r : Nat) :
    sInt w (uNat w x + 2 ^ w * r) = x := by
  rw [← sInt_mod, Nat.add_mul_mod_self_left, sInt_mod, sInt_uNat hw hlo hhi]

/-- The bits above a field. -/
theorem uNat_add_div (w : Nat) (x : Int) (r : Nat) : (uNat w x + 2 ^ w * r) / 2 ^ w = r := by
  rw [Nat.add_mul_div_left _ _ (Nat.two_pow_pos w), Nat.div_eq_of_lt (uNat_lt w x), Nat.zero_add]

theorem fmtBits_pos {fmt : Nat} (h : fmt ≤ 3) : 0 < fmtBits fmt := by
  interval_cases fmt <;> decide

/-- An element of a block reads back as what was written. -/
theorem blockElem_blockOf {fmt : Nat} (hfmt : fmt ≤ 3) (qs : List Int) (t : Nat) (ht : t < qs.length)
    (hqs : ∀ q ∈ qs, -(2 ^ (fmtBits fmt - 1)) ≤ q ∧ q < 2 ^ (fmtBits fmt - 1)) : blockElem fmt t (blockOf fmt qs) = qs.getD t 0 := by
  induction qs generalizing t with
  | nil => exact absurd ht (Nat.not_lt_zero t)
  | cons q qs ih =>
    cases t with
    | zero =>
      obtain ⟨hlo, hhi⟩ := hqs q List.mem_cons_self
      rw [blockElem, blockOf, Nat.mul_zero, pow_zero, Nat.div_one, sInt_uNat_add (fmtBits_pos hfmt) hlo hhi, List.getD_cons_zero]
    | succ t =>
      have hrest := ih t (Nat.lt_of_succ_lt_succ ht) (fun x hx => hqs x (List.mem_cons_of_mem q hx))
      rw [blockElem, blockOf, Nat.mul_succ, Nat.add_comm (fmtBits fmt * t), pow_add, ← Nat.div_div_eq_div_mul, uNat_add_div, List.getD_cons_succ]
      exact hrest

theorem blockOf_lt (fmt : Nat) (qs : List Int) : blockOf fmt qs < 2 ^ (qs.length * fmtBits fmt) := by
  induction qs with
  | nil => exact Nat.two_pow_pos _
  | cons q qs ih =>
    have hlow := uNat_lt (fmtBits fmt) q
    have hroom : 2 ^ fmtBits fmt * (blockOf fmt qs + 1) ≤ 2 ^ fmtBits fmt * 2 ^ (qs.length * fmtBits fmt) := Nat.mul_le_mul_left _ ih
    rw [blockOf, List.length_cons, Nat.succ_mul, Nat.add_comm (qs.length * fmtBits fmt), pow_add]
    rw [mul_add] at hroom
    omega

theorem scaleWord_reads {e : Int} {m : Nat} (hlo : -128 ≤ e) (hhi : e ≤ 127) (hm : m < 256) :
    scaleE (scaleWord e m) = e ∧ scaleM (scaleWord e m) = m ∧ scaleWord e m < 2 ^ 16 := by
  have hlt := uNat_lt 8 e
  rw [scaleE, scaleM, scaleWord, Nat.mod_eq_of_lt hm]
  refine ⟨?_, by omega, by omega⟩
  rw [show (uNat 8 e * 256 + m) / 256 = uNat 8 e by omega]
  exact sInt_uNat (by decide) (by omega) (by omega)

/-- The part of an A48 word above its value. -/
def slotHigh (t : Slot) : Nat := uNat 10 t.anchor + 2 ^ 10 * (if t.sat then 1 else 0)

theorem slotWord_eq (t : Slot) : slotWord t = uNat 48 t.val + 2 ^ 48 * slotHigh t := by
  rw [slotWord, slotHigh]
  split <;> omega

theorem slotWord_lt (t : Slot) : slotWord t < 2 ^ 59 := by
  have hval := uNat_lt 48 t.val
  have hanchor := uNat_lt 10 t.anchor
  rw [slotWord]
  split <;> omega

/-- Bit 58 of an A48 word is its SAT bit. -/
theorem testBit_slotWord (t : Slot) : (slotWord t).testBit 58 = t.sat := by
  have hbit : slotWord t / 2 ^ 58 = if t.sat then 1 else 0 := by
    rw [show (2 : Nat) ^ 58 = 2 ^ 48 * 2 ^ 10 from rfl, ← Nat.div_div_eq_div_mul, slotWord_eq, uNat_add_div, slotHigh, uNat_add_div]
  rw [Nat.testBit_eq_decide_div_mod_eq, hbit]
  cases t.sat <;> rfl

theorem slotOf_slotWord {t : Slot} (hvlo : -(2 ^ 47) ≤ t.val) (hvhi : t.val < 2 ^ 47) (halo : -512 ≤ t.anchor) (hahi : t.anchor ≤ 511) :
    slotOf (slotWord t) = t := by
  rw [slotOf, testBit_slotWord, slotWord_eq, uNat_add_div, sInt_uNat_add (by decide) hvlo hvhi, slotHigh,
    sInt_uNat_add (by decide) (by omega) (by omega)]

end Sys2Proof.Machine.RoundLaws

namespace Sys2Proof.Machine
open RoundLaws

/-- Settles O59: each format by the round trip of its fields, each operation by the bounds of rounding and saturation. -/
theorem numberFormats : Obligations.NumberFormats := by
  unfold Obligations.NumberFormats
  refine ⟨fun fmt t qs hfmt hlen ht hqs => ?_, fun e m => scaleWord_reads, fun t hvlo hvhi halo hahi => ?_, fun n d => rhe_nearest n,
    fun fa fb ws xs w x => le_autoAnchor fa fb, fun anchor a k => accStep_zero anchor a, fun anchor a ks => accumulate_keeps anchor ks,
    fun anchor a k hw hx => ?_, fun c g ef t hval _ => saddA48_keeps hval, fun c g ef et q => saddS16_bounds c g ef et⟩
  · refine ⟨blockElem_blockOf hfmt qs t (hlen ▸ ht) hqs, ?_⟩
    rw [← hlen]
    exact blockOf_lt fmt qs
  · exact ⟨slotOf_slotWord hvlo hvhi halo hahi, slotWord_lt t⟩
  · exact accStep_exact anchor a hw hx

end Sys2Proof.Machine
end

section
/-!
PROOF. The scale finder: the scale that it takes bounds every value by qmax, so that no element is clamped (R72, R73).
Exact powers of two are written as rationals here.
-/
namespace Sys2Proof.Machine.ScaleLaws
open RoundLaws

/-! ### The formats S2, S4 and S8 -/

theorem fmtQmax_bounds {fmt : Nat} (h : fmt ≤ 2) : 1 ≤ fmtQmax fmt ∧ fmtQmax fmt ≤ 127 := by
  interval_cases fmt <;> decide

theorem fmtQmax_eq {fmt : Nat} (h : fmt ≤ 2) : 2 ^ (fmtBits fmt - 1) = fmtQmax fmt + 1 := by
  interval_cases fmt <;> decide

/-! ### The largest magnitude -/

theorem foldl_max_natAbs (vs : List Int) (m : Nat) : vs.foldl (fun m v => max m v.natAbs) m = max m (maxAbs vs) := by
  induction vs generalizing m with
  | nil => exact (Nat.max_zero m).symm
  | cons v vs ih => rw [maxAbs, List.foldl_cons, List.foldl_cons, ih, ih, Nat.zero_max, Nat.max_assoc]

theorem maxAbs_cons (v : Int) (vs : List Int) : maxAbs (v :: vs) = max v.natAbs (maxAbs vs) := by
  rw [maxAbs, List.foldl_cons, Nat.zero_max, foldl_max_natAbs]

theorem maxAbs_le_iff (vs : List Int) (c : Nat) : maxAbs vs ≤ c ↔ ∀ v ∈ vs, v.natAbs ≤ c := by
  induction vs with
  | nil => simp [maxAbs]
  | cons v vs ih => rw [maxAbs_cons, Nat.max_le, ih, List.forall_mem_cons]

theorem natAbs_le_maxAbs {v : Int} {vs : List Int} (h : v ∈ vs) : v.natAbs ≤ maxAbs vs :=
  (maxAbs_le_iff vs _).mp le_rfl v h

theorem maxAbs_eq_zero_iff (vs : List Int) : maxAbs vs = 0 ↔ ∀ v ∈ vs, v = 0 := by
  rw [← Nat.le_zero, maxAbs_le_iff]
  exact forall₂_congr fun v _ => by omega

/-- A value of the block has the largest magnitude. -/
theorem exists_maxAbs {vs : List Int} (h : maxAbs vs ≠ 0) : ∃ v ∈ vs, v.natAbs = maxAbs vs := by
  by_contra hno
  push Not at hno
  have hle : maxAbs vs ≤ maxAbs vs - 1 := (maxAbs_le_iff vs _).mpr fun v hv => by
    have hne := hno v hv
    have hmax := natAbs_le_maxAbs hv
    omega
  omega

/-! ### The scale that is taken (R72) -/

theorem ceilDiv_le_iff (n c : Nat) {d : Nat} (hd : 0 < d) : ceilDiv n d ≤ c ↔ n ≤ d * c := by
  rw [ceilDiv, ← Nat.ceilDiv_eq_add_pred_div, ceilDiv_le_iff_le_mul hd]

/-- The place of the largest value among the powers of two is found. -/
theorem scaleK15_found {qm mx : Nat} (hq : 1 ≤ qm) (hq' : qm ≤ 127) (hmx : 1 ≤ mx) (hmx' : mx ≤ 2 ^ 47) :
    128 * qm * 2 ^ scaleK15 qm mx ≤ mx * 2 ^ 15 ∧ mx * 2 ^ 15 < 256 * qm * 2 ^ scaleK15 qm mx := by
  have hpos : 0 < 128 * qm := by omega
  have hquot : mx * 2 ^ 15 / (128 * qm) ≠ 0 := (Nat.div_pos (by omega) hpos).ne'
  have hlow := (Nat.le_div_iff_mul_le hpos).mp (Nat.pow_log_le_self 2 hquot)
  have hhigh := (Nat.div_lt_iff_lt_mul hpos).mp (Nat.lt_pow_succ_log_self (b := 2) (by decide) (mx * 2 ^ 15 / (128 * qm)))
  have hj : Nat.log 2 (mx * 2 ^ 15 / (128 * qm)) < 64 :=
    Nat.log_lt_of_lt_pow hquot ((Nat.div_le_self _ _).trans_lt (by omega))
  have hup : mx * 2 ^ 15 < 256 * qm * 2 ^ Nat.log 2 (mx * 2 ^ 15 / (128 * qm)) :=
    hhigh.trans_eq (by rw [Nat.succ_eq_add_one, pow_succ]; ring)
  have hsome : ((List.range 64).find? (fun j => 128 * qm * 2 ^ j ≤ mx * 2 ^ 15 ∧ mx * 2 ^ 15 < 256 * qm * 2 ^ j)).isSome = true :=
    List.find?_isSome.mpr ⟨_, List.mem_range.mpr hj, decide_eq_true ⟨by rw [Nat.mul_comm]; exact hlow, hup⟩⟩
  obtain ⟨j, hfound⟩ := Option.isSome_iff_exists.mp hsome
  have hj := of_decide_eq_true (List.find?_some (p := fun j => 128 * qm * 2 ^ j ≤ mx * 2 ^ 15 ∧ mx * 2 ^ 15 < 256 * qm * 2 ^ j) hfound)
  rw [scaleK15, hfound, Option.getD_some]
  exact hj

/-- The multiplier before the exponent is bounded. -/
def rawM (qm mx : Nat) : Nat := ceilDiv (mx * 2 ^ 15) (qm * 2 ^ scaleK15 qm mx)

/-- The multiplier and the exponent, without the anchor, of a scale that is not bounded. -/
def normM (qm mx : Nat) : Nat := if rawM qm mx = 256 then 128 else rawM qm mx
def normK (qm mx : Nat) : Int := (scaleK15 qm mx : Int) - 15 + (if rawM qm mx = 256 then 1 else 0)

/-- The multiplier under the least exponent. -/
def lowM (qm mx : Nat) (a : Int) : Nat :=
  if 0 ≤ a + 128 then ceilDiv (mx * 2 ^ (a + 128).toNat) qm else ceilDiv mx (qm * 2 ^ (-(a + 128)).toNat)

/-- The exponent, the multiplier and the mark of a clamp. -/
def scaleOf (qm mx : Nat) (a : Int) : Int × Nat × Bool :=
  if a + normK qm mx > 127 then (127, 255, true)
  else if a + normK qm mx < -128 then (-128, lowM qm mx a, false)
  else (a + normK qm mx, normM qm mx, false)

/-- A block packed under a scale. -/
def packedBy (fmt : Nat) (a : Int) (vs : List Int) (sc : Int × Nat × Bool) : Packed :=
  { e := sc.1, m := sc.2.1, clamp := sc.2.2, q := vs.map (fun v => clampQ fmt (rheShift v a sc.2.1 sc.1)) }

theorem scaleFind_zero (fmt : Nat) (a : Int) {vs : List Int} (h : maxAbs vs = 0) :
    scaleFind fmt a vs = { e := 0, m := 0, q := vs.map (fun _ => 0), clamp := false } := by
  rw [scaleFind]
  dsimp only
  rw [if_pos h]

theorem scaleFind_pos (fmt : Nat) (a : Int) {vs : List Int} (h : maxAbs vs ≠ 0) :
    scaleFind fmt a vs = packedBy fmt a vs (scaleOf (fmtQmax fmt) (maxAbs vs) a) := by
  rw [scaleFind]
  dsimp only
  rw [if_neg h]
  rfl

theorem rawM_le_iff {qm : Nat} (hq : 1 ≤ qm) (mx c : Nat) : rawM qm mx ≤ c ↔ mx * 2 ^ 15 ≤ qm * 2 ^ scaleK15 qm mx * c :=
  ceilDiv_le_iff _ c (Nat.mul_pos hq (Nat.two_pow_pos _))

/-- The found power of two, as a rational. -/
theorem two_zpow_found (qm mx : Nat) : (2 : ℚ) ^ ((scaleK15 qm mx : Int) - 15) = 2 ^ scaleK15 qm mx / 2 ^ 15 := by
  rw [zpow_sub₀ two_ne_zero, zpow_natCast]
  norm_num

/-- The least multiplier that holds the largest value under the least exponent. -/
theorem lowM_le_iff {qm : Nat} (hq : 1 ≤ qm) (mx : Nat) (a : Int) (c : Nat) : lowM qm mx a ≤ c ↔ (mx : ℚ) * 2 ^ a ≤ qm * c * 2 ^ (-128 : Int) := by
  have hshift : (mx : ℚ) * 2 ^ a ≤ qm * c * 2 ^ (-128 : Int) ↔ (mx : ℚ) * 2 ^ (a + 128) ≤ qm * c := by
    rw [zpow_neg, ← div_eq_mul_inv, le_div_iff₀ (by positivity), zpow_add₀ two_ne_zero, mul_assoc]
  rw [hshift, lowM]
  by_cases ha : 0 ≤ a + 128
  · obtain ⟨n, hn⟩ := Int.eq_ofNat_of_zero_le ha
    rw [if_pos ha, hn, Int.toNat_natCast, ceilDiv_le_iff _ _ hq, zpow_natCast]
    exact_mod_cast Iff.rfl
  · obtain ⟨n, hn⟩ := Int.eq_ofNat_of_zero_le (show 0 ≤ -(a + 128) by omega)
    rw [if_neg ha, hn, show a + 128 = -(n : Int) by omega, Int.toNat_natCast, ceilDiv_le_iff _ _ (Nat.mul_pos hq (Nat.two_pow_pos n)),
      zpow_neg, zpow_natCast, ← div_eq_mul_inv, div_le_iff₀ (by positivity), mul_right_comm]
    exact_mod_cast Iff.rfl

section
variable {qm mx : Nat} (hq : 1 ≤ qm) (hq' : qm ≤ 127) (hmx : 1 ≤ mx) (hmx' : mx ≤ 2 ^ 47)
include hq hq' hmx hmx'

/-- The scale holds the largest value within qmax, and leaves it more than half of 255 qmax. -/
theorem norm_scale : 1 ≤ normM qm mx ∧ normM qm mx ≤ 255 ∧ (mx : ℚ) ≤ qm * normM qm mx * 2 ^ normK qm mx ∧
    255 * (qm : ℚ) * 2 ^ normK qm mx < 2 * mx := by
  obtain ⟨hlow, hhigh⟩ := scaleK15_found hq hq' hmx hmx'
  have hiff := rawM_le_iff hq mx
  have hle : rawM qm mx ≤ 256 := (hiff 256).mpr (by linarith)
  have hup := (hiff (rawM qm mx)).mp le_rfl
  have hpow := two_zpow_found qm mx
  have hlowQ : 128 * (qm : ℚ) * 2 ^ scaleK15 qm mx ≤ mx * 2 ^ 15 := by exact_mod_cast hlow
  have hupQ : (mx : ℚ) * 2 ^ 15 ≤ qm * 2 ^ scaleK15 qm mx * rawM qm mx := by exact_mod_cast hup
  have hqQ : (0 : ℚ) < qm * 2 ^ scaleK15 qm mx := by positivity
  rw [normM, normK]
  by_cases h256 : rawM qm mx = 256
  · have h255 : ¬ rawM qm mx ≤ 255 := by omega
    rw [hiff, not_le] at h255
    have h255Q : (qm : ℚ) * 2 ^ scaleK15 qm mx * 255 < mx * 2 ^ 15 := by exact_mod_cast h255
    rw [if_pos h256, if_pos h256, zpow_add₀ two_ne_zero, hpow]
    rw [h256] at hupQ
    refine ⟨by decide, by decide, ?_, ?_⟩ <;> push_cast at * <;> linarith
  · have h1 : rawM qm mx ≠ 0 := fun h0 => by
      rw [h0] at hup
      omega
    rw [if_neg h256, if_neg h256, add_zero, hpow]
    refine ⟨by omega, by omega, ?_, ?_⟩ <;> linarith

/-- The anchor scales the bounds of the scale that is not bounded. -/
theorem norm_scale_anchored (a : Int) : (mx : ℚ) * 2 ^ a ≤ qm * normM qm mx * 2 ^ (a + normK qm mx) ∧
    255 * (qm : ℚ) * 2 ^ (a + normK qm mx) < 2 * (mx * 2 ^ a) := by
  obtain ⟨-, -, hup, hlow⟩ := norm_scale hq hq' hmx hmx'
  have hpos : (0 : ℚ) < 2 ^ a := by positivity
  rw [zpow_add₀ two_ne_zero]
  constructor <;> nlinarith

/-- A clamp is marked only where the largest value passes 255 qmax under the greatest exponent. -/
theorem scaleOf_clamped (a : Int) (h : (scaleOf qm mx a).2.2 = true) :
    (scaleOf qm mx a).1 = 127 ∧ (scaleOf qm mx a).2.1 = 255 ∧ (mx : ℚ) * 2 ^ a > 255 * qm * 2 ^ (127 : Int) := by
  rw [scaleOf] at h ⊢
  split at h
  case isTrue hover =>
    obtain ⟨-, hlow⟩ := norm_scale_anchored hq hq' hmx hmx' a
    have hpow : (2 : ℚ) ^ ((127 : Int) + 1) ≤ 2 ^ (a + normK qm mx) := zpow_le_zpow_right₀ (by norm_num) (by omega)
    rw [zpow_add_one₀ two_ne_zero] at hpow
    have hqQ : (0 : ℚ) < qm := by positivity
    rw [if_pos hover]
    exact ⟨rfl, rfl, by nlinarith⟩
  case isFalse => split at h <;> exact absurd h Bool.false_ne_true

/-- Otherwise the scale holds the largest value within qmax. -/
theorem scaleOf_holds (a : Int) (h : (scaleOf qm mx a).2.2 = false) :
    1 ≤ (scaleOf qm mx a).2.1 ∧ (scaleOf qm mx a).2.1 ≤ 255 ∧ -128 ≤ (scaleOf qm mx a).1 ∧ (scaleOf qm mx a).1 ≤ 127 ∧
      (mx : ℚ) * 2 ^ a ≤ qm * (scaleOf qm mx a).2.1 * 2 ^ (scaleOf qm mx a).1 := by
  obtain ⟨hm, hm', -, -⟩ := norm_scale hq hq' hmx hmx'
  obtain ⟨hup, -⟩ := norm_scale_anchored hq hq' hmx hmx' a
  have hiff := lowM_le_iff hq mx a
  rw [scaleOf] at h ⊢
  split at h
  case isTrue => exact absurd h (by decide)
  case isFalse hover =>
    rw [if_neg hover]
    split
    case isTrue hunder =>
      have hpow : (2 : ℚ) ^ (a + normK qm mx) ≤ 2 ^ (-128 : Int) := zpow_le_zpow_right₀ (by norm_num) (by omega)
      have hpos : lowM qm mx a ≠ 0 := fun h0 => by
        have hno := (hiff 0).mp h0.le
        have hmxQ : (0 : ℚ) < mx * 2 ^ a := by positivity
        rw [Nat.cast_zero, mul_zero, zero_mul] at hno
        exact absurd hno (not_le.mpr hmxQ)
      have h255 : lowM qm mx a ≤ 255 := (hiff 255).mpr (by
        calc (mx : ℚ) * 2 ^ a ≤ qm * normM qm mx * 2 ^ (a + normK qm mx) := hup
          _ ≤ qm * (255 : Nat) * 2 ^ (-128 : Int) := by gcongr)
      exact ⟨Nat.pos_of_ne_zero hpos, h255, le_rfl, by dsimp only; omega, (hiff _).mp le_rfl⟩
    case isFalse hunder => exact ⟨hm, hm', not_lt.mp hunder, not_lt.mp hover, hup⟩

end

/-! ### The elements -/

/-- The rounded quotient, as one of integers. -/
theorem rheShift_eq (v a : Int) {d : Nat} (e : Int) (hd : 0 < d) :
    ∃ (n : Int) (k : Nat), 0 < k ∧ rheShift v a d e = rhe n k ∧ (n : ℚ) / k = v * 2 ^ a / (d * 2 ^ e) := by
  have hdQ : (d : ℚ) ≠ 0 := by positivity
  rw [rheShift]
  by_cases h : 0 ≤ a - e
  · obtain ⟨n, hn⟩ := Int.eq_ofNat_of_zero_le h
    refine ⟨_, _, hd, by rw [if_pos h], ?_⟩
    rw [hn, Int.toNat_natCast, show a = e + n by omega, zpow_add₀ two_ne_zero, zpow_natCast]
    push_cast
    field_simp
  · obtain ⟨n, hn⟩ := Int.eq_ofNat_of_zero_le (show 0 ≤ e - a by omega)
    refine ⟨_, _, Nat.mul_pos hd (Nat.two_pow_pos _), by rw [if_neg h], ?_⟩
    rw [hn, Int.toNat_natCast, show e = a + n by omega, zpow_add₀ two_ne_zero, zpow_natCast]
    push_cast
    field_simp

/-- The rounded quotient is nearest to the exact one, and even where that is half-way. -/
theorem abs_sub_rhe (n : Int) {d : Nat} (hd : 0 < d) :
    |(n : ℚ) / d - rhe n d| ≤ 1 / 2 ∧ (|(n : ℚ) / d - rhe n d| = 1 / 2 → rhe n d % 2 = 0) := by
  obtain ⟨hnear, htie⟩ := rhe_nearest n hd
  have hdQ : (0 : ℚ) < d := by positivity
  have habs : |(n : ℚ) / d - rhe n d| = ((n - d * rhe n d).natAbs : ℚ) / d := by
    rw [Nat.cast_natAbs, div_sub' hdQ.ne', abs_div, abs_of_pos hdQ]
    push_cast
    rfl
  rw [habs]
  constructor
  · rw [div_le_div_iff₀ hdQ two_pos]
    have hnearQ : 2 * ((n - d * rhe n d).natAbs : ℚ) ≤ d := by exact_mod_cast hnear
    linarith
  · intro heq
    rw [div_eq_div_iff hdQ.ne' two_ne_zero] at heq
    refine htie ?_
    have heq' : 2 * ((n - d * rhe n d).natAbs : ℚ) = d := by linarith
    exact_mod_cast heq'

/-- A value that the scale holds within `c` is rounded to at most `c`. -/
theorem natAbs_rheShift_le {v a : Int} {d c : Nat} {e : Int} (hd : 0 < d) (h : (v.natAbs : ℚ) * 2 ^ a ≤ c * d * 2 ^ e) :
    (rheShift v a d e).natAbs ≤ c := by
  obtain ⟨n, k, hk, hround, hquot⟩ := rheShift_eq v a e hd
  have hkQ : (0 : ℚ) < k := by positivity
  have hdQ : (0 : ℚ) < d * 2 ^ e := by positivity
  have habs : (n.natAbs : ℚ) / k = v.natAbs * 2 ^ a / (d * 2 ^ e) := by
    have hboth := congrArg abs hquot
    rwa [abs_div, abs_div, abs_mul, abs_of_pos hkQ, abs_of_pos hdQ, abs_of_pos (show (0 : ℚ) < 2 ^ a by positivity),
      ← Int.cast_abs, ← Int.cast_abs, ← Nat.cast_natAbs, ← Nat.cast_natAbs] at hboth
  have hle : (n.natAbs : ℚ) / k ≤ c := by
    rw [habs, div_le_iff₀ hdQ]
    linarith
  rw [div_le_iff₀ hkQ] at hle
  rw [hround]
  refine natAbs_rhe_le n hk ?_
  rw [Nat.mul_comm]
  exact_mod_cast hle

theorem natAbs_clampQ_le (fmt : Nat) (q : Int) : (clampQ fmt q).natAbs ≤ fmtQmax fmt := by
  rw [clampQ]
  omega

/-- A value within qmax is not clamped. -/
theorem clampQ_of_le {fmt : Nat} (hfmt : fmt ≤ 2) {q : Int} (h : q.natAbs ≤ fmtQmax fmt) : clampQ fmt q = q := by
  have hmax := fmtQmax_eq hfmt
  rw [clampQ, satBits_of_fits (by omega) (by omega)]
  omega

/-- No element is the most negative pattern. -/
theorem ne_of_natAbs_le {fmt : Nat} (hfmt : fmt ≤ 2) {q : Int} (h : q.natAbs ≤ fmtQmax fmt) : q ≠ -(2 ^ (fmtBits fmt - 1)) := by
  have hmax : (2 : Int) ^ (fmtBits fmt - 1) = fmtQmax fmt + 1 := by exact_mod_cast fmtQmax_eq hfmt
  omega

/-- Every element is within qmax. -/
theorem natAbs_scaleFind_le (fmt : Nat) (a : Int) {vs : List Int} {q : Int} (hq : q ∈ (scaleFind fmt a vs).q) : q.natAbs ≤ fmtQmax fmt := by
  by_cases hmx : maxAbs vs = 0
  · rw [scaleFind_zero fmt a hmx] at hq
    obtain ⟨v, -, rfl⟩ := List.mem_map.mp hq
    exact Nat.zero_le _
  · rw [scaleFind_pos fmt a hmx] at hq
    obtain ⟨v, -, rfl⟩ := List.mem_map.mp hq
    exact natAbs_clampQ_le fmt _

theorem length_scaleFind (fmt : Nat) (a : Int) (vs : List Int) : (scaleFind fmt a vs).q.length = vs.length := by
  by_cases hmx : maxAbs vs = 0
  · rw [scaleFind_zero fmt a hmx, List.length_map]
  · rw [scaleFind_pos fmt a hmx, packedBy, List.length_map]

/-- A clamp is marked only where some value passes 255 qmax under the greatest exponent. -/
theorem scaleFind_clamped {fmt : Nat} (hfmt : fmt ≤ 2) (a : Int) {vs : List Int} (hmx : maxAbs vs ≠ 0) (hmx' : maxAbs vs ≤ 2 ^ 47)
    (h : (scaleFind fmt a vs).clamp = true) : (scaleFind fmt a vs).e = 127 ∧ (scaleFind fmt a vs).m = 255 ∧
      ∃ v ∈ vs, (v.natAbs : ℚ) * 2 ^ a > 255 * fmtQmax fmt * 2 ^ (127 : Int) := by
  rw [scaleFind_pos fmt a hmx] at h ⊢
  obtain ⟨hq, hq'⟩ := fmtQmax_bounds hfmt
  obtain ⟨he, hm, hbig⟩ := scaleOf_clamped hq hq' (Nat.pos_of_ne_zero hmx) hmx' a h
  obtain ⟨v, hv, habs⟩ := exists_maxAbs hmx
  exact ⟨he, hm, v, hv, habs ▸ hbig⟩

/-- Where no clamp is marked, the scale holds every value within qmax. -/
theorem scaleFind_holds {fmt : Nat} (hfmt : fmt ≤ 2) (a : Int) {vs : List Int} (hmx : maxAbs vs ≠ 0) (hmx' : maxAbs vs ≤ 2 ^ 47)
    (h : (scaleFind fmt a vs).clamp = false) :
    1 ≤ (scaleFind fmt a vs).m ∧ (scaleFind fmt a vs).m ≤ 255 ∧ -128 ≤ (scaleFind fmt a vs).e ∧ (scaleFind fmt a vs).e ≤ 127 ∧
      (maxAbs vs : ℚ) * 2 ^ a ≤ fmtQmax fmt * (scaleFind fmt a vs).m * 2 ^ (scaleFind fmt a vs).e := by
  rw [scaleFind_pos fmt a hmx] at h ⊢
  obtain ⟨hq, hq'⟩ := fmtQmax_bounds hfmt
  exact scaleOf_holds hq hq' (Nat.pos_of_ne_zero hmx) hmx' a h

/-- An element of a block whose scale holds every value is the rounded quotient of its value. -/
theorem elem_scaleFind {fmt : Nat} (hfmt : fmt ≤ 2) (a : Int) {vs : List Int} (hmx : maxAbs vs ≠ 0) (hm : 1 ≤ (scaleFind fmt a vs).m)
    (hholds : (maxAbs vs : ℚ) * 2 ^ a ≤ fmtQmax fmt * (scaleFind fmt a vs).m * 2 ^ (scaleFind fmt a vs).e) {i : Nat} (hi : i < vs.length) :
    (scaleFind fmt a vs).q.getD i 0 = rheShift (vs.getD i 0) a (scaleFind fmt a vs).m (scaleFind fmt a vs).e := by
  rw [scaleFind_pos fmt a hmx, packedBy] at hm hholds ⊢
  rw [List.getD_eq_getElem _ _ (by rwa [List.length_map]), List.getElem_map, List.getD_eq_getElem _ _ hi]
  refine clampQ_of_le hfmt (natAbs_rheShift_le hm (le_trans ?_ hholds))
  gcongr
  exact natAbs_le_maxAbs (List.getElem_mem hi)

end Sys2Proof.Machine.ScaleLaws

namespace Sys2Proof.Machine
open RoundLaws ScaleLaws

/-- Settles O58: the scale that is taken holds the largest value within qmax, so no element is clamped and each is the rounded quotient. -/
theorem scaleFinderIsNearest : Obligations.ScaleFinderIsNearest := by
  unfold Obligations.ScaleFinderIsNearest
  intro fmt a vs hfmt hlen hvs _ _ p
  have hmx' : maxAbs vs ≤ 2 ^ 47 := (maxAbs_le_iff vs _).mpr fun v hv => by
    obtain ⟨hlo, hhi⟩ := hvs v hv
    omega
  refine ⟨(length_scaleFind fmt a vs).trans hlen, fun q hmem => ?_, fun hzero => ?_, fun hclamp => ?_, fun hclamp hsome => ?_⟩
  · have hle := natAbs_scaleFind_le fmt a hmem
    exact ⟨hle, ne_of_natAbs_le hfmt hle⟩
  · have hp : p = _ := scaleFind_zero fmt a ((maxAbs_eq_zero_iff vs).mpr hzero)
    rw [hp]
    exact ⟨rfl, rfl⟩
  · have hmx : maxAbs vs ≠ 0 := fun h0 => by
      have hp : p = _ := scaleFind_zero fmt a h0
      rw [hp] at hclamp
      exact absurd hclamp Bool.false_ne_true
    exact scaleFind_clamped hfmt a hmx hmx' hclamp
  · have hmx : maxAbs vs ≠ 0 := fun h0 => by
      obtain ⟨v, hv, hne⟩ := hsome
      exact hne ((maxAbs_eq_zero_iff vs).mp h0 v hv)
    obtain ⟨hm, hm', he, he', hholds⟩ := scaleFind_holds hfmt a hmx hmx' hclamp
    refine ⟨hm, hm', he, he', fun i hi => ?_⟩
    have helem := elem_scaleFind hfmt a hmx hm hholds (hlen ▸ hi)
    obtain ⟨n, k, hk, hround, hquot⟩ := rheShift_eq (vs.getD i 0) a p.e hm
    intro x q
    have hx : x = (n : ℚ) / k := hquot.symm
    have hq : q = rhe n k := helem.trans hround
    obtain ⟨hnear, htie⟩ := abs_sub_rhe n hk
    rw [hx, hq]
    exact ⟨hnear, htie, hround.symm⟩

end Sys2Proof.Machine
end

section
/-!
PROOF. O15: branches, joins, exits and jumps, and the end of a group (R96 to R99, R103, R195).
-/
namespace Sys2Proof.Machine.FlowLaws
open MeshLaws IssueLaws FaultLaws

variable {s t u : State} {e g opc : Nat} {v : Group}

/-! ### Where an instruction sends its group -/

/-- A group that goes to an address, and does nothing else. -/
theorem setsGroup_of_goes (h : s.grp? e g = some v) (w : Group) (pc : VAddr) : s.setsGroup e g w ((s.goes e g w).spent e g pc) := by
  refine ⟨onlyGroup_spent (onlyGroup_trans (onlyGroup_onGrp s e g _) (onlyGroup_spend _ e g)) pc, ?_⟩
  rw [grp_spent]
  exact (grp_onEng _ e e g (Engine.spend g) (fun _ => rfl)).trans (grp_onGrp_self h (fun _ => w))

/-- A branch to a good target whose stack holds it. -/
theorem conditionalBranch_goes {to_ : VAddr} (h : s.mayIssue e g opc [] v) (hto : to_.toNat % 8 = 0) (c : Mask32) (rpc : VAddr)
    (hroom : (v.branch c to_ rpc).stack.length ≤ 32) :
    conditionalBranch e g opc c to_ rpc s = (s.goes e g (v.branch c to_ rpc)).spent e g v.pc := by
  rw [conditionalBranch, issue_of_mayIssue h]
  simp only [hto, ne_eq, not_true_eq_false, if_false, Nat.not_lt.2 hroom]

theorem conditionalBranch_overflows {to_ : VAddr} (h : s.mayIssue e g opc [] v) (hto : to_.toNat % 8 = 0) (c : Mask32) (rpc : VAddr)
    (hfull : 32 < (v.branch c to_ rpc).stack.length) :
    conditionalBranch e g opc c to_ rpc s = (s.insnFault e g 0x08 0 v.pc.toNat).spent e g v.pc := by
  rw [conditionalBranch, issue_of_mayIssue h]
  simp only [hto, ne_eq, not_true_eq_false, if_false, hfull, if_true]

section branch

variable (c : Mask32) (to_ rpc : VAddr)

theorem branch_all (hf : v.active &&& ~~~c = 0) : v.branch c to_ rpc = { v with pc := to_, krec := none } := by
  rw [Group.branch, if_pos hf]

theorem branch_none (hf : v.active &&& ~~~c ≠ 0) (hk : v.active &&& c = 0) : v.branch c to_ rpc = { v with pc := v.pc + 8, krec := none } := by
  rw [Group.branch, if_neg hf, if_pos hk]

/-- The lanes that stay wait in the top entry, where that waits at this reconvergence address for the next instruction. -/
theorem branch_merges (hf : v.active &&& ~~~c ≠ 0) (hk : v.active &&& c ≠ 0) {top : Recon} {r : List Recon} (hs : v.stack = top :: r)
    (htop : top.rpc = rpc ∧ top.ppc = v.pc + 8) : v.branch c to_ rpc = { v with
      active := v.active &&& c, pc := to_, krec := none, stack := { top with pmask := top.pmask ||| (v.active &&& ~~~c) } :: r } := by
  rw [Group.branch, if_neg hf, if_neg hk, hs]
  dsimp only
  rw [if_pos htop]

theorem branch_pushes (hf : v.active &&& ~~~c ≠ 0) (hk : v.active &&& c ≠ 0)
    (htop : ∀ top, v.stack.head? = some top → ¬(top.rpc = rpc ∧ top.ppc = v.pc + 8)) : v.branch c to_ rpc = { v with
      active := v.active &&& c, pc := to_, krec := none
      stack := { rpc := rpc, saved := v.active, ppc := v.pc + 8, pmask := v.active &&& ~~~c } :: v.stack } := by
  rw [Group.branch, if_neg hf, if_neg hk]
  cases hs : v.stack with
  | nil => rfl
  | cons top r =>
    dsimp only
    rw [if_neg (htop top (by rw [hs]; rfl))]

end branch

/-! ### JOIN (R97) -/

theorem join_pending {top : Recon} {r : List Recon} (hs : v.stack = top :: r) (hpc : top.rpc = v.pc) (hp : top.pmask ≠ 0) (hpp : top.ppc ≠ v.pc) :
    v.join = { v with active := top.pmask, pc := top.ppc, krec := none, stack := { top with pmask := 0 } :: r } := by
  rw [Group.join, hs]
  dsimp only
  rw [if_neg (not_not.2 hpc), if_pos ⟨hp, hpp⟩]

theorem join_reconverges {top : Recon} {r : List Recon} (hs : v.stack = top :: r) (hpc : top.rpc = v.pc) (hp : top.pmask = 0 ∨ top.ppc = v.pc) :
    v.join = { v with active := top.saved, pc := v.pc + 8, krec := none, stack := r } := by
  rw [Group.join, hs]
  dsimp only
  rw [if_neg (not_not.2 hpc), if_neg (by tauto)]

theorem join_unmatched (htop : ∀ top, v.stack.head? = some top → top.rpc ≠ v.pc) : v.join = v.step := by
  rw [Group.join]
  cases hs : v.stack with
  | nil => rfl
  | cons top r =>
    dsimp only
    rw [if_pos (htop top (by rw [hs]; rfl))]

/-- A JOIN that leaves a lane active, or pops nothing. -/
theorem join_goes_on (h : s.mayIssue e g opc [] v) (hjoin : v.join.active ≠ 0 ∨ v.join.stack.length = v.stack.length) :
    s.setsGroup e g v.join (join e g opc s) := by
  rw [join, issue_of_mayIssue h, if_neg (by tauto)]
  exact setsGroup_of_onGrp (grp_of_mayIssue h) (fun _ => v.join) _

/-- One that pops an entry of which no lane is left. -/
theorem join_empties (h : s.mayIssue e g opc [] v) (hact : v.join.active = 0) (hpop : v.stack.length ≠ v.join.stack.length) :
    join e g opc s = (s.whenEmpty e g v.join).spent e g v.pc := by
  rw [join, issue_of_mayIssue h, if_pos ⟨hact, hpop⟩]

/-! ### A group without active lanes (R99) -/

theorem whenEmpty_goes_on {w : Group} {top : Recon} {r : List Recon} (hs : w.stack = top :: r) :
    s.whenEmpty e g w = s.onGrp e g (fun _ => { w with pc := top.rpc }) := by
  rw [State.whenEmpty, hs]

theorem whenEmpty_ends {w : Group} (hs : w.stack = []) (hb : w.busy = []) : s.whenEmpty e g w = s.endGroup e g := by
  rw [State.whenEmpty, hs, hb]
  rfl

/-! ### What leaves an engine where barriers are looked at again (R195, R196, R414) -/

/-- A step changes the objects, and sends messages within the package and through the ports, and does nothing else. -/
def Sends (s t : State) : Prop :=
  t = { s with objs := t.objs, msgs := t.msgs, nextId := t.nextId, mesh := t.mesh, gmp := t.gmp, posted := t.posted }

theorem Sends.refl (s : State) : Sends s s := rfl

theorem Sends.trans (h : Sends s t) (h' : Sends t u) : Sends s u := by
  unfold Sends at *
  rw [h] at h'
  exact h'

theorem sends_ite {c : Prop} [Decidable c] (ht : Sends s t) (hu : Sends s u) : Sends s (if c then t else u) := by
  split
  · exact ht
  · exact hu

theorem sends_each {α : Type} {f : α → State → State} (hf : ∀ a s, Sends s (f a s)) (l : List α) (s : State) : Sends s (each l f s) :=
  each_keeps (P := Sends s) l (fun a _ t ht => ht.trans (hf a t)) s (.refl s)

variable (s)

theorem sends_onRun (q : Nat) (f : Run → Run) : Sends s (s.onRun q f) := rfl
theorem sends_onGmp (f : Gimp → Gimp) : Sends s (s.onGmp f) := rfl
theorem sends_onPort (p : Nat) (f : Port → Port) : Sends s (s.onPort p f) := rfl
theorem sends_post (p : Posted) : Sends s (s.post p) := rfl

theorem sends_sendMsg (vc : Vc) (k : MsgKind) (src dst : Nat) (frm stop : Stop) : Sends s (s.sendMsg vc k src dst frm stop) := by
  unfold State.sendMsg State.sendFlit
  split
  · rfl
  · rfl

theorem sends_postFlit (p kind : Nat) (ms : List PMsg) : Sends s (s.postFlit p kind ms) := by
  unfold State.postFlit
  exact sends_ite (sends_each (fun m t => sends_post t _) ms s) (sends_post s _)

theorem sends_portPump (p n : Nat) : Sends s (s.portPump p n) := by
  induction n generalizing s with
  | zero => exact .refl s
  | succ n ih =>
    have hflit : ∀ (t : State) (ms : List PMsg), Sends t (t.sendPFlit p 0 ms) := fun t ms => (sends_onPort t p _).trans (sends_postFlit _ p 0 ms)
    rw [State.portPump]
    exact sends_ite (.refl s) (sends_ite (.refl s) (((sends_onPort s p _).trans (hflit _ _)).trans (ih _)))

theorem sends_portSend (p : Nat) (m : PMsg) (who : Option Unacked) : Sends s (s.portSend p m who) :=
  (sends_onPort s p _).trans (sends_portPump _ p _)

theorem sends_barrierDone (q num scope e : Nat) (r : Run) : Sends s (s.barrierDone q num scope e r) :=
  sends_each (fun _ t => sends_sendMsg t _ _ _ _ _ _) _ s

theorem sends_sysRelease (q num inst : Nat) : Sends s (s.sysRelease q num inst) := by
  unfold State.sysRelease
  split
  · exact sends_ite ((sends_onGmp s _).trans (sends_barrierDone _ q num 4 0 _)) (.refl s)
  · exact .refl s

theorem sends_sysSend (q num inst : Nat) : Sends s (s.sysSend q num inst) := by
  unfold State.sysSend
  split
  · exact .refl s
  · exact sends_ite (.refl s)
      (((sends_onGmp s _).trans (sends_each (fun p t => sends_portSend t _ _ _) _ _)).trans (sends_sysRelease _ q num inst))

theorem sends_sysComplete (q num : Nat) : Sends s (s.sysComplete q num) := (sends_onGmp s _).trans (sends_sysSend _ q num _)

theorem sends_barrierCheck (q num scope e : Nat) : Sends s (s.barrierCheck q num scope e) := by
  unfold State.barrierCheck
  split
  · exact .refl s
  · exact sends_ite (.refl s) ((sends_onRun s q _).trans (sends_ite (sends_sysComplete _ q num) (sends_barrierDone _ q num scope e _)))

theorem sends_barrierSweep (q e : Nat) : Sends s (s.barrierSweep q e) :=
  sends_each (fun num t => sends_each (fun sc t => sends_barrierCheck t q num sc e) _ t) _ s

/-! ### A group ends (R79, R99) -/

variable {s}

/-- The engine without the group, whose launch has its index and its flags. -/
def groupGone (g : Nat) (v : Group) (n : Engine) : Engine :=
  { n with groups := SMap.del n.groups g
           shares := SMap.modify n.shares v.queue (fun h => { h with ended := addNum h.ended v.index, aflags := h.aflags ||| v.aflags }) }

theorem share_groupGone (n : Engine) (g : Nat) (v : Group) : SMap.get? (groupGone g v n).shares v.queue =
    (SMap.get? n.shares v.queue).map (fun h => { h with ended := addNum h.ended v.index, aflags := h.aflags ||| v.aflags }) := by
  rw [groupGone, SMapLaws.get_modify, if_pos rfl]

theorem sends_endGroup (hg : s.grp? e g = some v) : Sends ((s.pastGroup e g).onEng e (groupGone g v)) (s.endGroup e g) := by
  unfold State.endGroup
  rw [hg]
  exact (sends_onRun _ v.queue _).trans (sends_barrierSweep _ v.queue e)

/-- What a group that has ended leaves behind: its flags are in its launch's share, and its place is free. -/
theorem endGroup_effect (hg : s.grp? e g = some v) (t : State) (ht : t = (s.endGroup e g).spent e g v.pc) :
    t.grp? e g = none ∧ t.mem = s.mem ∧ t.regs = s.regs ∧
    (t.share? e v.queue).map (·.aflags) = (s.share? e v.queue).map (fun h => h.aflags ||| v.aflags) := by
  have hends := sends_endGroup hg
  have heng : (s.endGroup e g).eng e = groupGone g v (s.eng e) := by
    rw [hends]
    exact State.eng_onEng_same (s.pastGroup e g) e (groupGone g v)
  subst ht
  refine ⟨?_, ?_, ?_, ?_⟩
  · rw [grp_spent, State.grp?, heng]
    exact SMapLaws.get_del_same _ g
  · rw [spent_only, hends]
    rfl
  · rw [spent_only, hends]
    rfl
  · rw [State.share?, eng_spent, heng]
    exact (congrArg (Option.map (·.aflags)) (share_groupGone (s.eng e) g v)).trans (Option.map_map ..)

end Sys2Proof.Machine.FlowLaws

namespace Sys2Proof.Machine
open MeshLaws IssueLaws FaultLaws FlowLaws

/-- Settles O15, instruction by instruction: each makes the group's next form by the cases of its rule, and where no lane and no entry is left
the group ends. -/
theorem controlFlow : Obligations.ControlFlow := by
  unfold Obligations.ControlFlow
  refine ⟨fun s e g opc c to_ rpc u h hto hlen => ?_, fun s e g opc u h => ?_, fun s e g opc u h => ?_, fun s e g opc to_ u h => ?_⟩
  · intro k f
    have hg := grp_of_mayIssue h
    have hnext : ∀ w, u.branch c to_ rpc = w → w.stack.length ≤ 32 →
        ∃ t, exec (.conditionalBranch e g opc c to_ rpc) s = .next t ∧ s.setsGroup e g w t := by
      rintro w rfl hroom
      exact ⟨_, congrArg Host.Outcome.next (conditionalBranch_goes h hto c rpc hroom), setsGroup_of_goes hg _ _⟩
    refine ⟨fun hf => hnext _ (branch_all c to_ rpc hf) hlen, fun hf hk => hnext _ (branch_none c to_ rpc hf hk) hlen,
      fun hf hk top r hs hr hp => hnext _ (branch_merges c to_ rpc hf hk hs ⟨hr, hp⟩) (by rw [hs] at hlen; exact hlen), fun hf hk htop => ⟨fun hroom => ?_, fun hfull => ?_⟩⟩
    · exact hnext _ (branch_pushes c to_ rpc hf hk htop) hroom
    · have hover : 32 < (u.branch c to_ rpc).stack.length := by
        rw [branch_pushes c to_ rpc hf hk htop, List.length_cons, hfull]
        decide
      refine ⟨_, congrArg Host.Outcome.next (conditionalBranch_overflows h hto c rpc hover), ?_⟩
      exact faultTakenAt_spent s (faultTaken_insnFault s e g 0x08 0 _ hg) _
  · have hg := grp_of_mayIssue h
    have hnext : ∀ w, u.join = w → (w.active ≠ 0 ∨ w.stack.length = u.stack.length) →
        ∃ t, exec (.join e g opc) s = .next t ∧ s.setsGroup e g w t := by
      rintro w rfl hw
      exact ⟨_, rfl, join_goes_on h hw⟩
    refine ⟨fun top r hs hpc hp hpp => hnext _ (join_pending hs hpc hp hpp) (.inl hp),
      fun top r hs hpc hp hsaved => hnext _ (join_reconverges hs hpc hp) (.inl hsaved), fun top next r hs hpc hp hsaved => ?_,
      fun top hs hpc hp hsaved hb => ?_, fun htop => hnext _ (join_unmatched htop) (.inr rfl)⟩
    · have hjoin := join_reconverges hs hpc hp
      have hempty := join_empties h (by rw [hjoin]; exact hsaved) (by rw [hjoin, hs]; simp)
      rw [hjoin, whenEmpty_goes_on rfl, hsaved] at hempty
      exact ⟨_, congrArg Host.Outcome.next hempty, setsGroup_of_onGrp hg (fun _ => _) _⟩
    · have hjoin := join_reconverges hs hpc hp
      have hempty := join_empties h (by rw [hjoin]; exact hsaved) (by rw [hjoin, hs]; simp)
      rw [hjoin, whenEmpty_ends (w := { u with active := top.saved, pc := u.pc + 8, krec := none, stack := [] }) rfl hb] at hempty
      obtain ⟨hgone, hmem, -⟩ := endGroup_effect hg _ rfl
      exact ⟨_, congrArg Host.Outcome.next hempty, hgone, hmem⟩
  · have hg := grp_of_mayIssue h
    refine ⟨fun top r hs => ?_, fun hs hb => ?_⟩
    · have hstack : u.exit.stack = { top with saved := top.saved &&& ~~~u.active, pmask := top.pmask &&& ~~~u.active } ::
          r.map (fun x => { x with saved := x.saved &&& ~~~u.active, pmask := x.pmask &&& ~~~u.active }) := by
        rw [Group.exit, hs]
        rfl
      refine ⟨_, congrArg Host.Outcome.next (issue_of_mayIssue h _), ?_⟩
      rw [whenEmpty_goes_on hstack]
      exact setsGroup_of_onGrp hg (fun _ => _) _
    · have hstack : u.exit.stack = [] := by
        rw [Group.exit, hs]
        rfl
      refine ⟨_, congrArg Host.Outcome.next (issue_of_mayIssue h _), ?_⟩
      rw [whenEmpty_ends hstack hb]
      exact endGroup_effect hg _ rfl
  · refine ⟨fun hto => ⟨_, congrArg Host.Outcome.next (issue_of_mayIssue h _), ?_⟩,
      fun hto => ⟨_, congrArg Host.Outcome.next (issue_of_mayIssue h _), ?_⟩⟩
    · rw [if_neg (not_not.2 hto)]
      exact setsGroup_of_goes (grp_of_mayIssue h) _ _
    · rw [if_pos hto]
      exact faultTakenAt_spent s (faultTaken_insnFault s e g 0x04 0xFF _ (grp_of_mayIssue h)) _

end Sys2Proof.Machine
end

section
/-!
PROOF. O18: the answers to loads, stores and atomics (R132, R282, R283, R287).
-/
namespace Sys2Proof.Machine.AnswerLaws

/-! A poisoned answer of a load reaches a group of a resident context; a second queue of the context is live and not resident. -/

/-- The group: queue 5 of context 3, on engine 70. -/
def asker : Group :=
  { queue := 5, ctx := 3, n := 16, index := 0, pc := 0x10040#57, active := 1#32, regs := [], stack := [], aflags := 0, ftr := 0, busy := [6],
    st := .ready, fenceElapsed := 0, krec := none }

def residentCtx : Ctx :=
  { st := .live, hoop := 2, fn := 4, gen := 0, root := 0x1000, motBase := 0x20000, motCount := 2, slot := some 0, fault := none, lost := 0,
    launches := 0, running := [], destroyCookie := 0, destroyTag := 0, forcedUnits := 0, quiet := false }

def outsideQueue : Queue :=
  { st := .live, kind := .compute, log2 := 4, ctx := 3, evring := 2, ring := 0x11000, eyelet := 0x11800, poll := 0, slot := none, sched := 0,
    pSeen := 0, c := 0, bound := false, members := [], boundAt := 0, waitSince := none, sliceOver := false, wake := false, eyeletOut := false,
    eyeletAfter := 0, descOut := false, run := none, last := 0, destroyCookie := 0, destroyTag := 0, destroyFn := 0, silent := false, drain := [],
    forced := 0, latePins := [], abandoned := [], ringPins := [] }

/-- The load of lane 0, answered with a poisoned sector. -/
def poisonedLoad : Txn :=
  { Txn.blank (.lane 70 1) 0 1 (some 2) (some 3) .read .stack 0x50200 with
    queue := 5, secs := 1, data := zeros 128, va := 0x11200, pc := 0x10038, rd := 6, size := 2, offs := [(0, 0)], stage := .reply, poison := 1 }

def poisonedAnswer : State :=
  { State.reset with
    objs := { Objects.empty with ctxs := [(3, residentCtx)], queues := [(6, outsideQueue)] }
    engs := [(70, { Engine.empty with groups := [(1, asker)] })]
    txns := [(4, poisonedLoad)] }

/-- The first byte of the queue's table entry in the toile of die 0. -/
def queueStateByte : Nat := tableAddr 0 (queueOff 6)

/-- The fault stops the queue, and its table entry says so: the state there reads STOPPED, where the toile held 0. -/
theorem poisonedAnswer_writes_table : cellAt poisonedAnswer.mem.cells queueStateByte = 0 ∧
    cellAt (loadReturn 4 poisonedAnswer).mem.cells queueStateByte = BitVec.ofNat 8 (queueStNo .stopped) := by
  decide +kernel

end Sys2Proof.Machine.AnswerLaws

namespace Sys2Proof.Machine
open AnswerLaws

/-- Refutes O18: a fault writes the table entries of those queues of its context that are not resident (R282, R283), so bytes of the toile
change where a load's answer is poisoned. -/
theorem not_accessAnswers : ¬ Obligations.AccessAnswers := by
  unfold Obligations.AccessAnswers
  intro h
  obtain ⟨hload, -⟩ := h
  obtain ⟨-, hpoison⟩ := hload poisonedAnswer 4 70 1 poisonedLoad asker rfl rfl rfl rfl rfl rfl rfl rfl rfl (by decide)
  obtain ⟨t, ht, hmem, -⟩ := hpoison (0, 0) (by decide +kernel) rfl rfl
  have hnext : loadReturn 4 poisonedAnswer = t := Host.Outcome.next.inj ht
  obtain ⟨hbefore, hafter⟩ := poisonedAnswer_writes_table
  have hsame : cellAt (loadReturn 4 poisonedAnswer).mem.cells queueStateByte = 0 := by rw [hnext, hmem, hbefore]
  exact absurd (hafter.symm.trans hsame) (by decide)

end Sys2Proof.Machine
end

section
/-!
PROOF. O35: the ends of commands, and what a scheduler that decides after one makes of a queue that is not bound (R249, R272, R283).
-/
namespace Sys2Proof.Machine.EndLaws

/-! A copy queue with a FILL that is over: its ring has no room for the record, and the queue is not bound. The statement asks for the former and
leaves the latter open; `bindLate` then binds the queue, and `bind` takes a command that is not held for one to be restored. -/

def fillCtx : Ctx :=
  { st := .live, hoop := 2, fn := 4, gen := 0, root := 0x1000, motBase := 0x20000, motCount := 2, slot := some 0, fault := none, lost := 0,
    launches := 0, running := [], destroyCookie := 0, destroyTag := 0, forcedUnits := 0, quiet := false }

/-- A FILL of no bytes under CPL. -/
def fillRun : Run := Run.start ([4, 1] ++ zeros 62) [] []

def fillQueue : Queue :=
  { st := .live, kind := .copy, log2 := 4, ctx := 3, evring := 2, ring := 0x11000, eyelet := 0x11800, poll := 0, slot := some 0, sched := 0,
    pSeen := 1, c := 0, bound := false, members := [], boundAt := 0, waitSince := none, sliceOver := false, wake := false, eyeletOut := false,
    eyeletAfter := 0, descOut := false, run := some fillRun, last := 0, destroyCookie := 0, destroyTag := 0, destroyFn := 0, silent := false,
    drain := [], forced := 0, latePins := [], abandoned := [], ringPins := [] }

/-- A ring of 16 records of which only the kept slot is free. -/
def fullRing : Ring :=
  { va := 0x12000, headVa := 0x12800, w := 15, h := 0, ctx := 3, vector := 0, log2 := 4, live := true, rereading := false, pins := [],
    heldEvents := [] }

def fillOver : State :=
  { State.reset with objs := { Objects.empty with ctxs := [(3, fillCtx)], queues := [(5, fillQueue)], rings := [(2, fullRing)] } }

/-- The command that a queue runs is in a phase. -/
def phaseOfRun (s : State) (q : Nat) : Option RunPhase := ((s.queue? q).bind (·.run)).map (·.phase)

/-- The command that the ring has held back is being restored, and no longer waits for room. -/
theorem fillOver_restores : phaseOfRun (commandComplete 5 fillOver) 5 = some .restoring := by decide +kernel

end Sys2Proof.Machine.EndLaws

namespace Sys2Proof.Machine
open EndLaws

/-- Refutes O35: a command that is over, whose queue is not bound and whose ring has no room, is not held back as COMPLETING, for the scheduler that
decides next binds the queue and puts the command into RESTORING. -/
theorem not_endsOfCommands : ¬ Obligations.EndsOfCommands := by
  unfold Obligations.EndsOfCommands
  intro h
  obtain ⟨-, hcomplete, -⟩ := h
  obtain ⟨-, hheld⟩ := hcomplete fillOver 5 fillQueue fillCtx fillRun fullRing rfl rfl rfl rfl rfl (.inr ⟨rfl, by decide, by decide⟩)
  obtain ⟨t, y, k, ht, hy, hrun, hphase, -⟩ := hheld (by decide) (by decide) rfl
  have hnext : commandComplete 5 fillOver = t := Host.Outcome.next.inj ht
  have hcompleting : phaseOfRun t 5 = some .completing := by
    rw [phaseOfRun, hy, Option.bind_some, hrun, Option.map_some, hphase]
  rw [← hnext, fillOver_restores] at hcompleting
  exact absurd hcompleting (by decide)

end Sys2Proof.Machine
end

section
/-!
PROOF. O25 fails: an atomic on a line whose home die has lost its dirty ledger, in timeout mode (R178).
-/
namespace Sys2Proof.Machine.LostLedger

/-- An ADD of one lane to the first word of the line at address 0, which has reached its home: slice 0 of die 0. -/
def addRequest : Txn :=
  { Txn.blank (.lane 0 1) 0 0 (some 2) (some 3) (.atomic 0 2) .stack 0 with
    secs := 1, size := 2, stage := .home, lanes := [{ lane := 0, off := 0, a := 1, b := 0, f := 0, ret := false }] }

/-- The line at its home: it holds its first sector, has no near copy, and is not counted by the dirty ledger. -/
def heldLine : Line := { line with secs := [{ Sector.empty with st := .clean }, Sector.empty, Sector.empty, Sector.empty] }

/-- The ADD has come to the home whose dirty ledger has been declared lost, and DEAD_MODE is 1. -/
def beforeAdd : State := { before with
  cache := { Cache.empty with slices := [(0, { Slice.empty with lines := [heldLine] })] }
  txns := [(4, addRequest)] }

/-- The request is the next that its home serves. -/
theorem beforeAdd_ready : beforeAdd.readyAtHome 4 addRequest := by
  unfold State.readyAtHome
  decide +kernel

theorem beforeAdd_homeLine : beforeAdd.homeLine addRequest = some heldLine := by decide +kernel

/-- The answer of the lost ledger counts as timed out at once: the sector that the ADD has changed is poisoned (R178). -/
theorem after_homeAtomic_poisoned (t : State) (h : exec (.homeAtomic 4 .none) beforeAdd = .next t) :
    (t.homeLine addRequest).map (fun m => m.secs.map (·.poison)) = some [true, true, true, true] := by
  have ht : t = beforeAdd.atHome 4 .none Txn.isAtomic := (Host.Outcome.next.inj h).symm
  subst ht
  decide +kernel

/-- The line takes the result of the ADD without a poisoned sector. -/
theorem added_unpoisoned : ((List.range 4).map (fun k => (secAt heldLine.secs k).store
    (cut (addRequest.rmw 4 (heldLine.secs.flatMap (·.data))).line (32 * k) 32)
    (secMask (addRequest.rmw 4 (heldLine.secs.flatMap (·.data))).mask k) false)).map (·.poison) = [false, false, false, false] := by decide +kernel

end Sys2Proof.Machine.LostLedger

namespace Sys2Proof.Machine
open LostLedger

/-- Refutes O25: its first clause says that the line holds exactly the bytes of the result whatever the ledger's state. In timeout mode
(DEAD_MODE 1) with the base die of the home's dirty ledger declared lost, the increment of a line that has become dirty counts as timed out at
once and the home poisons the line's sectors (R178). -/
theorem not_homeAtomics : ¬ Obligations.HomeAtomics := by
  unfold Obligations.HomeAtomics
  rintro ⟨hatomic, -⟩
  obtain ⟨t, m, y, hexec, -, hline, -, -, hgood, -⟩ := hatomic beforeAdd 4 addRequest heldLine .none (fun _ => nofun) beforeAdd_ready rfl
    beforeAdd_homeLine rfl (by decide +kernel) rfl rfl (by decide +kernel) (.homeAtomic 4 .none) (.inl ⟨rfl, rfl⟩)
  obtain ⟨hsecs, -⟩ := hgood (by decide +kernel)
  have hpoison := after_homeAtomic_poisoned t hexec
  rw [hline, Option.map_some, hsecs, added_unpoisoned] at hpoison
  exact absurd hpoison (by decide)

end Sys2Proof.Machine
end

section
/-!
PROOF. What loaded bytes make of a group's registers (R91, R93, R105).
-/
namespace Sys2Proof.Machine.LoadLaws
open IssueLaws FaultLaws

variable {rd size l : Nat} {b : Bytes} {v : Group}

/-! ### Folds over groups -/

/-- What one step of a fold sets, and every other step keeps, holds at the end. -/
theorem foldl_reaches {α β : Type} {f : β → α → β} {P : β → Prop} {l : List α} {a : α} (ha : a ∈ l) (hset : ∀ v, P (f v a))
    (hkeep : ∀ v, P v → ∀ c ∈ l, P (f v c)) (v : β) : P (l.foldl f v) := by
  obtain ⟨l₁, l₂, rfl⟩ := List.append_of_mem ha
  rw [List.foldl_append, List.foldl_cons]
  refine List.foldlRecOn l₂ f (motive := P) (hset _) (fun w hw c hc => hkeep w hw c ?_)
  exact List.mem_append_right _ (List.mem_cons_of_mem _ hc)

/-- Steps that write registers alone write registers alone together. -/
theorem foldl_regs {α : Type} {f : Group → α → Group} (hf : ∀ v a, ∃ m, f v a = { v with regs := m }) (l : List α) (v : Group) :
    ∃ m, l.foldl f v = { v with regs := m } := by
  refine List.foldlRecOn l f (motive := fun w => ∃ m, w = { v with regs := m }) ⟨v.regs, rfl⟩ ?_
  rintro _ ⟨m, rfl⟩ a -
  obtain ⟨m', hm'⟩ := hf { v with regs := m } a
  exact ⟨m', hm'⟩

/-! ### A lane's registers (R105) -/

theorem loaded_regs (rd size l : Nat) (b : Bytes) (v : Group) : ∃ m, v.loaded rd size l b = { v with regs := m } := by
  unfold Group.loaded
  split
  · exact setReg_regs rd l _ v
  · exact foldl_regs (fun w i => setReg_regs _ l _ w) _ v

theorem mem_blockRegs {r k : Nat} : r ∈ blockRegs rd k ↔ rd ≤ r ∧ r < rd + k := by
  unfold blockRegs
  rw [List.mem_map]
  constructor
  · rintro ⟨i, hi, rfl⟩
    have hi := List.mem_range.1 hi
    omega
  · rintro ⟨hlo, hhi⟩
    exact ⟨r - rd, List.mem_range.2 (by omega), by omega⟩

/-- The registers that a load of 4 to 16 bytes fills lie next to each other. -/
theorem mem_sizeRegs {r : Nat} (hsize : size ≤ 4) (hrd : rd ≠ 255) :
    r ∈ sizeRegs rd size ↔ rd ≤ r ∧ r < rd + (if size ≤ 2 then 1 else 2 ^ size / 4) := by
  unfold sizeRegs
  by_cases h3 : size = 3
  · subst h3
    rw [if_pos rfl, if_neg hrd]
    simp
    omega
  · by_cases h4 : size = 4
    · subst h4
      rw [if_neg (by decide), if_pos rfl, mem_blockRegs]
      simp
    · rw [if_neg h3, if_neg h4, if_pos (by omega)]
      simp
      omega

/-- A register of a lane after a load to another register or another lane. -/
theorem reg_loaded_other (hsize : size ≤ 4) (hl : l < 32) (b : Bytes) (v : Group) {r l' : Nat} (hl' : l' < 32)
    (h : r ∉ sizeRegs rd size ∨ l' ≠ l) : (v.loaded rd size l b).reg r l' = v.reg r l' := by
  by_cases hrd : rd = 255
  · have hkept : ∀ (w : Group) (x : Word), w.setReg 255 l x = w := fun w x => if_pos rfl
    unfold Group.loaded
    subst hrd
    simp [hkept, List.foldl_fixed]
  · rw [mem_sizeRegs hsize hrd] at h
    unfold Group.loaded
    split at h
    · rw [if_pos ‹_›, reg_setReg v rd l _ r l' hl hl', if_neg (by omega)]
    · rw [if_neg ‹_›]
      refine List.foldlRecOn (List.range (2 ^ size / 4)) _ (motive := fun w : Group => w.reg r l' = v.reg r l') rfl (fun w hw i hi => ?_)
      have hi := List.mem_range.1 hi
      rw [if_neg hrd, reg_setReg w (rd + i) l _ r l' hl hl', if_neg (by omega), hw]

/-- The lane's registers hold the loaded value, zero-extended below four bytes. -/
def Holds (rd size l : Nat) (b : Bytes) (v : Group) : Prop :=
  rd ≠ 255 → (size ≤ 2 → v.reg rd l = BitVec.ofNat 32 (leNat b)) ∧
    (3 ≤ size → ∀ i, i < 2 ^ size / 4 → rd + i < 255 → v.reg (rd + i) l = BitVec.ofNat 32 (numAt b (4 * i) 4))

theorem holds_loaded_same (hl : l < 32) : Holds rd size l b (v.loaded rd size l b) := by
  refine fun hrd => ⟨fun hlow => ?_, fun hwide i hi hr => ?_⟩
  · rw [Group.loaded, if_pos hlow, reg_setReg v rd l _ rd l hl hl, if_pos ⟨rfl, hrd, rfl⟩]
  · rw [Group.loaded, if_neg (by omega)]
    refine foldl_reaches (P := fun w => w.reg (rd + i) l = _) (List.mem_range.2 hi) (fun w => ?_) (fun w hw j _ => ?_) v
    · rw [if_neg hrd, reg_setReg w (rd + i) l _ _ l hl hl, if_pos ⟨rfl, by omega, rfl⟩]
    · rw [if_neg hrd, reg_setReg w (rd + j) l _ _ l hl hl]
      split
      · obtain ⟨hij, -⟩ := ‹rd + i = rd + j ∧ _›
        rw [Nat.add_left_cancel hij]
      · exact hw

/-- A group whose registers of the lane read the same holds the value too. -/
theorem holds_congr {w : Group} (h : Holds rd size l b v) (hreg : ∀ r, w.reg r l = v.reg r l) : Holds rd size l b w := by
  refine fun hrd => ⟨fun hlow => ?_, fun hwide i hi hr => ?_⟩
  · rw [hreg]
    exact (h hrd).1 hlow
  · rw [hreg]
    exact (h hrd).2 hwide i hi hr

theorem holds_loaded_other {k : Nat} (hsize : size ≤ 4) (hl : l < 32) (hk : k < 32) (hne : l ≠ k) (c : Bytes) (h : Holds rd size l b v) :
    Holds rd size l b (v.loaded rd size k c) :=
  holds_congr h (fun _ => reg_loaded_other hsize hk c v hl (.inr hne))

/-! ### The lanes of a line (R105) -/

section deliver

variable {offs : List (Nat × Nat)} (line : Bytes)

theorem deliver_regs (rd size : Nat) (offs : List (Nat × Nat)) (v : Group) : ∃ m, v.deliver rd size offs line = { v with regs := m } :=
  foldl_regs (f := fun (w : Group) (p : Nat × Nat) => w.loaded rd size p.1 (cut line p.2 (2 ^ size)))
    (fun w _ => loaded_regs rd size _ _ w) offs v

theorem reg_deliver_other (hsize : size ≤ 4) (hoffs : ∀ p ∈ offs, p.1 < 32) {r : Nat} (hl : l < 32)
    (h : r ∉ sizeRegs rd size ∨ ∀ p ∈ offs, l ≠ p.1) (v : Group) : (v.deliver rd size offs line).reg r l = v.reg r l := by
  refine List.foldlRecOn offs _ (motive := fun w : Group => w.reg r l = v.reg r l) rfl (fun w hw p hp => ?_)
  rw [reg_loaded_other hsize (hoffs p hp) _ w hl (h.imp_right (fun h => h p hp)), hw]

theorem holds_deliver (hsize : size ≤ 4) (hoffs : ∀ p ∈ offs, p.1 < 32) {o : Nat} (hlo : (l, o) ∈ offs)
    (hone : ∀ o', (l, o') ∈ offs → o' = o) (v : Group) : Holds rd size l (cut line o (2 ^ size)) (v.deliver rd size offs line) := by
  have hl : l < 32 := hoffs _ hlo
  refine foldl_reaches (P := Holds rd size l (cut line o (2 ^ size))) hlo (fun w => holds_loaded_same hl) (fun w hw p hp => ?_) v
  by_cases hp1 : l = p.1
  · have hp2 : p.2 = o := hone p.2 (by rw [hp1]; exact hp)
    rw [hp2, ← hp1]
    exact holds_loaded_same hl
  · exact holds_loaded_other hsize hl (hoffs p hp) hp1 _ hw

end deliver

end Sys2Proof.Machine.LoadLaws
end

section
/-!
PROOF. O17: loads, stores and atomics leave the engine (R103 to R107, R130, R185, R187 to R189).
-/
namespace Sys2Proof.Machine.AccessLaws
open MeshLaws IssueLaws FaultLaws SyndromeLaws MotifLaws LoadLaws

variable {s t u : State} {e g : Nat} {v : Group}

/-! ### Requests that stay in flight -/

/-- Every request of a number below the next one stays, but for whether its answer may be installed. -/
def KeepsTxns (s t : State) : Prop :=
  s.nextId ≤ t.nextId ∧ ∀ i y, i < s.nextId → s.txn? i = some y → ∃ b, t.txn? i = some { y with noInstall := b }

theorem keepsTxns_of_eq (hid : t.nextId = s.nextId) (htxns : t.txns = s.txns) : KeepsTxns s t := by
  refine ⟨hid.ge, fun i y _ hy => ⟨y.noInstall, ?_⟩⟩
  rw [State.txn?, htxns]
  exact hy

theorem KeepsTxns.refl (s : State) : KeepsTxns s s := keepsTxns_of_eq rfl rfl

theorem KeepsTxns.trans (h : KeepsTxns s t) (h' : KeepsTxns t u) : KeepsTxns s u := by
  obtain ⟨hid, hkept⟩ := h
  obtain ⟨hid', hkept'⟩ := h'
  refine ⟨hid.trans hid', fun i y hi hy => ?_⟩
  obtain ⟨b, hb⟩ := hkept i y hi hy
  obtain ⟨b', hb'⟩ := hkept' i _ (Nat.lt_of_lt_of_le hi hid) hb
  exact ⟨b', hb'⟩

theorem keepsTxns_onGrp (s : State) (e g : Nat) (f : Group → Group) : KeepsTxns s (s.onGrp e g f) := keepsTxns_of_eq rfl rfl

theorem keepsTxns_onEng (s : State) (e : Nat) (f : Engine → Engine) : KeepsTxns s (s.onEng e f) := keepsTxns_of_eq rfl rfl

theorem keepsTxns_addTxn (s : State) (y : Txn) : KeepsTxns s (s.addTxn y).2 := by
  refine ⟨Nat.le_succ _, fun i x hi hx => ⟨x.noInstall, ?_⟩⟩
  exact (SMapLaws.get_put_other _ _ _ _ (Nat.ne_of_lt hi)).trans hx

/-- A change of what may be installed keeps every request. -/
theorem keepsTxns_mapVals (s : State) (f : Nat → Txn → Txn) (hf : ∀ i y, ∃ b, f i y = { y with noInstall := b }) :
    KeepsTxns s (s.onTxns (fun m => SMap.mapVals m f)) := by
  refine ⟨le_rfl, fun i y _ hy => ?_⟩
  obtain ⟨b, hb⟩ := hf i y
  refine ⟨b, ?_⟩
  rw [State.txn?, State.onTxns_txns, get_mapVals, ← hb]
  exact congrArg (Option.map (f i)) hy

theorem noInstall_ite (c : Prop) [Decidable c] (y : Txn) : ∃ b, (if c then { y with noInstall := true } else y) = { y with noInstall := b } := by
  split
  · exact ⟨true, rfl⟩
  · exact ⟨y.noInstall, rfl⟩

theorem keepsTxns_noFill (s : State) (e : Nat) (sp : Space) (addr secs : Nat) : KeepsTxns s (s.noFill e sp addr secs) :=
  keepsTxns_mapVals s _ (fun _ y => noInstall_ite _ y)

theorem keepsTxns_l1Invalidate (s : State) (e c : Nat) : KeepsTxns s (s.l1Invalidate e c) :=
  (keepsTxns_onEng s e (l1Drops c)).trans (keepsTxns_mapVals _ _ (fun _ y => noInstall_ite _ y))

theorem keepsTxns_spent (s : State) (e g : Nat) (pc : VAddr) : KeepsTxns s (s.spent e g pc) := by
  rcases spent_cases s e g pc with h | h <;> rw [h]
  · exact .refl s
  · exact keepsTxns_onEng s e _

/-- A request of which `P` holds is in flight. -/
def InFlight (t : State) (P : Nat → Txn → Prop) : Prop := ∃ i y, i < t.nextId ∧ t.txn? i = some y ∧ P i y

/-- Whether an answer may be installed plays no part in `P`. -/
def Stable (P : Nat → Txn → Prop) : Prop := ∀ i y b, P i y → P i { y with noInstall := b }

theorem inFlight_addTxn {P : Nat → Txn → Prop} {y : Txn} (s : State) (h : P s.nextId y) : InFlight (s.addTxn y).2 P :=
  ⟨s.nextId, y, Nat.lt_succ_self _, SMapLaws.get_put_same _ _ _, h⟩

theorem InFlight.keeps {P : Nat → Txn → Prop} (hP : Stable P) (h : InFlight s P) (hk : KeepsTxns s t) : InFlight t P := by
  obtain ⟨i, y, hi, hy, hp⟩ := h
  obtain ⟨hid, hkept⟩ := hk
  obtain ⟨b, hb⟩ := hkept i y hi hy
  exact ⟨i, _, Nat.lt_of_lt_of_le hi hid, hb, hP i y b hp⟩

/-- What each step of a loop asks for is in flight at its end. -/
theorem inFlight_each {α : Type} {f : α → State → State} {P : Nat → Txn → Prop} (hP : Stable P) {l : List α} {a : α} (ha : a ∈ l)
    (hask : ∀ s, InFlight (f a s) P) (hkeep : ∀ b s, KeepsTxns s (f b s)) (s : State) : InFlight (each l f s) P :=
  each_reaches (P := fun t => InFlight t P) ha hask (fun b s h => InFlight.keeps hP h (hkeep b s)) s

/-! ### An acquire at the end of an access (R187, R188) -/

/-- An access acquires, where `begins` says so of its group. -/
def acquiring (e g scope : Nat) (begins : Group → Prop) [DecidablePred begins] (s : State) : State :=
  (s.onGrp e g (fun v => if begins v then { v with st := .acquire scope } else v)).acquireTry e g

theorem acquireTry_cases (s : State) (e g : Nat) : s.acquireTry e g = s ∨ s.acquireTry e g = s.onGrp e g (fun v => { v with st := .ready }) ∨
    ∃ c, s.acquireTry e g = (s.l1Invalidate e c).onGrp e g (fun v => { v with st := .ready }) := by
  unfold State.acquireTry
  split
  · exact .inl rfl
  · split
    · split
      · exact .inl rfl
      · split
        · exact .inr (.inr ⟨_, rfl⟩)
        · exact .inr (.inl rfl)
    · exact .inl rfl

/-- It leaves the group as it is but for its state, adds nothing to the L1, and keeps every request. -/
structure Acquires (e g : Nat) (s t : State) : Prop where
  only : s.onlyAccess e g t
  txns : KeepsTxns s t
  l1 : ∀ x ∈ (t.eng e).l1, x ∈ (s.eng e).l1
  grp : ∀ v, s.grp? e g = some v → ∃ st, t.grp? e g = some { v with st := st }

theorem acquires_refl (s : State) (e g : Nat) : Acquires e g s s :=
  ⟨⟨rfl, fun _ _ => rfl, fun _ _ => rfl⟩, .refl s, fun _ h => h, fun v h => ⟨v.st, h⟩⟩

theorem acquires_trans (h : Acquires e g s t) (h' : Acquires e g t u) : Acquires e g s u := by
  refine ⟨onlyAccess_trans h.only h'.only, h.txns.trans h'.txns, fun x hx => h.l1 x (h'.l1 x hx), fun v hv => ?_⟩
  obtain ⟨st, hst⟩ := h.grp v hv
  obtain ⟨st', hst'⟩ := h'.grp _ hst
  exact ⟨st', hst'⟩

theorem acquires_onGrp (s : State) (e g : Nat) (f : Group → Group) (hf : ∀ v, ∃ st, f v = { v with st := st }) : Acquires e g s (s.onGrp e g f) := by
  refine ⟨onlyAccess_onGrp s e g f, keepsTxns_onGrp s e g f, fun x hx => ?_, fun v hv => ?_⟩
  · rw [l1_onGrp] at hx
    exact hx
  · obtain ⟨st, hst⟩ := hf v
    exact ⟨st, (grp_onGrp_self hv f).trans (congrArg some hst)⟩

theorem acquires_l1Invalidate (s : State) (e g c : Nat) : Acquires e g s (s.l1Invalidate e c) := by
  refine ⟨onlyAccess_l1Invalidate s e g c, keepsTxns_l1Invalidate s e c, fun x hx => ?_, fun v hv => ⟨v.st, (grp_l1Invalidate s e g c).trans hv⟩⟩
  have hl1 : ((s.l1Invalidate e c).eng e).l1 = (s.eng e).l1.filter (fun l => l.ctx != c) := congrArg Engine.l1 (State.eng_onEng_same s e (l1Drops c))
  rw [hl1] at hx
  exact (List.mem_filter.1 hx).1

theorem acquires_acquireTry (s : State) (e g : Nat) : Acquires e g s (s.acquireTry e g) := by
  rcases acquireTry_cases s e g with h | h | ⟨c, h⟩ <;> rw [h]
  · exact acquires_refl s e g
  · exact acquires_onGrp s e g _ (fun _ => ⟨_, rfl⟩)
  · exact acquires_trans (acquires_l1Invalidate s e g c) (acquires_onGrp _ e g _ (fun _ => ⟨_, rfl⟩))

/-! ### The lanes of an access (R104) -/

theorem laneAddrs_lanes {c size : Nat} {a : Access} {addrs : List VAddr} {ks : List Nat} {ls : List (Nat × Leaf × Mobj × Nat)}
    (h : s.laneAddrs e g c size a addrs ks = .ok ls) : ls.map (·.1) = ks := by
  induction ks generalizing ls with
  | nil =>
    rw [State.laneAddrs, LanesRes.ok.injEq] at h
    rw [← h]
    rfl
  | cons k ks ih =>
    rw [State.laneAddrs] at h
    split at h
    · exact absurd h (by simp)
    · split at h
      · exact absurd h (by simp)
      · exact absurd h (by simp)
      · split at h
        · rename_i r hr
          rw [LanesRes.ok.injEq] at h
          rw [← h, List.map_cons, ih hr]
        · rename_i hno
          exact absurd h (hno ls)

theorem laneAddrs_misaligned {c size k : Nat} {a : Access} {addrs : List VAddr} {ks : List Nat} (hk : ks.head? = some k)
    (h : (addrs.getD k 0).toNat % 2 ^ size ≠ 0) :
    s.laneAddrs e g c size a addrs ks = .trouble k (trouble 0x04 0xFF (addrs.getD k 0).toNat) := by
  obtain ⟨ks', rfl⟩ := List.head?_eq_some_iff.1 hk
  rw [State.laneAddrs]
  exact if_pos h

/-- The sector that a lane's access names. -/
def sectorOf (y : Nat × Leaf × Mobj × Nat) : Space × Nat × Nat := (y.2.1.space, lineOf y.2.2.2, y.2.2.2 % 128 / 32)

/-- The lanes that name a sector. -/
def mine (ls : List (Nat × Leaf × Mobj × Nat)) (x : Space × Nat × Nat) : List (Nat × Leaf × Mobj × Nat) :=
  ls.filter (fun y => y.2.1.space = x.1 && lineOf y.2.2.2 = x.2.1 && y.2.2.2 % 128 / 32 = x.2.2)

theorem mem_mine {ls : List (Nat × Leaf × Mobj × Nat)} {x : Space × Nat × Nat} {y : Nat × Leaf × Mobj × Nat} :
    y ∈ mine ls x ↔ y ∈ ls ∧ sectorOf y = x := by
  obtain ⟨sp, line, k⟩ := x
  simp [mine, sectorOf, and_assoc]

theorem sectorOf_mem {ls : List (Nat × Leaf × Mobj × Nat)} {y : Nat × Leaf × Mobj × Nat} (h : y ∈ ls) : sectorOf y ∈ sectorsOf ls := by
  unfold sectorsOf
  rw [List.mem_eraseDups]
  exact List.mem_map_of_mem h

end Sys2Proof.Machine.AccessLaws
end

section
/-!
PROOF. O17: loads, stores and atomics leave the engine (R103 to R107, R130, R185, R187 to R189).
-/
namespace Sys2Proof.Machine.AccessLaws
open MeshLaws IssueLaws FaultLaws SyndromeLaws MotifLaws LoadLaws

variable {s t : State} {e g : Nat} {v : Group} {size rd : Nat} {acq past : Bool} {ls : List (Nat × Leaf × Mobj × Nat)}

/-! ### LOAD: what it makes of the group (R105, R107) -/

theorem mem_addNum_of_mem {l : List Nat} {r : Nat} (h : r ∈ l) (n : Nat) : r ∈ addNum l n := by
  induction l with
  | nil => exact absurd h List.not_mem_nil
  | cons k l ih =>
    rw [addNum]
    split
    · exact List.mem_cons_of_mem _ h
    · split
      · exact h
      · rcases List.mem_cons.1 h with rfl | h
        · exact List.mem_cons_self ..
        · exact List.mem_cons_of_mem _ (ih h)

/-- Registers that become unavailable, and those that were. -/
theorem mem_foldl_addNum {rs l : List Nat} {r : Nat} (h : r ∈ rs ∨ r ∈ l) : r ∈ rs.foldl addNum l := by
  rcases h with h | h
  · exact foldl_reaches h (fun l => mem_addNum_self l r) (fun l hl n _ => mem_addNum_of_mem hl n) l
  · exact List.foldlRecOn rs addNum (motive := fun l => r ∈ l) h (fun l hl n _ => mem_addNum_of_mem hl n)

/-- The place in a line, for every lane that names a sector. -/
def places (ls : List (Nat × Leaf × Mobj × Nat)) (x : Space × Nat × Nat) : List (Nat × Nat) := (mine ls x).map (fun y => (y.1, y.2.2.2 % 128))

/-- A group after one sector of its load: the lanes have their values where the L1 holds the sector, else the registers wait. -/
def sectorLoad (held : Space × Nat × Nat → Option L1Sector) (rd size : Nat) (ls : List (Nat × Leaf × Mobj × Nat)) (v : Group)
    (x : Space × Nat × Nat) : Group :=
  match held x with
  | some c => v.deliver rd size (places ls x) (zeros (32 * x.2.2) ++ c.data)
  | none => { v with busy := (sizeRegs rd size).foldl addNum v.busy }

/-- A lane has one place. -/
theorem eq_of_lane (hone : (ls.map (·.1)).Nodup) {y z : Nat × Leaf × Mobj × Nat} (hy : y ∈ ls) (hz : z ∈ ls) (h : z.1 = y.1) : z = y :=
  List.inj_on_of_nodup_map hone hz hy h

section group

variable {held : Space × Nat × Nat → Option L1Sector} {x : Space × Nat × Nat}

theorem sectorLoad_fields (held : Space × Nat × Nat → Option L1Sector) (rd size : Nat) (ls : List (Nat × Leaf × Mobj × Nat)) (v : Group)
    (x : Space × Nat × Nat) : ∃ m b, sectorLoad held rd size ls v x = { v with regs := m, busy := b } := by
  unfold sectorLoad
  split
  · obtain ⟨m, hm⟩ := deliver_regs (zeros (32 * x.2.2) ++ ‹L1Sector›.data) rd size (places ls x) v
    exact ⟨m, v.busy, hm⟩
  · exact ⟨v.regs, _, rfl⟩

variable (hlanes : ∀ y ∈ ls, y.1 < 32) (hsize : size ≤ 4)

include hlanes

theorem places_lanes : ∀ p ∈ places ls x, p.1 < 32 := by
  rintro p hp
  obtain ⟨y, hy, rfl⟩ := List.mem_map.1 hp
  exact hlanes y (mem_mine.1 hy).1

include hsize

/-- A register that the load does not name. -/
theorem reg_sectorLoad_other {r l : Nat} (hl : l < 32) (hr : r ∉ sizeRegs rd size) (v : Group) (x : Space × Nat × Nat) :
    (sectorLoad held rd size ls v x).reg r l = v.reg r l := by
  unfold sectorLoad
  split
  · exact reg_deliver_other _ hsize (places_lanes hlanes) hl (.inl hr) v
  · rfl

variable (hone : (ls.map (·.1)).Nodup) {y : Nat × Leaf × Mobj × Nat} (hy : y ∈ ls)

include hone hy

/-- The sector that a lane names, where the L1 holds it, brings the lane its value. -/
theorem holds_sectorLoad_same {c : L1Sector} (hc : held (sectorOf y) = some c) (v : Group) :
    Holds rd size y.1 (cut (zeros (32 * (y.2.2.2 % 128 / 32)) ++ c.data) (y.2.2.2 % 128) (2 ^ size)) (sectorLoad held rd size ls v (sectorOf y)) := by
  unfold sectorLoad
  rw [hc]
  refine holds_deliver _ hsize (places_lanes hlanes) (List.mem_map.2 ⟨y, mem_mine.2 ⟨hy, rfl⟩, rfl⟩) (fun o' ho' => ?_) v
  obtain ⟨z, hz, heq⟩ := List.mem_map.1 ho'
  obtain ⟨hlane, hplace⟩ := Prod.mk.inj heq
  rw [← hplace, eq_of_lane hone hy (mem_mine.1 hz).1 hlane]

/-- Another sector leaves the lane's registers. -/
theorem holds_sectorLoad_other {b : Bytes} (h : Holds rd size y.1 b v) (hx : x ≠ sectorOf y) : Holds rd size y.1 b (sectorLoad held rd size ls v x) := by
  refine holds_congr h (fun r => ?_)
  unfold sectorLoad
  split
  · refine reg_deliver_other _ hsize (places_lanes hlanes) (hlanes y hy) (.inr (fun p hp => ?_)) v
    obtain ⟨z, hz, rfl⟩ := List.mem_map.1 hp
    obtain ⟨hzls, hzx⟩ := mem_mine.1 hz
    intro hlane
    rw [eq_of_lane hone hy hzls hlane.symm] at hzx
    exact hx hzx.symm
  · rfl

theorem holds_loads {c : L1Sector} (hc : held (sectorOf y) = some c) {xs : List (Space × Nat × Nat)} (hxs : sectorOf y ∈ xs) (v : Group) :
    Holds rd size y.1 (cut (zeros (32 * (y.2.2.2 % 128 / 32)) ++ c.data) (y.2.2.2 % 128) (2 ^ size)) (xs.foldl (sectorLoad held rd size ls) v) := by
  refine foldl_reaches (P := Holds rd size y.1 _) hxs (holds_sectorLoad_same hlanes hsize hone hy hc) (fun w hw x _ => ?_) v
  by_cases hx : x = sectorOf y
  · rw [hx]
    exact holds_sectorLoad_same hlanes hsize hone hy hc w
  · exact holds_sectorLoad_other hlanes hsize hone hy hw hx

end group

/-- The registers that the load names wait for a sector that is asked for. -/
theorem busy_loads {held : Space × Nat × Nat → Option L1Sector} {x : Space × Nat × Nat} {xs : List (Space × Nat × Nat)} (hx : x ∈ xs)
    (hnone : held x = none) {r : Nat} (hr : r ∈ sizeRegs rd size) (v : Group) : r ∈ (xs.foldl (sectorLoad held rd size ls) v).busy := by
  refine foldl_reaches (P := fun w : Group => r ∈ w.busy) hx (fun w => ?_) (fun w hw z _ => ?_) v
  · rw [sectorLoad, hnone]
    exact mem_foldl_addNum (.inl hr)
  · unfold sectorLoad
    split
    · obtain ⟨m, hm⟩ := deliver_regs (zeros (32 * z.2.2) ++ ‹L1Sector›.data) rd size (places ls z) w
      rw [hm]
      exact hw
    · exact mem_foldl_addNum (.inr hw)

theorem loads_fields (held : Space × Nat × Nat → Option L1Sector) (rd size : Nat) (ls : List (Nat × Leaf × Mobj × Nat))
    (xs : List (Space × Nat × Nat)) (v : Group) : ∃ m b, xs.foldl (sectorLoad held rd size ls) v = { v with regs := m, busy := b } := by
  refine List.foldlRecOn xs _ (motive := fun w : Group => ∃ m b, w = { v with regs := m, busy := b }) ⟨v.regs, v.busy, rfl⟩ ?_
  rintro _ ⟨m, b, rfl⟩ x -
  obtain ⟨m', b', h⟩ := sectorLoad_fields held rd size ls { v with regs := m, busy := b } x
  exact ⟨m', b', h⟩

/-! ### LOAD: what leaves the engine (R105, R107, R130) -/

/-- The sector of the L1 that may serve a load: none for an acquire of die scope or wider (R187). -/
def mayServe (s : State) (e c : Nat) (past : Bool) (x : Space × Nat × Nat) : Option L1Sector := if past then none else s.l1Sector e c x

/-- A load's request for one sector. -/
def asksFor (e g : Nat) (op : MemOp) (x : Space × Nat × Nat) (_ : Nat) (y : Txn) : Prop :=
  y.issuer = .lane e g ∧ y.op = op ∧ y.space = x.1 ∧ y.addr = x.2.1 ∧ y.secs = 2 ^ x.2.2

theorem loadSector_cases (hg : s.grp? e g = some v) (size : Nat) (acq past : Bool) (rd : Nat) (ls : List (Nat × Leaf × Mobj × Nat))
    (x : Space × Nat × Nat) :
    ((mayServe s e v.ctx past x).isSome = true ∧
      s.loadSector e g size acq past rd ls x = s.onGrp e g (fun w => sectorLoad (mayServe s e v.ctx past) rd size ls w x)) ∨
    ∃ y, mayServe s e v.ctx past x = none ∧ asksFor e g .read x s.nextId y ∧
      s.loadSector e g size acq past rd ls x = (s.addTxn y).2.onGrp e g (fun w => sectorLoad (mayServe s e v.ctx past) rd size ls w x) := by
  unfold State.loadSector sectorLoad
  rw [hg]
  cases hserve : mayServe s e v.ctx past x with
  | some c =>
    unfold mayServe at hserve
    simp only [hserve]
    exact .inl ⟨rfl, rfl⟩
  | none =>
    unfold mayServe at hserve
    simp only [hserve]
    exact .inr ⟨_, trivial, ⟨rfl, rfl, rfl, rfl, rfl⟩, rfl⟩

/-- What the sectors of a load do together. -/
structure Loads (e g : Nat) (xs : List (Space × Nat × Nat)) (held : Space × Nat × Nat → Option L1Sector) (s t : State) (w : Group) : Prop where
  only : s.onlyAccess e g t
  txns : KeepsTxns s t
  grp : t.grp? e g = some w
  asked : ∀ x ∈ xs, held x = none → InFlight t (asksFor e g .read x)

theorem stable_asksFor (e g : Nat) (op : MemOp) (x : Space × Nat × Nat) : Stable (asksFor e g op x) := fun _ _ _ h => h

theorem loads_each (xs : List (Space × Nat × Nat)) (hg : s.grp? e g = some v) (size : Nat) (acq past : Bool) (rd : Nat)
    (ls : List (Nat × Leaf × Mobj × Nat)) {held : Space × Nat × Nat → Option L1Sector} (hheld : mayServe s e v.ctx past = held) :
    Loads e g xs held s (each xs (fun x t => t.loadSector e g size acq past rd ls x) s) (xs.foldl (sectorLoad held rd size ls) v) := by
  induction xs generalizing s v with
  | nil => exact ⟨⟨rfl, fun _ _ => rfl, fun _ _ => rfl⟩, .refl s, hg, fun x hx => absurd hx List.not_mem_nil⟩
  | cons x xs ih =>
    have hstep : ∃ r, s.onlyAccess e g r ∧ KeepsTxns s r ∧ r.grp? e g = some v ∧ (r.eng e).l1 = (s.eng e).l1 ∧
        (held x = none → InFlight r (asksFor e g .read x)) ∧
        s.loadSector e g size acq past rd ls x = r.onGrp e g (fun w => sectorLoad held rd size ls w x) := by
      rcases loadSector_cases hg size acq past rd ls x with ⟨hserved, heq⟩ | ⟨y, -, hy, heq⟩
      · rw [hheld] at hserved heq
        exact ⟨s, ⟨rfl, fun _ _ => rfl, fun _ _ => rfl⟩, .refl s, hg, rfl, fun hnone => by simp [hnone] at hserved, heq⟩
      · rw [hheld] at heq
        exact ⟨(s.addTxn y).2, ⟨rfl, fun _ _ => rfl, fun _ _ => rfl⟩, keepsTxns_addTxn s y, hg, rfl, fun _ => inFlight_addTxn s hy, heq⟩
    obtain ⟨r, honly, htxns, hgr, hl1, hask, heq⟩ := hstep
    have hctx : (sectorLoad held rd size ls v x).ctx = v.ctx := by
      obtain ⟨m, b, h⟩ := sectorLoad_fields held rd size ls v x
      rw [h]
    have hg' := grp_onGrp_self hgr (fun w => sectorLoad held rd size ls w x)
    have hheld' : mayServe (r.onGrp e g (fun w => sectorLoad held rd size ls w x)) e (sectorLoad held rd size ls v x).ctx past = held := by
      rw [hctx]
      refine Eq.trans (funext fun z => ?_) hheld
      unfold mayServe State.l1Sector Engine.l1Find
      rw [l1_onGrp, hl1]
    have htail := ih hg' hheld'
    have hkeeps := keepsTxns_onGrp r e g (fun w => sectorLoad held rd size ls w x)
    rw [each, List.foldl_cons, heq, List.foldl_cons]
    refine ⟨onlyAccess_trans (onlyAccess_trans honly (onlyAccess_onGrp r e g _)) htail.only, (htxns.trans hkeeps).trans htail.txns, htail.grp,
      fun z hz hnone => ?_⟩
    rcases List.mem_cons.1 hz with rfl | hz
    · exact InFlight.keeps (stable_asksFor e g .read z) (InFlight.keeps (stable_asksFor e g .read z) (hask hnone) hkeeps) htail.txns
    · exact htail.asked z hz hnone

end Sys2Proof.Machine.AccessLaws
end

section
/-!
PROOF. A fault asks for nothing: no request is in flight after it that was not before (R133, R286 to R288).
-/
namespace Sys2Proof.Machine.NoNewLaws
open MeshLaws IssueLaws FaultLaws SyndromeLaws FlowLaws

/-- No request is new. -/
def NoNew (s t : State) : Prop := ∀ i, s.txn? i = none → t.txn? i = none

variable {s t u : State}

theorem noNew_of_eq (h : t.txns = s.txns) : NoNew s t := fun i hi => by
  rw [State.txn?, h]
  exact hi

theorem NoNew.refl (s : State) : NoNew s s := fun _ h => h

theorem NoNew.trans (h : NoNew s t) (h' : NoNew t u) : NoNew s u := fun i hi => h' i (h i hi)

/-- A first step that leaves the requests alone. -/
theorem NoNew.after (h : NoNew t u) (hst : t.txns = s.txns) : NoNew s u := (noNew_of_eq hst).trans h

theorem noNew_ite {c : Prop} [Decidable c] (ht : NoNew s t) (hu : NoNew s u) : NoNew s (if c then t else u) := by
  split
  · exact ht
  · exact hu

theorem noNew_each {α : Type} {f : α → State → State} (hf : ∀ a s, NoNew s (f a s)) (l : List α) (s : State) : NoNew s (each l f s) :=
  each_keeps (P := NoNew s) l (fun a _ t ht => ht.trans (hf a t)) s (.refl s)

theorem noNew_of_sends (h : Sends s t) : NoNew s t := noNew_of_eq (by rw [h])

variable (s)

theorem noNew_mapVals (f : Nat → Txn → Txn) : NoNew s (s.onTxns (fun m => SMap.mapVals m f)) := fun i hi => by
  rw [State.txn?, State.onTxns_txns, get_mapVals]
  exact congrArg (Option.map (f i)) hi

theorem noNew_onEng (e : Nat) (f : Engine → Engine) : NoNew s (s.onEng e f) := noNew_of_eq rfl

/-! ### Table entries (R282, R283) -/

theorem noNew_pokeSector (sec mask : Nat) (bs : Bytes) : NoNew s (s.pokeSector sec mask bs) := by
  unfold State.pokeSector
  extract_lets c s₁ s₂
  have hmarked : NoNew s (if mask = fullMask then s.setMark sec false else s) := noNew_ite (noNew_of_eq rfl) (.refl s)
  have hput : NoNew s s₁ := noNew_ite (noNew_of_eq rfl) (hmarked.trans (noNew_of_eq rfl))
  have hqueued : NoNew s s₂ := hput.trans (noNew_of_eq rfl)
  exact noNew_ite (.refl s) (noNew_ite (noNew_of_eq rfl) (noNew_ite (.refl s) (hqueued.trans (noNew_of_eq rfl))))

theorem noNew_putTable (off : Nat) (bs : Bytes) : NoNew s (s.putTable off bs) :=
  noNew_each (fun _ t => noNew_ite (.refl t) (noNew_each (fun _ t => noNew_pokeSector t _ _ _) _ t)) _ s

theorem noNew_saveCtx (c : Nat) : NoNew s (s.saveCtx c) := by
  unfold State.saveCtx
  split
  · exact .refl s
  · exact noNew_ite (.refl s) (noNew_putTable s _ _)

theorem noNew_saveQueue (q : Nat) : NoNew s (s.saveQueue q) := by
  unfold State.saveQueue
  split
  · exact .refl s
  · exact noNew_ite (.refl s) (noNew_putTable s _ _)

theorem noNew_saveQueues (c : Nat) : NoNew s (s.saveQueues c) := noNew_each (fun q t => noNew_saveQueue t q) _ s

/-! ### An exchange stops (R397, R415) -/

theorem noNew_freeCtxSlot (c : Nat) : NoNew s (s.freeCtxSlot c) := by
  unfold State.freeCtxSlot
  have hfreed : NoNew s (s.onCtx c (fun x => { x with slot := none })) := noNew_of_eq rfl
  exact noNew_ite (.refl s) ((hfreed.trans (noNew_saveCtx _ c)).trans (noNew_of_eq rfl))

theorem noNew_xchStop (key : Nat) : NoNew s (s.xchStop key) := by
  unfold State.xchStop
  split
  · exact .refl s
  · extract_lets s₁ s₂ s₃ s₄
    have hsent : NoNew s s₁ := noNew_each (fun _ t => noNew_of_sends (sends_portSend t _ _ _)) _ s
    have hdead : NoNew s₁ s₂ := noNew_mapVals s₁ _
    have hgone : NoNew s₂ s₄ := noNew_of_eq rfl
    have hoff : NoNew s₄ (s₄.setF F.shxXCtrl_EN (R.shxXCtrl (key / 4) (key % 4)) 0) := noNew_of_eq rfl
    exact (((hsent.trans hdead).trans hgone).trans hoff).trans (noNew_freeCtxSlot _ _)

theorem noNew_ctxLeaves (c : Nat) : NoNew s (s.ctxLeaves c) := noNew_each (fun k t => noNew_xchStop t k) _ s

/-! ### The capture, the stop and the picot (R133, R287, R288) -/

theorem noNew_syndrome (e slot g lane code detail pc addr : Nat) : NoNew s (s.syndrome e slot g lane code detail pc addr) := by
  unfold State.syndrome
  exact noNew_ite (noNew_of_eq rfl) (noNew_of_eq rfl)

theorem noNew_capture (c : Nat) (f : FaultRec) : NoNew s (s.capture c f) := by
  unfold State.capture
  split
  · exact .refl s
  · split
    · exact NoNew.after (noNew_saveCtx _ c) rfl
    · extract_lets s₁
      have hheld : NoNew s s₁ := NoNew.after (noNew_saveCtx _ c) rfl
      have hstopped : NoNew s₁ (s₁.onObjs (fun o => { o with queues := SMap.mapVals o.queues (fun _ q =>
        if q.ctx = c && q.st == .live then { q with st := .stopped } else q) })) := noNew_of_eq rfl
      exact noNew_ite (((hheld.trans hstopped).trans (noNew_saveQueues _ c)).trans (noNew_ctxLeaves _ c)) hheld

theorem noNew_stopCtx (e c : Nat) : NoNew s (s.stopCtx e c) := by
  unfold State.stopCtx State.stopOn
  extract_lets gs s₁ s₂
  have hstopped : NoNew s s₁ := noNew_of_eq rfl
  have hwithdrawn : NoNew s₁ s₂ := noNew_each (f := fun (p : Nat × Group) t => t.unregister (1, 16 * e + p.1)) (fun _ _ => noNew_of_eq rfl) _ s₁
  exact (hstopped.trans hwithdrawn).trans ((noNew_mapVals s₂ _).trans (noNew_onEng _ e _))

theorem noNew_enginePicot (e : Nat) (k : MsgKind) (dst : Nat) (stop : Stop) : NoNew s (s.enginePicot e k dst stop) := by
  unfold State.enginePicot
  exact noNew_ite (noNew_of_sends (sends_sendMsg s _ _ _ _ _ _)) (noNew_of_eq rfl)

theorem noNew_groupFault (e g lane : Nat) (b : Trouble) (pc : Nat) : NoNew s (s.groupFault e g lane b pc) := by
  unfold State.groupFault State.engineFault State.engineFaultOf
  split
  · exact .refl s
  · extract_lets s₁ slot s₂ s₃ s₄ lead
    have htime : NoNew s s₁ := noNew_of_eq rfl
    exact (((htime.trans (noNew_syndrome s₁ _ _ _ _ _ _ _ _)).trans (noNew_capture s₂ _ _)).trans (noNew_stopCtx s₃ _ _)).trans (noNew_enginePicot s₄ _ _ _ _)

theorem noNew_spent (e g : Nat) (pc : VAddr) : NoNew s (s.spent e g pc) := noNew_of_eq (by rw [spent_only])

end Sys2Proof.Machine.NoNewLaws
end

section
/-!
PROOF. O17: what a load, a store and an atomic have done once they have issued (R103 to R107, R130, R185, R187 to R189).
-/
namespace Sys2Proof.Machine.AccessLaws
open MeshLaws IssueLaws FaultLaws SyndromeLaws MotifLaws LoadLaws NoNewLaws

variable {s t : State} {e g opc size scope : Nat} {v : Group} {addrs : List VAddr} {ls : List (Nat × Leaf × Mobj × Nat)}

/-! ### LOAD -/

section load

variable {rd : Nat} {acq past : Bool}

theorem size_le_of_sizeBad {r : Nat} (h : sizeBad v r size = 0) : size ≤ 4 := by
  by_contra hbig
  rw [sizeBad, if_pos (by omega)] at h
  exact absurd h (by decide)

/-- A sector of a line, by the address of its first byte. -/
theorem l1Sec_sectorOf (s : State) (e c : Nat) (y : Nat × Leaf × Mobj × Nat) :
    s.l1Sec e c (sectorOf y).1 ((sectorOf y).2.1 + 32 * (sectorOf y).2.2) = s.l1Sector e c (sectorOf y) := by
  have hline : lineOf (lineOf y.2.2.2 + 32 * (y.2.2.2 % 128 / 32)) = lineOf y.2.2.2 := by unfold lineOf; omega
  have hsec : (lineOf y.2.2.2 + 32 * (y.2.2.2 % 128 / 32)) % 128 / 32 = y.2.2.2 % 128 / 32 := by unfold lineOf; omega
  unfold State.l1Sec State.l1Sector sectorOf
  rw [hline, hsec]

/-- The sectors that a load asks for. -/
def loadAsks (s : State) (e c : Nat) (past : Bool) (ls : List (Nat × Leaf × Mobj × Nat)) : List (Space × Nat × Nat) :=
  (sectorsOf ls).filter (fun x => past || (s.l1Sec e c x.1 (x.2.1 + 32 * x.2.2)).isNone)

theorem length_loadAsks (s : State) (e c : Nat) (past : Bool) (ls : List (Nat × Leaf × Mobj × Nat)) :
    (if past then sectorsOf ls else (sectorsOf ls).filter (fun x => (s.l1Sector e c x).isNone)).length = (loadAsks s e c past ls).length := by
  unfold loadAsks
  cases past with
  | true => simp
  | false =>
    rw [if_neg Bool.false_ne_true]
    refine congrArg List.length (List.filter_congr (fun x hx => ?_))
    rw [sectorsOf, List.mem_eraseDups] at hx
    obtain ⟨y, -, rfl⟩ := List.mem_map.1 hx
    rw [Bool.false_or]
    exact congrArg Option.isNone (l1Sec_sectorOf s e c y).symm

theorem any_storeOut (hstores : ∀ x ∈ sectorsOf ls, s.storeOut e x.1 x.2.1 x.2.2 = false) :
    (sectorsOf ls).any (fun x => s.storeOut e x.1 x.2.1 x.2.2) = false :=
  List.any_eq_false.2 (fun x hx => Bool.not_eq_true _ ▸ hstores x hx)

variable (h : s.mayIssue e g opc [] v) (hsize : sizeBad v rd size = 0) (hscope : acq = true → scope ≤ 4) (hfree : v.free (sizeRegs rd size) = true)

include h hsize hscope hfree

/-- A load whose registers are good and free goes by its addresses. -/
theorem load_issues : load e g opc size acq scope rd addrs s = (match s.laneAddrs e g v.ctx size .read addrs (lanesOf v.active) with
    | .trouble k f => s.groupFault e g k f v.pc.toNat
    | .miss k va => s.startWalk e g v.ctx k va 0
    | .ok ls =>
      if (sectorsOf ls).any (fun x => s.storeOut e x.1 x.2.1 x.2.2) then s
      else if decide (256 < s.sectorsOut e + (loadAsks s e v.ctx (acq && decide (2 ≤ scope)) ls).length) ||
        decide (128 < s.groupSectorsOut e g + (loadAsks s e v.ctx (acq && decide (2 ≤ scope)) ls).length) then s
      else match if acq && decide (2 ≤ scope) then none else s.l1Bad e v.ctx size ls with
      | some b => s.groupFault e g b.1 (trouble 0x09 0 b.2) v.pc.toNat
      | none =>
        let t := each (sectorsOf ls) (fun x (t : State) => t.loadSector e g size acq (acq && decide (2 ≤ scope)) rd ls x) (s.onGrp e g Group.step)
        if acq then acquiring e g scope (fun w : Group => w.st = GState.ready) t else t).spent e g v.pc := by
  have hwide : (acq && decide (4 < scope)) = false := by
    cases acq with
    | false => rfl
    | true => simpa using hscope rfl
  rw [load, issue_of_mayIssue h]
  simp only [hsize, hwide, hfree, ne_eq, not_true_eq_false, Bool.not_true, Bool.false_eq_true, if_false, length_loadAsks]
  rfl

variable (hls : s.laneAddrs e g v.ctx size .read addrs (lanesOf v.active) = .ok ls)
  (hstores : ∀ x ∈ sectorsOf ls, s.storeOut e x.1 x.2.1 x.2.2 = false) (hpast : past = (acq && decide (2 ≤ scope)))
  (hroom : s.sectorsOut e + (loadAsks s e v.ctx past ls).length ≤ 256) (hroom' : s.groupSectorsOut e g + (loadAsks s e v.ctx past ls).length ≤ 128)

include h hsize hscope hfree hls hstores hpast hroom hroom'

/-- Poison that the L1 would deliver faults before anything is asked. -/
theorem load_faults {b : Nat × Nat} (hno : past = false) (hb : s.l1Bad e v.ctx size ls = some b) :
    load e g opc size acq scope rd addrs s = (s.groupFault e g b.1 (trouble 0x09 0 b.2) v.pc.toNat).spent e g v.pc := by
  have hsome : (if past then none else s.l1Bad e v.ctx size ls) = some b := by rw [hno, if_neg Bool.false_ne_true, hb]
  rw [load_issues h hsize hscope hfree, hls, ← hpast]
  simp only [any_storeOut hstores, Nat.not_lt.2 hroom, Nat.not_lt.2 hroom', hsome, decide_false, Bool.or_self, Bool.false_eq_true, if_false]

/-- Otherwise the sectors are served or asked for, and an acquire begins. -/
theorem load_serves (hnone : (if past then none else s.l1Bad e v.ctx size ls) = none) :
    load e g opc size acq scope rd addrs s =
      (let t := each (sectorsOf ls) (fun x (t : State) => t.loadSector e g size acq past rd ls x) (s.onGrp e g Group.step)
       if acq then acquiring e g scope (fun w : Group => w.st = GState.ready) t else t).spent e g v.pc := by
  rw [load_issues h hsize hscope hfree, hls, ← hpast]
  simp only [any_storeOut hstores, Nat.not_lt.2 hroom, Nat.not_lt.2 hroom', hnone, decide_false, Bool.or_self, Bool.false_eq_true, if_false]

/-- What a load that goes on makes of its group, and what it asks for. -/
theorem load_loads (hgood : past = true ∨ s.l1Bad e v.ctx size ls = none) : ∃ st w,
    w = (sectorsOf ls).foldl (sectorLoad (mayServe s e v.ctx past) rd size ls) v.step ∧
    Loads e g (sectorsOf ls) (mayServe s e v.ctx past) s (load e g opc size acq scope rd addrs s) { w with st := st } := by
  have hnone : (if past then none else s.l1Bad e v.ctx size ls) = none := by
    rcases hgood with hp | hb
    · rw [hp, if_pos rfl]
    · rw [hb, ite_self]
  have hstep := grp_onGrp_self (grp_of_mayIssue h) Group.step
  have hserve : mayServe (s.onGrp e g Group.step) e v.step.ctx past = mayServe s e v.ctx past := by
    funext x
    unfold mayServe State.l1Sector Engine.l1Find
    rw [l1_onGrp]
    rfl
  have hloads := loads_each (sectorsOf ls) hstep size acq past rd ls hserve
  rw [load_serves h hsize hscope hfree hls hstores hpast hroom hroom' hnone]
  dsimp only
  generalize each (sectorsOf ls) (fun x (t : State) => t.loadSector e g size acq past rd ls x) (s.onGrp e g Group.step) = r at *
  have hends : Acquires e g r (if acq then acquiring e g scope (fun w : Group => w.st = GState.ready) r else r) := by
    split
    · exact acquires_trans (acquires_onGrp r e g _ (fun w => by split <;> exact ⟨_, rfl⟩)) (acquires_acquireTry _ e g)
    · exact acquires_refl r e g
  obtain ⟨st, hst⟩ := hends.grp _ hloads.grp
  refine ⟨st, _, rfl, onlyAccess_spent (onlyAccess_trans (onlyAccess_trans (onlyAccess_onGrp s e g _) hloads.only) hends.only) _,
    ((((keepsTxns_onGrp s e g _).trans hloads.txns).trans hends.txns)).trans (keepsTxns_spent _ e g _), ?_, fun x hx hask => ?_⟩
  · rw [grp_spent]
    exact hst
  · exact InFlight.keeps (stable_asksFor e g .read x) (InFlight.keeps (stable_asksFor e g .read x) (hloads.asked x hx hask) hends.txns)
      (keepsTxns_spent _ e g _)

end load

/-! ### STORE (R105, R107) -/

section store

variable {rs : Nat}

/-- A store's request for one sector: the bytes of the lanes that name it. -/
def storesTo (e g size rs : Nat) (u : Group) (ls : List (Nat × Leaf × Mobj × Nat)) (x : Space × Nat × Nat) (i : Nat) (y : Txn) : Prop :=
  asksFor e g .store x i y ∧ (y.data, y.mask) = lineStore i u rs size (mine ls x)

theorem storeSector_only (s : State) (e g size rs : Nat) (u : Group) (ls : List (Nat × Leaf × Mobj × Nat)) (x : Space × Nat × Nat) :
    s.onlyAccess e g (s.storeSector e g size rs u ls x) ∧ KeepsTxns s (s.storeSector e g size rs u ls x) ∧
    (s.storeSector e g size rs u ls x).grp? e g = s.grp? e g ∧ InFlight (s.storeSector e g size rs u ls x) (storesTo e g size rs u ls x) := by
  unfold State.storeSector
  extract_lets mine' d va mir t
  have hcells : InFlight ((s.noFill e x.1 x.2.1 (2 ^ x.2.2)).addTxn { t with
      secs := 2 ^ x.2.2, va := va, pc := u.pc.toNat, data := d.1, mask := d.2, mirrored := mir, queue := u.queue,
      offs := mine'.map (fun y => (y.1, y.2.2.2 % 128)) }).2 (storesTo e g size rs u ls x) :=
    inFlight_addTxn _ ⟨⟨rfl, rfl, rfl, rfl, rfl⟩, rfl⟩
  refine ⟨onlyAccess_trans (t := ((s.noFill e x.1 x.2.1 (2 ^ x.2.2)).addTxn _).2) ⟨rfl, fun _ _ => rfl, fun _ _ => rfl⟩
    (onlyAccess_onEng _ e g _ (fun _ => rfl)), ?_, grp_onEng _ e e g _ (fun _ => rfl), ?_⟩
  · exact ((keepsTxns_noFill s e _ _ _).trans (keepsTxns_addTxn _ _)).trans (keepsTxns_onEng _ e _)
  · exact InFlight.keeps (fun i y b h => h) hcells (keepsTxns_onEng _ e _)

variable {rel : Bool} (h : s.mayIssue e g opc [] v) (hsize : sizeBad v rs size = 0)
  (hrel : rel = true → scope ≤ 4 ∧ s.releaseDone e g scope = true) (hfree : v.free (sizeRegs rs size) = true)
  (hls : s.laneAddrs e g v.ctx size .store addrs (lanesOf v.active) = .ok ls) (hroom : s.sectorsOut e + (sectorsOf ls).length ≤ 256)
  (hroom' : s.groupSectorsOut e g + (sectorsOf ls).length ≤ 128)

include h hsize hrel hfree hls hroom hroom'

theorem store_stores : store e g opc size rel scope rs addrs s =
    (each (sectorsOf ls) (fun x t => t.storeSector e g size rs v ls x) (s.onGrp e g Group.step)).spent e g v.pc := by
  have hwide : (rel && decide (4 < scope)) = false := by
    cases rel with
    | false => rfl
    | true => simpa using (hrel rfl).1
  have hdone : (rel && !s.releaseDone e g scope) = false := by
    cases rel with
    | false => rfl
    | true => simp [(hrel rfl).2]
  rw [store, issue_of_mayIssue h]
  simp only [hsize, hwide, hfree, hdone, hls, Nat.not_lt.2 hroom, Nat.not_lt.2 hroom', ne_eq, not_true_eq_false, Bool.not_true, Bool.or_self,
    decide_false, Bool.false_eq_true, if_false]

theorem store_effect : s.onlyAccess e g (store e g opc size rel scope rs addrs s) ∧
    (store e g opc size rel scope rs addrs s).grp? e g = some v.step ∧
    ∀ x ∈ sectorsOf ls, InFlight (store e g opc size rel scope rs addrs s) (storesTo e g size rs v ls x) := by
  rw [store_stores h hsize hrel hfree hls hroom hroom']
  have hframe : s.onlyAccess e g (each (sectorsOf ls) (fun x t => t.storeSector e g size rs v ls x) (s.onGrp e g Group.step)) ∧
      (each (sectorsOf ls) (fun x t => t.storeSector e g size rs v ls x) (s.onGrp e g Group.step)).grp? e g = some v.step := by
    refine each_keeps (P := fun t => s.onlyAccess e g t ∧ t.grp? e g = some v.step) _ (fun x _ t ht => ?_) _
      ⟨onlyAccess_onGrp s e g _, grp_onGrp_self (grp_of_mayIssue h) _⟩
    obtain ⟨honly, -, hgrp, -⟩ := storeSector_only t e g size rs v ls x
    exact ⟨onlyAccess_trans ht.1 honly, hgrp.trans ht.2⟩
  refine ⟨onlyAccess_spent hframe.1 _, ?_, fun x hx => ?_⟩
  · rw [grp_spent]
    exact hframe.2
  · have hP : Stable (storesTo e g size rs v ls x) := fun i y b h => h
    exact InFlight.keeps hP (inFlight_each (f := fun x t => t.storeSector e g size rs v ls x) hP hx
      (fun t => (storeSector_only t e g size rs v ls x).2.2.2) (fun z t => (storeSector_only t e g size rs v ls z).2.1) _) (keepsTxns_spent _ e g _)

end store

end Sys2Proof.Machine.AccessLaws
end

section
/-!
PROOF. O17: what an atomic has done once it has issued (R106, R107, R185), and the statement itself.
-/
namespace Sys2Proof.Machine.AccessLaws
open MeshLaws IssueLaws FaultLaws SyndromeLaws MotifLaws LoadLaws NoNewLaws

variable {s t : State} {e g opc aop size order scope rd rs rt : Nat} {u v : Group} {addrs : List VAddr} {ls : List (Nat × Leaf × Mobj × Nat)}

/-- The line that a lane's access names. -/
def lineAt (y : Nat × Leaf × Mobj × Nat) : Space × Nat := (y.2.1.space, lineOf y.2.2.2)

/-- The lanes that name a line. -/
def mineOfLine (ls : List (Nat × Leaf × Mobj × Nat)) (x : Space × Nat) : List (Nat × Leaf × Mobj × Nat) :=
  ls.filter (fun y => y.2.1.space = x.1 && lineOf y.2.2.2 = x.2)

/-- An atomic's request to one line: the operands of its lanes. -/
def combines (e g aop size rd rs rt : Nat) (u : Group) (ls : List (Nat × Leaf × Mobj × Nat)) (x : Space × Nat) (_ : Nat) (y : Txn) : Prop :=
  y.issuer = .lane e g ∧ y.op = .atomic aop size ∧ y.space = x.1 ∧ y.addr = x.2 ∧
    y.lanes = (mineOfLine ls x).map (fun z => laneReq u aop size rd rs rt z.1 (z.2.2.2 % 128))

/-- The engine's L1 has no copy of the line. -/
def NoCopy (e : Nat) (x : Space × Nat) (t : State) : Prop := ∀ l ∈ (t.eng e).l1, ¬ (l.addr = x.2 ∧ l.space = x.1)

theorem l1Find_of_noCopy {x : Space × Nat} (h : NoCopy e x t) (c : Nat) : (t.eng e).l1Find c x.1 x.2 = none := by
  refine List.find?_eq_none.2 (fun l hl hfound => h l hl ?_)
  simp only [Bool.and_eq_true, decide_eq_true_eq] at hfound
  exact ⟨hfound.1.1, hfound.2⟩

/-- An engine drops its copies of a line (R185). -/
def l1WithoutLine (x : Space × Nat) (n : Engine) : Engine := { n with l1 := n.l1.filter (fun l => !(l.addr = x.2 && l.space = x.1)) }

/-- What leaves the group at its instruction, adds nothing to the L1, and keeps every request. -/
structure Goes (e g : Nat) (s t : State) : Prop where
  only : s.onlyAccess e g t
  txns : KeepsTxns s t
  l1 : ∀ x ∈ (t.eng e).l1, x ∈ (s.eng e).l1
  pc : (t.grp? e g).map (·.pc) = (s.grp? e g).map (·.pc)

theorem Goes.trans {r : State} (h : Goes e g s t) (h' : Goes e g t r) : Goes e g s r :=
  ⟨onlyAccess_trans h.only h'.only, h.txns.trans h'.txns, fun x hx => h.l1 x (h'.l1 x hx), h'.pc.trans h.pc⟩

theorem Goes.refl (s : State) (e g : Nat) : Goes e g s s := ⟨⟨rfl, fun _ _ => rfl, fun _ _ => rfl⟩, .refl s, fun _ h => h, rfl⟩

theorem NoCopy.goes {x : Space × Nat} (h : NoCopy e x s) (hgoes : Goes e g s t) : NoCopy e x t := fun l hl => h l (hgoes.l1 l hl)

theorem goes_onGrp (s : State) (e g : Nat) (f : Group → Group) (hf : ∀ v, (f v).pc = v.pc) : Goes e g s (s.onGrp e g f) := by
  refine ⟨onlyAccess_onGrp s e g f, keepsTxns_onGrp s e g f, fun x hx => ?_, ?_⟩
  · rw [l1_onGrp] at hx
    exact hx
  · cases hg : s.grp? e g with
    | none => rw [grp_onGrp, if_pos rfl, hg]; rfl
    | some v => rw [grp_onGrp_self hg f]; exact congrArg some (hf v)

theorem goes_acquireTry (s : State) (e g : Nat) : Goes e g s (s.acquireTry e g) := by
  obtain ⟨honly, htxns, hl1, hgrp⟩ := acquires_acquireTry s e g
  refine ⟨honly, htxns, hl1, ?_⟩
  cases hg : s.grp? e g with
  | none =>
    rcases acquireTry_cases s e g with h | h | ⟨c, h⟩ <;> rw [h]
    · rw [hg]
    · rw [grp_onGrp, if_pos rfl, hg]; rfl
    · rw [grp_onGrp, if_pos rfl, grp_l1Invalidate, hg]; rfl
  | some v =>
    obtain ⟨st, hst⟩ := hgrp v hg
    rw [hst]
    rfl

theorem atomicLine_goes (s : State) (e g aop size rd rs rt : Nat) (u : Group) (ls : List (Nat × Leaf × Mobj × Nat)) (x : Space × Nat) (n : Nat) :
    Goes e g s (s.atomicLine e g aop size rd rs rt u ls x n) ∧ NoCopy e x (s.atomicLine e g aop size rd rs rt u ls x n) ∧
    InFlight (s.atomicLine e g aop size rd rs rt u ls x n) (combines e g aop size rd rs rt u ls x) := by
  have hstable : Stable (combines e g aop size rd rs rt u ls x) := fun _ _ _ h => h
  unfold State.atomicLine
  extract_lets mine' reqs va y s₁ s₂
  have hsent : InFlight s₁ (combines e g aop size rd rs rt u ls x) := inFlight_addTxn s ⟨rfl, rfl, rfl, rfl, rfl⟩
  have hadded : Goes e g s s₁ := ⟨⟨rfl, fun _ _ => rfl, fun _ _ => rfl⟩, keepsTxns_addTxn s _, fun _ h => h, rfl⟩
  have hmarked : KeepsTxns s₁ s₂ := (keepsTxns_noFill s₁ e x.1 x.2 15).trans (keepsTxns_onEng _ e _)
  have hl1 : (s₂.eng e).l1 = (s₁.eng e).l1.filter (fun l => !(l.addr = x.2 && l.space = x.1)) :=
    congrArg Engine.l1 (State.eng_onEng_same (s₁.noFill e x.1 x.2 15) e (l1WithoutLine x))
  have hdropped : Goes e g s₁ s₂ := by
    refine ⟨onlyAccess_trans (onlyAccess_onTxns s₁ e g _) (onlyAccess_onEng _ e g _ (fun _ => rfl)), hmarked, fun l hl => ?_, ?_⟩
    · rw [hl1] at hl
      exact (List.mem_filter.1 hl).1
    · exact congrArg (Option.map (·.pc)) (grp_onEng (s₁.noFill e x.1 x.2 15) e e g (l1WithoutLine x) (fun _ => rfl))
  have hnone : NoCopy e x s₂ := fun l hl => by
    rw [hl1] at hl
    simpa [imp_iff_not_or] using (List.mem_filter.1 hl).2
  have hends : Goes e g s₂ (if reqs.any (·.ret) then s₂.onGrp e g (fun v => { v with busy := (sizeRegs rd (if size = 3 then 3 else 2)).foldl addNum v.busy }) else s₂) := by
    split
    · exact goes_onGrp s₂ e g _ (fun _ => rfl)
    · exact .refl s₂ e g
  exact ⟨(hadded.trans hdropped).trans hends, hnone.goes hends, InFlight.keeps hstable (InFlight.keeps hstable hsent hmarked) hends.txns⟩

section atomic

variable (h : s.mayIssue e g opc [] u) (haop : aop ≤ 6) (hsize : size ≤ 4) (hscope : order ≠ 0 → scope ≤ 4) (hok : aopSizeOk aop size = true)
  (howns : u.owns (aopRegs aop size rd rs rt) = true) (hfree : u.free (aopRegs aop size rd rs rt) = true)
  (howns' : u.owns (u.a48Source aop rs rt) = true) (hfree' : u.free (u.a48Source aop rs rt) = true) (hrel : 2 ≤ order → s.releaseDone e g scope = true)
  (hls : s.laneAddrs e g u.ctx size .atomic addrs (lanesOf u.active) = .ok ls)
  (hspace : ∀ y ∈ ls, y.2.1.space ≠ .toile ∧ (y.2.1.space = .host → aop = 0 ∨ aop = 3 ∨ aop = 4))
  (hroom : s.atomicsOut e + (ls.map lineAt).eraseDups.length ≤ 64) (hroom' : s.groupAtomicsOut e g + (ls.map lineAt).eraseDups.length ≤ 32)

include h haop hsize hscope hok howns hfree howns' hfree' hrel hls hspace hroom hroom'

theorem atomic_combines : ∃ n, atomic e g opc aop size order scope rd rs rt addrs s =
    (let t := each (ls.map lineAt).eraseDups (fun x (t : State) => t.atomicLine e g aop size rd rs rt u ls x n) (s.onGrp e g Group.step)
     if order % 2 = 1 then (t.onGrp e g (fun v => { v with st := .acquire scope })).acquireTry e g else t).spent e g u.pc := by
  have hgood : ¬ (6 < aop ∨ 4 < size ∨ (order ≠ 0 ∧ 4 < scope)) := by
    rintro (h | h | ⟨h, h'⟩)
    · omega
    · omega
    · exact absurd (hscope h) (by omega)
  have hdone : (!u.free (u.a48Source aop rs rt) || (decide (2 ≤ order) && !s.releaseDone e g scope)) = false := by
    rw [hfree', Bool.not_true, Bool.false_or]
    by_cases ho : 2 ≤ order
    · rw [hrel ho, Bool.not_true, Bool.and_false]
    · rw [decide_eq_false ho, Bool.false_and]
  have hnone : ls.find? (fun y => y.2.1.space = .toile || (y.2.1.space = .host && (aop = 1 || aop = 2 || aop = 5 || aop = 6))) = none := by
    refine List.find?_eq_none.2 (fun y hy => ?_)
    obtain ⟨htoile, hhost⟩ := hspace y hy
    simp only [htoile, decide_false, Bool.false_or, Bool.and_eq_true, Bool.or_eq_true, decide_eq_true_eq, not_and]
    intro hh
    have := hhost hh
    omega
  have hfull : (decide (64 < s.atomicsOut e + (ls.map lineAt).eraseDups.length) ||
      decide (32 < s.groupAtomicsOut e g + (ls.map lineAt).eraseDups.length)) = false := by
    rw [decide_eq_false (Nat.not_lt.2 hroom), decide_eq_false (Nat.not_lt.2 hroom'), Bool.or_false]
  refine ⟨s.nextId, ?_⟩
  unfold lineAt at hfull ⊢
  rw [atomic, issue_of_mayIssue h]
  simp only [if_neg hgood, hok, howns, hfree, howns', hdone, hls, hnone, hfull, Bool.not_true, Bool.false_eq_true, if_false]

theorem atomic_effect : s.onlyAccess e g (atomic e g opc aop size order scope rd rs rt addrs s) ∧
    ((atomic e g opc aop size order scope rd rs rt addrs s).grp? e g).map (·.pc) = some (u.pc + 8) ∧
    ∀ z ∈ ls, NoCopy e (lineAt z) (atomic e g opc aop size order scope rd rs rt addrs s) ∧
      InFlight (atomic e g opc aop size order scope rd rs rt addrs s) (combines e g aop size rd rs rt u ls (lineAt z)) := by
  obtain ⟨n, heq⟩ := atomic_combines h haop hsize hscope hok howns hfree howns' hfree' hrel hls hspace hroom hroom'
  rw [heq]
  dsimp only
  have hline := fun x (t : State) => atomicLine_goes t e g aop size rd rs rt u ls x n
  have hlines : Goes e g (s.onGrp e g Group.step)
      (each (ls.map lineAt).eraseDups (fun x (t : State) => t.atomicLine e g aop size rd rs rt u ls x n) (s.onGrp e g Group.step)) :=
    each_keeps (P := Goes e g (s.onGrp e g Group.step)) _ (fun x _ t ht => ht.trans (hline x t).1) _ (.refl _ e g)
  have hmem : ∀ z ∈ ls, lineAt z ∈ (ls.map lineAt).eraseDups := fun z hz => List.mem_eraseDups.2 (List.mem_map_of_mem hz)
  have hcold : ∀ z ∈ ls, NoCopy e (lineAt z)
      (each (ls.map lineAt).eraseDups (fun x (t : State) => t.atomicLine e g aop size rd rs rt u ls x n) (s.onGrp e g Group.step)) := fun z hz =>
    each_reaches (hmem z hz) (fun t => (hline _ t).2.1) (fun x t ht => ht.goes (hline x t).1) _
  have hsent : ∀ z ∈ ls, InFlight
      (each (ls.map lineAt).eraseDups (fun x (t : State) => t.atomicLine e g aop size rd rs rt u ls x n) (s.onGrp e g Group.step))
      (combines e g aop size rd rs rt u ls (lineAt z)) := fun z hz =>
    inFlight_each (f := fun x (t : State) => t.atomicLine e g aop size rd rs rt u ls x n) (fun _ _ _ h => h) (hmem z hz)
      (fun t => (hline _ t).2.2) (fun x t => (hline x t).1.txns) _
  generalize each (ls.map lineAt).eraseDups (fun x (t : State) => t.atomicLine e g aop size rd rs rt u ls x n) (s.onGrp e g Group.step) = r at *
  have hends : Goes e g r (if order % 2 = 1 then (r.onGrp e g (fun v => { v with st := .acquire scope })).acquireTry e g else r) := by
    split
    · exact (goes_onGrp r e g (fun v => { v with st := .acquire scope }) (fun _ => rfl)).trans (goes_acquireTry _ e g)
    · exact .refl r e g
  generalize (if order % 2 = 1 then (r.onGrp e g (fun v => { v with st := .acquire scope })).acquireTry e g else r) = r' at *
  refine ⟨onlyAccess_spent (onlyAccess_trans (onlyAccess_trans (onlyAccess_onGrp s e g _) hlines.only) hends.only) _, ?_, fun z hz => ⟨?_, ?_⟩⟩
  · rw [grp_spent, hends.pc, hlines.pc, grp_onGrp_self (grp_of_mayIssue h)]
    rfl
  · intro l hl
    rw [l1_spent] at hl
    exact (hcold z hz).goes hends l hl
  · exact InFlight.keeps (fun _ _ _ h => h) (InFlight.keeps (fun _ _ _ h => h) (hsent z hz) hends.txns) (keepsTxns_spent _ e g _)

end atomic

/-! ### Lanes and their faults (R104, R132) -/

theorem nodup_lanes {c : Nat} {a : Access} (h : s.laneAddrs e g c size a addrs (lanesOf v.active) = .ok ls) : (ls.map (·.1)).Nodup := by
  rw [laneAddrs_lanes h]
  exact List.nodup_range.filter _

theorem lane_lt {c : Nat} {a : Access} (h : s.laneAddrs e g c size a addrs (lanesOf v.active) = .ok ls) : ∀ y ∈ ls, y.1 < 32 := fun y hy => by
  have hmem : y.1 ∈ ls.map (·.1) := List.mem_map_of_mem hy
  rw [laneAddrs_lanes h] at hmem
  exact (mem_lanesOf.1 hmem).1

/-- A fault of a lane, and the turn that its instruction took. -/
theorem faultTaken_spent (hv : s.grp? e g = some v) (lane code detail addr : Nat) (k : VAddr) :
    s.faultTaken e g lane code detail addr v ((s.groupFault e g lane (trouble code detail addr) v.pc.toNat).spent e g k) :=
  faultTakenAt_spent s (faultTakenAt_groupFault s e g lane v.pc.toNat (trouble code detail addr) hv) k

end Sys2Proof.Machine.AccessLaws

namespace Sys2Proof.Machine
open IssueLaws LoadLaws NoNewLaws AccessLaws

/-- Settles O17: the sectors and lines of an access are gone through one after the other, and what one of them has done the others keep. -/
theorem laneAccesses : Obligations.LaneAccesses := by
  refine ⟨fun s e g opc size scope rd acq past addrs u ls h hsize hscope hfree hls hstores hpast => ?_,
    fun s e g opc size scope rs rel addrs u ls h hsize hrel hfree hls hroom hroom' => ?_,
    fun s e g opc aop size order scope rd rs rt addrs u ls h haop hsize hscope hok howns hfree howns' hfree' hrel hls hspace hroom hroom' => ?_,
    fun s e g opc size scope rd k addrs u h hsize hfree hk hbad => ?_⟩
  case refine_1 =>
    intro asks hroom hroom'
    refine ⟨fun hgood => ⟨_, rfl, ?_⟩, fun b hno hb => ⟨_, rfl, ?_⟩⟩
    · have hlt := lane_lt hls
      have hle := size_le_of_sizeBad hsize
      obtain ⟨st, w, rfl, honly, -, hgrp, hask⟩ := load_loads h hsize hscope hfree hls hstores hpast hroom hroom' hgood
      obtain ⟨m, b, hfields⟩ := loads_fields (mayServe s e u.ctx past) rd size ls (sectorsOf ls) u.step
      refine ⟨honly, _, hgrp, ?_, ?_, ?_, fun r l hr hl => ?_, fun y hy hnone => ?_, fun y hy c hc hno => ?_⟩
      · rw [hfields]
        rfl
      · rw [hfields]
        rfl
      · rw [hfields]
        rfl
      · exact List.foldlRecOn (sectorsOf ls) (sectorLoad (mayServe s e u.ctx past) rd size ls) (motive := fun w : Group => w.reg r l = u.reg r l) rfl
          (fun w hw x _ => (reg_sectorLoad_other hlt hle hl hr w x).trans hw)
      · have hmiss : mayServe s e u.ctx past (sectorOf y) = none := by
          unfold mayServe
          split
          · rfl
          · exact hnone.resolve_left ‹_›
        obtain ⟨i, x, -, hx, hasks⟩ := hask _ (sectorOf_mem hy) hmiss
        exact ⟨⟨i, x, hx, hasks⟩, fun r hr => busy_loads (sectorOf_mem hy) hmiss hr u.step⟩
      · have hheld : mayServe s e u.ctx past (sectorOf y) = some c := by
          rw [mayServe, hno, if_neg Bool.false_ne_true]
          exact hc
        exact holds_loads hlt hle (nodup_lanes hls) hy hheld (sectorOf_mem hy) u.step
    · have hfault := load_faults h hsize hscope hfree hls hstores hpast hroom hroom' hno hb
      rw [hfault]
      exact ⟨(noNew_groupFault s e g b.1 _ _).trans (noNew_spent _ e g _), faultTaken_spent (grp_of_mayIssue h) _ _ _ _ _⟩
  case refine_2 =>
    obtain ⟨honly, hgrp, hsent⟩ := store_effect h hsize hrel hfree hls hroom hroom'
    refine ⟨_, rfl, honly, hgrp, fun x hx => ?_⟩
    obtain ⟨i, y, -, hy, ⟨hissuer, hop, hspace, haddr, hsecs⟩, hdata⟩ := hsent x hx
    exact ⟨i, y, hy, hissuer, hop, hspace, haddr, hsecs, hdata⟩
  case refine_3 =>
    obtain ⟨honly, hpc, hsent⟩ := atomic_effect h haop hsize hscope hok howns hfree howns' hfree' hrel hls hspace hroom hroom'
    refine ⟨_, rfl, honly, hpc, fun z hz => ?_⟩
    obtain ⟨hnone, i, y, -, hy, hcombines⟩ := hsent z hz
    exact ⟨fun c => l1Find_of_noCopy hnone c, i, y, hy, hcombines⟩
  case refine_4 =>
    refine ⟨_, rfl, ?_⟩
    rw [load_issues h hsize (fun hacq => absurd hacq Bool.false_ne_true) hfree, laneAddrs_misaligned hk hbad]
    exact faultTaken_spent (grp_of_mayIssue h) _ _ _ _ _

end Sys2Proof.Machine
end

section
/-!
PROOF. O21: fragments between registers and the tile store (R123 to R125, R128).
-/
namespace Sys2Proof.Machine.FragLaws
open MeshLaws IssueLaws FaultLaws MotifLaws CellLaws FiletLaws LoadLaws

/-! ### Numbers in bytes (R17) -/

theorem leNat_leBytes (n x : Nat) : leNat (leBytes n x) = x % 256 ^ n := by
  induction n generalizing x with
  | zero => rw [pow_zero, Nat.mod_one]; rfl
  | succ n ih =>
    rw [leBytes, leNat, ih, BitVec.toNat_ofNat, Nat.mod_mod, pow_succ', Nat.mod_mul]

/-- A whole number of bytes from the start of a string. -/
theorem cut_append_left (b c : Bytes) : cut (b ++ c) 0 b.length = b := by
  simp [cut, zeros]

theorem cut_drop (b : Bytes) (o p n : Nat) : cut (b.drop p) o n = cut b (p + o) n := by
  rw [cut, cut, List.drop_drop]

/-- Word `i` of a string of words. -/
theorem numAt_flatMap_words (f : Nat → Nat) (hf : ∀ i, f i < 2 ^ 32) {n i : Nat} (hi : i < n) :
    numAt ((List.range n).flatMap (fun i => leBytes 4 (f i))) (4 * i) 4 = f i := by
  induction n generalizing f i with
  | zero => exact absurd hi (Nat.not_lt_zero _)
  | succ n ih =>
    have hcons : (List.range (n + 1)).flatMap (fun i => leBytes 4 (f i)) =
        leBytes 4 (f 0) ++ (List.range n).flatMap (fun i => leBytes 4 (f (i + 1))) := by
      rw [List.range_succ_eq_map, List.flatMap_cons, List.flatMap_map]
    have hlen := length_leBytes 4 (f 0)
    rw [hcons]
    cases i with
    | zero =>
      have hfirst := cut_append_left (leBytes 4 (f 0)) ((List.range n).flatMap (fun i => leBytes 4 (f (i + 1))))
      rw [hlen] at hfirst
      rw [numAt, Nat.mul_zero, hfirst, leNat_leBytes]
      exact Nat.mod_eq_of_lt (hf 0)
    | succ i =>
      rw [← ih (fun i => f (i + 1)) (fun i => hf (i + 1)) (Nat.lt_of_succ_lt_succ hi), numAt, numAt, Nat.mul_succ, Nat.add_comm, ← cut_drop,
        List.drop_left' hlen]

/-! ### The bytes of several lanes (R123) -/

/-- Bytes written at one place after the other. -/
def putsAt (at_ : Nat → Nat) (b : Nat → Bytes) (ls : List Nat) (m : List Host.Cell) : List Host.Cell :=
  ls.foldl (fun m l => cellsPut m (at_ l) (b l)) m

section puts

variable {at_ : Nat → Nat} {b : Nat → Bytes} {ls : List Nat} {m : List Host.Cell}

theorem wfCells_putsAt (h : Memory.wfCells m = true) : Memory.wfCells (putsAt at_ b ls m) = true :=
  List.foldlRecOn ls _ (motive := fun m => Memory.wfCells m = true) h (fun m hm _ _ => wfCells_cellsPut m _ _ hm)

theorem cellAt_putsAt_apart (h : Memory.wfCells m = true) {a : Nat} (ha : ∀ l ∈ ls, a < at_ l ∨ at_ l + (b l).length ≤ a) :
    cellAt (putsAt at_ b ls m) a = cellAt m a := by
  have hboth : Memory.wfCells (putsAt at_ b ls m) = true ∧ cellAt (putsAt at_ b ls m) a = cellAt m a :=
    List.foldlRecOn ls _ (motive := fun m' => Memory.wfCells m' = true ∧ cellAt m' a = cellAt m a) ⟨h, rfl⟩
      (fun m' hm' l hl => ⟨wfCells_cellsPut m' _ _ hm'.1, (cellAt_cellsPut_apart m' _ a _ hm'.1 (ha l hl)).trans hm'.2⟩)
  exact hboth.2

/-- What one lane wrote stays where no other writes. -/
theorem cellsAt_putsAt (h : Memory.wfCells m = true) {k : Nat} (hk : k ∈ ls)
    (hapart : ∀ l ∈ ls, l ≠ k → at_ k + (b k).length ≤ at_ l ∨ at_ l + (b l).length ≤ at_ k) :
    cellsAt (putsAt at_ b ls m) (at_ k) (b k).length = b k := by
  obtain ⟨l₁, l₂, rfl⟩ := List.append_of_mem hk
  have hwf : Memory.wfCells (putsAt at_ b l₁ m) = true := wfCells_putsAt h
  have hafter : Memory.wfCells (putsAt at_ b (l₁ ++ k :: l₂) m) = true ∧ cellsAt (putsAt at_ b (l₁ ++ k :: l₂) m) (at_ k) (b k).length = b k := by
    unfold putsAt
    rw [List.foldl_append, List.foldl_cons]
    refine List.foldlRecOn l₂ _ (motive := fun m' => Memory.wfCells m' = true ∧ cellsAt m' (at_ k) (b k).length = b k)
      ⟨wfCells_cellsPut _ _ _ hwf, cellsAt_cellsPut_same _ _ _ hwf⟩ (fun m' hm' l hl => ⟨wfCells_cellsPut m' _ _ hm'.1, ?_⟩)
    by_cases hlk : l = k
    · rw [hlk]
      exact cellsAt_cellsPut_same _ _ _ hm'.1
    · refine Eq.trans ?_ hm'.2
      rw [cellsAt_eq_map, cellsAt_eq_map]
      refine List.map_congr_left (fun i hi => cellAt_cellsPut_apart m' _ _ _ hm'.1 ?_)
      have hi := List.mem_range.1 hi
      have := hapart l (List.mem_append_right _ (List.mem_cons_of_mem _ hl)) hlk
      omega
  exact hafter.2

end puts

/-! ### A fragment instruction that goes on (R123, R124) -/

variable {s : State} {e g opc rb base stride : Nat} {u : Group} {errs : List (Nat × CodeError)}

/-- The four registers of every lane after a fragment load. -/
def fragLoaded (rb : Nat) (b : Nat → Bytes) (u : Group) : Group := (List.range 32).foldl (fun v l => v.loaded rb 4 l (b l)) u

/-- The lowest lane whose 16 bytes meet a poisoned word, and the word. -/
def firstBad (n : Engine) (at_ : Nat → Nat) : Option (Nat × Nat) :=
  (List.range 32).findSome? (fun l => (n.tileBad { lo := at_ l, len := 16 }).map (fun w => (l, w)))

theorem firstBad_none {n : Engine} {at_ : Nat → Nat} (h : ∀ l, l < 32 → n.tileBad { lo := at_ l, len := 16 } = none) : firstBad n at_ = none :=
  List.findSome?_eq_none_iff.2 (fun l hl => Option.map_eq_none_iff.2 (h l (List.mem_range.1 hl)))

theorem firstBad_some {n : Engine} {at_ : Nat → Nat} {l w : Nat} (hl : l < 32) (hgood : ∀ k, k < l → n.tileBad { lo := at_ k, len := 16 } = none)
    (hbad : n.tileBad { lo := at_ l, len := 16 } = some w) : firstBad n at_ = some (l, w) := by
  have hsplit : List.range 32 = List.range l ++ l :: (List.map Nat.succ (List.range (31 - l))).map (l + ·) := by
    have h32 : 32 = l + (31 - l + 1) := by omega
    rw [h32, List.range_add, List.range_succ_eq_map, List.map_cons, Nat.add_zero]
  refine List.findSome?_eq_some_iff.2 ⟨_, _, _, hsplit, Option.map_eq_some_iff.2 ⟨w, hbad, rfl⟩, fun k hk => ?_⟩
  exact Option.map_eq_none_iff.2 (hgood k (List.mem_range.1 hk))

section frag

variable (h : s.mayIssue e g opc [] u) (howns : u.ownsBlock rb 4 4 = true) (hall : u.active = 0xFFFFFFFF#32) (hbase : base % 16 = 0)
  (hstride : stride % 16 = 0) (hwide : 16 ≤ stride) (hin : base + 31 * stride + 16 ≤ ((s.eng e).winBS u.queue).2)
  (hfree : u.free (blockRegs rb 4) = true)
  (hclear : ∀ p ∈ (s.eng e).filet, ∀ r ∈ filetReads p.2.words ++ filetWrites p.2.words,
    Range.meets { lo := ((s.eng e).winBS u.queue).1 + base, len := 31 * stride + 16 } { r with lo := ((s.eng e).winBS p.2.queue).1 + r.lo } = false)

include h howns hall hbase hstride hwide hin hfree hclear

theorem frag_goes (write : Bool) (go : Group → (Nat → Nat) → State → State) :
    s.frag e g opc rb base stride write go = (go u (fun l => ((s.eng e).winBS u.queue).1 + base + l * stride) s).spent e g u.pc := by
  have hidle : (s.eng e).filet.any (fun p => meetAny [{ lo := ((s.eng e).winBS u.queue).1 + base, len := 31 * stride + 16 }]
      ((filetWrites p.2.words ++ (if write then filetReads p.2.words else [])).map (fun r => { r with lo := ((s.eng e).winBS p.2.queue).1 + r.lo }))) = false := by
    refine List.any_eq_false.2 (fun p hp hmeet => ?_)
    simp only [meetAny, List.any_cons, List.any_nil, Bool.or_false, List.any_map, List.any_eq_true, Function.comp_apply] at hmeet
    obtain ⟨r, hr, hmeets⟩ := hmeet
    have hmem : r ∈ filetReads p.2.words ++ filetWrites p.2.words := by
      rcases List.mem_append.1 hr with hr | hr
      · exact List.mem_append_right _ hr
      · split at hr
        · exact List.mem_append_left _ hr
        · exact absurd hr List.not_mem_nil
    rw [hclear p hp r hmem] at hmeets
    exact Bool.false_ne_true hmeets
  have hgood : ¬ (stride % 16 ≠ 0 ∨ stride < 16) := by omega
  have hroom : ¬ ((s.eng e).winBS u.queue).2 < base + (31 * stride + 16) := by omega
  rw [State.frag, issue_of_mayIssue h]
  simp only [howns, hall, hbase, hgood, hroom, hfree, hidle, Bool.not_true, Bool.false_eq_true, ne_eq, not_true_eq_false, if_false]

/-- A load of which no lane meets a poisoned word. -/
theorem fragLoad_of_clean (hnone : firstBad ((s.eng e).tileErrs errs) (fun l => ((s.eng e).winBS u.queue).1 + base + l * stride) = none) :
    s.fragLoad e g opc rb base stride errs = ((s.onEng e (Engine.tileErrs errs)).onGrp e g (fun _ => (fragLoaded rb (fun l =>
      (s.eng e).tileAt (((s.eng e).winBS u.queue).1 + base + l * stride) 16) u).step)).spent e g u.pc := by
  unfold firstBad at hnone
  rw [State.fragLoad, frag_goes h howns hall hbase hstride hwide hin hfree hclear]
  dsimp only
  rw [State.eng_onEng_same, hnone]
  rfl

/-- A load of which lane `l` is the lowest to meet a poisoned word. -/
theorem fragLoad_of_poison {l w : Nat} (hsome : firstBad ((s.eng e).tileErrs errs) (fun l => ((s.eng e).winBS u.queue).1 + base + l * stride) = some (l, w)) :
    s.fragLoad e g opc rb base stride errs = ((s.onEng e (Engine.tileErrs errs)).groupFault e g l
      (trouble 0x09 2 (8 * w - ((s.eng e).winBS u.queue).1)) u.pc.toNat).spent e g u.pc := by
  unfold firstBad at hsome
  rw [State.fragLoad, frag_goes h howns hall hbase hstride hwide hin hfree hclear]
  dsimp only
  rw [State.eng_onEng_same, hsome]
  rfl

end frag

/-! ### What the lanes read -/

/-- Code errors that are corrected leave the engine as it is. -/
theorem tileErrs_of_corrected (n : Engine) (h : ∀ x ∈ errs, x.2 ≠ .double) : n.tileErrs errs = n := by
  have hnone : errs.filter (fun x => x.2 = .double && decide (x.1 < 98304)) = [] :=
    List.filter_eq_nil_iff.2 (fun x hx => by simp [h x hx])
  rw [Engine.tileErrs, hnone]
  rfl

theorem onlyGroup_tileErrs (s : State) (e g : Nat) (h : ∀ x ∈ errs, x.2 ≠ .double) : s.onlyGroup e g (s.onEng e (Engine.tileErrs errs)) := by
  refine ⟨onlyEngine_onEng s e _, ?_, ?_, fun k _ => grp_onEng s e e k _ (fun _ => rfl)⟩
  · rw [State.eng_onEng_same, tileErrs_of_corrected _ h]
  · rw [State.keepsGiven, State.eng_onEng_same]
    rfl

theorem grp_tileErrs (hu : s.grp? e g = some u) : (s.onEng e (Engine.tileErrs errs)).grp? e g = some u :=
  (grp_onEng s e e g (Engine.tileErrs errs) (fun _ => rfl)).trans hu

theorem reg_step (u : Group) (r l : Nat) : u.step.reg r l = u.reg r l := rfl

/-- A fault of the engine whose tile store has met code errors is the same fault. -/
theorem faultTaken_of_tileErrs {t : State} {lane code detail addr : Nat} (h : (s.onEng e (Engine.tileErrs errs)).faultTaken e g lane code detail addr u t) :
    s.faultTaken e g lane code detail addr u t := h

theorem fragLoaded_regs (rb : Nat) (b : Nat → Bytes) (u : Group) : ∃ m, fragLoaded rb b u = { u with regs := m } :=
  foldl_regs (f := fun (v : Group) l => v.loaded rb 4 l (b l)) (fun v l => loaded_regs rb 4 l (b l) v) _ u

theorem reg_fragLoaded_other (b : Nat → Bytes) (u : Group) {r l : Nat} (hl : l < 32) (hr : r ∉ blockRegs rb 4) : (fragLoaded rb b u).reg r l = u.reg r l :=
  List.foldlRecOn (List.range 32) _ (motive := fun v : Group => v.reg r l = u.reg r l) rfl
    (fun v hv k hk => (reg_loaded_other le_rfl (List.mem_range.1 hk) (b k) v hl (.inl hr)).trans hv)

theorem reg_fragLoaded (b : Nat → Bytes) (u : Group) (hrb : rb + 4 ≤ 255) {l i : Nat} (hl : l < 32) (hi : i < 4) :
    (fragLoaded rb b u).reg (rb + i) l = BitVec.ofNat 32 (numAt (b l) (4 * i) 4) := by
  have hholds : Holds rb 4 l (b l) (fragLoaded rb b u) := by
    refine foldl_reaches (P := Holds rb 4 l (b l)) (List.mem_range.2 hl) (fun v => holds_loaded_same hl) (fun v hv k hk => ?_) u
    by_cases hlk : l = k
    · rw [hlk] at hl ⊢
      exact holds_loaded_same hl
    · exact holds_loaded_other le_rfl hl (List.mem_range.1 hk) hlk _ hv
  exact (hholds (by omega)).2 (by decide) i hi (by omega)

/-! ### What the lanes write -/

theorem stored_block (hrb : rb ≠ 255) (u : Group) (l : Nat) : u.stored rb 4 l = (List.range 4).flatMap (fun i => leBytes 4 (u.reg (rb + i) l).toNat) := by
  rw [Group.stored, if_neg (by decide)]
  simp only [if_neg hrb]
  rfl

theorem length_stored_block (u : Group) (l : Nat) : (u.stored rb 4 l).length = 16 := by
  rw [Group.stored, if_neg (by decide), List.length_flatMap]
  simp only [length_leBytes, List.map_const', List.length_range]
  rfl

/-- The tile store takes the bytes of every lane, and nothing else changes. -/
theorem puts_each (at_ : Nat → Nat) (b : Nat → Bytes) (ls : List Nat) (s : State) (e : Nat) :
    ((each ls (fun l (t : State) => t.onEng e (Engine.tilePut (at_ l) (b l))) s).eng e).tile = putsAt at_ b ls (s.eng e).tile ∧
    each ls (fun l (t : State) => t.onEng e (Engine.tilePut (at_ l) (b l))) s =
      { s with engs := (each ls (fun l (t : State) => t.onEng e (Engine.tilePut (at_ l) (b l))) s).engs } ∧
    ∀ g, (each ls (fun l (t : State) => t.onEng e (Engine.tilePut (at_ l) (b l))) s).grp? e g = s.grp? e g := by
  induction ls generalizing s with
  | nil => exact ⟨rfl, rfl, fun _ => rfl⟩
  | cons l ls ih =>
    obtain ⟨htile, honly, hgrp⟩ := ih (s.onEng e (Engine.tilePut (at_ l) (b l)))
    refine ⟨htile.trans ?_, honly, fun g => (hgrp g).trans (grp_onEng s e e g _ (fun _ => rfl))⟩
    rw [tile_tilePut]
    rfl

theorem ownsBlock_le (h : u.ownsBlock rb 4 4 = true) : rb + 4 ≤ u.n := by
  simp only [Group.ownsBlock, Bool.and_eq_true, decide_eq_true_eq] at h
  exact h.2

end Sys2Proof.Machine.FragLaws
end

section
/-!
PROOF. O21: what fragment loads and stores have done once they have issued (R123 to R125, R128).
-/
namespace Sys2Proof.Machine.FragLaws
open MeshLaws IssueLaws FaultLaws MotifLaws CellLaws FiletLaws LoadLaws

variable {s : State} {e g opc rb base stride : Nat} {u : Group} {errs : List (Nat × CodeError)}

/-- The place in the tile store of each lane's 16 bytes. -/
def laneAt (s : State) (e : Nat) (u : Group) (base stride l : Nat) : Nat := ((s.eng e).winBS u.queue).1 + base + l * stride

/-- The places of two lanes lie apart. -/
theorem laneAt_apart (s : State) (e : Nat) (u : Group) (base : Nat) (hwide : 16 ≤ stride) {k l : Nat} (hne : l ≠ k) :
    laneAt s e u base stride k + 16 ≤ laneAt s e u base stride l ∨ laneAt s e u base stride l + 16 ≤ laneAt s e u base stride k := by
  have hstep : ∀ {i j : Nat}, i < j → i * stride + 16 ≤ j * stride := fun {i j} hij => by
    have hmul : (i + 1) * stride ≤ j * stride := Nat.mul_le_mul_right _ hij
    rw [Nat.succ_mul] at hmul
    omega
  unfold laneAt
  rcases Nat.lt_or_gt_of_ne hne with hlt | hgt
  · have := hstep hlt
    omega
  · have := hstep hgt
    omega

variable (h : s.mayIssue e g opc [] u) (howns : u.ownsBlock rb 4 4 = true) (hall : u.active = 0xFFFFFFFF#32) (hbase : base % 16 = 0)
  (hstride : stride % 16 = 0) (hwide : 16 ≤ stride) (hin : base + 31 * stride + 16 ≤ ((s.eng e).winBS u.queue).2)
  (hfree : u.free (blockRegs rb 4) = true)
  (hclear : ∀ p ∈ (s.eng e).filet, ∀ r ∈ filetReads p.2.words ++ filetWrites p.2.words,
    Range.meets { lo := ((s.eng e).winBS u.queue).1 + base, len := 31 * stride + 16 } { r with lo := ((s.eng e).winBS p.2.queue).1 + r.lo } = false)

include h howns hall hbase hstride hwide hin hfree hclear

/-- A load that meets no poison. -/
theorem fragLoad_loads (hsmall : u.n ≤ 255) (hgood : ∀ l, l < 32 → ((s.eng e).tileErrs errs).tileBad { lo := laneAt s e u base stride l, len := 16 } = none)
    (hcorr : ∀ x ∈ errs, x.2 ≠ .double) : s.onlyGroup e g (s.fragLoad e g opc rb base stride errs) ∧
      ∃ v, (s.fragLoad e g opc rb base stride errs).grp? e g = some v ∧ v = { u with regs := v.regs, pc := u.pc + 8, krec := none } ∧
        (∀ l i, l < 32 → i < 4 → v.reg (rb + i) l = BitVec.ofNat 32 (numAt ((s.eng e).tileAt (laneAt s e u base stride l) 16) (4 * i) 4)) ∧
        ∀ r l, l < 32 → r ∉ blockRegs rb 4 → v.reg r l = u.reg r l := by
  have hrb := ownsBlock_le howns
  have hu := grp_tileErrs (errs := errs) (grp_of_mayIssue h)
  rw [fragLoad_of_clean h howns hall hbase hstride hwide hin hfree hclear (firstBad_none hgood)]
  refine ⟨onlyGroup_spent (onlyGroup_trans (onlyGroup_tileErrs s e g hcorr) (onlyGroup_onGrp _ e g _)) _,
    (fragLoaded rb (fun l => (s.eng e).tileAt (laneAt s e u base stride l) 16) u).step, ?_, ?_, fun l i hl hi => ?_, fun r l hl hr => ?_⟩
  · rw [grp_spent]
    exact grp_onGrp_self hu _
  · obtain ⟨m, hm⟩ := fragLoaded_regs rb (fun l => (s.eng e).tileAt (laneAt s e u base stride l) 16) u
    rw [hm]
    rfl
  · rw [reg_step]
    exact reg_fragLoaded _ u (by omega) hl hi
  · rw [reg_step]
    exact reg_fragLoaded_other _ u hl hr

/-- A load that meets poison faults in the lowest lane that does. -/
theorem fragLoad_faults {l w : Nat} (hl : l < 32) (hgood : ∀ k, k < l → ((s.eng e).tileErrs errs).tileBad { lo := laneAt s e u base stride k, len := 16 } = none)
    (hbad : ((s.eng e).tileErrs errs).tileBad { lo := laneAt s e u base stride l, len := 16 } = some w) :
    s.faultTaken e g l 0x09 2 (8 * w - ((s.eng e).winBS u.queue).1) u (s.fragLoad e g opc rb base stride errs) := by
  have hu := grp_tileErrs (errs := errs) (grp_of_mayIssue h)
  rw [fragLoad_of_poison h howns hall hbase hstride hwide hin hfree hclear (firstBad_some hl hgood hbad)]
  exact faultTaken_of_tileErrs (faultTakenAt_spent _ (faultTakenAt_groupFault _ e g l u.pc.toNat (trouble 0x09 2 _) hu) u.pc)

/-- A store. -/
theorem fragStore_stores (hinv : s.Inv) (hsmall : u.n ≤ 255) :
    s.fragStore e g opc rb base stride = { s with engs := (s.fragStore e g opc rb base stride).engs } ∧
      (s.fragStore e g opc rb base stride).grp? e g = some u.step ∧
      (∀ l i, l < 32 → i < 4 → numAt (((s.fragStore e g opc rb base stride).eng e).tileAt (laneAt s e u base stride l) 16) (4 * i) 4 =
        (u.reg (rb + i) l).toNat) ∧
      ∀ a, (∀ l, l < 32 → a < laneAt s e u base stride l ∨ laneAt s e u base stride l + 16 ≤ a) →
        cellAt ((s.fragStore e g opc rb base stride).eng e).tile a = cellAt (s.eng e).tile a := by
  have hrb := ownsBlock_le howns
  have hwf := wfCells_tile hinv e
  obtain ⟨htile, honly, hgrp⟩ := puts_each (laneAt s e u base stride) (u.stored rb 4) (List.range 32) s e
  have heq : s.fragStore e g opc rb base stride = ((each (List.range 32) (fun l (t : State) =>
      t.onEng e (Engine.tilePut (laneAt s e u base stride l) (u.stored rb 4 l))) s).onGrp e g Group.step).spent e g u.pc := by
    rw [State.fragStore, frag_goes h howns hall hbase hstride hwide hin hfree hclear]
    rfl
  generalize each (List.range 32) (fun l (t : State) => t.onEng e (Engine.tilePut (laneAt s e u base stride l) (u.stored rb 4 l))) s = r at *
  have htile' : ((s.fragStore e g opc rb base stride).eng e).tile = putsAt (laneAt s e u base stride) (u.stored rb 4) (List.range 32) (s.eng e).tile := by
    rw [heq, eng_spent, eng_onGrp]
    exact htile
  refine ⟨?_, ?_, fun l i hl hi => ?_, fun a ha => ?_⟩
  · rw [heq, spent_only, honly]
    rfl
  · rw [heq, grp_spent]
    exact grp_onGrp_self ((hgrp g).trans (grp_of_mayIssue h)) _
  · have hback := cellsAt_putsAt (at_ := laneAt s e u base stride) (b := u.stored rb 4) hwf (List.mem_range.2 hl) (fun k _ hk => by
      rw [length_stored_block, length_stored_block]
      exact laneAt_apart s e u base hwide hk)
    rw [length_stored_block] at hback
    rw [Engine.tileAt, htile', hback, stored_block (by omega)]
    exact numAt_flatMap_words (fun i => (u.reg (rb + i) l).toNat) (fun i => BitVec.isLt _) hi
  · rw [htile']
    exact cellAt_putsAt_apart hwf (fun l hl => by
      rw [length_stored_block]
      exact ha l (List.mem_range.1 hl))

end Sys2Proof.Machine.FragLaws
end

section
/-!
PROOF. O21: a filet operation asks for the parts of a page, and leaves the queue (R102, R115, R118, R120, R121).
-/
namespace Sys2Proof.Machine.MoverLaws
open MeshLaws IssueLaws FaultLaws MotifLaws FiletLaws AccessLaws

variable {s t : State} {e k : Nat} {f : FEntry}

/-! ### The parts of a page (R115) -/

/-- What sends pieces changes engines and requests alone, and keeps every request. -/
structure SendsOnly (s t : State) : Prop where
  only : t = { s with engs := t.engs, txns := t.txns, nextId := t.nextId }
  txns : KeepsTxns s t

theorem SendsOnly.refl (s : State) : SendsOnly s s := ⟨rfl, .refl s⟩

theorem SendsOnly.trans {u : State} (h : SendsOnly s t) (h' : SendsOnly t u) : SendsOnly s u := by
  obtain ⟨ht, htxns⟩ := h
  obtain ⟨hu, htxns'⟩ := h'
  refine ⟨?_, htxns.trans htxns'⟩
  rw [ht] at hu
  exact hu

theorem sendsOnly_onEntry (s : State) (e k : Nat) (f : FEntry → FEntry) : SendsOnly s (s.onEntry e k f) := ⟨rfl, keepsTxns_onEng s e _⟩

theorem sendsOnly_moverSend (s : State) (e k : Nat) (f : FEntry) (l : Leaf) (mir : Bool) (p : Piece) : SendsOnly s (s.moverSend e k f l mir p) :=
  ⟨rfl, keepsTxns_addTxn s _⟩

theorem sendsOnly_sendPieces (e k : Nat) (f : FEntry) (l : Leaf) (mir : Bool) (ps : List Piece) (s : State) :
    SendsOnly s (s.sendPieces e k f l mir ps) := by
  induction ps generalizing s with
  | nil => exact sendsOnly_onEntry s e k _
  | cons p ps ih =>
    rw [State.sendPieces]
    split
    · exact sendsOnly_onEntry s e k _
    · exact (sendsOnly_moverSend s e k f l mir p).trans (ih _)

/-- The request of a piece: a read of its sectors for a LOAD, else a store of its bytes. -/
def pieceAsks (e k : Nat) (f : FEntry) (l : Leaf) (p : Piece) (_ : Nat) (y : Txn) : Prop :=
  y.issuer = .mover e k ∧ y.op = (if fKind f.words = 3 then .read else .store) ∧ y.space = l.space ∧ y.addr = lineOf (l.phys p.va) ∧
    y.secs = maskSecs p.mask ∧ (fKind f.words ≠ 3 → y.data = p.data ∧ y.mask = p.mask)

theorem inFlight_moverSend (s : State) (e k : Nat) (f : FEntry) (l : Leaf) (mir : Bool) (p : Piece) :
    InFlight (s.moverSend e k f l mir p) (pieceAsks e k f l p) := by
  by_cases hload : fKind f.words = 3
  · refine inFlight_addTxn s ⟨rfl, ?_, rfl, rfl, rfl, fun hno => absurd hload hno⟩
    simp only [hload, Txn.blank, beq_self_eq_true, if_true]
  · have hno : (fKind f.words == 3) = false := beq_eq_false_iff_ne.2 hload
    refine inFlight_addTxn s ⟨rfl, ?_, rfl, rfl, rfl, fun _ => ⟨?_, ?_⟩⟩
    · simp only [hno, Txn.blank, Bool.false_eq_true, if_false, if_neg hload]
    · simp only [hno, Bool.false_eq_true, if_false]
    · simp only [hno, Bool.false_eq_true, if_false]

/-- The piece at the head leaves, where it lies on the page, its sectors are free and tags are. -/
theorem inFlight_sendPieces (s : State) (e k : Nat) (f : FEntry) (l : Leaf) (mir : Bool) (p : Piece) (ps : List Piece) (hlo : l.va ≤ p.va)
    (hhi : p.va < l.va + l.size)
    (hstores : fKind f.words = 3 → ∀ i, i < 4 → (maskSecs p.mask).testBit i = true → s.storeOut e l.space (lineOf (l.phys p.va)) i = false)
    (hroom : s.sectorsOut e + popcount (maskSecs p.mask) ≤ 256) (hroom' : s.moverSectorsOut e + popcount (maskSecs p.mask) ≤ 128) :
    InFlight (s.sendPieces e k f l mir (p :: ps)) (pieceAsks e k f l p) := by
  have hfree : (fKind f.words == 3 && (List.range 4).any (fun i => (maskSecs p.mask).testBit i && s.storeOut e l.space (lineOf (l.phys p.va)) i)) = false := by
    refine Bool.eq_false_iff.2 (fun hany => ?_)
    simp only [Bool.and_eq_true, beq_iff_eq, List.any_eq_true, List.mem_range] at hany
    obtain ⟨hload, i, hi, hbit, hout⟩ := hany
    rw [hstores hload i hi hbit] at hout
    exact Bool.false_ne_true hout
  have hsent := inFlight_moverSend s e k f l mir p
  rw [State.sendPieces]
  simp only [Nat.not_lt.2 hlo, Nat.not_le.2 hhi, hfree, Nat.not_lt.2 hroom, Nat.not_lt.2 hroom', decide_false, Bool.or_self, Bool.false_eq_true, if_false]
  exact InFlight.keeps (fun _ _ _ h => h) hsent (sendsOnly_sendPieces e k f l mir ps _).txns

/-- An operation that reaches a page goes on as the translation of its first byte says. -/
theorem filetPageTranslate_ok {p : Piece} {ps : List Piece} {c : Ctx} {l : Leaf} {m : Mobj} (hf : s.entry? e k = some f) (hstarted : f.started = true)
    (htodo : f.todo = p :: ps) (hc : s.ctx? f.ctx = some c)
    (hpage : s.translate c (if fKind f.words = 3 then .read else .store) p.first = .ok (l, m)) :
    filetPageTranslate e k s = (s.onEntry e k (fun f => { f with page := some l })).sendPieces e k f l (s.isMirrored m) (p :: ps) := by
  simp only [filetPageTranslate, hf, htodo, hstarted, hc, hpage, Bool.not_true, Bool.false_eq_true, if_false]

/-! ### An operation that is over (R102, R118, R120) -/

/-- What the end of operation `k` makes of its group. -/
def endedGroup (k : Nat) (flags : Word) (u : Group) : Group :=
  let u := { u with ftr := u.ftr - 2 ^ k, aflags := u.aflags ||| flags }
  match u.st with
  | .fwait m => if u.ftr &&& m = 0 then { u.step with st := .ready } else u
  | _ => u

/-- The writes of operation `k` become the group's. -/
def pastWrites (e k g : Nat) (y : Txn) : Txn := if y.issuer == .mover e k then { y with issuer := .past e g true } else y

theorem endedGroup_fields (k : Nat) (flags : Word) (u : Group) : (endedGroup k flags u).ftr = u.ftr - 2 ^ k ∧ (endedGroup k flags u).aflags = u.aflags ||| flags ∧
    (endedGroup k flags u).regs = u.regs := by
  unfold endedGroup
  dsimp only
  split
  · split
    · exact ⟨rfl, rfl, rfl⟩
    · exact ⟨rfl, rfl, rfl⟩
  · exact ⟨rfl, rfl, rfl⟩

theorem endedGroup_of_fwait {flags : Word} {w : Nat} {u : Group} (hst : u.st = .fwait w) (hdone : (u.ftr - 2 ^ k) &&& w = 0) :
    (endedGroup k flags u).st = .ready ∧ (endedGroup k flags u).pc = u.pc + 8 := by
  simp only [endedGroup, hst, hdone, if_true, Group.step, and_self]

theorem endedGroup_of_ready {flags : Word} {u : Group} (hst : u.st = .ready) : (endedGroup k flags u).st = .ready ∧ (endedGroup k flags u).pc = u.pc := by
  simp only [endedGroup, hst, and_self]

/-- The state in which operation `k` of group `g` has left the queue. -/
def leaves (s : State) (e k g : Nat) (flags : Word) : State :=
  ((s.onEng e (fun n => { n with filet := SMap.del n.filet k })).onTxns (fun m => SMap.mapVals m (fun _ => pastWrites e k g))).onGrp e g (endedGroup k flags)

theorem filetComplete_here {u : Group} (hf : s.entry? e k = some f) (hstarted : f.started = true) (htodo : f.todo = [])
    (hreads : ∀ p ∈ s.txns, p.2.issuer = .mover e k → p.2.op ≠ .read) (hu : s.grp? e f.group = some u) (hq : u.queue = f.queue)
    (hbit : u.ftr.testBit k = true) :
    filetComplete e k s = leaves s e k f.group f.flags := by
  have hidle : s.txns.any (fun p => p.2.issuer == .mover e k && p.2.op == .read) = false := by
    refine List.any_eq_false.2 (fun p hp hread => ?_)
    simp only [Bool.and_eq_true, beq_iff_eq] at hread
    exact hreads p hp hread.1 hread.2
  simp only [filetComplete, hf, hstarted, htodo, hidle, hu, hq, hbit, Option.any_some, List.isEmpty_nil, beq_self_eq_true, Bool.and_self, Bool.not_true,
    Bool.or_self, Bool.false_eq_true, if_false, if_true]
  rfl

theorem txn_leaves {i : Nat} {y : Txn} (hy : s.txn? i = some y) (e k g : Nat) (flags : Word) :
    (leaves s e k g flags).txn? i = some (if y.issuer = .mover e k then { y with issuer := .past e g true } else y) := by
  have hpast : pastWrites e k g y = if y.issuer = .mover e k then { y with issuer := .past e g true } else y := by
    simp only [pastWrites, beq_iff_eq]
  rw [← hpast]
  exact (get_mapVals s.txns (fun _ => pastWrites e k g) i).trans (congrArg (Option.map (pastWrites e k g)) hy)

theorem entry_leaves (s : State) (e k g : Nat) (flags : Word) : (leaves s e k g flags).entry? e k = none := by
  have hkept := entry_onEng ((s.onEng e (fun n => { n with filet := SMap.del n.filet k })).onTxns (fun m => SMap.mapVals m (fun _ => pastWrites e k g))) e k
    (fun n => { n with groups := SMap.modify n.groups g (endedGroup k flags) }) (fun _ => rfl)
  refine hkept.trans ?_
  have heng := State.eng_onEng_same s e (fun n => { n with filet := SMap.del n.filet k })
  exact (congrArg (fun n : Engine => SMap.get? n.filet k) heng).trans (SMapLaws.get_del_same _ k)

theorem grp_leaves {g : Nat} {u : Group} (hu : s.grp? e g = some u) (k : Nat) (flags : Word) :
    (leaves s e k g flags).grp? e g = some (endedGroup k flags u) :=
  grp_onGrp_self ((grp_onEng s e e g (fun n => { n with filet := SMap.del n.filet k }) (fun _ => rfl)).trans hu) _

end Sys2Proof.Machine.MoverLaws
end

section
/-!
PROOF. O21: a kernel starts, its window is cleared, and its groups are placed (R90, R92, R126, R127, R184, R264, R293).
-/
namespace Sys2Proof.Machine.KernelLaws
open MeshLaws IssueLaws FaultLaws MotifLaws FiletLaws CellLaws

variable {s t : State} {e q : Nat} {h : Share}

/-! ### Numbers that maps list, and choices among them -/

section maps

variable {V : Type}

theorem get_eq_none_iff (m : SMap V) (k : Nat) : SMap.get? m k = none ↔ k ∉ m.map (·.1) := by
  induction m with
  | nil => simp [SMap.get?]
  | cons p m ih =>
    obtain ⟨j, v⟩ := p
    rw [SMap.get?]
    by_cases hjk : j = k
    · simp [hjk]
    · rw [if_neg hjk, ih]
      simp [Ne.symm hjk]

/-- A table of the values of a function. -/
theorem get_table (f : Nat → V) (l : List Nat) (k : Nat) : SMap.get? (l.map (fun i => (i, f i))) k = if k ∈ l then some (f k) else none := by
  induction l with
  | nil => rfl
  | cons j l ih =>
    rw [List.map_cons, SMap.get?]
    by_cases hjk : j = k
    · simp [hjk]
    · rw [if_neg hjk, ih]
      simp [Ne.symm hjk]

end maps

theorem pickOne_mem {kind k x : Nat} {l : List Nat} (hx : x ∈ l) : ∃ y ∈ l, pickOne kind k l = some y := by
  match l with
  | [] => exact absurd hx List.not_mem_nil
  | [y] => exact ⟨y, List.mem_cons_self .., rfl⟩
  | y :: z :: r =>
    have hlt : Config.handedOut kind k % (y :: z :: r).length < (y :: z :: r).length := Nat.mod_lt _ (Nat.succ_pos _)
    refine ⟨(y :: z :: r).getD (Config.handedOut kind k % (y :: z :: r).length) y, ?_, rfl⟩
    rw [List.getD_eq_getElem _ _ hlt]
    exact List.getElem_mem hlt

/-- A free number is chosen where one is free. -/
theorem pickNum_free {V : Type} {kind k n x : Nat} {m : SMap V} (hx : x < n) (hfree : SMap.get? m x = none) :
    ∃ y, y < n ∧ SMap.get? m y = none ∧ pickNum kind k n (m.map (·.1)) = some y := by
  have hmem : ∀ {i : Nat}, i ∈ (List.range n).filter (fun i => !(m.map (·.1)).contains i) ↔ i < n ∧ SMap.get? m i = none := fun {i} => by
    rw [List.mem_filter, List.mem_range, Bool.not_eq_true', List.contains_eq_mem, decide_eq_false_iff_not, get_eq_none_iff]
  obtain ⟨y, hy, hpick⟩ := pickOne_mem (kind := kind) (k := k) (hmem.2 ⟨hx, hfree⟩)
  exact ⟨y, (hmem.1 hy).1, (hmem.1 hy).2, hpick⟩

/-! ### A group is placed (R90, R92, R264) -/

/-- The engine with the group placed in slot `g`, its launch gone on. -/
def engPlaced (g q : Nat) (h : Share) (n : Engine) : Engine :=
  { n with groups := SMap.put n.groups g (freshGroup q h), given := n.given.filter (fun p => p.1 != g)
           shares := SMap.modify n.shares q (fun h => { h with next := h.next + 1 }) }

theorem placeGroup_cases (s : State) (e q : Nat) : s.placeGroup e q = s ∨
    ∃ g h, s.placeGroup e q = ({ s with free := s.free + 1 } : State).onEng e (engPlaced g q h) := by
  unfold State.placeGroup
  split
  · exact .inl rfl
  · extract_lets n
    split
    · exact .inl rfl
    · split
      · exact .inr ⟨_, _, rfl⟩
      · exact .inl rfl

/-- What the placing of a group leaves. -/
structure Places (e q : Nat) (s t : State) : Prop where
  only : t = { s with engs := t.engs, free := t.free }
  eng : t.eng e = { s.eng e with groups := (t.eng e).groups, given := (t.eng e).given, shares := (t.eng e).shares }
  started : (t.share? e q).map (·.started) = (s.share? e q).map (·.started)

theorem places_placeGroup (s : State) (e q : Nat) : Places e q s (s.placeGroup e q) := by
  rcases placeGroup_cases s e q with heq | ⟨g, h, heq⟩ <;> rw [heq]
  · exact ⟨rfl, rfl, rfl⟩
  · have heng := State.eng_onEng_same ({ s with free := s.free + 1 } : State) e (engPlaced g q h)
    refine ⟨rfl, ?_, ?_⟩
    · rw [heng]
      rfl
    · rw [State.share?, heng, engPlaced, SMapLaws.get_modify, if_pos rfl, Option.map_map]
      rfl

theorem mem_placeGroup (s : State) (e q : Nat) : (s.placeGroup e q).mem = s.mem := by rw [(places_placeGroup s e q).only]

theorem reg_freshGroup (q : Nat) (h : Share) (r l : Nat) (hl : l < 32) : (freshGroup q h).reg r l =
    if r < 6 then BitVec.ofNat 32 ([h.args % 2 ^ 32, h.args / 2 ^ 32, h.next, h.gpe * h.e, h.k, h.e].getD r 0) else 0 := by
  have hat : (32 * r + l) / 32 = r := by omega
  have hin : 32 * r + l ∈ List.range 192 ↔ r < 6 := by
    rw [List.mem_range]
    omega
  rw [Group.reg, SMap.getD, freshGroup, launchRegs, get_table (fun i => BitVec.ofNat 32 (_)), hat]
  simp only [hin]
  by_cases hr : r < 6
  · rw [if_pos hr, if_neg (by omega), if_pos hr, Option.getD_some]
  · rw [if_neg hr, if_neg hr, Option.getD_none, ite_self]

theorem placeGroup_placed {g : Nat} {z : Ctx} (hh : s.share? e q = some h) (hg : g < 16) (hfree : s.grp? e g = none) (hstarted : h.started = true)
    (hnext : h.next ≤ h.last) (hsaving : h.saving = none) (hrestore : h.restore = false) (hdrain : h.ctx ∉ (s.eng e).draining)
    (hrows : (s.eng e).rows + rowsFor h.n ≤ 2048) (hz : s.ctx? h.ctx = some z) (hlive : z.st = .live) :
    ∃ g, g < 16 ∧ s.grp? e g = none ∧ s.placeGroup e q = ({ s with free := s.free + 1 } : State).onEng e (engPlaced g q h) := by
  obtain ⟨y, hy, hyfree, hpick⟩ := pickNum_free (kind := 1) (k := s.free) hg hfree
  refine ⟨y, hy, hyfree, ?_⟩
  simp only [State.placeGroup, hh, hpick, hstarted, hnext, hsaving, hrestore, hdrain, hrows, hz, hlive, Option.isNone_none, Option.any_some,
    List.contains_eq_mem, decide_true, decide_false, Bool.not_false, Bool.and_self, if_true]
  rfl

theorem placed_fields (s : State) (e g q : Nat) (h : Share) : (s.onEng e (engPlaced g q h)).grp? e g = some (freshGroup q h) ∧
    ((s.onEng e (engPlaced g q h)).share? e q).map (·.next) = (s.share? e q).map (fun h => h.next + 1) := by
  have heng := State.eng_onEng_same s e (engPlaced g q h)
  refine ⟨?_, ?_⟩
  · rw [State.grp?, heng, engPlaced]
    exact SMapLaws.get_put_same _ _ _
  · rw [State.share?, heng, engPlaced, SMapLaws.get_modify, if_pos rfl, Option.map_map]
    rfl

/-! ### A kernel starts (R126, R184, R293) -/

/-- What the start of a kernel has made of its context's lines and translations. -/
structure Cleans (e c : Nat) (s t : State) : Prop where
  only : t = { s with engs := t.engs, txns := t.txns }
  eng : t.eng e = { s.eng e with l1 := (t.eng e).l1, tlb := (t.eng e).tlb, held := (t.eng e).held }
  l1 : ∀ x ∈ (t.eng e).l1, x.ctx ≠ c
  tlb : ∀ z, s.ctx? c = some z → ∀ y ∈ (t.eng e).tlb, y.ctx = c → y.gen = z.gen

/-- An engine without a context's translations. -/
def engForgets (c : Nat) (n : Engine) : Engine :=
  { n with tlb := n.tlb.filter (fun t => t.ctx != c), held := n.held.filter (fun t => t.ctx != c) }

theorem freshTlb_cases (s : State) (e c : Nat) :
    (s.freshTlb e c = s ∧ ∀ z, s.ctx? c = some z → ∀ y ∈ (s.eng e).tlb, y.ctx = c → y.gen = z.gen) ∨
    s.freshTlb e c = s.onEng e (engForgets c) := by
  unfold State.freshTlb
  split
  · rename_i hnone
    exact .inl ⟨rfl, fun z hz => by rw [hnone] at hz; cases hz⟩
  · rename_i x hx
    split
    · exact .inr rfl
    · rename_i hfresh
      refine .inl ⟨rfl, fun z hz y hy hc => ?_⟩
      rw [hx, Option.some.injEq] at hz
      subst hz
      simp only [List.any_eq_true, Bool.and_eq_true, decide_eq_true_eq, bne_iff_ne, not_exists, not_and, not_not] at hfresh
      exact hfresh y hy hc

theorem cleans (s : State) (e c : Nat) : Cleans e c s ((s.l1Invalidate e c).freshTlb e c) := by
  have heng : (s.l1Invalidate e c).eng e = l1Drops c (s.eng e) := State.eng_onEng_same s e (l1Drops c)
  have hl1 := ctx_of_mem_l1Invalidate s e c
  rcases freshTlb_cases (s.l1Invalidate e c) e c with ⟨heq, hfresh⟩ | heq <;> rw [heq]
  · exact ⟨rfl, by rw [heng, l1Drops], hl1, hfresh⟩
  · have heng' := State.eng_onEng_same (s.l1Invalidate e c) e (engForgets c)
    refine ⟨rfl, ?_, ?_, fun z _ y hy hc => ?_⟩
    · rw [heng', heng]
      rfl
    · rw [heng']
      exact hl1
    · rw [heng', engForgets] at hy
      exact absurd hc (bne_iff_ne.1 (List.mem_filter.1 hy).2)

theorem mem_of_cleans {c : Nat} (hclean : Cleans e c s t) : t.mem = s.mem := by rw [hclean.only]

theorem share_of_cleans {c : Nat} (hclean : Cleans e c s t) (q : Nat) : t.share? e q = s.share? e q := by
  rw [State.share?, hclean.eng]
  rfl

/-- The engine with a kernel's share started. -/
def engStarts (q : Nat) (n : Engine) : Engine := { n with shares := SMap.modify n.shares q (fun h => { h with started := true }) }

theorem share_starts (s : State) (e q : Nat) : (s.onEng e (engStarts q)).share? e q = (s.share? e q).map (fun h => { h with started := true }) := by
  rw [State.share?, State.eng_onEng_same, engStarts, SMapLaws.get_modify, if_pos rfl]
  rfl

/-- The engine with a window taken. -/
def engTakes (w : Win) (n : Engine) : Engine := { n with wins := n.wins ++ [w] }

/-- The state in which kernel `q` has taken a window of the engine. -/
def windowTaken (s : State) (e q b size : Nat) : State :=
  ({ s with free := s.free + 1 } : State).onEng e (engTakes { queue := q, base := b, size := size, zeroed := false })

theorem eng_windowTaken (s : State) (e q b size : Nat) :
    (windowTaken s e q b size).eng e = engTakes { queue := q, base := b, size := size, zeroed := false } (s.eng e) :=
  State.eng_onEng_same ({ s with free := s.free + 1 } : State) e _

section start

variable (hh : s.share? e q = some h) (hstarted : h.started = false) (hrestore : h.restore = false) (hwins : ∀ w ∈ (s.eng e).wins, w.queue ≠ q)
  (hwrites : s.ctxWrites e h.ctx = false) (hdrain : h.ctx ∉ (s.eng e).draining) (hstate : s.fld F.engStat_STATE (R.engStat e) = 1)

include hh hstarted hrestore hwins hwrites hdrain hstate

theorem kernelStart_windowless (htwin : h.twin = 0) :
    kernelStart e q s = (((s.l1Invalidate e h.ctx).freshTlb e h.ctx).onEng e (engStarts q)).placeGroup e q := by
  have hnone : (s.eng e).wins.any (fun w => w.queue = q) = false := List.any_eq_false.2 (fun w hw => by simpa using hwins w hw)
  simp only [kernelStart, State.takeWin, hh, hstarted, hrestore, hnone, hwrites, hdrain, hstate, htwin, List.contains_eq_mem, decide_false, bne_self_eq_false,
    Bool.or_self, Bool.false_eq_true, if_false, if_true]
  rfl

theorem kernelStart_windowed (htwin : h.twin ≠ 0) {b : Nat} (hb : (s.eng e).freeWin s.free (h.twin * 8192) = some b) :
    kernelStart e q s = ((windowTaken s e q b (h.twin * 8192)).l1Invalidate e h.ctx).freshTlb e h.ctx := by
  have hnone : (s.eng e).wins.any (fun w => w.queue = q) = false := List.any_eq_false.2 (fun w hw => by simpa using hwins w hw)
  simp only [kernelStart, State.takeWin, hh, hstarted, hrestore, hnone, hwrites, hdrain, hstate, htwin, hb, List.contains_eq_mem, decide_false,
    bne_self_eq_false, Bool.or_self, Bool.false_eq_true, if_false]
  rfl

end start

/-! ### A window is cleared (R127) -/

/-- Of the cells of the addresses that `p` keeps the bytes stay, and the others read 0. -/
theorem cellAt_filter (m : List Host.Cell) (hm : Memory.wfCells m = true) (p : Nat → Bool) (x : Nat) :
    cellAt (m.filter (fun c => p c.1)) x = if p x then cellAt m x else 0 := by
  rw [wfCells_iff] at hm
  obtain ⟨hsorted, -⟩ := hm
  induction m with
  | nil => rw [List.filter_nil, cellAt, ite_self]
  | cons c m ih =>
    obtain ⟨b, v⟩ := c
    obtain ⟨hlow, htail⟩ := List.pairwise_cons.1 hsorted
    have hback := ih htail
    have hgone : x ≤ b → cellAt (m.filter (fun c => p c.1)) x = 0 := fun hx => cellAt_none _ _ (fun c hc => by
      have := hlow c (List.mem_filter.1 hc).1
      simp only at this
      omega)
    by_cases hb : p b = true
    · rw [List.filter_cons, if_pos hb, cellAt, cellAt]
      by_cases hbx : b = x
      · rw [if_pos hbx, if_pos hbx, ← hbx, if_pos hb]
      · rw [if_neg hbx, if_neg hbx]
        split
        · rw [ite_self]
        · exact hback
    · rw [List.filter_cons, if_neg hb]
      by_cases hbx : b = x
      · rw [hgone (by omega), ← hbx, if_neg hb]
      · by_cases hxb : x < b
        · rw [hgone (by omega), cellAt, if_neg hbx, if_pos hxb, ite_self]
        · rw [hback, cellAt, if_neg hbx, if_neg hxb]

theorem cellAt_cellsZero (m : List Host.Cell) (hm : Memory.wfCells m = true) (a n x : Nat) :
    cellAt (cellsZero m a n) x = if a ≤ x ∧ x < a + n then 0 else cellAt m x := by
  rw [cellsZero, cellAt_filter m hm (fun i => i < a || a + n ≤ i)]
  by_cases hin : a ≤ x ∧ x < a + n
  · rw [if_pos hin, if_neg (by simp; omega)]
  · rw [if_neg hin, if_pos (by simp; omega)]

/-- The engine with the window cleared and the kernel's share started. -/
def engCleared (w : Win) (q : Nat) (n : Engine) : Engine :=
  { n.zeroWin w with shares := SMap.modify n.shares q (fun h => { h with started := true }) }

theorem share_cleared (s : State) (e q : Nat) (w : Win) :
    (s.onEng e (engCleared w q)).share? e q = (s.share? e q).map (fun h => { h with started := true }) := by
  rw [State.share?, State.eng_onEng_same, engCleared, SMapLaws.get_modify, if_pos rfl]
  rfl

theorem windowZeroEnd_clears {w : Win} (hw : (s.eng e).winOf q = some w) (hh : s.share? e q = some h) (hzeroed : w.zeroed = false) (hstarted : h.started = false)
    (hrestore : h.restore = false) : windowZeroEnd e q s = (s.onEng e (engCleared w q)).placeGroup e q := by
  simp only [windowZeroEnd, hw, hh, hzeroed, hstarted, hrestore, Bool.or_self, Bool.false_eq_true, if_false]
  rfl

end Sys2Proof.Machine.KernelLaws
end

section
/-!
PROOF. O21: the statement about fragments, the mover and the starts of kernels and groups.
-/
namespace Sys2Proof.Machine
open MeshLaws IssueLaws FaultLaws MotifLaws FiletLaws AccessLaws FragLaws MoverLaws KernelLaws

/-- The commands of a fragment load are one function of the stride. -/
theorem exec_fragLoad {e g opc rb base stride : Nat} {errs : List (Nat × CodeError)} {c : Instr} (s : State)
    (hc : c = .fragLoadS e g opc rb base stride errs ∨ (stride = 16 ∧ c = .fragLoad e g opc rb base errs)) :
    exec c s = .next (s.fragLoad e g opc rb base stride errs) := by
  rcases hc with rfl | ⟨rfl, rfl⟩
  · rfl
  · rfl

theorem exec_fragStore {e g opc rb base stride : Nat} {c : Instr} (s : State)
    (hc : c = .fragStoreS e g opc rb base stride ∨ (stride = 16 ∧ c = .fragStore e g opc rb base)) :
    exec c s = .next (s.fragStore e g opc rb base stride) := by
  rcases hc with rfl | ⟨rfl, rfl⟩
  · rfl
  · rfl

/-- Settles O21: each command is reduced to the one state that it makes, and what that state holds is read off. -/
theorem fragmentsMoverAndKernels : Obligations.FragmentsMoverAndKernels := by
  refine ⟨fun s e g opc rb base stride u errs hinv h hsmall howns hall hbase hstride hwide hin hfree hclear => ?_,
    fun s e k f p ps c l m hf hstarted htodo hc hpage hlo hhi hstores hroom hroom' => ?_,
    fun s e k f u hf hstarted htodo hreads hu hq hbit => ?_,
    fun s e q h hh hstarted hrestore hwins hwrites hdrain hstate => ?_,
    fun s e q w h hinv hw hh hzeroed hstarted hrestore => ?_,
    fun s e q g h z hh hg hfree hstarted hnext hsaving hrestore hdrain hrows hz hlive => ?_⟩
  case refine_1 =>
    refine ⟨fun hgood hcorr c hc => ⟨_, exec_fragLoad s hc, ?_⟩, fun l w hl hgood hbad c hc => ⟨_, exec_fragLoad s hc, ?_⟩,
      fun c hc => ⟨_, exec_fragStore s hc, ?_⟩⟩
    · exact fragLoad_loads h howns hall hbase hstride hwide hin hfree hclear hsmall hgood hcorr
    · exact fragLoad_faults h howns hall hbase hstride hwide hin hfree hclear hl hgood hbad
    · exact fragStore_stores h howns hall hbase hstride hwide hin hfree hclear hinv hsmall
  case refine_2 =>
    have hsends := filetPageTranslate_ok hf hstarted htodo hc hpage
    have honly := (sendsOnly_onEntry s e k (fun f => { f with page := some l })).trans (sendsOnly_sendPieces e k f l (s.isMirrored m) (p :: ps) _)
    obtain ⟨i, y, -, hy, hasks⟩ := inFlight_sendPieces (s.onEntry e k (fun f => { f with page := some l })) e k f l (s.isMirrored m) p ps hlo hhi
      hstores hroom hroom'
    refine ⟨_, i, y, congrArg Host.Outcome.next hsends, honly.only, hy, hasks⟩
  case refine_3 =>
    obtain ⟨hftr, hflags, hregs⟩ := endedGroup_fields k f.flags u
    refine ⟨_, endedGroup k f.flags u, congrArg Host.Outcome.next (filetComplete_here hf hstarted htodo hreads hu hq hbit), rfl,
      fun i y hy => txn_leaves hy e k f.group _, entry_leaves s e k f.group _, grp_leaves hu k _, hftr, hflags, hregs,
      fun w hst hdone => endedGroup_of_fwait hst hdone, fun hst => endedGroup_of_ready hst⟩
  case refine_4 =>
    refine ⟨fun htwin => ?_, fun htwin b hb => ?_⟩
    · have heq := kernelStart_windowless hh hstarted hrestore hwins hwrites hdrain hstate htwin
      have hmem := mem_of_cleans (cleans s e h.ctx)
      obtain ⟨-, -, hl1, htlb⟩ := cleans s e h.ctx
      have hshare := (share_of_cleans (cleans s e h.ctx) q).trans hh
      generalize (s.l1Invalidate e h.ctx).freshTlb e h.ctx = r at *
      obtain ⟨-, heng, hst⟩ := places_placeGroup (r.onEng e (engStarts q)) e q
      have hstartedEng := State.eng_onEng_same r e (engStarts q)
      refine ⟨_, congrArg Host.Outcome.next heq, ?_, ?_, fun x hx => hl1 x ?_, fun z hz y hy => htlb z hz y ?_⟩
      · rw [hst, share_starts, hshare]
        rfl
      · exact (mem_placeGroup _ e q).trans hmem
      · rw [heng, hstartedEng] at hx
        exact hx
      · rw [heng, hstartedEng] at hy
        exact hy
    · have heq := kernelStart_windowed hh hstarted hrestore hwins hwrites hdrain hstate htwin hb
      have hclean := cleans (windowTaken s e q b (h.twin * 8192)) e h.ctx
      have heng := eng_windowTaken s e q b (h.twin * 8192)
      refine ⟨_, congrArg Host.Outcome.next heq, (mem_of_cleans hclean).trans rfl, ?_, ?_, hclean.l1⟩
      · rw [hclean.eng, heng]
        rfl
      · rw [share_of_cleans hclean, State.share?, heng]
        exact hh
  case refine_5 =>
    obtain ⟨honly, heng, hst⟩ := places_placeGroup (s.onEng e (engCleared w q)) e q
    have hcleared := State.eng_onEng_same s e (engCleared w q)
    have htile : (((s.onEng e (engCleared w q)).placeGroup e q).eng e).tile = cellsZero (s.eng e).tile w.base w.size := by
      rw [heng, hcleared]
      rfl
    refine ⟨_, congrArg Host.Outcome.next (windowZeroEnd_clears hw hh hzeroed hstarted hrestore), honly, ?_, fun a hlo hhi => ?_, fun a ha => ?_⟩
    · rw [hst, share_cleared, hh]
      rfl
    · rw [htile, cellAt_cellsZero _ (wfCells_tile hinv e), if_pos ⟨hlo, hhi⟩]
    · rw [htile, cellAt_cellsZero _ (wfCells_tile hinv e), if_neg (by omega)]
  case refine_6 =>
    obtain ⟨g', hg', hnone, heq⟩ := placeGroup_placed hh hg hfree hstarted hnext hsaving hrestore hdrain hrows hz hlive
    obtain ⟨hgrp, hshare⟩ := placed_fields ({ s with free := s.free + 1 } : State) e g' q h
    refine ⟨_, g', freshGroup q h, congrArg Host.Outcome.next heq, rfl, hg', hnone, hgrp, rfl, rfl, rfl, rfl, rfl, rfl, rfl, ?_, fun l hl => ?_⟩
    · rw [hshare]
      exact congrArg (Option.map (fun h : Share => h.next + 1)) hh
    · simp only [reg_freshGroup q h _ l hl]
      refine ⟨?_, rfl, rfl, rfl, rfl, rfl, fun r hr => if_neg (by omega)⟩
      exact BitVec.eq_of_toNat_eq (by simp)

end Sys2Proof.Machine
end

section
/-!
PROOF. O28 fails: a clean sector with a byte of its dirty mask set, which a flush by register leaves dirty.
-/
namespace Sys2Proof.Machine.FlushLaws

/-- A home line at address 0 whose first sector is clean and yet has the bit of its first byte set in its dirty mask. -/
def oddLine : Line := { Line.fresh 0 0 .home none none 4 .normal 9 with
  secs := [{ Sector.empty with st := .clean, dirty := 1 }, Sector.empty, Sector.empty, Sector.empty] }

/-- Die 0 runs, its slice 0 holds the line, and the range of the flush registers covers it. -/
def beforeFlush : State := { State.reset with
  regs := [(R.cshFlushLimit, Fset F.cshFlushLimit_LIMIT 1 0)]
  clk := { Clocks.start with dies := [(0, { DieClk.start with stage := .running, safe := false })] }
  cache := { Cache.empty with slices := [(0, { Slice.empty with lines := [oddLine] })] } }

/-- The flush leaves the sector as it is, and the line counts as dirty. -/
theorem after_flush_dirty (t : State) (h : exec .flushWriteBack beforeFlush = .next t) :
    ((t.slice 0).find oddLine.addr oddLine.idx).map Line.isDirty = some true := by
  have ht : t = beforeFlush.atReg R.cshFlushCtrl (fun s => flushStart 1 s) := (Host.Outcome.next.inj h).symm
  subst ht
  decide +kernel

end Sys2Proof.Machine.FlushLaws

namespace Sys2Proof.Machine

/-- Refutes O28: its clause about the flush by register says that no home line of the range is dirty afterwards, of every state. A flush cleans
the sectors that are dirty or partial (R180), and leaves a clean or invalid sector as it is; where such a sector has a bit of its dirty mask set,
which no step from reset makes and the statement does not exclude, the line still counts as dirty. -/
theorem not_windowsAndFlushes : ¬ Obligations.WindowsAndFlushes := by
  unfold Obligations.WindowsAndFlushes
  rintro ⟨-, -, -, -, hflush, -⟩
  obtain ⟨t, u, hexec, -, -, -, -, -, -, -, -, hclean⟩ := hflush FlushLaws.beforeFlush (by decide +kernel) (by decide +kernel)
  obtain ⟨hdirty, -⟩ := hclean 0 FlushLaws.oddLine (by decide +kernel) rfl (by decide +kernel) (by decide +kernel)
  rw [FlushLaws.after_flush_dirty t hexec] at hdirty
  exact absurd hdirty (by decide)

end Sys2Proof.Machine
end

section
/-!
PROOF. O46 fails: the fault of an internal error stops an exchange of a number out of range, whose control register is the status register of
the engine.
-/
namespace Sys2Proof.Machine.DarnLaws

/-- The engine of the counterexample. -/
def engine : Nat := 70

/-- The number of an exchange whose SHX_X_CTRL lies at the offset of ENG_STAT of the engine. -/
def oddKey : Nat := 114246

/-- A group of context 3 in its first slot. -/
def group : Group :=
  { queue := 5, ctx := 3, n := 16, index := 1, pc := 0x10040#57, active := 1#32, regs := [], stack := [], aflags := 0, ftr := 0, busy := [],
    st := .ready, fenceElapsed := 0, krec := none }

/-- A live context, resident in a context slot. -/
def context : Ctx :=
  { st := .live, hoop := 2, fn := 4, gen := 0, root := 0x1000, motBase := 0x20000, motCount := 2, slot := some 0, fault := none, lost := 0,
    launches := 0, running := [], destroyCookie := 0, destroyTag := 0, forcedUnits := 0, quiet := false }

/-- An exchange that serves the context. -/
def exchange : Xch := { ctx := 3, block := [], last := 0, opened := false, status := 0, gone := [], multiAt := 0, dies := [] }

/-- The engine is in service and runs the group; the exchange of the odd number serves the group's context. -/
def beforeError : State := { State.reset with
  regs := [(R.engStat engine, 1)]
  engs := [(engine, { Engine.empty with groups := [(1, group)] })]
  objs := { Objects.empty with ctxs := [(3, context)] }
  shx := { State.reset.shx with xchs := [(oddKey, exchange)] } }

/-- The fault stops the exchange, whose EN is bit 0 of ENG_STAT: the engine has left service before its darning is asked for. -/
theorem after_error_no_darning (t : State) (h : exec (.engineInternalError engine) beforeError = .next t) : t.darningEngine engine = false := by
  have ht : engineInternalError engine beforeError = t := Host.Outcome.next.inj h
  rw [← ht]
  decide +kernel

end Sys2Proof.Machine.DarnLaws

namespace Sys2Proof.Machine

/-- Refutes O46: its clause about `engineInternalError` says, of every state, that the engine is being darned afterwards. The fault of the context
stops the exchanges that serve it (R397) and clears EN of each (R379); for an exchange of a number above the 64 that there are, which no step from
reset makes and the statement does not exclude, that EN is the low bit of ENG_STAT.STATE of the engine, which is then no longer in service. -/
theorem not_darningsBeginAndEnd : ¬ Obligations.DarningsBeginAndEnd := by
  unfold Obligations.DarningsBeginAndEnd
  rintro ⟨-, -, -, herror, -⟩
  obtain ⟨-, hdarns⟩ := herror DarnLaws.beforeError DarnLaws.engine 3
  have hgroups : (DarnLaws.beforeError.eng DarnLaws.engine).groups = [(1, DarnLaws.group)] := by decide +kernel
  have hctxs : DarnLaws.beforeError.ctxsOn DarnLaws.engine = [] := by decide +kernel
  obtain ⟨t, hexec, -, hdarning⟩ := hdarns (by decide +kernel) (by decide +kernel) (by simp [hgroups])
    (by simp [hgroups, DarnLaws.group]) (by simp [hctxs]) ⟨DarnLaws.context, by decide +kernel, rfl⟩
  exact absurd (DarnLaws.after_error_no_darning t hexec) (by simp [hdarning])

end Sys2Proof.Machine
end

section
/-!
PROOF. The lines of a slice, and what the operations of the unified cache leave alone.
-/
namespace Sys2Proof.Machine.CacheLaws
open MeshLaws

variable {s t u : State}

/-! ### Entries of maps -/

/-- An entry that a map gives is one of those that it lists. -/
theorem mem_of_get {V : Type} {m : SMap V} {k : Nat} {v : V} (h : SMap.get? m k = some v) : (k, v) ∈ m := by
  induction m with
  | nil => simp [SMap.get?] at h
  | cons p m ih =>
    obtain ⟨j, u⟩ := p
    rw [SMap.get?] at h
    split at h
    next hj =>
      rw [hj, Option.some.inj h]
      exact List.mem_cons_self ..
    · exact List.mem_cons_of_mem _ (ih h)

/-! ### The lines of a slice -/

/-- The changes of a line that leave its name: its address and its home index. -/
def KeepsName (f : Line → Line) : Prop := ∀ l, (f l).addr = l.addr ∧ (f l).idx = l.idx

/-- A line found has the name that was asked for. -/
theorem name_of_find {sl : Slice} {a i : Nat} {l : Line} (h : sl.find a i = some l) : l.addr = a ∧ l.idx = i := by
  simpa using List.find?_some h

/-- A slice of which each line is changed under its name. -/
theorem find_mapLines (ls : List Line) (a i : Nat) {f : Line → Line} (hf : KeepsName f) :
    (ls.map f).find? (fun l => l.addr = a && l.idx = i) = (ls.find? (fun l => l.addr = a && l.idx = i)).map f := by
  rw [List.find?_map]
  refine congrArg (fun p => (ls.find? p).map f) (funext fun l => ?_)
  obtain ⟨haddr, hidx⟩ := hf l
  rw [Function.comp_apply, haddr, hidx]

theorem keepsName_ite {f : Line → Line} (hf : KeepsName f) (a i : Nat) : KeepsName (fun l => if l.addr = a && l.idx = i then f l else l) :=
  fun l => by
    dsimp only
    split
    · exact hf l
    · exact ⟨rfl, rfl⟩

theorem find_modify (sl : Slice) (a i b j : Nat) {f : Line → Line} (hf : KeepsName f) :
    (sl.modify a i f).find b j = if b = a ∧ j = i then (sl.find b j).map f else sl.find b j := by
  have hfind := find_mapLines sl.lines b j (keepsName_ite hf a i)
  refine hfind.trans ?_
  change (sl.find b j).map _ = _
  cases hl : sl.find b j with
  | none => simp
  | some l =>
    obtain ⟨rfl, rfl⟩ := name_of_find hl
    by_cases h : l.addr = a ∧ l.idx = i
    · simp [h]
    · simp [h]

theorem find_drop_same (sl : Slice) (a i : Nat) : (sl.drop a i).find a i = none := by
  unfold Slice.find Slice.drop
  rw [List.find?_eq_none]
  intro l hl
  simpa [imp_iff_not_or] using (List.mem_filter.1 hl).2

/-- A line appended is found where none of its name was. -/
theorem find_append_new (sl : Slice) (l : Line) (h : sl.find l.addr l.idx = none) (c : Nat) :
    ({ sl with lines := sl.lines ++ [l], clock := c } : Slice).find l.addr l.idx = some l := by
  unfold Slice.find at *
  rw [List.find?_append, h]
  simp

theorem slice_congr (h : t.cache = s.cache) (p : Nat) : t.slice p = s.slice p := by rw [State.slice, h, State.slice]

theorem find_onLine_same (s : State) (p a i : Nat) {f : Line → Line} (hf : KeepsName f) :
    ((s.onLine p a i f).slice p).find a i = ((s.slice p).find a i).map f := by
  rw [State.onLine, State.slice_onSlice_same, find_modify _ _ _ _ _ hf, if_pos ⟨rfl, rfl⟩]

theorem find_onLine_other (s : State) (p a i q b j : Nat) {f : Line → Line} (hf : KeepsName f) (h : ¬(q = p ∧ b = a ∧ j = i)) :
    ((s.onLine p a i f).slice q).find b j = (s.slice q).find b j := by
  by_cases hq : q = p
  · subst hq
    rw [State.onLine, State.slice_onSlice_same, find_modify _ _ _ _ _ hf, if_neg (fun hn => h ⟨rfl, hn⟩)]
  · rw [State.onLine, State.slice_onSlice_other s p q _ hq]

theorem find_dropLine (s : State) (p a i : Nat) : ((s.dropLine p a i).slice p).find a i = none := by
  rw [State.dropLine, State.slice_onSlice_same, find_drop_same]

/-! ### What sets out over the mesh -/

/-- A step changes transactions, messages and flits, and nothing else. -/
def Moves (s t : State) : Prop := t = { s with txns := t.txns, msgs := t.msgs, nextId := t.nextId, mesh := t.mesh }

theorem Moves.refl (s : State) : Moves s s := rfl

theorem Moves.trans (h : Moves s t) (h' : Moves t u) : Moves s u := by
  unfold Moves at *
  rw [h] at h'
  exact h'

theorem moves_ite {c : Prop} [Decidable c] (ht : Moves s t) (hu : Moves s u) : Moves s (if c then t else u) := by
  split
  · exact ht
  · exact hu

theorem Moves.cache (h : Moves s t) : t.cache = s.cache := by rw [h]
theorem Moves.mem (h : Moves s t) : t.mem = s.mem := by rw [h]
theorem Moves.regs (h : Moves s t) : t.regs = s.regs := by rw [h]

/-- Registers read the same after it. -/
theorem Moves.rd (h : Moves s t) (o : Nat) : t.rd o = s.rd o := by
  rw [h]
  exact State.rd_congr s _ rfl rfl rfl o

variable (s)

theorem moves_onTxn (i : Nat) (f : Txn → Txn) : Moves s (s.onTxn i f) := rfl

theorem moves_sendFlit_msg (vc : Vc) (src dst : Nat) (frm stop : Stop) (m : Nat) : Moves s (s.sendFlit vc src dst frm stop (.msg m)) := by
  unfold State.sendFlit
  exact moves_ite rfl rfl

theorem moves_sendFlit_txn (vc : Vc) (src dst : Nat) (frm stop : Stop) (i : Nat) : Moves s (s.sendFlit vc src dst frm stop (.txn i)) := by
  unfold State.sendFlit
  exact moves_ite rfl rfl

theorem moves_sendMsg (vc : Vc) (k : MsgKind) (src dst : Nat) (frm stop : Stop) : Moves s (s.sendMsg vc k src dst frm stop) := by
  unfold State.sendMsg
  extract_lets i x s₁
  have hnew : Moves s s₁ := rfl
  exact hnew.trans (moves_sendFlit_msg s₁ vc src dst frm stop i)

theorem moves_sendTxn (i : Nat) (vc : Vc) (st : Stage) (src dst : Nat) (frm stop : Stop) :
    Moves s (s.sendTxn i vc st src dst frm stop) := (moves_onTxn s i _).trans (moves_sendFlit_txn _ vc src dst frm stop i)

theorem moves_replyTxn (i d : Nat) (frm : Stop) : Moves s (s.replyTxn i d frm) := by
  unfold State.replyTxn
  split
  · exact .refl s
  · exact moves_sendTxn s i _ _ _ _ _ _

theorem moves_ackTry (i : Nat) : Moves s (s.ackTry i) := by
  unfold State.ackTry
  split
  · exact .refl s
  · exact moves_ite (moves_replyTxn s i _ _) (.refl s)

theorem moves_ledgerInc (n addr : Nat) (x : Option Nat) : Moves s (s.ledgerInc n addr x) := by
  unfold State.ledgerInc
  exact moves_ite (moves_sendMsg s _ _ _ _ _ _) (.refl s)

theorem moves_ledgerDec (n region : Nat) : Moves s (s.ledgerDec n region) := by
  unfold State.ledgerDec
  exact moves_ite (moves_sendMsg s _ _ _ _ _ _) (.refl s)

/-! ### A message that is sent -/

/-- What the units see of a message: where it goes and what it says. -/
def Msg.says (x : Msg) : MsgKind × Nat := (x.kind, x.dst)

/-- A message that moves, or arrives at once, says what it said. -/
theorem says_sendFlit (vc : Vc) (src dst : Nat) (frm stop : Stop) (m j : Nat) :
    ((s.sendFlit vc src dst frm stop (.msg m)).msg? j).map Msg.says = (s.msg? j).map Msg.says := by
  unfold State.sendFlit
  split
  · have hmod := SMapLaws.get_modify s.msgs m j (fun x => { x with arrived := true, came := s.mesh.clock, poison := x.poison || false })
    refine (congrArg (Option.map Msg.says) hmod).trans ?_
    split
    · rw [Option.map_map]
      rfl
    · rfl
  · rfl

theorem says_sendMsg_new (vc : Vc) (k : MsgKind) (src dst : Nat) (frm stop : Stop) :
    ((s.sendMsg vc k src dst frm stop).msg? s.nextId).map Msg.says = some (k, dst) := by
  unfold State.sendMsg
  rw [says_sendFlit]
  exact congrArg (Option.map Msg.says) (SMapLaws.get_put_same s.msgs s.nextId _)

theorem says_sendMsg_old (vc : Vc) (k : MsgKind) (src dst : Nat) (frm stop : Stop) (j : Nat) (hj : j ≠ s.nextId) :
    ((s.sendMsg vc k src dst frm stop).msg? j).map Msg.says = (s.msg? j).map Msg.says := by
  unfold State.sendMsg
  rw [says_sendFlit]
  exact congrArg (Option.map Msg.says) (SMapLaws.get_put_other s.msgs s.nextId j _ hj)

/-- A message that says `k` to die `d` is there. -/
def Tells (k : MsgKind) (d : Nat) (t : State) : Prop := ∃ j y, t.msg? j = some y ∧ y.kind = k ∧ y.dst = d

theorem tells_of_says {k : MsgKind} {d j : Nat} (h : (t.msg? j).map Msg.says = some (k, d)) : Tells k d t := by
  obtain ⟨y, hy, hsays⟩ := Option.map_eq_some_iff.1 h
  obtain ⟨hk, hd⟩ := Prod.mk.inj hsays
  exact ⟨j, y, hy, hk, hd⟩

theorem tells_sendMsg (vc : Vc) (k : MsgKind) (src dst : Nat) (frm stop : Stop) : Tells k dst (s.sendMsg vc k src dst frm stop) :=
  tells_of_says (says_sendMsg_new s vc k src dst frm stop)

end Sys2Proof.Machine.CacheLaws
end

section
/-!
PROOF. What the home's bookkeeping changes: transactions, messages, flits and the lines of the slices (R152, R155, R157, R174).
-/
namespace Sys2Proof.Machine.CacheLaws
open MeshLaws

variable {s t u : State}

/-! ### Transactions that are answered -/

variable (s)

theorem txn_sendFlit_other (vc : Vc) (src dst : Nat) (frm stop : Stop) (i j : Nat) (hj : j ≠ i) :
    (s.sendFlit vc src dst frm stop (.txn i)).txn? j = s.txn? j := by
  unfold State.sendFlit
  split
  · exact (State.txn_onTxn _ i j _).trans (if_neg hj)
  · rfl

theorem txn_sendTxn_other (i : Nat) (vc : Vc) (st : Stage) (src dst : Nat) (frm stop : Stop) (j : Nat) (hj : j ≠ i) :
    (s.sendTxn i vc st src dst frm stop).txn? j = s.txn? j := by
  rw [State.sendTxn, txn_sendFlit_other _ _ _ _ _ _ i j hj, State.txn_onTxn, if_neg hj]

variable {s}

theorem txn_onTxn_same {i : Nat} {x : Txn} (hx : s.txn? i = some x) (f : Txn → Txn) : (s.onTxn i f).txn? i = some (f x) := by
  rw [State.txn_onTxn, if_pos rfl, hx, Option.map_some]

/-- A transaction that sets out keeps all but its stage and its place on the way. -/
theorem txn_sendTxn_same {i : Nat} {x : Txn} (hx : s.txn? i = some x) (vc : Vc) (st : Stage) (src dst : Nat) (frm stop : Stop) :
    ∃ b c, (s.sendTxn i vc st src dst frm stop).txn? i = some { x with stage := st, moving := b, came := c } := by
  have hset : (s.onTxn i (fun t => { t with stage := st, moving := true })).txn? i = some { x with stage := st, moving := true } := by
    rw [State.txn_onTxn, if_pos rfl, hx, Option.map_some]
  unfold State.sendTxn State.sendFlit
  split
  · exact ⟨false, s.mesh.clock, (State.txn_onTxn _ i i _).trans ((if_pos rfl).trans (congrArg (Option.map _) hset))⟩
  · exact ⟨true, x.came, hset⟩

theorem replyTxn_of_txn {i : Nat} {x : Txn} (hx : s.txn? i = some x) (d : Nat) (frm : Stop) :
    s.replyTxn i d frm = s.sendTxn i .response .reply d x.die frm x.stop := by rw [State.replyTxn, hx]

theorem txn_replyTxn_same {i : Nat} {x : Txn} (hx : s.txn? i = some x) (d : Nat) (frm : Stop) :
    ∃ b c, (s.replyTxn i d frm).txn? i = some { x with stage := .reply, moving := b, came := c } := by
  rw [replyTxn_of_txn hx]
  exact txn_sendTxn_same hx _ _ _ _ _ _

/-- Every transaction keeps all but its stage and its place on the way. -/
def KeepsAsked (s t : State) : Prop := ∀ j x, s.txn? j = some x → ∃ st b c, t.txn? j = some { x with stage := st, moving := b, came := c }

theorem keepsAsked_of_eq (h : t.txns = s.txns) : KeepsAsked s t := fun j x hx => ⟨x.stage, x.moving, x.came, by rw [State.txn?, h]; exact hx⟩

theorem keepsAsked_replyTxn (s : State) (i d : Nat) (frm : Stop) : KeepsAsked s (s.replyTxn i d frm) := by
  intro j x hx
  by_cases hj : j = i
  · subst hj
    obtain ⟨b, c, h⟩ := txn_replyTxn_same hx d frm
    exact ⟨_, b, c, h⟩
  · refine ⟨x.stage, x.moving, x.came, ?_⟩
    unfold State.replyTxn
    split
    · exact hx
    · rw [txn_sendTxn_other _ _ _ _ _ _ _ _ j hj]
      exact hx

/-- The last event that a transaction waited for has happened. -/
def Txn.over? (x : Txn) : Bool := x.stage == .acks && !x.waitAns && !x.waitLedger && x.waitStack == 0

theorem ackTry_of_txn {i : Nat} {x : Txn} (hx : s.txn? i = some x) :
    s.ackTry i = if Txn.over? x then s.replyTxn i (s.physSlice x.idx / 33) (idxStop x.idx) else s := by
  rw [State.ackTry, hx]
  rfl

theorem keepsAsked_ackTry (s : State) (i : Nat) : KeepsAsked s (s.ackTry i) := by
  unfold State.ackTry
  split
  · exact keepsAsked_of_eq rfl
  · split
    · exact keepsAsked_replyTxn s i _ _
    · exact keepsAsked_of_eq rfl

theorem txns_sendMsg (s : State) (vc : Vc) (k : MsgKind) (src dst : Nat) (frm stop : Stop) : (s.sendMsg vc k src dst frm stop).txns = s.txns := by
  unfold State.sendMsg
  exact sendFlit_msg_txns _ _ _ _ _ _ _

/-! ### What is left alone -/

/-- A step changes transactions, messages, flits, the lines of the slices, and what is noted of late answers, and nothing else. -/
def Settles (s t : State) : Prop :=
  t = { s with
    txns := t.txns, msgs := t.msgs, nextId := t.nextId, mesh := t.mesh
    cache := { s.cache with slices := t.cache.slices, ledgerTimed := t.cache.ledgerTimed, timeoutMode := t.cache.timeoutMode } }

theorem Settles.refl (s : State) : Settles s s := rfl

theorem Settles.trans (h : Settles s t) (h' : Settles t u) : Settles s u := by
  unfold Settles at *
  rw [h] at h'
  exact h'

theorem Moves.settles (h : Moves s t) : Settles s t := by
  unfold Settles
  rw [h]

theorem settles_ite {c : Prop} [Decidable c] (ht : Settles s t) (hu : Settles s u) : Settles s (if c then t else u) := by
  split
  · exact ht
  · exact hu

theorem settles_each {α : Type} {f : α → State → State} (hf : ∀ a s, Settles s (f a s)) (l : List α) (s : State) : Settles s (each l f s) :=
  each_keeps (P := Settles s) l (fun a _ t ht => ht.trans (hf a t)) s (.refl s)

theorem Settles.mem (h : Settles s t) : t.mem = s.mem := by rw [h]
theorem Settles.regs (h : Settles s t) : t.regs = s.regs := by rw [h]
theorem Settles.ledger (h : Settles s t) : t.cache.ledger = s.cache.ledger := by rw [h]
theorem Settles.ledgerWalk (h : Settles s t) : t.cache.ledgerWalk = s.cache.ledgerWalk := by rw [h]
theorem Settles.reclaim (h : Settles s t) : t.cache.reclaim = s.cache.reclaim := by rw [h]

theorem Settles.rd (h : Settles s t) (o : Nat) : t.rd o = s.rd o := by
  rw [h]
  exact State.rd_congr s _ rfl rfl rfl o

theorem Settles.fld (h : Settles s t) (f : Field) (o : Nat) : t.fld f o = s.fld f o := by rw [State.fld, h.rd, State.fld]

theorem Settles.canReach (h : Settles s t) (d k : Nat) : t.canReach d k = s.canReach d k := by
  simp only [State.canReach, State.edge, State.linkState, h.rd, h.fld]
  rfl

theorem Settles.setBits (h : Settles s t) : t.setBits = s.setBits := by rw [h]; rfl

theorem Settles.chanFor (h : Settles s t) (d pa : Nat) : t.chanFor d pa = s.chanFor d pa := by
  simp only [State.chanFor, State.inTest, State.locOf, State.setMode, State.setOf, State.bit, h.rd, h.fld, h.setBits]
  rfl

theorem Settles.physSlice (h : Settles s t) (i : Nat) : t.physSlice i = s.physSlice i := by
  rw [State.physSlice, h.fld, h.fld, State.physSlice]

variable (s)

theorem settles_onLine (p a i : Nat) (f : Line → Line) : Settles s (s.onLine p a i f) := rfl
theorem settles_dropLine (p a i : Nat) : Settles s (s.dropLine p a i) := rfl
theorem settles_onSlice (p : Nat) (f : Slice → Slice) : Settles s (s.onSlice p f) := rfl
theorem settles_onTxn (i : Nat) (f : Txn → Txn) : Settles s (s.onTxn i f) := rfl
theorem settles_ledgerTimed (f : List Nat → List Nat) : Settles s (s.onCache (fun c => { c with ledgerTimed := f c.ledgerTimed })) := rfl
theorem settles_timeoutMode (f : List Nat → List Nat) : Settles s (s.onCache (fun c => { c with timeoutMode := f c.timeoutMode })) := rfl
theorem settles_sendMsg (vc : Vc) (k : MsgKind) (src dst : Nat) (frm stop : Stop) : Settles s (s.sendMsg vc k src dst frm stop) :=
  (moves_sendMsg s vc k src dst frm stop).settles

/-! ### A grant of ownership (R155, R174) -/

theorem grantTry_cases (p a i : Nat) : s.grantTry p a i = s ∨ ∃ l tx d j, (s.slice p).find a i = some l ∧ l.dir = .recall [] tx (.owner d j) ∧
    s.grantTry p a i = (s.onLine p a i (fun l => { l with dir := .owned d })).sendMsg .response (.ownGrant j) (p / 33) d (idxStop i) (idxStop i) := by
  unfold State.grantTry
  split
  · exact .inl rfl
  next l hl =>
    split
    next tx d j hdir =>
      split
      · exact .inl rfl
      · exact .inr ⟨l, tx, d, j, hl, hdir, rfl⟩
    · exact .inl rfl

theorem settles_grantTry (p a i : Nat) : Settles s (s.grantTry p a i) := by
  obtain h | ⟨l, tx, d, j, -, -, h⟩ := grantTry_cases s p a i
  · rw [h]
    exact .refl s
  · rw [h]
    exact (settles_onLine s p a i _).trans (settles_sendMsg _ _ _ _ _ _ _)

theorem txns_grantTry (p a i : Nat) : (s.grantTry p a i).txns = s.txns := by
  obtain h | ⟨l, tx, d, j, -, -, h⟩ := grantTry_cases s p a i
  · rw [h]
  · rw [h, txns_sendMsg]
    rfl

theorem keepsName_dir (f : Dir → Dir) : KeepsName (fun l => { l with dir := f l.dir }) := fun _ => ⟨rfl, rfl⟩

/-- A line whose near copies are still awaited, or which nobody has called back, is left as it is. -/
theorem find_grantTry_kept {q b j : Nat} {n : Line} (hn : (s.slice q).find b j = some n) (hdir : ∀ tx d k, n.dir ≠ .recall [] tx (.owner d k))
    (p a i : Nat) : ((s.grantTry p a i).slice q).find b j = some n := by
  obtain h | ⟨l, tx, d, k, hl, hrecall, h⟩ := grantTry_cases s p a i
  · rw [h]
    exact hn
  · rw [h, slice_congr (moves_sendMsg _ _ _ _ _ _ _).cache, find_onLine_other s p a i q b j (keepsName_dir (fun _ => .owned d))]
    · exact hn
    · rintro ⟨rfl, rfl, rfl⟩
      rw [hl] at hn
      exact hdir tx d k (Option.some.inj hn ▸ hrecall)

/-! ### An answered count (R174) -/

theorem settles_counted (i : Nat) : Settles s (s.counted i) := by
  unfold State.counted
  split
  · exact .refl s
  · exact (((settles_ledgerTimed s _).trans (settles_onTxn _ i _)).trans (moves_ackTry _ i).settles).trans (settles_grantTry _ _ _ _)

variable {s}

/-- The transaction waits for no count any more, and is acknowledged where it waits for nothing else; the others keep what they wait for. -/
theorem counted_txn {i : Nat} {x : Txn} (hx : s.txn? i = some x) : ∃ y, (s.counted i).txn? i = some y ∧ y.waitLedger = false ∧
    (x.stage = .acks → x.waitAns = false → x.waitStack = 0 → y.stage = .reply) := by
  have hset : ((s.onCache (fun c => { c with ledgerTimed := delNum c.ledgerTimed i })).onTxn i (fun t => { t with waitLedger := false })).txn? i =
      some { x with waitLedger := false } := by
    rw [State.txn_onTxn, if_pos rfl]
    exact congrArg (Option.map _) hx
  have heq : (s.counted i).txn? i = (((s.onCache (fun c => { c with ledgerTimed := delNum c.ledgerTimed i })).onTxn i
      (fun t => { t with waitLedger := false })).ackTry i).txn? i := by
    rw [State.counted, hx]
    exact congrArg (fun m => SMap.get? m i) (txns_grantTry _ _ _ _)
  rw [heq, ackTry_of_txn hset]
  split
  next hover =>
    obtain ⟨b, c, h⟩ := txn_replyTxn_same hset ((_ : State).physSlice x.idx / 33) (idxStop x.idx)
    exact ⟨_, h, rfl, fun _ _ _ => rfl⟩
  next hover =>
    refine ⟨_, hset, rfl, fun hst hans hstack => absurd ?_ hover⟩
    simp [Txn.over?, hst, hans, hstack]

theorem waitLedger_counted (i : Nat) {j : Nat} {x : Txn} (hx : s.txn? j = some x) : ∃ y, (s.counted i).txn? j = some y ∧
    (x.waitLedger = false → y.waitLedger = false) := by
  by_cases hj : j = i
  · subst hj
    obtain ⟨y, hy, hwait, -⟩ := counted_txn hx
    exact ⟨y, hy, fun _ => hwait⟩
  · unfold State.counted
    split
    · exact ⟨x, hx, id⟩
    · have hother : ((s.onCache (fun c => { c with ledgerTimed := delNum c.ledgerTimed i })).onTxn i
          (fun t => { t with waitLedger := false })).txn? j = some x := by
        rw [State.txn_onTxn, if_neg hj]
        exact hx
      obtain ⟨st, b, c, h⟩ := keepsAsked_ackTry _ i j x hother
      refine ⟨_, (congrArg (fun m => SMap.get? m j) (txns_grantTry _ _ _ _)).trans h, id⟩

/-- Of each of several that are counted the wait has ended. -/
theorem counted_each {l : List Nat} {i : Nat} {x : Txn} (hx : s.txn? i = some x) (hi : x.waitLedger = false ∨ i ∈ l) :
    ∃ y, (each l State.counted s).txn? i = some y ∧ y.waitLedger = false := by
  induction l generalizing s x with
  | nil => exact ⟨x, hx, hi.resolve_right List.not_mem_nil⟩
  | cons k l ih =>
    change ∃ y, (each l State.counted (s.counted k)).txn? i = some y ∧ _
    by_cases hk : i = k
    · subst hk
      obtain ⟨y, hy, hwait, -⟩ := counted_txn hx
      exact ih hy (.inl hwait)
    · obtain ⟨y, hy, hwait⟩ := waitLedger_counted k hx
      exact ih hy (hi.imp hwait (fun h => (List.mem_cons.1 h).resolve_left hk))

/-- A line whose near copies are still awaited, or which nobody has called back, is left as it is by the counts. -/
theorem find_counted_kept {q b j : Nat} {n : Line} (hn : (s.slice q).find b j = some n) (hdir : ∀ tx d k, n.dir ≠ .recall [] tx (.owner d k))
    (i : Nat) : ((s.counted i).slice q).find b j = some n := by
  unfold State.counted
  split
  · exact hn
  · refine find_grantTry_kept _ ?_ hdir _ _ _
    rw [slice_congr (moves_ackTry _ i).cache]
    exact hn

end Sys2Proof.Machine.CacheLaws
end

section
/-!
PROOF. The counts of the dirty ledger at a home, write-backs, and near copies that are called back (R148, R157, R174, R177).
-/
namespace Sys2Proof.Machine.CacheLaws
open MeshLaws

variable {s t u : State}

/-! ### Lines that are counted, and no more -/

/-- A line but for whether the ledger counts it. -/
def bare (l : Line) : Line := { l with counted := false }

/-- Every slice finds the lines that it found, but for what the ledger counts of them. -/
def SameLines (s t : State) : Prop := ∀ q b j, ((t.slice q).find b j).map bare = ((s.slice q).find b j).map bare

theorem SameLines.trans (h : SameLines s t) (h' : SameLines t u) : SameLines s u := fun q b j => (h' q b j).trans (h q b j)

theorem sameLines_of_cache (h : t.cache = s.cache) : SameLines s t := fun q b j => by rw [slice_congr h]

theorem Moves.sameLines (h : Moves s t) : SameLines s t := sameLines_of_cache h.cache

theorem sameLines_ite {c : Prop} [Decidable c] (ht : SameLines s t) (hu : SameLines s u) : SameLines s (if c then t else u) := by
  split
  · exact ht
  · exact hu

/-- A line that was found is found, with the same sectors, directory and place. -/
theorem SameLines.line (h : SameLines s t) {q b j : Nat} {n : Line} (hn : (s.slice q).find b j = some n) :
    ∃ c, (t.slice q).find b j = some { n with counted := c } := by
  have hbare := h q b j
  rw [hn, Option.map_some, Option.map_eq_some_iff] at hbare
  obtain ⟨m, hm, heq⟩ := hbare
  refine ⟨m.counted, hm.trans (congrArg some ?_)⟩
  calc m = { bare m with counted := m.counted } := rfl
    _ = { bare n with counted := m.counted } := by rw [heq]

theorem keepsName_counted (b : Bool) : KeepsName (fun l => { l with counted := b }) := fun _ => ⟨rfl, rfl⟩

theorem sameLines_counted (s : State) (p a i : Nat) (b : Bool) : SameLines s (s.onLine p a i (fun l => { l with counted := b })) := by
  intro q a' i'
  by_cases h : q = p ∧ a' = a ∧ i' = i
  · obtain ⟨rfl, rfl, rfl⟩ := h
    rw [find_onLine_same _ _ _ _ (keepsName_counted b), Option.map_map]
    rfl
  · rw [find_onLine_other _ _ _ _ _ _ _ (keepsName_counted b) h]

variable (s)

/-- A count without a transaction that waits changes no line but in what is counted. -/
theorem sameLines_count1 (p a i : Nat) : SameLines s (s.count1 p a i none) := by
  unfold State.count1
  split
  · exact sameLines_of_cache rfl
  · exact sameLines_ite (sameLines_of_cache rfl)
      (sameLines_ite (sameLines_counted s p a i true) ((sameLines_counted s p a i true).trans (moves_ledgerInc _ _ _ _).sameLines))

theorem sameLines_uncount (p a i : Nat) : SameLines s (s.uncount p a i) := by
  unfold State.uncount
  split
  · exact sameLines_of_cache rfl
  · exact sameLines_ite (sameLines_of_cache rfl)
      (sameLines_ite (sameLines_counted s p a i false) ((sameLines_counted s p a i false).trans (moves_ledgerDec _ _ _).sameLines))

theorem settles_count1 (p a i : Nat) (x : Option Nat) : Settles s (s.count1 p a i x) := by
  unfold State.count1
  split
  · exact .refl s
  · have hcounted := settles_onLine s p a i (fun l => { l with counted := true })
    refine settles_ite (.refl s) (settles_ite hcounted ?_)
    have hsent := hcounted.trans (moves_ledgerInc _ (p / 33) a x).settles
    cases x with
    | none => exact hsent
    | some k => exact settles_ite ((hsent.trans (settles_onTxn _ k _)).trans rfl) (settles_ite (hsent.trans (settles_onLine _ p a i _)) hsent)

theorem settles_uncount (p a i : Nat) : Settles s (s.uncount p a i) := by
  unfold State.uncount
  split
  · exact .refl s
  · have hcounted := settles_onLine s p a i (fun l => { l with counted := false })
    exact settles_ite (.refl s) (settles_ite hcounted (hcounted.trans (moves_ledgerDec _ _ _).settles))

theorem txns_ledgerInc (n addr : Nat) (x : Option Nat) : (s.ledgerInc n addr x).txns = s.txns := by
  unfold State.ledgerInc
  split
  · exact txns_sendMsg s _ _ _ _ _ _
  · rfl

theorem txns_ledgerDec (n region : Nat) : (s.ledgerDec n region).txns = s.txns := by
  unfold State.ledgerDec
  split
  · exact txns_sendMsg s _ _ _ _ _ _
  · rfl

theorem txns_count1 (p a i : Nat) : (s.count1 p a i none).txns = s.txns := by
  unfold State.count1
  split
  · rfl
  · split
    · rfl
    · dsimp only
      split
      · rfl
      · exact txns_ledgerInc _ _ _ _

theorem txns_uncount (p a i : Nat) : (s.uncount p a i).txns = s.txns := by
  unfold State.uncount
  split
  · rfl
  · split
    · rfl
    · dsimp only
      split
      · rfl
      · exact txns_ledgerDec _ _ _

/-! ### Write-backs (R148) -/

/-- What `Settles` allows, and requests to the channel controllers besides. -/
def Works (s t : State) : Prop :=
  t = { s with
    txns := t.txns, msgs := t.msgs, nextId := t.nextId, mesh := t.mesh
    cache := { s.cache with slices := t.cache.slices, ledgerTimed := t.cache.ledgerTimed, timeoutMode := t.cache.timeoutMode }
    mem := { s.mem with reqs := t.mem.reqs, nextReq := t.mem.nextReq } }

variable {s}

theorem Works.refl (s : State) : Works s s := rfl

theorem Works.trans (h : Works s t) (h' : Works t u) : Works s u := by
  unfold Works at *
  rw [h] at h'
  exact h'

theorem Settles.works (h : Settles s t) : Works s t := by
  unfold Works
  rw [h]

theorem works_ite {c : Prop} [Decidable c] (ht : Works s t) (hu : Works s u) : Works s (if c then t else u) := by
  split
  · exact ht
  · exact hu

theorem works_each {α : Type} {f : α → State → State} (hf : ∀ a s, Works s (f a s)) (l : List α) (s : State) : Works s (each l f s) :=
  each_keeps (P := Works s) l (fun a _ t ht => ht.trans (hf a t)) s (.refl s)

theorem Works.cells (h : Works s t) : t.mem.cells = s.mem.cells := by rw [h]
theorem Works.reclaim (h : Works s t) : t.cache.reclaim = s.cache.reclaim := by rw [h]

theorem Works.rd (h : Works s t) (o : Nat) : t.rd o = s.rd o := by
  rw [h]
  exact State.rd_congr s _ rfl rfl rfl o

theorem Works.physSlice (h : Works s t) (i : Nat) : t.physSlice i = s.physSlice i := by
  rw [State.physSlice, State.fld, State.fld, h.rd]
  rfl

variable (s)

theorem works_ask (q : CtlReq) : Works s (s.ask q) := by
  unfold State.ask State.sendFlit
  exact works_ite (works_ite rfl rfl) rfl

theorem works_writeBack (d : Nat) (stop : Stop) (addr : Nat) (secs : List (Nat × Bytes × Nat × Bool)) (c : Bool) :
    Works s (s.writeBack d stop addr secs c) := by
  unfold State.writeBack
  exact works_ite (works_ite (moves_ledgerDec s _ _).settles.works (.refl s)) (works_each (fun x t => works_ask t _) _ s)

theorem works_dropHome (p : Nat) (l : Line) : Works s (s.dropHome p l) :=
  (works_writeBack s _ _ _ _ _).trans (settles_dropLine _ _ _ _).works

/-! ### The last near copy has answered (R157) -/

/-- While near copies are still awaited, and where none were called back, nothing goes on. -/
theorem recallDone_waits {s : State} {p a i : Nat} {l : Line} (hl : (s.slice p).find a i = some l) (h : ∀ tx after, l.dir ≠ .recall [] tx after) :
    s.recallDone p a i = s := by
  unfold State.recallDone
  rw [hl]
  dsimp only
  split
  next tx after hdir => exact absurd hdir (h tx after)
  · rfl

theorem settles_enqueue (i p : Nat) (front : Bool) : Settles s (s.enqueue i p front) := rfl

theorem works_recallDone (p a i : Nat) : Works s (s.recallDone p a i) := by
  unfold State.recallDone
  split
  · exact .refl s
  · split
    next tx after hdir =>
      have htimeout := settles_timeoutMode s (fun l => delNum l (lineKey a i))
      extract_lets s₁
      cases after with
      | none =>
        have hfree := htimeout.trans (settles_onLine s₁ p a i (fun l => { l with dir := .none }))
        cases tx with
        | none => exact (hfree.trans (settles_uncount _ _ _ _)).works
        | some k => exact (((hfree.trans (settles_onTxn _ k _)).trans (moves_ackTry _ k).settles).trans (settles_uncount _ _ _ _)).works
      | serve k => exact (((htimeout.trans (settles_onLine s₁ p a i _)).trans (settles_uncount _ _ _ _)).trans (settles_enqueue _ k p true)).works
      | hold =>
        cases tx with
        | none => exact (htimeout.trans (settles_onLine s₁ p a i _)).works
        | some k => exact (((htimeout.trans (settles_onLine s₁ p a i _)).trans (settles_uncount _ _ _ _)).trans (settles_enqueue _ k p true)).works
      | evict => exact htimeout.works.trans (works_dropHome s₁ p _)
      | owner d k => exact ((htimeout.trans (settles_count1 s₁ p a i _)).trans (settles_grantTry _ _ _ _)).works
    · exact .refl s

/-! ### A near copy that will not answer (R177, R178) -/

/-- A line that is not to hear from a near copy `k`, whose sectors are lost or not. -/
def silenced (lost : Bool) (k : Nat) (l : Line) : Line :=
  { l with
    secs := if lost then l.secs.map (Sector.lose l.mirrored) else l.secs
    dir := match l.dir with | .recall left t a => .recall (left.filter (fun x => x != k)) t a | d => d }

theorem keepsName_silenced (lost : Bool) (k : Nat) : KeepsName (silenced lost k) := fun _ => ⟨rfl, rfl⟩

theorem silent_eq (p a i k : Nat) : s.silent p a i k =
    (s.onLine p a i (silenced (s.cache.timeoutMode.contains (lineKey a i) || decide (8 ≤ k)) k)).count1 p a i none := rfl

theorem settles_silent (p a i k : Nat) : Settles s (s.silent p a i k) := by
  rw [silent_eq]
  exact (settles_onLine s p a i _).trans (settles_count1 _ _ _ _ _)

theorem find_silent {s : State} {p a i k : Nat} {l : Line} (hl : (s.slice p).find a i = some l) :
    ∃ c, ((s.silent p a i k).slice p).find a i =
      some { silenced (s.cache.timeoutMode.contains (lineKey a i) || decide (8 ≤ k)) k l with counted := c } := by
  refine (sameLines_count1 (s.onLine p a i (silenced _ k)) p a i).line ?_
  rw [find_onLine_same _ _ _ _ (keepsName_silenced _ k), hl, Option.map_some]

/-- The sectors of a lost line are poisoned. -/
theorem poison_lose (mir : Bool) (c : Sector) : (c.lose mir).poison = true := by
  unfold Sector.lose
  split <;> rfl

theorem poison_lost (l : Line) (mir : Bool) : ∀ c ∈ l.secs.map (Sector.lose mir), c.poison = true := by
  intro c hc
  obtain ⟨d, -, rfl⟩ := List.mem_map.1 hc
  exact poison_lose mir d

theorem keepsName_lose : KeepsName Line.lose := fun _ => ⟨rfl, rfl⟩

end Sys2Proof.Machine.CacheLaws
end

section
/-!
PROOF. O27: the dirty ledger, its change of die, and dead dies (R174, R176 to R178).
-/
namespace Sys2Proof.Machine.LedgerLaws
open MeshLaws SyndromeLaws CacheLaws

variable {s t : State}

/-! ### The ledger (R174) -/

/-- The state with one more line counted of a region of a home. -/
def lineCounted (m h r : Nat) (s : State) : State :=
  (s.delMsg m).onCache (fun c => { c with ledger := SMap.upd c.ledger (ledgerKey h r) 0 (fun n => satAdd 0xFFFF n 1) })

theorem ledger_lineCounted (m h r : Nat) (s : State) : (lineCounted m h r s).cache.ledger =
    SMap.upd s.cache.ledger (ledgerKey h r) 0 (fun n => satAdd 0xFFFF n 1) := rfl

/-- The ledger's answer, where a transaction waits for it. -/
def answered (x : Option Nat) (d h : Nat) (s : State) : State :=
  match x with
  | some i => s.sendMsg .response (.ledgerAns i) d h (.quadrant 0) (.quadrant 0)
  | none => s

theorem moves_answered (x : Option Nat) (d h : Nat) (s : State) : Moves s (answered x d h s) := by
  cases x with
  | none => exact .refl s
  | some i => exact moves_sendMsg s _ _ _ _ _ _

theorem ledgerIncrement_eq {m h r : Nat} {x : Option Nat} {z : Msg} (hz : s.msg? m = some z) (harr : z.arrived = true)
    (hkind : z.kind = .ledgerInc h r x) : ledgerIncrement m s = answered x z.dst h (lineCounted m h r s) := by
  unfold ledgerIncrement
  rw [hz]
  dsimp only
  rw [hkind, harr]
  rfl

/-- What is listed of the entries that are not 0: a count of 0 and no entry read the same. -/
theorem getD_filter_nonzero {m : SMap Nat} {k n : Nat} (h : SMap.getD m k 0 = n) (hn : n ≠ 0) : SMap.getD (m.filter (fun p => p.2 != 0)) k 0 = n := by
  unfold SMap.getD at *
  cases hm : SMap.get? m k with
  | none =>
    rw [hm] at h
    exact absurd h.symm hn
  | some v =>
    rw [hm, Option.getD_some] at h
    rw [get_filter_some m _ k v hm (by simpa [h] using hn), Option.getD_some, h]

/-! ### A walk to a new ledger (R176) -/

theorem ledgerWalkEnd_counts (ls : List Line) (n : Nat) (m : SMap Nat) {l : Line} (hl : l ∈ ls) :
    0 < SMap.getD (ls.foldl (fun m l => SMap.upd m (ledgerKey n (l.addr / 2 ^ 21)) 0 (fun k => satAdd 0xFFFF k 1)) m)
      (ledgerKey n (l.addr / 2 ^ 21)) 0 := by
  have hraises : ∀ (m : SMap Nat) (k j : Nat), 0 < SMap.getD m j 0 ∨ j = k → 0 < SMap.getD (SMap.upd m k 0 (fun k => satAdd 0xFFFF k 1)) j 0 := by
    intro m k j h
    by_cases hj : j = k
    · subst hj
      rw [SMapLaws.getD_upd_same, satAdd]
      omega
    · rw [SMapLaws.getD_upd_other _ _ _ _ _ hj]
      exact h.resolve_right hj
  exact LoadLaws.foldl_reaches (f := fun (m : SMap Nat) (l : Line) => SMap.upd m (ledgerKey n (l.addr / 2 ^ 21)) 0 (fun k => satAdd 0xFFFF k 1))
    (P := fun m => 0 < SMap.getD m (ledgerKey n (l.addr / 2 ^ 21)) 0) hl (fun m => hraises m _ _ (.inr rfl))
    (fun m hm c _ => hraises m _ _ (.inl hm)) m

/-- The state in which a walk that has ended has counted its lines. -/
def walkCounted (n : Nat) (s : State) : State :=
  s.onCache (fun c => { c with
    ledgerWalk := delNum c.ledgerWalk n
    ledger := (s.cache.slices.flatMap (fun p => if p.1 / 33 = n then p.2.lines.filter (fun l => l.role = .home && l.counted) else [])).foldl
      (fun m l => SMap.upd m (ledgerKey n (l.addr / 2 ^ 21)) 0 (fun k => satAdd 0xFFFF k 1)) c.ledger })

/-- The stores and grants that waited for the walk. -/
def walkWaiters (n : Nat) (s : State) : List Nat :=
  (s.txns.filter (fun p => p.2.space == .stack && s.physSlice p.2.idx / 33 == n && p.2.waitLedger)).map (·.1)

theorem physSlice_walkCounted (n : Nat) (s : State) (i : Nat) : (walkCounted n s).physSlice i = s.physSlice i := by
  simp only [State.physSlice, State.fld, walkCounted, State.rd_onCache]

theorem ledgerWalkEnd_eq {n : Nat} (h : n ∈ s.cache.ledgerWalk) : ∃ f : State → State,
    ledgerWalkEnd n s = f (each (walkWaiters n s) State.counted (walkCounted n s)) ∧ ∀ t, Settles t (f t) ∧ (f t).txns = t.txns := by
  refine ⟨fun t => each (t.cache.slices.filter (fun p => p.1 / 33 = n)) (fun (p : Nat × Slice) t => each p.2.lines (fun (l : Line) t => t.grantTry p.1 l.addr l.idx) t) t,
    ?_, fun t => ⟨settles_each (fun (p : Nat × Slice) t => settles_each (fun (l : Line) t => settles_grantTry t p.1 l.addr l.idx) _ t) _ t, ?_⟩⟩
  · unfold ledgerWalkEnd
    rw [if_pos (by simpa using h)]
    have hwaiters : walkWaiters n (walkCounted n s) = walkWaiters n s := by
      unfold walkWaiters
      simp only [physSlice_walkCounted]
      rfl
    rw [← hwaiters]
    rfl
  · exact each_keeps (P := fun u => u.txns = t.txns) _ (fun p _ u hu => each_keeps (P := fun u => u.txns = t.txns) _
      (fun l _ u hu => (txns_grantTry u p.1 l.addr l.idx).trans hu) u hu) t rfl

theorem ledgerDieChange_eq {n : Nat} (hn : n < 8) (hlost : s.baseLost (s.ledgerOf n) = true) (hup : s.baseLost n = false) :
    ledgerDieChange n s = ((s.voidCounts n).onCache (fun c => { c with
      ledgerDie := SMap.put c.ledgerDie n (if n % 2 = 0 then n + 1 else n - 1), ledgerWalk := addNum c.ledgerWalk n
      ledger := SMap.keep c.ledger (fun j _ => j / 2 ^ 20 != n) })).setF F.cshDeadStat_LEDGER_LOST R.cshDeadStat
        (s.fld F.cshDeadStat_LEDGER_LOST R.cshDeadStat ||| 2 ^ n) := by
  unfold ledgerDieChange
  rw [if_pos ⟨hn, hlost, by simp [hup]⟩]

/-! ### Homes that give up (R178) -/

/-- The part of `homeTimeoutExpiry` that is about near copies. -/
def nearGivenUp (p addr die : Nat) (l : Line) (s : State) : State :=
  match l.dir with
  | .recall left _ _ =>
    if s.cache.timeoutMode.contains (lineKey addr l.idx) then
      match left.find? (fun k => k % 8 = die) with
      | some k => (s.silent p addr l.idx k).recallDone p addr l.idx
      | none => s
    else s
  | _ => s

/-- The transactions of a line that wait for a count and are timed. -/
def lateCounts (addr i : Nat) (s : State) : List Nat :=
  (s.txns.filter (fun x => x.2.onLine addr i && x.2.waitLedger && s.cache.ledgerTimed.contains x.1)).map (·.1)

/-- The part of it that is about the ledger. -/
def ledgerGivenUp (p addr die i : Nat) (s : State) : State :=
  if die = s.ledgerOf (p / 33) && !(lateCounts addr i s).isEmpty then each (lateCounts addr i s) State.counted (s.onLine p addr i Line.lose)
  else s

theorem homeTimeoutExpiry_eq {p addr die : Nat} {l : Line}
    (hfirst : (s.slice p).lines.find? (fun x => x.addr = addr && x.role = .home) = some l) :
    homeTimeoutExpiry p addr die s = ledgerGivenUp p addr die l.idx (nearGivenUp p addr die l s) := by
  unfold homeTimeoutExpiry
  rw [hfirst]
  rfl

theorem nearGivenUp_recall {p addr die k : Nat} {l : Line} {left : List Nat} {tx : Option Nat} {a : After} (hdir : l.dir = .recall left tx a)
    (hmode : s.cache.timeoutMode.contains (lineKey addr l.idx) = true) (hk : left.find? (fun x => x % 8 = die) = some k) :
    nearGivenUp p addr die l s = (s.silent p addr l.idx k).recallDone p addr l.idx := by
  unfold nearGivenUp
  rw [hdir]
  dsimp only
  rw [if_pos hmode, hk]

theorem nearGivenUp_other {l : Line} (hdir : ∀ left tx a, l.dir ≠ .recall left tx a) (p addr die : Nat) : nearGivenUp p addr die l s = s := by
  unfold nearGivenUp
  split
  next left tx a h => exact absurd h (hdir left tx a)
  · rfl

theorem mem_lateCounts {addr i j : Nat} {x : Txn} (hx : s.txn? i = some x) (hon : x.onLine addr j = true) (hwait : x.waitLedger = true)
    (htimed : i ∈ s.cache.ledgerTimed) : i ∈ lateCounts addr j s :=
  List.mem_map.2 ⟨(i, x), List.mem_filter.2 ⟨mem_of_get hx, by simp [hon, hwait, htimed]⟩, rfl⟩

theorem ledgerGivenUp_late {p addr i j : Nat} (hlate : i ∈ lateCounts addr j s) :
    ledgerGivenUp p addr (s.ledgerOf (p / 33)) j s = each (lateCounts addr j s) State.counted (s.onLine p addr j Line.lose) := by
  unfold ledgerGivenUp
  have hsome : lateCounts addr j s ≠ [] := List.ne_nil_of_mem hlate
  rw [if_pos (by simp [hsome])]

/-- The line whose near copies are awaited still, each of its sectors lost, as the late counts leave it. -/
theorem find_lose_counted {late : List Nat} {p a i : Nat} {n : Line} (hn : (s.slice p).find a i = some n)
    (hdir : ∀ tx d k, n.dir ≠ .recall [] tx (.owner d k)) :
    ((each late State.counted (s.onLine p a i Line.lose)).slice p).find a i = some n.lose := by
  refine each_keeps (P := fun u => (u.slice p).find a i = some n.lose) late (fun k _ u hu => find_counted_kept hu hdir k) _ ?_
  rw [find_onLine_same _ _ _ _ keepsName_lose, hn, Option.map_some]

theorem find_ledgerGivenUp {p a i die : Nat} {n : Line} (hn : (s.slice p).find a i = some n)
    (hdir : ∀ tx d k, n.dir ≠ .recall [] tx (.owner d k)) :
    ((ledgerGivenUp p a die i s).slice p).find a i = some n ∨ ((ledgerGivenUp p a die i s).slice p).find a i = some n.lose := by
  unfold ledgerGivenUp
  split
  · exact .inr (find_lose_counted hn hdir)
  · exact .inl hn

/-! ### Walks for a lost die (R177) -/

theorem works_reclaimLine (s : State) (p : Nat) (l : Line) (n : Nat) : Works s (s.reclaimLine p l n) := by
  unfold State.reclaimLine
  split
  · exact works_ite (settles_onLine s p _ _ _).works (.refl s)
  · exact works_ite ((settles_onLine s p _ _ _).trans (settles_count1 _ _ _ _ _)).works (.refl s)
  · split
    · exact works_ite (.refl s) ((settles_silent s _ _ _ _).works.trans (works_recallDone _ _ _ _))
    · exact .refl s
  · exact .refl s

/-- A home line that the lost die owned is nobody's, and its sectors are lost. -/
theorem reclaimLine_owned {p n : Nat} {l : Line} (hl : (s.slice p).find l.addr l.idx = some l) (hdir : l.dir = .owned n) :
    ∃ m, ((s.reclaimLine p l n).slice p).find l.addr l.idx = some m ∧ m.dir = .none ∧ ∀ c ∈ m.secs, c.poison = true := by
  have hname : KeepsName (fun l : Line => { l with dir := .none, secs := l.secs.map (Sector.lose l.mirrored) }) := fun _ => ⟨rfl, rfl⟩
  obtain ⟨c, hc⟩ := (sameLines_count1 (s.onLine p l.addr l.idx (fun l => { l with dir := .none, secs := l.secs.map (Sector.lose l.mirrored) }))
    p l.addr l.idx).line (by rw [find_onLine_same _ _ _ _ hname, hl, Option.map_some])
  refine ⟨{ l with dir := .none, secs := l.secs.map (Sector.lose l.mirrored), counted := c }, ?_, rfl, poison_lost l l.mirrored⟩
  unfold State.reclaimLine
  rw [hdir]
  dsimp only
  rw [if_pos rfl]
  exact hc

theorem reclaimWalkEnd_eq {n : Nat} (h : n ∈ s.cache.reclaim) : reclaimWalkEnd n s =
    each s.cache.slices (fun p s => each (p.2.lines.filter (fun l => l.role = .home)) (fun l s => s.reclaimLine p.1 l n) s)
      (s.onCache (fun c => { c with reclaim := delNum c.reclaim n })) := by
  unfold reclaimWalkEnd
  rw [if_pos (by simpa using h)]
  rfl

end Sys2Proof.Machine.LedgerLaws

namespace Sys2Proof.Machine
open MeshLaws SyndromeLaws CacheLaws LedgerLaws

/-- Settles O27, instruction by instruction: the ledger's own steps change its counts alone; those of a home, of a walk's end and of a line whose
near copy is lost keep the lines whose answers are still awaited, and what they do to the line at hand is shown of it. -/
theorem ledgersAndDeadDies : Obligations.LedgersAndDeadDies := by
  unfold Obligations.LedgersAndDeadDies
  refine ⟨fun s m h r tx z hz harr hkind => ?_, fun s m h r z hz harr hkind => ?_, fun s m i z x hz harr hkind hx => ?_,
    fun s n hn hlost hup => ?_, fun s n hn => ?_, fun s p addr die k l left tx a hfirst hl hdir hmode hk hleft => ?_,
    fun s p addr i l x hfirst hl hdir hx hon hwait htimed => ?_, fun s n hn => ?_⟩
  case refine_1 =>
    have hmoves := moves_answered tx z.dst h (lineCounted m h r s)
    refine ⟨_, congrArg Host.Outcome.next (ledgerIncrement_eq hz harr hkind), hmoves.mem, hmoves.regs, ?_, fun k hk => ?_, ?_⟩
    · rw [hmoves.cache, ledger_lineCounted]
      exact (SMapLaws.getD_upd_same s.cache.ledger (ledgerKey h r) 0 _)
    · rw [hmoves.cache, ledger_lineCounted]
      exact SMapLaws.getD_upd_other s.cache.ledger _ k 0 _ hk
    · rintro i rfl
      exact tells_sendMsg _ _ _ _ _ _ _
  case refine_2 =>
    refine ⟨(s.delMsg m).onCache (fun c => { c with ledger := (SMap.upd c.ledger (ledgerKey h r) 0 (· - 1)).filter (fun p => p.2 != 0) }), ?_,
      rfl, rfl, State.delMsg_none s m, fun p hp => by simpa using (List.mem_filter.1 hp).2, rfl, fun hmore => ?_⟩
    · refine congrArg Host.Outcome.next ?_
      unfold ledgerDecrement
      rw [hz]
      dsimp only
      rw [hkind, harr]
      rfl
    · exact getD_filter_nonzero (SMapLaws.getD_upd_same s.cache.ledger (ledgerKey h r) 0 (· - 1)) (by
        omega)
  case refine_3 =>
    obtain ⟨y, hy, hwait, hreply⟩ := counted_txn (s := s.delMsg m) (i := i) hx
    refine ⟨(s.delMsg m).counted i, y, congrArg Host.Outcome.next ?_, (settles_counted _ i).mem, hy, hwait, hreply⟩
    unfold ledgerAnswer
    rw [hz]
    dsimp only
    rw [hkind, harr]
    rfl
  case refine_4 =>
    refine ⟨_, congrArg Host.Outcome.next (ledgerDieChange_eq hn hlost hup), ?_, mem_addNum_self _ n, fun p hp => ?_, fun p hp r tx => ?_, ?_,
      keepsRegsBut_setF _ _ (List.mem_cons_self ..) ?_, rfl⟩
    · exact congrArg (fun x => Option.getD x ((n + 4) % 8)) (SMapLaws.get_put_same s.cache.ledgerDie n _)
    · simpa using (List.mem_filter.1 hp).2
    · have hkept := (List.mem_filter.1 hp).2
      constructor
      all_goals
        intro hkind
        simp [hkind] at hkept
    · rw [State.fld_setF_same _ _ _ _ (by decide)]
      change ((s.fld F.cshDeadStat_LEDGER_LOST R.cshDeadStat ||| 2 ^ n) % 2 ^ 8).testBit n = true
      rw [Nat.testBit_mod_two_pow, Nat.testBit_or, Nat.testBit_two_pow_self]
      simp [hn]
    · exact fun o _ => State.rd_congr s _ rfl rfl rfl o
  case refine_5 => 
    obtain ⟨f, heq, hf⟩ := ledgerWalkEnd_eq hn
    have hcounted : Settles (walkCounted n s) (ledgerWalkEnd n s) := by
      rw [heq]
      exact (settles_each (fun i t => settles_counted t i) _ _).trans (hf _).1
    refine ⟨_, rfl, ?_, hcounted.mem, fun p hp hdie l hl hrole hlc => ?_, fun i x hx hspace hslice => ?_⟩
    · rw [hcounted.ledgerWalk]
      exact not_mem_delNum_self _ n
    · rw [hcounted.ledger]
      refine ledgerWalkEnd_counts _ n _ (List.mem_flatMap.2 ⟨p, hp, ?_⟩)
      rw [if_pos hdie]
      exact List.mem_filter.2 ⟨hl, by simp [hrole, hlc]⟩
    · have hwaits : x.waitLedger = false ∨ i ∈ walkWaiters n s := by
        cases hw : x.waitLedger with
        | false => exact .inl rfl
        | true => exact .inr (List.mem_map.2 ⟨(i, x), List.mem_filter.2 ⟨mem_of_get hx, by simp [hspace, hslice, hw]⟩, rfl⟩)
      obtain ⟨y, hy, hwait⟩ := counted_each (s := walkCounted n s) hx hwaits
      rw [heq, State.txn?, (hf _).2]
      exact (congrArg (Option.map (·.waitLedger)) hy).trans (congrArg some hwait)
  case refine_6 =>
    obtain ⟨c, hc⟩ := find_silent (k := k) hl
    obtain ⟨b, hb, hbk⟩ := hleft
    let n : Line := { silenced true k l with counted := c }
    have hndir : n.dir = .recall (left.filter (fun x => x != k)) tx a := by
      change (silenced true k l).dir = _
      rw [silenced, hdir]
    have hmore : left.filter (fun x => x != k) ≠ [] := List.ne_nil_of_mem (List.mem_filter.2 ⟨hb, by simpa using hbk⟩)
    rw [hmode, Bool.true_or] at hc
    have hwaits : ∀ tx' after, n.dir ≠ .recall [] tx' after := fun tx' after h => by
      rw [hndir] at h
      exact hmore (Dir.recall.inj h).1
    have hnear : ((nearGivenUp p addr die l s).slice p).find addr l.idx = some n := by
      rw [nearGivenUp_recall hdir hmode hk, recallDone_waits hc hwaits]
      exact hc
    rcases find_ledgerGivenUp (die := die) hnear (fun tx d j => hwaits tx (.owner d j)) with h | h
    · exact ⟨_, n, congrArg Host.Outcome.next (homeTimeoutExpiry_eq hfirst), h, hndir, poison_lost l l.mirrored⟩
    · exact ⟨_, n.lose, congrArg Host.Outcome.next (homeTimeoutExpiry_eq hfirst), h, hndir, poison_lost n n.mirrored⟩
  case refine_7 =>
    have hlate := mem_lateCounts hx hon hwait htimed
    obtain ⟨y, hy, hwaits⟩ := counted_each (s := s.onLine p addr l.idx Line.lose) hx (.inr hlate)
    refine ⟨_, l.lose, rfl, ?_, poison_lost l l.mirrored, ?_⟩
    all_goals rw [homeTimeoutExpiry_eq hfirst, nearGivenUp_other hdir, ledgerGivenUp_late hlate]
    · exact find_lose_counted hl (fun tx d k => hdir [] tx (.owner d k))
    · rw [hy, Option.map_some, hwaits]
  case refine_8 =>
    have hworks : Works (s.onCache (fun c => { c with reclaim := delNum c.reclaim n })) (reclaimWalkEnd n s) := by
      rw [reclaimWalkEnd_eq hn]
      exact works_each (fun (p : Nat × Slice) t => works_each (fun (l : Line) t => works_reclaimLine t p.1 l n) _ t) _ _
    refine ⟨_, rfl, ?_, hworks.cells, fun p addr idx l hl hrole hdir hslices hlines => ?_⟩
    · rw [hworks.reclaim]
      exact not_mem_delNum_self _ n
    · obtain ⟨rfl, rfl⟩ := name_of_find hl
      have hone : reclaimWalkEnd n s = (s.onCache (fun c => { c with reclaim := delNum c.reclaim n })).reclaimLine p l n := by
        rw [reclaimWalkEnd_eq hn, hslices]
        change each ((s.slice p).lines.filter _) _ _ = _
        rw [hlines, List.filter_cons_of_pos (by simpa using hrole)]
        rfl
      rw [hone]
      exact reclaimLine_owned (s := s.onCache (fun c => { c with reclaim := delNum c.reclaim n })) hl hdir

end Sys2Proof.Machine
end

section
/-!
PROOF. Near copies: what a hit, a code error, a call-back and a departure do (R153 to R161, R174).
-/
namespace Sys2Proof.Machine.NearLaws
open MeshLaws SyndromeLaws CacheLaws

variable {s t u : State}

/-! ### Steps for each member of a list -/

/-- Two steps that do the same, wherever what every step keeps holds, do the same for each member of a list. -/
theorem each_congr {α : Type} {f g : α → State → State} {P : State → Prop} (l : List α) (hfg : ∀ a ∈ l, ∀ t, P t → f a t = g a t)
    (hkeep : ∀ a t, P t → P (g a t)) (s : State) (h : P s) : each l f s = each l g s := by
  induction l generalizing s with
  | nil => rfl
  | cons a l ih =>
    have hstep := hfg a (List.mem_cons_self ..) s h
    change each l f (f a s) = each l g (g a s)
    rw [hstep]
    exact ih (fun b hb => hfg b (List.mem_cons_of_mem _ hb)) _ (hkeep a s h)

/-! ### Transactions that set out -/

/-- A transaction that sets out changes the transactions and the mesh alone. -/
theorem sendTxn_only (s : State) (i : Nat) (vc : Vc) (st : Stage) (src dst : Nat) (frm stop : Stop) :
    s.sendTxn i vc st src dst frm stop =
      { s with txns := (s.sendTxn i vc st src dst frm stop).txns, mesh := (s.sendTxn i vc st src dst frm stop).mesh } := by
  unfold State.sendTxn State.sendFlit
  split <;> rfl

/-- It goes on in its new stage. -/
theorem stage_sendTxn {i : Nat} {x : Txn} (hx : s.txn? i = some x) (vc : Vc) (st : Stage) (src dst : Nat) (frm stop : Stop) :
    ((s.sendTxn i vc st src dst frm stop).txn? i).map (·.stage) = some st := by
  obtain ⟨b, c, h⟩ := txn_sendTxn_same hx vc st src dst frm stop
  rw [h, Option.map_some]

/-! ### Hits and code errors (R149, R150, R161) -/

/-- What a hit makes of a line. -/
def hitLine (s : State) (p b : Nat) (win : Option Nat) (l : Line) : Line :=
  if l.cls = .normal then
    { l with
      age := 2 ^ 64 + (s.slice p).clock
      cls := if decide (s.classOf win = .persist) && l.win == win && !s.quotaFull (s.setLines p b) win && decide (l.way < 14) then .persist
        else .normal }
  else l

theorem hitLine_eq (s : State) (p b : Nat) (win : Option Nat) (l : Line) : ∃ g k, hitLine s p b win l = { l with age := g, cls := k } := by
  unfold hitLine
  split
  · exact ⟨_, _, rfl⟩
  · exact ⟨l.age, l.cls, rfl⟩

theorem keepsName_hitLine (s : State) (p b : Nat) (win : Option Nat) : KeepsName (hitLine s p b win) := fun l => by
  obtain ⟨g, k, h⟩ := hitLine_eq s p b win l
  rw [h]
  exact ⟨rfl, rfl⟩

theorem find_clock (s : State) (p q a i : Nat) : ((s.onSlice p (fun x => { x with clock := x.clock + 1 })).slice q).find a i = (s.slice q).find a i := by
  by_cases hq : q = p
  · subst hq
    rw [State.slice_onSlice_same]
    rfl
  · rw [State.slice_onSlice_other s p q _ hq]

theorem find_touch {q a i : Nat} {n : Line} (hn : (s.slice q).find a i = some n) (p b j : Nat) (win : Option Nat) :
    ∃ g k, ((s.touch p b j win).slice q).find a i = some { n with age := g, cls := k } := by
  have htouch : ((s.touch p b j win).slice q).find a i = ((s.onLine p b j (hitLine s p b win)).slice q).find a i := find_clock _ p q a i
  by_cases h : q = p ∧ a = b ∧ i = j
  · obtain ⟨rfl, rfl, rfl⟩ := h
    obtain ⟨g, k, hhit⟩ := hitLine_eq s q a win n
    exact ⟨g, k, by rw [htouch, find_onLine_same _ _ _ _ (keepsName_hitLine s q a win), hn, Option.map_some, hhit]⟩
  · refine ⟨n.age, n.cls, ?_⟩
    rw [htouch, find_onLine_other _ _ _ _ _ _ _ (keepsName_hitLine s p b win) h]
    exact hn

theorem settles_sliceError (s : State) (p a i : Nat) (err : SliceError) : Settles s (s.sliceError p a i err) := by
  unfold State.sliceError
  split
  · exact .refl s
  · split
    · exact .refl s
    · exact settles_ite rfl (.refl s)
    · exact settles_ite rfl (.refl s)

theorem txns_sliceError (s : State) (p a i : Nat) (err : SliceError) : (s.sliceError p a i err).txns = s.txns := by
  unfold State.sliceError
  split
  · rfl
  · split
    · rfl
    · split <;> rfl
    · split <;> rfl

/-- A sector of a line is poisoned. -/
def spoiled (k : Nat) (l : Line) : Line := { l with secs := setNth l.secs k (fun c => { c with poison := true }) }

/-- The line stays, and its code spoils one sector at most. -/
theorem find_sliceError {p a i : Nat} {l : Line} (hl : (s.slice p).find a i = some l) (err : SliceError) :
    ((s.sliceError p a i err).slice p).find a i = some l ∨
      ∃ k, err = .double k ∧ ((s.sliceError p a i err).slice p).find a i = some (spoiled k l) := by
  unfold State.sliceError
  rw [hl]
  cases err with
  | none => exact .inl hl
  | single k =>
    dsimp only
    split
    · rw [State.slice_onSlice_same]
      exact .inl hl
    · exact .inl hl
  | double k =>
    dsimp only
    split
    · refine .inr ⟨k, rfl, ?_⟩
      have hname : KeepsName (spoiled k) := fun _ => ⟨rfl, rfl⟩
      refine (find_onLine_same _ p a i hname).trans ?_
      rw [State.slice_onSlice_same]
      exact congrArg (Option.map (spoiled k)) hl
    · exact .inl hl

/-- A sector that holds its bytes and has two bits in error is spoiled. -/
theorem find_sliceError_double {p a i k : Nat} {l : Line} (hl : (s.slice p).find a i = some l) (hk : k < 4)
    (hst : (secAt l.secs k).st ≠ .invalid) : ((s.sliceError p a i (.double k)).slice p).find a i = some (spoiled k l) := by
  unfold State.sliceError
  rw [hl]
  dsimp only
  rw [if_pos (by simp [hk, hst])]
  have hname : KeepsName (spoiled k) := fun _ => ⟨rfl, rfl⟩
  refine (find_onLine_same _ p a i hname).trans ?_
  rw [State.slice_onSlice_same]
  exact congrArg (Option.map (spoiled k)) hl

theorem secAt_spoiled {l : Line} {j : Nat} (k : Nat) (h : (secAt l.secs k).poison = true ∨ k = j ∧ (secAt l.secs k).st ≠ .invalid) :
    (secAt (spoiled j l).secs k).poison = true := by
  unfold secAt spoiled setNth at *
  simp only [List.getD_eq_getElem?_getD, List.getElem?_modify] at *
  cases hk : l.secs[k]? with
  | none =>
    rw [hk] at h
    simp [Sector.empty] at h
  | some c =>
    rw [hk] at h
    obtain h | ⟨rfl, -⟩ := h
    · by_cases hj : j = k
      · simp [hj]
      · simpa [hj] using h
    · simp

/-- The named sectors that hold all their bytes. -/
theorem whole_of_needs {l : Line} {secs k : Nat} (h : l.needs secs = []) (hk : k < 4) (hnamed : secs.testBit k = true) :
    (secAt l.secs k).st ≠ .invalid := by
  have hk' := List.filter_eq_nil_iff.1 h k (List.mem_range.2 hk)
  simp only [hnamed, Bool.true_and, Bool.not_eq_true', Bool.not_eq_false] at hk'
  intro hst
  simp [Sector.whole, hst] at hk'

/-- Bits that a fold sets one by one are set. -/
theorem testBit_foldl_or {c : Nat → Bool} {l : List Nat} {k : Nat} (hk : k ∈ l) (hc : c k = true) (p : Nat) :
    (l.foldl (fun a k => if c k then a ||| 2 ^ k else a) p).testBit k = true := by
  refine LoadLaws.foldl_reaches (f := fun (a k : Nat) => if c k then a ||| 2 ^ k else a) (P := fun a => a.testBit k = true) hk
    (fun a => ?_) (fun a ha j _ => ?_) p
  · rw [if_pos hc, Nat.testBit_or, Nat.testBit_two_pow_self, Bool.or_true]
  · split
    · rw [Nat.testBit_or, ha, Bool.true_or]
    · exact ha

/-! ### Messages that stay on their way -/

/-- A message that says `k` to die `d` is there, and its number is used up. -/
def Told (k : MsgKind) (d : Nat) (t : State) : Prop := ∃ j, j < t.nextId ∧ (t.msg? j).map Msg.says = some (k, d)

theorem Told.tells {k : MsgKind} {d : Nat} (h : Told k d t) : Tells k d t := by
  obtain ⟨j, -, hj⟩ := h
  exact tells_of_says hj

theorem nextId_sendMsg (s : State) (vc : Vc) (k : MsgKind) (src dst : Nat) (frm stop : Stop) :
    (s.sendMsg vc k src dst frm stop).nextId = s.nextId + 1 := by
  unfold State.sendMsg State.sendFlit
  split <;> rfl

theorem told_sendMsg_new (s : State) (vc : Vc) (k : MsgKind) (src dst : Nat) (frm stop : Stop) :
    Told k dst (s.sendMsg vc k src dst frm stop) :=
  ⟨s.nextId, by rw [nextId_sendMsg]; exact Nat.lt_succ_self _, says_sendMsg_new s vc k src dst frm stop⟩

theorem told_sendMsg_old {k : MsgKind} {d : Nat} (h : Told k d s) (vc : Vc) (k' : MsgKind) (src dst : Nat) (frm stop : Stop) :
    Told k d (s.sendMsg vc k' src dst frm stop) := by
  obtain ⟨j, hj, hsays⟩ := h
  refine ⟨j, by rw [nextId_sendMsg]; omega, ?_⟩
  rw [says_sendMsg_old s vc k' src dst frm stop j (by omega)]
  exact hsays

/-! ### Call-backs (R157) -/

/-- What a near copy is told: a sharer to drop its copy, an owner to send its bytes. -/
def callKind (k idx addr : Nat) : MsgKind := if k < 8 then .invalidate idx addr else .recall idx addr

/-- The call to one near copy of a line. -/
def call (p addr idx k : Nat) (s : State) : State :=
  s.sendMsg .response (callKind k idx addr) (p / 33) (k % 8) (idxStop idx) (idxStop idx)

/-- The calls to the near copies of a line, of which none is lost. -/
def calls (p addr idx : Nat) (ks : List Nat) (s : State) : State := each ks (call p addr idx) s

theorem moves_calls (p addr idx : Nat) (ks : List Nat) (s : State) : Moves s (calls p addr idx ks s) :=
  each_keeps (P := Moves s) ks (fun _ _ t ht => ht.trans (moves_sendMsg t _ _ _ _ _ _)) s (.refl s)

theorem told_calls {p addr idx k : Nat} {ks : List Nat} (hk : k ∈ ks) (s : State) :
    Told (callKind k idx addr) (k % 8) (calls p addr idx ks s) :=
  each_reaches (f := call p addr idx) (P := Told (callKind k idx addr) (k % 8)) hk (fun t => told_sendMsg_new t _ _ _ _ _ _)
    (fun _ _ ht => told_sendMsg_old ht _ _ _ _ _ _) s

/-- In timeout mode a recall is noted to be timed. -/
def timed (addr idx : Nat) (s : State) : State :=
  if s.bit F.cshCtrl_DEAD_MODE R.cshCtrl then
    s.onCache (fun c => { c with timeoutMode := addNum c.timeoutMode (lineKey addr idx) }) else s

/-- The line in RECALL. -/
def recalled (p addr idx : Nat) (ks : List Nat) (tx : Option Nat) (after : After) (s : State) : State :=
  timed addr idx (s.onLine p addr idx (fun l => { l with dir := .recall ks tx after }))

theorem timed_cases (addr idx : Nat) (s : State) :
    timed addr idx s = s ∨ timed addr idx s = s.onCache (fun c => { c with timeoutMode := addNum c.timeoutMode (lineKey addr idx) }) := by
  unfold timed
  split
  · exact .inr rfl
  · exact .inl rfl

theorem settles_recalled (p addr idx : Nat) (ks : List Nat) (tx : Option Nat) (after : After) (s : State) :
    Settles s (recalled p addr idx ks tx after s) := by
  have hline := settles_onLine s p addr idx (fun l => { l with dir := .recall ks tx after })
  unfold recalled
  obtain h | h := timed_cases addr idx (s.onLine p addr idx (fun l => { l with dir := .recall ks tx after }))
  · rw [h]
    exact hline
  · rw [h]
    exact hline.trans (settles_timeoutMode _ (fun l => addNum l (lineKey addr idx)))

theorem txns_recalled (p addr idx : Nat) (ks : List Nat) (tx : Option Nat) (after : After) (s : State) :
    (recalled p addr idx ks tx after s).txns = s.txns := by
  unfold recalled
  obtain h | h := timed_cases addr idx (s.onLine p addr idx (fun l => { l with dir := .recall ks tx after }))
  · rw [h]
    rfl
  · rw [h]
    rfl

theorem find_recalled {p addr idx : Nat} {l : Line} (hl : (s.slice p).find addr idx = some l) (ks : List Nat) (tx : Option Nat) (after : After) :
    ((recalled p addr idx ks tx after s).slice p).find addr idx = some { l with dir := .recall ks tx after } := by
  have hline := find_onLine_same s p addr idx (keepsName_dir (fun _ => .recall ks tx after))
  rw [hl, Option.map_some] at hline
  unfold recalled
  obtain h | h := timed_cases addr idx (s.onLine p addr idx (fun l => { l with dir := .recall ks tx after }))
  · rw [h]
    exact hline
  · rw [h]
    exact hline

/-- Where none of the dies is lost, the near copies are called and their answers awaited. -/
theorem callBack_calls {ks : List Nat} (h : ∀ k ∈ ks, s.baseLost (k % 8) = false) (p addr idx : Nat) (tx : Option Nat) (after : After) :
    s.callBack p addr idx ks tx after = (calls p addr idx ks (recalled p addr idx ks tx after s)).recallDone p addr idx := by
  have hlost : ∀ t, Settles s t → ∀ d, t.baseLost d = s.baseLost d := fun t ht d => by rw [State.baseLost, ht.fld, State.baseLost]
  refine congrArg (State.recallDone p addr idx) (each_congr (P := Settles s) ks (fun k hk t ht => ?_) (fun _ t ht => ?_)
    (recalled p addr idx ks tx after s) (settles_recalled ..))
  · rw [if_neg]
    · rfl
    · rw [hlost t ht, h k hk]
      exact Bool.false_ne_true
  · exact ht.trans (settles_sendMsg t _ _ _ _ _ _)

theorem works_callBack (s : State) (p addr idx : Nat) (ks : List Nat) (tx : Option Nat) (after : After) : Works s (s.callBack p addr idx ks tx after) := by
  have hcalled : Works s (each ks (fun k s => if s.baseLost (k % 8) then s.silent p addr idx k
      else s.sendMsg .response (callKind k idx addr) (p / 33) (k % 8) (idxStop idx) (idxStop idx)) (recalled p addr idx ks tx after s)) :=
    (settles_recalled ..).works.trans (works_each (fun k t => works_ite (settles_silent t _ _ _ _).works (settles_sendMsg t _ _ _ _ _ _).works) ks _)
  exact hcalled.trans (works_recallDone _ p addr idx)

theorem find_calls {p addr idx q a i : Nat} {ks : List Nat} : ((calls p addr idx ks s).slice q).find a i = (s.slice q).find a i := by
  rw [slice_congr (moves_calls p addr idx ks s).cache]

end Sys2Proof.Machine.NearLaws
end

section
/-!
PROOF. O26: near copies, ownership, and lines that leave (R153 to R157, R159, R161, R162, R174).
-/
namespace Sys2Proof.Machine.NearLaws
open MeshLaws SyndromeLaws CacheLaws

variable {s t u : State} {i : Nat} {x : Txn}

/-! ### Reads at a near slice (R154) -/

/-- A read on its line: it takes the line's bytes, and the marks of its named sectors. -/
def readFrom (l : Line) (bad : Nat → Bool) (x : Txn) : Txn :=
  { x with
    data := l.secs.flatMap (fun c => c.data)
    poison := (List.range 4).foldl (fun a k => if x.secs.testBit k && bad k then a ||| 2 ^ k else a) x.poison }

/-- Whether a slice finds a sector of a line poisoned. -/
def badAt (s : State) (q a j k : Nat) : Bool := ((s.slice q).find a j).any (fun l => (secAt l.secs k).poison)

theorem nearRead_hit {l : Line} (hx : s.txn? i = some x) (hst : x.stage = .near) (hmov : x.moving = false) (hop : x.op = .read)
    (hl : (s.slice (s.nearSlice x.die x.idx)).find x.addr x.idx = some l) (hneeds : l.needs x.secs = []) (err : SliceError) :
    let v := s.sliceError (s.nearSlice x.die x.idx) x.addr x.idx err
    nearRead i err s = ((v.touch (s.nearSlice x.die x.idx) x.addr x.idx x.win).onTxn i
      (readFrom l (badAt v (s.nearSlice x.die x.idx) x.addr x.idx))).replyTxn i x.die (idxStop x.idx) := by
  unfold nearRead
  rw [hx]
  dsimp only
  rw [hmov, hop, hst, hl]
  dsimp only
  rw [hneeds]
  rfl

theorem nearRead_miss (hx : s.txn? i = some x) (hst : x.stage = .near) (hmov : x.moving = false) (hop : x.op = .read)
    (hl : ∀ l, (s.slice (s.nearSlice x.die x.idx)).find x.addr x.idx = some l → l.needs x.secs ≠ []) (err : SliceError) :
    nearRead i err s = s.sendTxn i .request .home x.die (s.idxDie x.idx) (idxStop x.idx) (idxStop x.idx) := by
  unfold nearRead
  rw [hx]
  dsimp only
  rw [hmov, hop, hst]
  cases hfind : (s.slice (s.nearSlice x.die x.idx)).find x.addr x.idx with
  | none => rfl
  | some l =>
    dsimp only
    rw [if_neg (c := (l.needs x.secs).isEmpty = true) (by simpa using hl l hfind)]
    rfl

/-- A named sector that was poisoned, or has just been found so, is marked in the answer. -/
theorem badAt_sliceError {q a j k : Nat} {l : Line} {secs : Nat} {err : SliceError} (hl : (s.slice q).find a j = some l)
    (hneeds : l.needs secs = []) (hk : k < 4) (hnamed : secs.testBit k = true) (hbad : (secAt l.secs k).poison = true ∨ err = .double k) :
    badAt (s.sliceError q a j err) q a j k = true := by
  unfold badAt
  have hst := whole_of_needs hneeds hk hnamed
  obtain hpoison | rfl := hbad
  · obtain hkept | ⟨m, -, hspoiled⟩ := find_sliceError hl err
    · rw [hkept]
      exact hpoison
    · rw [hspoiled]
      exact secAt_spoiled k (.inl hpoison)
  · rw [find_sliceError_double hl hk hst]
    exact secAt_spoiled k (.inr ⟨rfl, hst⟩)

/-! ### Stores at a near slice (R155) -/

theorem keepsName_store (x : Txn) : KeepsName (Line.store x) := fun _ => ⟨rfl, rfl⟩

theorem nearStore_owned {l : Line} (hx : s.txn? i = some x) (hst : x.stage = .near) (hmov : x.moving = false) (hop : x.op = .store)
    (hans : x.waitAns = false) (hmir : x.mirrored = false) (hl : (s.slice (s.nearSlice x.die x.idx)).find x.addr x.idx = some l)
    (hrole : l.role = .owned) :
    nearStore i s = (((s.onLine (s.nearSlice x.die x.idx) x.addr x.idx (Line.store x)).touch (s.nearSlice x.die x.idx) x.addr x.idx x.win).onTxn i
      (fun t => { t with poison := 0 })).replyTxn i x.die (idxStop x.idx) := by
  unfold nearStore Txn.isStore
  rw [hx]
  dsimp only
  rw [hst, hmov, hop, hans, hmir, hl]
  dsimp only
  rw [hrole]
  rfl

theorem nearStore_ask (hx : s.txn? i = some x) (hst : x.stage = .near) (hmov : x.moving = false) (hop : x.op = .store)
    (hans : x.waitAns = false) (hmir : x.mirrored = false)
    (hl : ∀ l, (s.slice (s.nearSlice x.die x.idx)).find x.addr x.idx = some l → l.role ≠ .owned)
    (hfirst : ∀ p ∈ s.txns, p.2.onLine x.addr x.idx = true → p.2.stage = .near → p.2.die = x.die → p.2.waitAns = false) :
    nearStore i s = (s.onTxn i (fun t => { t with waitAns := true })).sendMsg .request (.ownRequest i) x.die (s.idxDie x.idx)
      (idxStop x.idx) (idxStop x.idx) := by
  have hask : nearStore.ask i s x = (s.onTxn i (fun t => { t with waitAns := true })).sendMsg .request (.ownRequest i) x.die (s.idxDie x.idx)
      (idxStop x.idx) (idxStop x.idx) := by
    unfold nearStore.ask
    rw [if_neg]
    rw [Bool.not_eq_true, List.any_eq_false]
    intro p hp h
    simp only [Bool.and_eq_true, beq_iff_eq] at h
    obtain ⟨⟨⟨hon, hnear⟩, hdie⟩, hwait⟩ := h
    rw [hfirst p hp hon hnear hdie] at hwait
    exact Bool.false_ne_true hwait
  unfold nearStore Txn.isStore
  rw [hx]
  dsimp only
  rw [hst, hmov, hop, hans, hmir]
  cases hfind : (s.slice (s.nearSlice x.die x.idx)).find x.addr x.idx with
  | none => exact hask
  | some l =>
    dsimp only
    rw [if_neg (c := l.role = Role.owned) (hl l hfind)]
    exact hask

theorem nearStore_mirrored (hx : s.txn? i = some x) (hst : x.stage = .near) (hmov : x.moving = false) (hop : x.op = .store)
    (hans : x.waitAns = false) (hmir : x.mirrored = true) :
    nearStore i s = s.sendTxn i x.vc .home x.die (s.idxDie x.idx) (idxStop x.idx) (idxStop x.idx) := by
  unfold nearStore Txn.isStore
  rw [hx]
  dsimp only
  rw [hst, hmov, hop, hans, hmir]
  rfl

/-! ### Requests for ownership at the home (R155, R157, R174) -/

theorem ownershipRequest_serves {m : Nat} {z : Msg} {l : Line} (hz : s.msg? m = some z) (hkind : z.kind = .ownRequest i) (harr : z.arrived = true)
    (hx : s.txn? i = some x) (hbusy : s.lineBusy x.addr x.idx false = false) (hfirst : s.firstWaiting (s.physSlice x.idx) x.addr x.idx = none)
    (hcame : s.cameFirst (s.physSlice x.idx) x.addr x.idx z.came = false) (hwait : Waiter.msg m ∉ (s.slice (s.physSlice x.idx)).waiting)
    (hl : (s.slice (s.physSlice x.idx)).find x.addr x.idx = some l) : ∃ g k,
    let v := (s.touch (s.physSlice x.idx) x.addr x.idx x.win).delMsg m
    (v.slice (s.physSlice x.idx)).find x.addr x.idx = some { l with age := g, cls := k } ∧
    ownershipRequest m s = v.callBack (s.physSlice x.idx) x.addr x.idx (l.dir.copies.filter (fun k => k != x.die)) (some i) (.owner x.die i) := by
  obtain ⟨g, k, htouch⟩ := find_touch hl (s.physSlice x.idx) x.addr x.idx x.win
  refine ⟨g, k, htouch, ?_⟩
  have hserve : ownershipRequest m s = s.serveOwn m i x := by
    unfold ownershipRequest
    rw [hz]
    dsimp only
    rw [hkind]
    dsimp only
    rw [hx]
    dsimp only
    rw [harr, hcame, hbusy, hfirst, if_neg (by simpa using hwait)]
    rfl
  rw [hserve, State.serveOwn]
  dsimp only
  rw [hl]
  dsimp only
  rw [htouch]
  rfl

/-- Where no other near copy is, ownership of a line that is counted is granted at once. -/
theorem callBack_grants {p a j d : Nat} {l : Line} (hl : (s.slice p).find a j = some l) (hcounted : l.counted = true) (hx : s.txn? i = some x)
    (hwait : x.waitLedger = false) (hwalk : s.cache.ledgerWalk.contains (p / 33) = false) :
    ((s.callBack p a j [] (some i) (.owner d i)).slice p).find a j = some { l with dir := .owned d } ∧
    Tells (.ownGrant i) d (s.callBack p a j [] (some i) (.owner d i)) := by
  let v := recalled p a j [] (some i) (.owner d i) s
  let w := v.onCache (fun c => { c with timeoutMode := delNum c.timeoutMode (lineKey a j) })
  have hv : (v.slice p).find a j = some { l with dir := .recall [] (some i) (.owner d i) } := find_recalled hl _ _ _
  have hcalls : s.callBack p a j [] (some i) (.owner d i) = v.recallDone p a j :=
    callBack_calls (fun k hk => absurd hk List.not_mem_nil) p a j (some i) (.owner d i)
  have hcount : w.count1 p a j (some i) = w := by
    unfold State.count1
    rw [show (w.slice p).find a j = _ from hv]
    dsimp only
    rw [hcounted]
    rfl
  have hgrant : w.grantTry p a j =
      (w.onLine p a j (fun l => { l with dir := .owned d })).sendMsg .response (.ownGrant i) (p / 33) d (idxStop j) (idxStop j) := by
    have htxn : w.txn? i = some x := (congrArg (fun m => SMap.get? m i) (txns_recalled p a j [] (some i) (.owner d i) s)).trans hx
    have hwalking : w.ledgerWalking (p / 33) = false :=
      (congrArg (fun l : List Nat => l.contains (p / 33)) (settles_recalled p a j [] (some i) (.owner d i) s).ledgerWalk).trans hwalk
    unfold State.grantTry
    rw [show (w.slice p).find a j = _ from hv]
    dsimp only
    rw [htxn, hwalking, Option.any_some, hwait]
    rfl
  have hdone : v.recallDone p a j =
      (w.onLine p a j (fun l => { l with dir := .owned d })).sendMsg .response (.ownGrant i) (p / 33) d (idxStop j) (idxStop j) := by
    rw [← hgrant]
    conv_rhs => rw [← hcount]
    unfold State.recallDone
    rw [hv]
  rw [hcalls, hdone]
  refine ⟨?_, tells_sendMsg _ _ _ _ _ _ _⟩
  rw [slice_congr (moves_sendMsg _ _ _ _ _ _ _).cache, find_onLine_same _ _ _ _ (keepsName_dir (fun _ => .owned d))]
  exact congrArg (Option.map _) hv

/-- Where other near copies are, they are called back, and their answers awaited. -/
theorem callBack_waits {p a j : Nat} {l : Line} {ks : List Nat} (hl : (s.slice p).find a j = some l) (hks : ks ≠ [])
    (hlost : ∀ k ∈ ks, s.baseLost (k % 8) = false) (tx : Option Nat) (after : After) :
    ((s.callBack p a j ks tx after).slice p).find a j = some { l with dir := .recall ks tx after } ∧
    ∀ k ∈ ks, Tells (callKind k j a) (k % 8) (s.callBack p a j ks tx after) := by
  have hv := find_recalled hl ks tx after
  rw [← find_calls (p := p) (addr := a) (idx := j) (ks := ks)] at hv
  rw [callBack_calls hlost p a j tx after, recallDone_waits hv (fun tx' after' h => hks (Dir.recall.inj h).1)]
  exact ⟨hv, fun k hk => (told_calls hk _).tells⟩

/-! ### A grant reaches the near slice (R155) -/

/-- The state with a line placed. -/
theorem find_newLine {p a j w : Nat} (hnone : (s.slice p).find a j = none) (role : Role) (win hoop : Option Nat) (c : Machine.Class) (b : Bool) :
    ∃ g, ((s.newLine p a j role win hoop w c b).slice p).find a j = some (Line.fresh a j role win hoop w c g) := by
  refine ⟨ageOf c (s.slice p).clock, ?_⟩
  have hadd : ((s.onSlice p (fun x => { x with
      lines := x.lines ++ [Line.fresh a j role win hoop w c (ageOf c x.clock)], clock := x.clock + 1 })).slice p).find a j =
      some (Line.fresh a j role win hoop w c (ageOf c (s.slice p).clock)) := by
    rw [State.slice_onSlice_same]
    exact find_append_new (s.slice p) (Line.fresh a j role win hoop w c (ageOf c (s.slice p).clock)) hnone _
  unfold State.newLine
  dsimp only
  split
  · split
    · exact hadd
    · exact hadd
  · exact hadd

theorem ownershipGrant_eq {m w : Nat} {z : Msg} {c : Machine.Class} {b : Bool} (hz : s.msg? m = some z) (hkind : z.kind = .ownGrant i)
    (harr : z.arrived = true) (hx : s.txn? i = some x) (hnone : (s.slice (s.nearSlice x.die x.idx)).find x.addr x.idx = none)
    (hroom : s.roomFor (s.nearSlice x.die x.idx) x.addr x.win x.hoop = .way w c none b) :
    ownershipGrant m s = ((((s.newLine (s.nearSlice x.die x.idx) x.addr x.idx .owned x.win x.hoop w c b).delMsg m).onLine
      (s.nearSlice x.die x.idx) x.addr x.idx (fun l => Line.store x { l with role := .owned })).onTxn i
        (fun t => { t with waitAns := false, poison := 0 })).replyTxn i x.die (idxStop x.idx) := by
  unfold ownershipGrant
  rw [hz]
  dsimp only
  rw [hkind]
  dsimp only
  rw [hx]
  dsimp only
  rw [harr, hnone]
  dsimp only
  rw [State.makeRoom, hroom]
  rfl

theorem txns_newLine (s : State) (p a j w : Nat) (role : Role) (win hoop : Option Nat) (c : Machine.Class) (b : Bool) :
    (s.newLine p a j role win hoop w c b).txns = s.txns := by
  unfold State.newLine
  dsimp only
  split
  · split <;> rfl
  · rfl

/-- A store on a line allocated with no sectors present. -/
theorem secs_store_fresh (x : Txn) (a j w g : Nat) (win hoop : Option Nat) (c : Machine.Class) :
    (Line.store x { Line.fresh a j .owned win hoop w c g with role := .owned }).secs = (List.range 4).map (fun k => if x.secs.testBit k then
      Sector.empty.store (cut x.data (32 * k) 32) (secMask x.mask k) (x.poison.testBit k) else Sector.empty) := by
  refine List.map_congr_left fun k hk => ?_
  have hempty : secAt (List.replicate 4 Sector.empty) k = Sector.empty := by
    rw [secAt, List.getD_replicate _ (List.mem_range.1 hk)]
  change (if x.secs.testBit k then (secAt (List.replicate 4 Sector.empty) k).store _ _ _ else secAt (List.replicate 4 Sector.empty) k) = _
  rw [hempty]

/-! ### Near copies are dropped (R157) -/

theorem nearInvalidate_eq {m idx addr : Nat} {z : Msg} (hz : s.msg? m = some z) (hkind : z.kind = .invalidate idx addr) (harr : z.arrived = true) :
    nearInvalidate m s = (((s.copyLeaves (s.nearSlice z.dst idx) addr idx).dropLine (s.nearSlice z.dst idx) addr idx).delMsg m).sendMsg .response
      (.answer idx addr z.dst []) z.dst (s.idxDie idx) (idxStop idx) (idxStop idx) := by
  unfold nearInvalidate
  rw [hz]
  dsimp only
  rw [hkind, harr]
  rfl

/-- The dirty bytes that an owner's copy sends home. -/
def ownedBytes (s : State) (q addr idx : Nat) : List (Nat × Bytes × Nat × Bool) :=
  match (s.slice q).find addr idx with | some l => if l.role = .owned then l.dirtySecs else [] | none => []

theorem nearRecall_eq {m idx addr : Nat} {z : Msg} (hz : s.msg? m = some z) (hkind : z.kind = .recall idx addr) (harr : z.arrived = true)
    (hgrant : s.grantOut z.dst addr idx = false) :
    nearRecall m s = (((s.copyLeaves (s.nearSlice z.dst idx) addr idx).dropLine (s.nearSlice z.dst idx) addr idx).delMsg m).sendMsg .response
      (.answer idx addr z.dst (ownedBytes s (s.nearSlice z.dst idx) addr idx)) z.dst (s.idxDie idx) (idxStop idx) (idxStop idx) := by
  unfold nearRecall
  rw [hz]
  dsimp only
  rw [hkind]
  dsimp only
  rw [harr, hgrant]
  rfl

theorem find_sendMsg (s : State) (vc : Vc) (k : MsgKind) (src dst : Nat) (frm stop : Stop) (q a j : Nat) :
    ((s.sendMsg vc k src dst frm stop).slice q).find a j = (s.slice q).find a j := by
  rw [slice_congr (moves_sendMsg s vc k src dst frm stop).cache]

/-! ### Answers of near copies (R155, R157) -/

theorem keepsName_mergeSecs (secs : List (Nat × Bytes × Nat × Bool)) : KeepsName (Line.mergeSecs secs) := fun _ => ⟨rfl, rfl⟩

theorem takeBack_line {p a j : Nat} {l : Line} (hl : (s.slice p).find a j = some l) (secs : List (Nat × Bytes × Nat × Bool)) :
    s.takeBack p a j secs = s.onLine p a j (Line.mergeSecs secs) := by
  rw [State.takeBack, hl]

/-- A directory that awaits answers, without that of a die. -/
def Dir.without (die : Nat) : Dir → Dir
  | .recall left t a => .recall (left.filter (fun k => k % 8 != die)) t a
  | d => d

theorem directoryAnswer_answer {m idx addr die : Nat} {secs : List (Nat × Bytes × Nat × Bool)} {z : Msg} {l : Line} (hz : s.msg? m = some z)
    (hkind : z.kind = .answer idx addr die secs) (harr : z.arrived = true) (hl : (s.slice (s.physSlice idx)).find addr idx = some l) :
    directoryAnswer m s = ((((s.delMsg m).onLine (s.physSlice idx) addr idx (Line.mergeSecs (z.marked secs))).count1 (s.physSlice idx) addr idx
      none).onLine (s.physSlice idx) addr idx (fun l => { l with dir := Dir.without die l.dir })).recallDone (s.physSlice idx) addr idx := by
  unfold directoryAnswer
  rw [hz]
  dsimp only
  rw [harr, hkind]
  dsimp only
  rw [takeBack_line (s := s.delMsg m) hl]
  rfl

theorem directoryAnswer_evicted {m idx addr die : Nat} {secs : List (Nat × Bytes × Nat × Bool)} {z : Msg} {l : Line} (hz : s.msg? m = some z)
    (hkind : z.kind = .evicted idx addr die secs) (harr : z.arrived = true) (hl : (s.slice (s.physSlice idx)).find addr idx = some l) :
    directoryAnswer m s = ((((s.delMsg m).onLine (s.physSlice idx) addr idx (Line.mergeSecs (z.marked secs))).onLine (s.physSlice idx) addr idx
      (fun l => { l with dir := if l.dir = .owned die then .none else l.dir })).count1 (s.physSlice idx) addr idx none).uncount
        (s.physSlice idx) addr idx := by
  unfold directoryAnswer
  rw [hz]
  dsimp only
  rw [harr, hkind]
  dsimp only
  rw [takeBack_line (s := s.delMsg m) hl]
  rfl

/-- The line at its home when the bytes of an answer are merged and its die has left the directory. -/
theorem find_answered {p a j die : Nat} {l : Line} (hl : (s.slice p).find a j = some l) (m : Nat) (secs : List (Nat × Bytes × Nat × Bool)) :
    ∃ c, (((((s.delMsg m).onLine p a j (Line.mergeSecs secs)).count1 p a j none).onLine p a j
      (fun l => { l with dir := Dir.without die l.dir })).slice p).find a j =
        some { l.mergeSecs secs with dir := Dir.without die l.dir, counted := c } := by
  have hmerged := find_onLine_same (s.delMsg m) p a j (keepsName_mergeSecs secs)
  rw [show ((s.delMsg m).slice p).find a j = some l from hl, Option.map_some] at hmerged
  obtain ⟨c, hc⟩ := (sameLines_count1 ((s.delMsg m).onLine p a j (Line.mergeSecs secs)) p a j).line hmerged
  refine ⟨c, ?_⟩
  rw [find_onLine_same _ _ _ _ (keepsName_dir (Dir.without die)), hc]
  rfl

/-- The last near copy has answered: the directory is free, and the transaction waits for no answer any more. -/
theorem recallDone_frees {p a j : Nat} {l : Line} (hl : (s.slice p).find a j = some l) (hdir : l.dir = .recall [] (some i) .none)
    (hx : s.txn? i = some x) : ∃ c, ((s.recallDone p a j).slice p).find a j = some { l with dir := .none, counted := c } ∧
    ((s.recallDone p a j).txn? i).map (·.waitAns) = some false := by
  let v := ((s.onCache (fun c => { c with timeoutMode := delNum c.timeoutMode (lineKey a j) })).onLine p a j
    (fun l => { l with dir := .none })).onTxn i (fun t => { t with waitAns := false })
  have heq : s.recallDone p a j = (v.ackTry i).uncount p a j := by
    unfold State.recallDone
    rw [hl]
    dsimp only
    rw [hdir]
  have hline : (v.slice p).find a j = some { l with dir := .none } := by
    refine (find_onLine_same _ p a j (keepsName_dir (fun _ => .none))).trans ?_
    exact congrArg (Option.map _) hl
  have htxn : v.txn? i = some { x with waitAns := false } := txn_onTxn_same (s := (s.onCache (fun c => { c with
    timeoutMode := delNum c.timeoutMode (lineKey a j) })).onLine p a j (fun l => { l with dir := .none })) hx _
  obtain ⟨c, hc⟩ := ((moves_ackTry v i).sameLines.trans (sameLines_uncount (v.ackTry i) p a j)).line hline
  obtain ⟨st, b, k, hk⟩ := keepsAsked_ackTry v i i _ htxn
  refine ⟨c, by rw [heq]; exact hc, ?_⟩
  rw [heq, State.txn?, txns_uncount]
  exact (congrArg (Option.map (·.waitAns)) hk).trans rfl

/-! ### Lines that leave (R157, R162) -/

/-- A line found by its role has the address that was asked for. -/
theorem of_find_role {ls : List Line} {a : Nat} {r : Role} {l : Line} (h : ls.find? (fun x => x.addr = a && x.role = r) = some l) :
    l.addr = a ∧ l.role = r := by
  simpa using List.find?_some h

theorem nearEvict_eq {p addr : Nat} {l : Line} (hl : (s.slice p).lines.find? (fun x => x.addr = addr && x.role = .owned) = some l)
    (hcls : l.cls ≠ .persist) :
    nearEvict p addr s = ((s.copyLeaves p addr l.idx).dropLine p addr l.idx).sendMsg .response (.evicted l.idx addr (p / 33) l.dirtySecs) (p / 33)
      (s.idxDie l.idx) (idxStop l.idx) (idxStop l.idx) := by
  obtain ⟨rfl, hrole⟩ := of_find_role hl
  unfold nearEvict
  rw [hl]
  dsimp only
  rw [if_neg hcls, State.vacate, hrole]

/-- A home line without near copies leaves as its code finds it. -/
theorem homeEvict_eq {p addr : Nat} {l : Line} (hrole : (s.slice p).lines.find? (fun x => x.addr = addr && x.role = .home) = some l)
    (hl : (s.slice p).find addr l.idx = some l) (hlocked : s.locked l = false) (hcopies : l.dir.copies = []) (hcls : l.cls ≠ .persist)
    (err : SliceError) : ∃ n, (n = l ∨ ∃ k, err = .double k ∧ n = spoiled k l) ∧
      homeEvict p addr err s = ((s.sliceError p addr l.idx err).writeBack (p / 33) (idxStop l.idx) addr n.dirtySecs n.counted).dropLine p addr l.idx := by
  obtain ⟨rfl, -⟩ := of_find_role hrole
  have hevict : ∀ n : Line, ((s.sliceError p l.addr l.idx err).slice p).find l.addr l.idx = some n → n.dir = l.dir → n.addr = l.addr →
      n.idx = l.idx → homeEvict p l.addr err s =
        ((s.sliceError p l.addr l.idx err).writeBack (p / 33) (idxStop l.idx) l.addr n.dirtySecs n.counted).dropLine p l.addr l.idx := by
    intro n hn hdir haddr hidx
    unfold homeEvict
    rw [hrole]
    dsimp only
    rw [hlocked, if_neg (by simp [hcls]), hn]
    dsimp only
    rw [hdir, hcopies, State.dropHome, haddr, hidx]
    rfl
  obtain hkept | ⟨k, herr, hspoiled⟩ := find_sliceError hl err
  · exact ⟨l, .inl rfl, hevict l hkept rfl rfl rfl⟩
  · exact ⟨spoiled k l, .inr ⟨k, herr, rfl⟩, hevict _ hspoiled rfl rfl rfl⟩

/-! ### Write-backs (R148) -/

/-- What a request to a controller carries. -/
def carries (q : CtlReq) : Nat × Bool × Bytes × Nat × Bool := (q.sector, q.write, q.data, q.mask, q.poison)

/-- A request that carries this has been made, and its number is used up. -/
def Asked (c : Nat × Bool × Bytes × Nat × Bool) (t : State) : Prop :=
  ∃ r, r < t.mem.nextReq ∧ (SMap.get? t.mem.reqs r).map carries = some c

/-- A request on its way, or arrived at once, carries what it carried. -/
theorem carries_sendFlit (s : State) (vc : Vc) (src dst : Nat) (frm stop : Stop) (n r : Nat) :
    (SMap.get? (s.sendFlit vc src dst frm stop (.ctl n)).mem.reqs r).map carries = (SMap.get? s.mem.reqs r).map carries ∧
    (s.sendFlit vc src dst frm stop (.ctl n)).mem.nextReq = s.mem.nextReq := by
  unfold State.sendFlit
  split
  · refine ⟨?_, rfl⟩
    have hmod := SMapLaws.get_modify s.mem.reqs n r (fun q => { q with
      moving := false, came := if q.done then q.came else s.mesh.clock, poison := q.poison || (false && q.write != q.done) })
    refine (congrArg (Option.map carries) hmod).trans ?_
    split
    · rw [Option.map_map]
      refine congrArg (fun f => (SMap.get? s.mem.reqs r).map f) (funext fun q => ?_)
      simp [carries]
    · rfl
  · exact ⟨rfl, rfl⟩

/-- A request sent takes the next number, and leaves what the others carry. -/
theorem carries_ask (s : State) (q : CtlReq) (r : Nat) :
    (SMap.get? (s.ask q).mem.reqs r).map carries = (if r = s.mem.nextReq then some (carries q) else (SMap.get? s.mem.reqs r).map carries) ∧
    (s.ask q).mem.nextReq = s.mem.nextReq + 1 := by
  have hput : ∀ p : CtlReq, carries p = carries q → (SMap.get? (SMap.put s.mem.reqs s.mem.nextReq p) r).map carries =
      if r = s.mem.nextReq then some (carries q) else (SMap.get? s.mem.reqs r).map carries := fun p hp => by
    by_cases hr : r = s.mem.nextReq
    · rw [if_pos hr, hr, SMapLaws.get_put_same, Option.map_some, hp]
    · rw [if_neg hr, SMapLaws.get_put_other _ _ _ _ hr]
  unfold State.ask
  dsimp only
  split
  · obtain ⟨hreqs, hnext⟩ := carries_sendFlit (s.onMem (fun m => { m with
      reqs := SMap.put m.reqs s.mem.nextReq { q with moving := true }, nextReq := s.mem.nextReq + 1 })) .request q.die (chanDie q.chan) q.stop
        (ctlStop q.chan) s.mem.nextReq r
    exact ⟨hreqs.trans (hput { q with moving := true } rfl), hnext⟩
  · exact ⟨hput { q with done := true, status := 0x40 } rfl, rfl⟩

theorem asked_ask_new (s : State) (q : CtlReq) : Asked (carries q) (s.ask q) := by
  obtain ⟨hreqs, hnext⟩ := carries_ask s q s.mem.nextReq
  exact ⟨s.mem.nextReq, by omega, by rw [hreqs, if_pos rfl]⟩

theorem asked_ask_old {c : Nat × Bool × Bytes × Nat × Bool} (h : Asked c s) (q : CtlReq) : Asked c (s.ask q) := by
  obtain ⟨r, hr, hc⟩ := h
  obtain ⟨hreqs, hnext⟩ := carries_ask s q r
  exact ⟨r, by omega, by rw [hreqs, if_neg (by omega)]; exact hc⟩

/-- Every dirty sector whose channel can be reached is written back under its mask. -/
theorem asked_writeBack {d addr : Nat} {secs : List (Nat × Bytes × Nat × Bool)} {y : Nat × Bytes × Nat × Bool} (hy : y ∈ secs)
    (hreach : s.canReach d (chanDie (s.chanFor d (addr + 32 * y.1))) = true) (stop : Stop) (c : Bool) :
    Asked (addr / 32 + y.1, true, y.2.1, y.2.2.1, y.2.2.2) (s.writeBack d stop addr secs c) := by
  have hmem : y ∈ secs.filter (fun x => s.canReach d (chanDie (s.chanFor d (addr + 32 * x.1)))) := List.mem_filter.2 ⟨hy, hreach⟩
  unfold State.writeBack
  dsimp only
  rw [if_neg (by simpa using List.ne_nil_of_mem hmem)]
  refine each_reaches (P := Asked (addr / 32 + y.1, true, y.2.1, y.2.2.1, y.2.2.2)) hmem ?_ ?_ s
  · exact fun t => asked_ask_new t _
  · exact fun _ t ht => asked_ask_old ht _

end Sys2Proof.Machine.NearLaws

namespace Sys2Proof.Machine
open MeshLaws SyndromeLaws CacheLaws NearLaws

/-- Settles O26, instruction by instruction: a near slice's steps change its line, one transaction and one message; a home's keep the sectors and
the directory of the line but for what the clause says, and the bookkeeping of the ledger changes neither. -/
theorem nearCopies : Obligations.NearCopies := by
  unfold Obligations.NearCopies
  refine ⟨fun s i x err hx hst hmov hop => ⟨fun l hl hneeds => ?_, fun hl => ?_⟩,
    fun s i x hx hst hmov hop hans => ⟨fun l hmir hl hrole => ?_, fun hmir hl hfirst => ?_, fun hmir => ?_⟩,
    fun s m i z x l hz hkind harr hx hbusy hfirst hcame hwaiting hl => ?_, fun s m i w z x c b hz hkind harr hx hnone hroom => ?_,
    fun s m idx addr z hz harr => ⟨fun hkind => ?_, fun hkind hgrant => ?_⟩, fun s m idx addr die secs z l hz harr hl => ⟨fun hkind left tx a hdir => ⟨fun hleft => ?_,
      fun hleft j y htx ha hy => ?_⟩, fun hkind hdir => ?_⟩, fun s p addr l => ⟨fun hl hcls => ?_, fun err hrole hl hlocked hcopies hcls => ?_⟩⟩
  case refine_1 =>
    have hsettles := settles_sliceError s (s.nearSlice x.die x.idx) x.addr x.idx err
    have hkept : ((s.sliceError (s.nearSlice x.die x.idx) x.addr x.idx err).touch (s.nearSlice x.die x.idx) x.addr x.idx x.win).txn? i = some x :=
      (congrArg (fun m => SMap.get? m i) (txns_sliceError s _ _ _ err)).trans hx
    have htxn := txn_onTxn_same hkept
      (readFrom l (badAt (s.sliceError (s.nearSlice x.die x.idx) x.addr x.idx err) (s.nearSlice x.die x.idx) x.addr x.idx))
    obtain ⟨b, c, hy⟩ := txn_replyTxn_same htxn x.die (idxStop x.idx)
    refine ⟨_, _, congrArg Host.Outcome.next (nearRead_hit hx hst hmov hop hl hneeds err), ?_, hy, rfl, rfl, fun k hk hnamed hbad => ?_⟩
    · rw [(moves_replyTxn _ i _ _).mem]
      exact hsettles.mem
    · exact testBit_foldl_or (c := fun k => x.secs.testBit k && badAt _ _ _ _ k) (List.mem_range.2 hk)
        (by rw [hnamed, badAt_sliceError hl hneeds hk hnamed hbad]; rfl) x.poison
  case refine_2 =>
    refine ⟨_, congrArg Host.Outcome.next (nearRead_miss hx hst hmov hop hl err), sendTxn_only s i _ _ _ _ _ _, stage_sendTxn hx _ _ _ _ _ _⟩
  case refine_3 =>
    have hstored := find_onLine_same s (s.nearSlice x.die x.idx) x.addr x.idx (keepsName_store x)
    rw [hl, Option.map_some] at hstored
    obtain ⟨g, k, htouch⟩ := find_touch hstored (s.nearSlice x.die x.idx) x.addr x.idx x.win
    have htxn := txn_onTxn_same (s := (s.onLine (s.nearSlice x.die x.idx) x.addr x.idx (Line.store x)).touch (s.nearSlice x.die x.idx) x.addr
      x.idx x.win) hx (fun t => { t with poison := 0 })
    refine ⟨_, { Line.store x l with age := g, cls := k }, congrArg Host.Outcome.next (nearStore_owned hx hst hmov hop hans hmir hl hrole),
      (moves_replyTxn _ i _ _).mem, ?_, rfl, ?_⟩
    · rw [slice_congr (moves_replyTxn _ i _ _).cache]
      exact htouch
    · obtain ⟨b, c, hy⟩ := txn_replyTxn_same htxn x.die (idxStop x.idx)
      rw [hy, Option.map_some]
  case refine_4 =>
    obtain ⟨j, y, hy, hkind, hdst⟩ := tells_sendMsg (s.onTxn i (fun t => { t with waitAns := true })) .request (.ownRequest i) x.die (s.idxDie x.idx)
      (idxStop x.idx) (idxStop x.idx)
    refine ⟨_, j, y, congrArg Host.Outcome.next (nearStore_ask hx hst hmov hop hans hmir hl hfirst), ?_, hy, hkind, hdst⟩
    rw [State.txn?, txns_sendMsg]
    exact txn_onTxn_same hx _
  case refine_5 =>
    exact ⟨_, congrArg Host.Outcome.next (nearStore_mirrored hx hst hmov hop hans hmir), stage_sendTxn hx _ _ _ _ _ _⟩
  case refine_6 =>
    obtain ⟨g, k, hline, heq⟩ := ownershipRequest_serves hz hkind harr hx hbusy hfirst hcame hwaiting hl
    have hphys : ∀ ks after, (((s.touch (s.physSlice x.idx) x.addr x.idx x.win).delMsg m).callBack (s.physSlice x.idx) x.addr x.idx ks (some i)
        after).physSlice x.idx = s.physSlice x.idx := fun ks after =>
      (works_callBack ((s.touch (s.physSlice x.idx) x.addr x.idx x.win).delMsg m) (s.physSlice x.idx) x.addr x.idx ks (some i) after).physSlice x.idx
    refine ⟨fun hks hcounted hwait hwalk => ?_, fun hks hlost => ?_⟩
    · obtain ⟨howned, j, y, hy, hykind, hydst⟩ := callBack_grants (i := i) (d := x.die) hline hcounted hx hwait hwalk
      refine ⟨_, j, y, congrArg Host.Outcome.next heq, ?_, ?_, hykind, hydst⟩
      · rw [hks, State.homeLine, hphys, howned, Option.map_some]
      · rw [hks]
        exact hy
    · obtain ⟨hrecall, htells⟩ := callBack_waits hline hks hlost (some i) (.owner x.die i)
      refine ⟨_, congrArg Host.Outcome.next heq, ?_, htells⟩
      rw [State.homeLine, hphys, hrecall, Option.map_some]
  case refine_7 =>
    obtain ⟨g, hg⟩ := find_newLine hnone .owned x.win x.hoop c b (w := w)
    have hname : KeepsName (fun l => Line.store x { l with role := .owned }) := fun _ => ⟨rfl, rfl⟩
    have hline := find_onLine_same ((s.newLine (s.nearSlice x.die x.idx) x.addr x.idx .owned x.win x.hoop w c b).delMsg m)
      (s.nearSlice x.die x.idx) x.addr x.idx hname
    rw [show (((s.newLine (s.nearSlice x.die x.idx) x.addr x.idx .owned x.win x.hoop w c b).delMsg m).slice (s.nearSlice x.die x.idx)).find x.addr
      x.idx = _ from hg, Option.map_some] at hline
    have hkept : (((s.newLine (s.nearSlice x.die x.idx) x.addr x.idx .owned x.win x.hoop w c b).delMsg m).onLine
        (s.nearSlice x.die x.idx) x.addr x.idx (fun l => Line.store x { l with role := .owned })).txn? i = some x :=
      (congrArg (fun m => SMap.get? m i) (txns_newLine s _ _ _ w _ _ _ c b)).trans hx
    have htxn := txn_onTxn_same hkept (fun t => { t with waitAns := false, poison := 0 })
    obtain ⟨b', c', hy⟩ := txn_replyTxn_same htxn x.die (idxStop x.idx)
    refine ⟨_, Line.store x { Line.fresh x.addr x.idx .owned x.win x.hoop w c g with role := .owned },
      congrArg Host.Outcome.next (ownershipGrant_eq hz hkind harr hx hnone hroom), ?_, rfl, rfl, secs_store_fresh x _ _ w g _ _ c, ?_⟩
    · rw [slice_congr (moves_replyTxn _ i _ _).cache]
      exact hline
    · rw [hy, Option.map_some]
  case refine_8 =>
    obtain ⟨j, y, hy, hykind, hydst⟩ := tells_sendMsg (((s.copyLeaves (s.nearSlice z.dst idx) addr idx).dropLine (s.nearSlice z.dst idx) addr
      idx).delMsg m) .response (.answer idx addr z.dst []) z.dst (s.idxDie idx) (idxStop idx) (idxStop idx)
    refine ⟨_, j, y, congrArg Host.Outcome.next (nearInvalidate_eq hz hkind harr), ?_, hy, hykind, hydst⟩
    rw [find_sendMsg]
    exact find_dropLine (s.copyLeaves (s.nearSlice z.dst idx) addr idx) _ _ _
  case refine_9 =>
    obtain ⟨j, y, hy, hykind, hydst⟩ := tells_sendMsg (((s.copyLeaves (s.nearSlice z.dst idx) addr idx).dropLine (s.nearSlice z.dst idx) addr
      idx).delMsg m) .response (.answer idx addr z.dst (ownedBytes s (s.nearSlice z.dst idx) addr idx)) z.dst (s.idxDie idx) (idxStop idx) (idxStop idx)
    refine ⟨_, j, y, congrArg Host.Outcome.next (nearRecall_eq hz hkind harr hgrant), ?_, hy, hydst, fun l hl hrole => ?_⟩
    · rw [find_sendMsg]
      exact find_dropLine (s.copyLeaves (s.nearSlice z.dst idx) addr idx) _ _ _
    · rw [hykind, ownedBytes, hl]
      dsimp only
      rw [if_pos hrole]
  case refine_10 =>
    obtain ⟨c, hc⟩ := find_answered (die := die) hl m (z.marked secs)
    have hleft' : ({ l.mergeSecs (z.marked secs) with dir := Dir.without die l.dir, counted := c } : Line).dir =
        .recall (left.filter (fun k => k % 8 != die)) tx a := by
      rw [hdir]
      rfl
    refine ⟨_, { l.mergeSecs (z.marked secs) with dir := Dir.without die l.dir, counted := c },
      congrArg Host.Outcome.next (directoryAnswer_answer hz hkind harr hl), ?_, rfl, hleft'⟩
    rw [recallDone_waits hc (fun tx' after h => ?_)]
    · exact hc
    · rw [hleft'] at h
      exact hleft (Dir.recall.inj h).1
  case refine_11 =>
    subst htx ha
    obtain ⟨c, hc⟩ := find_answered (die := die) hl m (z.marked secs)
    have hlast : ({ l.mergeSecs (z.marked secs) with dir := Dir.without die l.dir, counted := c } : Line).dir = .recall [] (some j) .none := by
      rw [hdir, ← hleft]
      rfl
    have hy' : (((((s.delMsg m).onLine (s.physSlice idx) addr idx (Line.mergeSecs (z.marked secs))).count1 (s.physSlice idx) addr idx none).onLine
        (s.physSlice idx) addr idx (fun l => { l with dir := Dir.without die l.dir })).txn? j) = some y :=
      (congrArg (fun m => SMap.get? m j) (txns_count1 _ _ _ _)).trans hy
    obtain ⟨k, hline, hwait⟩ := recallDone_frees hc hlast hy'
    exact ⟨_, _, congrArg Host.Outcome.next (directoryAnswer_answer hz hkind harr hl), hline, rfl, rfl, hwait⟩
  case refine_12 =>
    have hmerged := find_onLine_same (s.delMsg m) (s.physSlice idx) addr idx (keepsName_mergeSecs (z.marked secs))
    rw [show ((s.delMsg m).slice (s.physSlice idx)).find addr idx = some l from hl, Option.map_some] at hmerged
    have hfreed := find_onLine_same ((s.delMsg m).onLine (s.physSlice idx) addr idx (Line.mergeSecs (z.marked secs))) (s.physSlice idx) addr idx
      (keepsName_dir (fun d => if d = .owned die then .none else d))
    rw [hmerged, Option.map_some] at hfreed
    obtain ⟨c, hc⟩ := ((sameLines_count1 _ (s.physSlice idx) addr idx).trans (sameLines_uncount _ (s.physSlice idx) addr idx)).line hfreed
    refine ⟨_, _, congrArg Host.Outcome.next (directoryAnswer_evicted hz hkind harr hl), hc, rfl, if_pos hdir⟩
  case refine_13 =>
    obtain ⟨j, y, hy, hykind, -⟩ := tells_sendMsg ((s.copyLeaves p addr l.idx).dropLine p addr l.idx) .response
      (.evicted l.idx addr (p / 33) l.dirtySecs) (p / 33) (s.idxDie l.idx) (idxStop l.idx) (idxStop l.idx)
    refine ⟨_, j, y, congrArg Host.Outcome.next (nearEvict_eq hl hcls), ?_, hy, hykind, (moves_sendMsg _ _ _ _ _ _ _).mem⟩
    rw [find_sendMsg]
    exact find_dropLine (s.copyLeaves p addr l.idx) _ _ _
  case refine_14 =>
    obtain ⟨n, hn, heq⟩ := homeEvict_eq hrole hl hlocked hcopies hcls err
    have hsettles := settles_sliceError s p addr l.idx err
    refine ⟨_, congrArg Host.Outcome.next heq, find_dropLine _ _ _ _, ?_, fun herr y hy hreach => ?_⟩
    · exact (works_writeBack _ _ _ _ _ _).cells.trans (congrArg (·.cells) hsettles.mem)
    · obtain rfl | ⟨k, hdouble, -⟩ := hn
      · obtain ⟨r, -, hr⟩ := asked_writeBack (s := s.sliceError p addr n.idx err) hy (by
          rw [hsettles.canReach, hsettles.chanFor]
          exact hreach) (idxStop n.idx) n.counted
        obtain ⟨q, hq, hcarries⟩ := Option.map_eq_some_iff.1 hr
        simp only [carries, Prod.mk.injEq] at hcarries
        exact ⟨r, q, hq, hcarries⟩
      · exact absurd hdouble (herr k)

end Sys2Proof.Machine
end

section
/-!
PROOF. Faults that the front ends and the units outside the engines find (R132, R255, R271, R286 to R288).
-/
namespace Sys2Proof.Machine.FrontLaws
open MeshLaws IssueLaws FaultLaws

variable {s t u : State}

/-! ### What leaves the faults of the contexts alone -/

/-- Every context shows the state and the fault that it showed. -/
def KeepsFaults (s t : State) : Prop := ∀ c, (t.ctx? c).map shown = (s.ctx? c).map shown

theorem KeepsFaults.refl (s : State) : KeepsFaults s s := fun _ => rfl

theorem KeepsFaults.trans (h : KeepsFaults s t) (h' : KeepsFaults t u) : KeepsFaults s u := fun c => (h' c).trans (h c)

theorem keepsFaults_of_ctxs (h : t.objs.ctxs = s.objs.ctxs) : KeepsFaults s t := fun c => by rw [State.ctx?, h, State.ctx?]

theorem keepsFaults_of_objs (h : t.objs = s.objs) : KeepsFaults s t := keepsFaults_of_ctxs (congrArg (·.ctxs) h)

theorem keepsFaults_ite {c : Prop} [Decidable c] (ht : KeepsFaults s t) (hu : KeepsFaults s u) : KeepsFaults s (if c then t else u) := by
  split
  · exact ht
  · exact hu

theorem keepsFaults_each {α : Type} {f : α → State → State} (hf : ∀ a s, KeepsFaults s (f a s)) (l : List α) (s : State) :
    KeepsFaults s (each l f s) :=
  each_keeps (P := KeepsFaults s) l (fun a _ t ht => ht.trans (hf a t)) s (.refl s)

/-- A fault that a context holds stays. -/
theorem KeepsFaults.holds {c code detail addr : Nat} (h : KeepsFaults s t) (hf : s.holdsFault c code detail addr) : t.holdsFault c code detail addr := by
  obtain ⟨y, f, hy, hfault, hrec⟩ := hf
  have hshown := h c
  rw [hy, Option.map_some, Option.map_eq_some_iff] at hshown
  obtain ⟨z, hz, heq⟩ := hshown
  obtain ⟨-, hzfault, -⟩ := Prod.mk.inj heq |>.imp_right Prod.mk.inj
  exact ⟨z, f, hz, hzfault.trans hfault, hrec⟩

/-! ### Bytes written -/

theorem objs_pokeSector (s : State) (sec mask : Nat) (bs : Bytes) : (s.pokeSector sec mask bs).objs = s.objs := by
  unfold State.pokeSector
  extract_lets c s₁ s₂
  have hput : s₁.objs = s.objs := by
    dsimp only [s₁]
    split
    · rfl
    · split <;> rfl
  split
  · rfl
  · split
    · rfl
    · split
      · rfl
      · exact hput

theorem objs_poke (s : State) (pa : Nat) (bs : Bytes) : (s.poke pa bs).objs = s.objs :=
  each_keeps (P := fun t => t.objs = s.objs) _ (fun _ _ t ht => (objs_pokeSector t _ _ _).trans ht) s rfl

theorem objs_pin (s : State) (c i : Nat) (up : Bool) : (s.pin c i up).objs = s.objs := by
  unfold State.pin
  split
  · rfl
  · exact objs_poke _ _ _

/-! ### A teardown (R133, R271, R288) -/

theorem keepsFaults_onQueue (s : State) (q : Nat) (f : Queue → Queue) : KeepsFaults s (s.onQueue q f) := keepsFaults_of_ctxs rfl

theorem keepsFaults_dropHeld (s : State) (q : Nat) : KeepsFaults s (s.dropHeld q) := by
  unfold State.dropHeld
  split
  · exact .refl s
  · exact (keepsFaults_each (fun (p : Nat × Nat) t => keepsFaults_of_objs (objs_pin t p.1 p.2 false)) _ s).trans (keepsFaults_onQueue _ q _)

theorem keepsFaults_stopRun (s : State) (q : Nat) (f : Option FaultRec) : KeepsFaults s (s.stopRun q f) := by
  unfold State.stopRun
  split
  · exact .refl s
  · split
    · exact .refl s
    · exact keepsFaults_ite (keepsFaults_dropHeld s q) (keepsFaults_ite (.refl s) (keepsFaults_of_ctxs rfl))

theorem keepsFaults_teardown (s : State) (c : Nat) : KeepsFaults s (s.teardown c) := by
  unfold State.teardown
  split
  · exact .refl s
  · exact (keepsFaults_each (fun e t k => ctx_stopCtx t e c k) _ s).trans (keepsFaults_each (fun q t => keepsFaults_stopRun t q _) _ _)

/-! ### Faults -/

/-- A first fault that a context captures is the one that it holds after a teardown. -/
theorem holdsFault_capture_teardown {c : Nat} {f : FaultRec} (hc : s.faultFree c) : ((s.capture c f).teardown c).holdsFault c f.code f.detail f.addr := by
  obtain ⟨x, hx, hfree⟩ := hc
  obtain ⟨y, hy, hfault, -⟩ := capture_ctx_first s c f hx hfree
  exact (keepsFaults_teardown _ c).holds ⟨y, f, hy, hfault, rfl, rfl, rfl⟩

theorem faultFree_of_ctxs {c : Nat} (h : t.objs.ctxs = s.objs.ctxs) (hc : s.faultFree c) : t.faultFree c := by
  obtain ⟨x, hx, hfree⟩ := hc
  exact ⟨x, by rw [State.ctx?, h]; exact hx, hfree⟩

/-- The record of a fault of a queue that a unit finds, which is no engine or the lead engine of the queue. -/
def unitRec (e q pc time die : Nat) (cmd : Bool) (b : Trouble) : FaultRec :=
  { code := b.code, detail := b.detail, engine := e, group := 0, lane := 0, queue := q, pc := pc, addr := b.addr, time := time, die := die, cmd := cmd }

theorem holdsFault_unitFault {c : Nat} (hc : s.faultFree c) (queue die : Nat) (cmd : Bool) (b : Trouble) (pc : Nat) :
    (s.unitFault c queue die cmd b pc).holdsFault c b.code b.detail b.addr :=
  holdsFault_capture_teardown (s := s.passTime) (f := unitRec 0xFFFF queue pc (s.passTime.count die) die cmd b) (faultFree_of_ctxs rfl hc)

/-- A fault that a queue's front end finds is held by the queue's context. -/
theorem holdsFault_frontFaultOf {q : Nat} {v : Queue} (hv : s.queue? q = some v) (hc : s.faultFree v.ctx) (cmd : Bool) (b : Trouble) (pc : Nat) :
    (s.frontFaultOf q cmd b pc).holdsFault v.ctx b.code b.detail b.addr := by
  unfold State.frontFaultOf
  rw [hv]
  dsimp only
  split
  · exact holdsFault_unitFault hc _ _ _ _ _
  · split
    · exact holdsFault_unitFault hc _ _ _ _ _
    next e _ _ =>
      exact holdsFault_capture_teardown (f := unitRec e q pc ((withSyndrome s e 0 0 pc v.ctx b).count (engDie e)) (engDie e) cmd b)
        (faultFree_of_ctxs (t := withSyndrome s e 0 0 pc v.ctx b) (congrArg (·.ctxs) (syndrome_only _ _ _ _ _ _ _ _ _).2) hc)

theorem holdsFault_engineFaultOf {c : Nat} (hc : s.faultFree c) (e g lane queue : Nat) (cmd : Bool) (b : Trouble) (pc : Nat) :
    (s.engineFaultOf e g lane c queue cmd b pc).holdsFault c b.code b.detail b.addr := by
  obtain ⟨x, hx, hfree⟩ := hc
  obtain ⟨y, r, hy, hfault, -⟩ := engineFaultOf_first s e g lane pc c queue cmd b hx hfree
  exact ⟨y, _, hy, hfault, rfl, rfl, rfl⟩

end Sys2Proof.Machine.FrontLaws
end

section
/-!
PROOF. The sending side of the gimp ports: a message waits in its port's queue or is held for replay, and sending changes nothing else (R399 to
R407, R411, R414).
-/
namespace Sys2Proof.Machine.PortLaws
open MeshLaws FlowLaws SyndromeLaws CacheLaws FrontLaws

variable {s t u : State}

/-! ### A flit is filled (R399, R403) -/

/-- A port has a message: it waits in the transmit queue, or its flit is held for replay. -/
def Holds (x : Port) (m : PMsg) : Prop := m ∈ x.queue ∨ ∃ f ∈ x.replay, m ∈ f.msgs

/-- A port with another round-robin, queue and credits. -/
def Refilled (x y : Port) : Prop := y = { x with wrr := y.wrr, queue := y.queue, credits := y.credits }

theorem fill_refills (n room : Nat) (x : Port) : Refilled x (x.fill n room).2 ∧ ∀ m ∈ x.queue, m ∈ (x.fill n room).1 ∨ m ∈ (x.fill n room).2.queue := by
  induction n generalizing room x with
  | zero => exact ⟨rfl, fun m hm => .inr hm⟩
  | succ n ih =>
    rw [Port.fill]
    split
    · exact ⟨rfl, fun m hm => .inr hm⟩
    next a k _ =>
      split
      · exact ⟨rfl, fun m hm => .inr hm⟩
      · obtain ⟨honly, hheld⟩ := ih (room - a.chunks) { x with
          wrr := k, queue := x.queue.erase a, credits := setNth x.credits (mtypeChan a.kind) (fun c => c - a.chunks) }
        refine ⟨?_, fun m hm => ?_⟩
        · unfold Refilled at *
          dsimp only
          rw [honly]
        · by_cases hma : m = a
          · exact .inl (hma ▸ List.mem_cons_self ..)
          · exact (hheld m ((List.mem_erase_of_ne hma).2 hm)).imp_left (List.mem_cons_of_mem _)

/-! ### Flits leave (R399, R403, R405) -/

/-- What a port is when flits have left it: it has every message that it had, and what it waits for and how it is bonded are the same. -/
structure Flows (x y : Port) : Prop where
  only : y = { x with wrr := y.wrr, queue := y.queue, credits := y.credits, nextSeq := y.nextSeq, txCount := y.txCount, replay := y.replay }
  held : ∀ m, Holds x m → Holds y m

theorem Flows.refl (x : Port) : Flows x x := ⟨rfl, fun _ h => h⟩

theorem Flows.trans {x y z : Port} (h : Flows x y) (h' : Flows y z) : Flows x z := by
  refine ⟨?_, fun m hm => h'.held m (h.held m hm)⟩
  have honly := h'.only
  rw [h.only] at honly
  exact honly

theorem Flows.unacked {x y : Port} (h : Flows x y) : y.unacked = x.unacked := by rw [h.only]
theorem Flows.signals {x y : Port} (h : Flows x y) : y.signals = x.signals := by rw [h.only]
theorem Flows.closing {x y : Port} (h : Flows x y) : y.closing = x.closing := by rw [h.only]
theorem Flows.bondPort {x y : Port} (h : Flows x y) : y.bondPort = x.bondPort := by rw [h.only]

theorem port_onPort_other (s : State) (p k : Nat) (f : Port → Port) (h : k ≠ p) : (s.onPort p f).port k = s.port k :=
  SMapLaws.getD_upd_other s.gmp.ports p k Port.empty f h

theorem gmp_postFlit (s : State) (p kind : Nat) (ms : List PMsg) : (s.postFlit p kind ms).gmp = s.gmp := by
  unfold State.postFlit
  split
  · refine each_keeps (P := fun t => t.gmp = s.gmp) ms ?_ s rfl
    exact fun _ _ t ht => ht
  · rfl

theorem port_congr (h : t.gmp = s.gmp) (k : Nat) : t.port k = s.port k := by rw [State.port, h, State.port]

/-- The flit of filled messages leaves the port. -/
theorem flows_flit (s : State) (p : Nat) :
    Flows (s.port p) (((s.onPort p (fun _ => ((s.port p).fill 7 7).2)).sendPFlit p 0 ((s.port p).fill 7 7).1).port p) := by
  obtain ⟨honly, hheld⟩ := fill_refills 7 7 (s.port p)
  have hport := State.port_onPort_same s p (fun _ => ((s.port p).fill 7 7).2)
  rw [State.sendPFlit, port_congr (gmp_postFlit _ _ _ _), State.port_onPort_same, hport]
  refine ⟨?_, fun m hm => ?_⟩
  · unfold Refilled at honly
    dsimp only
    rw [honly]
  · obtain hqueue | ⟨f, hf, hm⟩ := hm
    · obtain hsent | hleft := hheld m hqueue
      · exact .inr ⟨_, List.mem_append_right _ (List.mem_singleton.2 rfl), hsent⟩
      · exact .inl hleft
    · refine .inr ⟨f, List.mem_append_left _ ?_, hm⟩
      unfold Refilled at honly
      rw [honly]
      exact hf

theorem port_sendPFlit_other (s : State) (p k kind : Nat) (ms : List PMsg) (h : k ≠ p) : (s.sendPFlit p kind ms).port k = s.port k := by
  rw [State.sendPFlit, port_congr (gmp_postFlit _ _ _ _), port_onPort_other _ _ _ _ h]

theorem flows_portPump (p n : Nat) (s : State) : Flows (s.port p) ((s.portPump p n).port p) := by
  induction n generalizing s with
  | zero => exact .refl _
  | succ n ih =>
    rw [State.portPump]
    split
    · exact .refl _
    · dsimp only
      split
      · exact .refl _
      · exact (flows_flit s p).trans (ih _)

theorem port_portPump_other (p n k : Nat) (h : k ≠ p) (s : State) : (s.portPump p n).port k = s.port k := by
  induction n generalizing s with
  | zero => rfl
  | succ n ih =>
    rw [State.portPump]
    split
    · rfl
    · dsimp only
      split
      · rfl
      · rw [ih, port_sendPFlit_other _ _ _ _ _ h, port_onPort_other _ _ _ _ h]

/-! ### A message joins a queue (R401) -/

/-- A message as a port numbers it. -/
def numbered (s : State) (p : Nat) (m : PMsg) : PMsg := { m with id := (s.port p).nextId, chunks := mtypeChunks m.kind m.body.length }

/-- A message joins a port's queue under the number `i`, and what waits for its acknowledgment. -/
def joins (i : Nat) (m : PMsg) (who : Option Unacked) (x : Port) : Port :=
  { x with
    nextId := (i + 1) % 2 ^ 32
    queue := x.queue ++ [{ m with id := i, chunks := mtypeChunks m.kind m.body.length }]
    unacked := match who with
      | some u => x.unacked ++ [{ u with id := i }]
      | none => x.unacked }

theorem flows_portSend (s : State) (p : Nat) (m : PMsg) (who : Option Unacked) :
    Flows (joins (s.port p).nextId m who (s.port p)) ((s.portSend p m who).port p) := by
  have h := flows_portPump p (((s.onPort p (joins (s.port p).nextId m who)).port p).queue.length + 1) (s.onPort p (joins (s.port p).nextId m who))
  have hsame := State.port_onPort_same s p (joins (s.port p).nextId m who)
  exact hsame ▸ h

theorem port_portSend_other (s : State) (p k : Nat) (m : PMsg) (who : Option Unacked) (h : k ≠ p) : (s.portSend p m who).port k = s.port k :=
  (port_portPump_other p _ k h _).trans (port_onPort_other s p k _ h)

/-- The message that is sent is had by its port. -/
theorem portHas_portSend (s : State) (p : Nat) (m : PMsg) (who : Option Unacked) : (s.portSend p m who).portHas p (numbered s p m) :=
  (flows_portSend s p m who).held _ (.inl (List.mem_append_right _ (List.mem_singleton.2 rfl)))

/-! ### What sending leaves alone -/

theorem objs_postFlit (s : State) (p kind : Nat) (ms : List PMsg) : (s.postFlit p kind ms).objs = s.objs := by
  unfold State.postFlit
  split
  · refine each_keeps (P := fun t => t.objs = s.objs) ms ?_ s rfl
    exact fun _ _ t ht => ht
  · rfl

theorem objs_portPump (p n : Nat) (s : State) : (s.portPump p n).objs = s.objs := by
  induction n generalizing s with
  | zero => rfl
  | succ n ih =>
    rw [State.portPump]
    split
    · rfl
    · dsimp only
      split
      · rfl
      · rw [ih, State.sendPFlit, objs_postFlit]
        rfl

theorem objs_portSend (s : State) (p : Nat) (m : PMsg) (who : Option Unacked) : (s.portSend p m who).objs = s.objs := objs_portPump p _ _

/-- A step sends through the ports and over the mesh: every port has the messages that it had, and is bonded and closing as it was. -/
structure Carries (s t : State) : Prop where
  sends : t = { s with msgs := t.msgs, nextId := t.nextId, mesh := t.mesh, gmp := t.gmp, posted := t.posted }
  has : ∀ k m, s.portHas k m → t.portHas k m
  bond : ∀ k, (t.port k).bondPort = (s.port k).bondPort
  closing : ∀ k, (t.port k).closing = (s.port k).closing

theorem Carries.refl (s : State) : Carries s s := ⟨rfl, fun _ _ h => h, fun _ => rfl, fun _ => rfl⟩

theorem Carries.trans (h : Carries s t) (h' : Carries t u) : Carries s u := by
  refine ⟨?_, fun k m hm => h'.has k m (h.has k m hm), fun k => (h'.bond k).trans (h.bond k), fun k => (h'.closing k).trans (h.closing k)⟩
  have hsends := h'.sends
  rw [h.sends] at hsends
  exact hsends

theorem carries_ite {c : Prop} [Decidable c] (ht : Carries s t) (hu : Carries s u) : Carries s (if c then t else u) := by
  split
  · exact ht
  · exact hu

theorem carries_each {α : Type} {f : α → State → State} (hf : ∀ a s, Carries s (f a s)) (l : List α) (s : State) : Carries s (each l f s) :=
  each_keeps (P := Carries s) l (fun a _ t ht => ht.trans (hf a t)) s (.refl s)

/-- A step that leaves the ports. -/
theorem carries_of_ports (h : t = { s with msgs := t.msgs, nextId := t.nextId, mesh := t.mesh, gmp := t.gmp, posted := t.posted })
    (hports : t.gmp.ports = s.gmp.ports) : Carries s t := by
  have hport : ∀ k, t.port k = s.port k := fun k => by rw [State.port, hports, State.port]
  exact ⟨h, fun k m hm => by rw [State.portHas, hport]; exact hm, fun k => by rw [hport], fun k => by rw [hport]⟩

theorem Carries.mem (h : Carries s t) : t.mem = s.mem := by rw [h.sends]
theorem Carries.txns (h : Carries s t) : t.txns = s.txns := by rw [h.sends]
theorem Carries.regs (h : Carries s t) : t.regs = s.regs := by rw [h.sends]
theorem Carries.objs (h : Carries s t) : t.objs = s.objs := by rw [h.sends]
theorem Carries.cache (h : Carries s t) : t.cache = s.cache := by rw [h.sends]

theorem Carries.rd (h : Carries s t) (o : Nat) : t.rd o = s.rd o := by
  rw [h.sends]
  exact State.rd_congr s _ rfl rfl rfl o

theorem Carries.fld (h : Carries s t) (f : Field) (o : Nat) : t.fld f o = s.fld f o := by rw [State.fld, h.rd, State.fld]

theorem Carries.bondOf (h : Carries s t) (k : Nat) : t.bondOf k = s.bondOf k := by
  rw [State.bondOf, bit_eq_fld, h.fld, h.bond, State.bondOf, bit_eq_fld]

theorem Carries.gmpUp (h : Carries s t) (k : Nat) : t.gmpUp k = s.gmpUp k := by rw [State.gmpUp, State.gmpState, h.fld, State.gmpUp, State.gmpState]

/-- The port that a message for a partner goes to is the same. -/
theorem Carries.portFor (h : Carries s t) (p : Nat) (a : Option Nat) : t.portFor p a = s.portFor p a := by
  have hup : t.gmpUp = s.gmpUp := funext h.gmpUp
  rw [State.portFor, h.bondOf, hup, State.portFor]

theorem Carries.partner (h : Carries s t) (p : Nat) : t.partner p = s.partner p := by rw [State.partner, h.bondOf, State.partner]

theorem Carries.barrierPartners (h : Carries s t) (k : Nat) : t.barrierPartners k = s.barrierPartners k := by
  have hpartner : t.partner = s.partner := funext h.partner
  rw [State.barrierPartners, State.partnersOf, hpartner, h.fld, State.barrierPartners, State.partnersOf]

theorem Carries.hoopTag (h : Carries s t) (k : Nat) : t.hoopTag k = s.hoopTag k := h.fld _ _

theorem carries_portSend (s : State) (p : Nat) (m : PMsg) (who : Option Unacked) : Carries s (s.portSend p m who) := by
  have hflows := flows_portSend s p m who
  have hother := fun k h => port_portSend_other s p k m who h
  refine ⟨?_, fun k a ha => ?_, fun k => ?_, fun k => ?_⟩
  · have hsends := sends_portSend s p m who
    have hobjs := objs_portSend s p m who
    unfold Sends at hsends
    rw [hobjs] at hsends
    exact hsends
  all_goals by_cases hk : k = p
  · subst hk
    exact hflows.held a (ha.imp_left (List.mem_append_left _))
  · rw [State.portHas, hother k hk]
    exact ha
  · rw [hk, hflows.bondPort]
    rfl
  · rw [hother k hk]
  · rw [hk, hflows.closing]
    rfl
  · rw [hother k hk]

end Sys2Proof.Machine.PortLaws
end

section
/-!
PROOF. What a partner writes here: stores, line reductions and fence signals that a gimp port brings (R170, R302, R401, R412, R413).
-/
namespace Sys2Proof.Machine.PartnerLaws
open MeshLaws FlowLaws SyndromeLaws CacheLaws FrontLaws PortLaws

variable (s : State)

/-! ### Answers (R401) -/

/-- The message that answers message `id` of a partner. -/
def answer (id status : Nat) : PMsg :=
  { kind := 5, chunks := 0, tag := 0, xid := 0, id := 0, addr := 0, dst := 0, src := 0, aux := 0
    body := [5, 1, BitVec.ofNat 8 status, 0] ++ leBytes 4 id }

theorem carries_peerAck (p id status : Nat) : Carries s (s.peerAck p id status) := carries_portSend s _ _ none

/-- The answer to a partner's message is on the port that answers it. -/
theorem ackSent_peerAck (p id status : Nat) : (s.peerAck p id status).ackSent p id status := by
  refine ⟨numbered s (s.portFor p none) (answer id status), rfl, rfl, ?_⟩
  rw [(carries_peerAck s p id status).portFor]
  exact portHas_portSend s (s.portFor p none) _ none

/-- A message that is answered at once changes no memory, transaction or register. -/
theorem answers_peerAck {r : Host.Outcome State Fault Refusal} {p id status : Nat} (h : r = .next (s.peerAck p id status)) :
    ∃ t, r = .next t ∧ t.ackSent p id status ∧ t.mem = s.mem ∧ t.txns = s.txns ∧ t.regs = s.regs :=
  ⟨_, h, ackSent_peerAck s p id status, (carries_peerAck s p id status).mem, (carries_peerAck s p id status).txns, (carries_peerAck s p id status).regs⟩

/-! ### Bytes of a message -/

/-- The bytes that stand behind `o` others. -/
theorem cut_behind (o : Nat) (b c : Bytes) : cut (zeros o ++ b ++ c) o b.length = b := by
  simp [cut, zeros]

/-- A part of the leading bytes is that part of the whole. -/
theorem cut_of_cut {b : Bytes} {n o k : Nat} (hn : n ≤ b.length) (hk : o + k ≤ n) : cut (cut b 0 n) o k = cut b o k := by
  have hcut : cut b 0 n = b.take n := by
    simp [cut, zeros, Nat.min_eq_left hn]
  have htake : ((b.take n).drop o).take k = (b.drop o).take k := by
    rw [List.drop_take, List.take_take, Nat.min_eq_left (by omega)]
  rw [hcut, cut, cut, htake]

theorem numAt_of_cut {b : Bytes} {n o k : Nat} (hn : n ≤ b.length) (hk : o + k ≤ n) : numAt (cut b 0 n) o k = numAt b o k := by
  rw [numAt, cut_of_cut hn hk, numAt]

/-! ### Stores and reductions from a port (R170, R412) -/

/-- The transaction that a partner's write or reduction becomes. -/
def peerStore (p h : Nat) (m : PeerMsg) (op : MemOp) (pa mask : Nat) (bs : Bytes) : Txn :=
  { Txn.blank (.peer p m.id) p 0 (some h) none op (if isToile pa then .toile else .stack) (lineOf pa) with
    secs := secsOf (pa % 128) bs.length, data := zeros (pa % 128) ++ bs ++ zeros (128 - pa % 128 - bs.length)
    mask := if op = .store then mask * 2 ^ (pa % 128) else 0, va := lineOf pa, noInstall := true }

variable {s}

theorem port_open {p : Nat} (hp : p < 8) (hup : s.gmpUp p = true) : (decide (8 ≤ p) || !s.gmpUp p) = false := by
  rw [hup, decide_eq_false (by omega : ¬ 8 ≤ p)]
  rfl

theorem peerTxn_of_tag {p h : Nat} {m : PeerMsg} (hp : p < 8) (hup : s.gmpUp p = true) (htag : s.tagHoop p m.tag = some h) (op : MemOp)
    (pa mask : Nat) (bs : Bytes) : s.peerTxn p m op pa mask bs =
      if !s.peerOk h pa || (op != .store && isToile pa) then s.peerAck p m.id 0x49 else (s.addTxn (peerStore p h m op pa mask bs)).2 := by
  rw [State.peerTxn, port_open hp hup, htag]
  rfl

theorem peerTxn_untagged {p : Nat} {m : PeerMsg} (hp : p < 8) (hup : s.gmpUp p = true) (htag : s.tagHoop p m.tag = none) (op : MemOp)
    (pa mask : Nat) (bs : Bytes) : s.peerTxn p m op pa mask bs = s.peerAck p m.id 0x49 := by
  rw [State.peerTxn, port_open hp hup, htag]
  rfl

/-- A write or a reduction that may go where it is directed becomes a transaction. -/
theorem peerTxn_stores {p h : Nat} {m : PeerMsg} {op : MemOp} {pa mask : Nat} {bs : Bytes} (hp : p < 8) (hup : s.gmpUp p = true)
    (htag : s.tagHoop p m.tag = some h) (hok : s.peerOk h pa = true) (hspace : op = .store ∨ isToile pa = false) :
    s.peerTxn p m op pa mask bs = (s.addTxn (peerStore p h m op pa mask bs)).2 := by
  rw [peerTxn_of_tag hp hup htag, hok]
  obtain rfl | hstack := hspace
  · rfl
  · rw [hstack, Bool.and_false]
    rfl

/-- One that may not is refused. -/
theorem peerTxn_refused {p h : Nat} {m : PeerMsg} {op : MemOp} {pa mask : Nat} {bs : Bytes} (hp : p < 8) (hup : s.gmpUp p = true)
    (htag : s.tagHoop p m.tag = some h) (hno : s.peerOk h pa = false ∨ (op ≠ .store ∧ isToile pa = true)) :
    s.peerTxn p m op pa mask bs = s.peerAck p m.id 0x49 := by
  rw [peerTxn_of_tag hp hup htag, if_pos]
  obtain hok | ⟨hop, htoile⟩ := hno
  · rw [hok]
    rfl
  · rw [htoile, Bool.and_true, bne_iff_ne.2 hop, Bool.or_true]

/-- The three messages that become a transaction: a sector's write, a line's write, and a line reduction of a defined KIND. -/
theorem exec_writes {p : Nat} {m : PeerMsg} {c : Instr} {op : MemOp} {pa mask : Nat} {bs : Bytes}
    (h : (c = .sectorWrite p m ∧ op = .store ∧ pa = m.addr % 2 ^ 40 / 32 * 32 ∧ mask = m.mask % 2 ^ 32 * 2 ^ (pa % 128) ∧ bs = cut m.body 0 32) ∨
     (c = .lineWrite p m ∧ op = .store ∧ pa = lineOf (m.addr % 2 ^ 40) ∧ mask = m.mask % 2 ^ 128 ∧ bs = cut m.body 0 128) ∨
     (c = .lineReduce p m ∧ numAt m.body 5 1 ≤ 1 ∧ 144 ≤ m.body.length ∧ pa = numAt m.body 0 5 % 2 ^ 33 * 128 ∧ mask = 0 ∧ bs = cut m.body 16 128 ∧
       op = .reduce (numAt m.body 5 1) (numAt m.body 6 2) (sInt 8 (numAt m.body 8 1)) (sInt 8 (numAt m.body 9 1)) (sInt 8 (numAt m.body 10 1))
         (numAt m.body 12 2) (numAt m.body 14 2))) :
    ∃ k, exec c s = .next (s.peerTxn p m op pa k bs) ∧ mask = if op = .store then k * 2 ^ (pa % 128) else 0 := by
  obtain ⟨rfl, rfl, rfl, rfl, rfl⟩ | ⟨rfl, rfl, rfl, rfl, rfl⟩ | ⟨rfl, hkind, hlen, rfl, rfl, rfl, rfl⟩ := h
  · exact ⟨m.mask % 2 ^ 32, rfl, rfl⟩
  · refine ⟨m.mask % 2 ^ 128, rfl, ?_⟩
    rw [if_pos rfl, lineOf, Nat.mul_mod_left, pow_zero, Nat.mul_one]
  · refine ⟨0, ?_, rfl⟩
    have hdefined : ¬ 1 < numAt m.body 5 1 := by omega
    change Host.Outcome.next (lineReduce p m s) = _
    unfold lineReduce
    dsimp only
    simp only [numAt_of_cut hlen (by decide : 5 + 1 ≤ 144), numAt_of_cut hlen (by decide : 6 + 2 ≤ 144), numAt_of_cut hlen (by decide : 8 + 1 ≤ 144),
      numAt_of_cut hlen (by decide : 9 + 1 ≤ 144), numAt_of_cut hlen (by decide : 10 + 1 ≤ 144), numAt_of_cut hlen (by decide : 12 + 2 ≤ 144),
      numAt_of_cut hlen (by decide : 14 + 2 ≤ 144), numAt_of_cut hlen (by decide : 0 + 5 ≤ 144), cut_of_cut hlen (by decide : 16 + 128 ≤ 144)]
    rw [if_neg hdefined]

/-- Messages of a hoop that the tag does not name are refused. -/
theorem exec_untagged {p : Nat} {m : PeerMsg} (hp : p < 8) (hup : s.gmpUp p = true) (htag : s.tagHoop p m.tag = none) :
    ∀ c ∈ [Instr.sectorWrite p m, .lineWrite p m, .lineReduce p m, .gmpFenceSignal p m], exec c s = .next (s.peerAck p m.id 0x49) := by
  intro c hc
  simp only [List.mem_cons, List.not_mem_nil, or_false] at hc
  rcases hc with rfl | rfl | rfl | rfl
  · exact congrArg _ (peerTxn_untagged hp hup htag _ _ _ _)
  · exact congrArg _ (peerTxn_untagged hp hup htag _ _ _ _)
  · change Host.Outcome.next (lineReduce p m s) = _
    unfold lineReduce
    dsimp only
    rw [peerTxn_untagged hp hup htag, hup, decide_eq_true hp]
    exact congrArg _ (ite_self _)
  · change Host.Outcome.next (gmpFenceSignal p m s) = _
    unfold gmpFenceSignal
    rw [port_open hp hup, htag]
    rfl

theorem exec_lineReduce_reserved {p : Nat} {m : PeerMsg} (hp : p < 8) (hup : s.gmpUp p = true) (hkind : 1 < numAt (cut m.body 0 144) 5 1) :
    exec (.lineReduce p m) s = .next (s.peerAck p m.id 0x49) := by
  change Host.Outcome.next (lineReduce p m s) = _
  unfold lineReduce
  dsimp only
  rw [if_pos hkind, hup, decide_eq_true hp]
  rfl

/-! ### Fence signals (R302, R413) -/

/-- The index whose slice is the home of a fence that a partner signals. -/
def fenceHome (s : State) (p h pa : Nat) : Nat := s.idxOn p (s.winFor (some h) pa) pa

theorem exec_gmpFenceSignal {p h : Nat} {m : PeerMsg} (hp : p < 8) (hup : s.gmpUp p = true) (htag : s.tagHoop p m.tag = some h) :
    exec (.gmpFenceSignal p m) s = .next (
      let pa := m.addr % 2 ^ 40
      let idx := fenceHome s p h pa
      if pa % 32 ≠ 0 ∨ !s.peerOk h pa ∨ isToile pa then s.peerAck p m.id 0x49
      else if s.lineBusy (lineOf pa) idx false || (s.firstWaiting (s.physSlice idx) (lineOf pa) idx).isSome then s
      else if (s.peek pa 32).2 then s.peerAck p m.id 0x44
      else (s.applySignal ((s.ring? (fenceOf (s.peek pa 32).1).evring).elim 65536 (·.ctx)) pa idx (numAt m.body 0 8)).peerAck p m.id 0) := by
  change Host.Outcome.next (gmpFenceSignal p m s) = _
  unfold gmpFenceSignal
  rw [port_open hp hup, htag]
  rfl

theorem moves_releaseWait (s : State) (die quad : Nat) (who : Nat × Nat) : Moves s (s.releaseWait die quad who) := by
  unfold State.releaseWait
  split
  · exact moves_sendMsg _ _ _ _ _ _ _
  · split
    · exact .refl s
    · exact moves_sendMsg _ _ _ _ _ _ _

/-- The waits that a value meets leave the fence at an address. -/
def releasedAt (pa v : Nat) (o : Objects) : Objects := { o with waits := o.waits.filter (fun w => !(w.addr = pa && decide (w.target ≤ v))) }

/-- The fence at an address takes a value, and the waits that it meets are released. -/
def raised (s : State) (pa idx v : Nat) (b : Bytes) : State :=
  each ((s.poke pa b).objs.waits.filter (fun w => w.addr = pa && decide (w.target ≤ v)))
    (fun w t => t.releaseWait (((s.poke pa b).onObjs (releasedAt pa v)).idxDie idx) (idxQuad idx) w.who) ((s.poke pa b).onObjs (releasedAt pa v))

theorem moves_raised (s : State) (pa idx v : Nat) (b : Bytes) : Moves ((s.poke pa b).onObjs (releasedAt pa v)) (raised s pa idx v b) :=
  each_keeps (P := Moves _) _ (fun _ _ t ht => ht.trans (moves_releaseWait t _ _ _)) _ (.refl _)

/-- No wait that the value meets is left. -/
theorem waits_raised (s : State) (pa idx v : Nat) (b : Bytes) : ∀ w ∈ (raised s pa idx v b).objs.waits, w.addr = pa → v < w.target := by
  intro w hw haddr
  rw [moves_raised s pa idx v b] at hw
  have hkept := (List.mem_filter.1 hw).2
  simp only [haddr, decide_true, Bool.true_and, Bool.not_eq_true', decide_eq_false_iff_not] at hkept
  omega

/-- A signal that does not raise the fence's event changes its value alone, and releases the waits that it meets. -/
theorem applySignal_raises {ctx pa idx v : Nat} (hlow : (fenceOf (s.peek pa 32).1).value < v)
    (hquiet : (fenceOf (s.peek pa 32).1).armed = false ∨ v < (fenceOf (s.peek pa 32).1).event) :
    s.applySignal ctx pa idx v = raised s pa idx v { fenceOf (s.peek pa 32).1 with value := v }.bytes := by
  have hnot : ((fenceOf (s.peek pa 32).1).armed && decide ((fenceOf (s.peek pa 32).1).event ≤ v)) = false := by
    obtain harmed | hevent := hquiet
    · rw [harmed, Bool.false_and]
    · rw [decide_eq_false (by omega), Bool.and_false]
  have hsignal : (fenceOf (s.peek pa 32).1).signal v = ({ fenceOf (s.peek pa 32).1 with value := v }, true, false) := by
    rw [Fence.signal, if_pos hlow, hnot]
    rfl
  have hnew : { fenceOf (s.peek pa 32).1 with value := v } ≠ fenceOf (s.peek pa 32).1 := fun h => by
    have hvalue := congrArg Fence.value h
    dsimp only at hvalue
    omega
  unfold State.applySignal
  rw [hsignal]
  dsimp only
  rw [if_neg hnew, if_pos rfl, if_neg (Bool.false_ne_true)]
  rfl

theorem applySignal_same {ctx pa idx v : Nat} (h : v = (fenceOf (s.peek pa 32).1).value) : s.applySignal ctx pa idx v = s := by
  have hsignal : (fenceOf (s.peek pa 32).1).signal v = (fenceOf (s.peek pa 32).1, false, false) := by
    rw [Fence.signal, if_neg (by omega), if_neg (by omega)]
  unfold State.applySignal
  rw [hsignal]
  dsimp only
  rw [if_pos rfl, if_neg Bool.false_ne_true, if_neg Bool.false_ne_true]

/-- A signal that may go where it is directed, and the home's line is free. -/
theorem gmpFenceSignal_applies {p h : Nat} {m : PeerMsg} (hp : p < 8) (hup : s.gmpUp p = true) (htag : s.tagHoop p m.tag = some h)
    (halign : m.addr % 2 ^ 40 % 32 = 0) (hok : s.peerOk h (m.addr % 2 ^ 40) = true) (hstack : isToile (m.addr % 2 ^ 40) = false)
    (hfree : s.lineBusy (lineOf (m.addr % 2 ^ 40)) (fenceHome s p h (m.addr % 2 ^ 40)) false = false)
    (hfirst : s.firstWaiting (s.physSlice (fenceHome s p h (m.addr % 2 ^ 40))) (lineOf (m.addr % 2 ^ 40)) (fenceHome s p h (m.addr % 2 ^ 40)) = none) :
    exec (.gmpFenceSignal p m) s = .next (if (s.peek (m.addr % 2 ^ 40) 32).2 then s.peerAck p m.id 0x44
      else (s.applySignal ((s.ring? (fenceOf (s.peek (m.addr % 2 ^ 40) 32).1).evring).elim 65536 (·.ctx)) (m.addr % 2 ^ 40)
        (fenceHome s p h (m.addr % 2 ^ 40)) (numAt m.body 0 8)).peerAck p m.id 0) := by
  have hmay : ¬ (m.addr % 2 ^ 40 % 32 ≠ 0 ∨ (!s.peerOk h (m.addr % 2 ^ 40)) = true ∨ isToile (m.addr % 2 ^ 40) = true) := by
    rw [halign, hok, hstack]
    decide
  rw [exec_gmpFenceSignal hp hup htag]
  dsimp only
  rw [if_neg hmay, hfree, hfirst]
  rfl

theorem gmpFenceSignal_refused {p h : Nat} {m : PeerMsg} (hp : p < 8) (hup : s.gmpUp p = true) (htag : s.tagHoop p m.tag = some h)
    (hno : m.addr % 2 ^ 40 % 32 ≠ 0 ∨ s.peerOk h (m.addr % 2 ^ 40) = false ∨ isToile (m.addr % 2 ^ 40) = true) :
    exec (.gmpFenceSignal p m) s = .next (s.peerAck p m.id 0x49) := by
  have hno' : m.addr % 2 ^ 40 % 32 ≠ 0 ∨ (!s.peerOk h (m.addr % 2 ^ 40)) = true ∨ isToile (m.addr % 2 ^ 40) = true :=
    hno.imp_right (Or.imp_left fun h => by rw [h]; rfl)
  rw [exec_gmpFenceSignal hp hup htag]
  exact congrArg _ (if_pos hno')

end Sys2Proof.Machine.PartnerLaws
end

section
/-!
PROOF. Acknowledgments, held signals and system barriers of the gimp ports (R401, R412, R413, R414).
-/
namespace Sys2Proof.Machine.AckLaws
open MeshLaws FlowLaws SyndromeLaws CacheLaws NearLaws FrontLaws PortLaws PartnerLaws

variable (s : State)

/-! ### System barriers are sent and released (R414) -/

theorem carries_onGmp (f : Gimp → Gimp) (h : (f s.gmp).ports = s.gmp.ports) : Carries s (s.onGmp f) := carries_of_ports rfl h

theorem carries_sendMsg (vc : Vc) (k : MsgKind) (src dst : Nat) (frm stop : Stop) : Carries s (s.sendMsg vc k src dst frm stop) := by
  have h := moves_sendMsg s vc k src dst frm stop
  unfold Moves at h
  have htxns := txns_sendMsg s vc k src dst frm stop
  have hgmp : (s.sendMsg vc k src dst frm stop).gmp = s.gmp := by rw [h]
  have hposted : (s.sendMsg vc k src dst frm stop).posted = s.posted := by rw [h]
  rw [htxns] at h
  refine carries_of_ports ?_ (by rw [hgmp])
  rw [hgmp, hposted]
  exact h

theorem carries_barrierDone (q num scope e : Nat) (r : Run) : Carries s (s.barrierDone q num scope e r) :=
  carries_each (fun _ t => carries_sendMsg t _ _ _ _ _ _) _ s

theorem carries_sysRelease (q num inst : Nat) : Carries s (s.sysRelease q num inst) := by
  unfold State.sysRelease
  split
  · exact carries_ite ((carries_onGmp s _ rfl).trans (carries_barrierDone _ q num 4 0 _)) (.refl s)
  · exact .refl s

theorem carries_sysSend (q num inst : Nat) : Carries s (s.sysSend q num inst) := by
  unfold State.sysSend
  split
  · exact .refl s
  · exact carries_ite (.refl s)
      (((carries_onGmp s _ rfl).trans (carries_each (fun p t => carries_portSend t _ _ _) _ _)).trans (carries_sysRelease _ q num inst))

theorem carries_sysSendAll : Carries s s.sysSendAll := carries_each (fun (b : SysBarrier) t => carries_sysSend t b.queue b.num b.inst) _ s

variable {s}

/-! ### An acknowledgment (R401) -/

theorem portSettle_open {p : Nat} (h : (s.port p).closing = false) : s.portSettle p = s := by
  rw [State.portSettle, h]
  rfl

theorem objs_portSettle (s : State) (p : Nat) : (s.portSettle p).objs = s.objs := by
  unfold State.portSettle
  dsimp only
  split
  · rfl
  · rfl

/-- The port has one message fewer that awaits its acknowledgment. -/
def closed (s : State) (p : Nat) (u : Unacked) : State := s.onPort p (fun q => { q with unacked := q.unacked.erase u })

theorem carries_closed (s : State) (p : Nat) (u : Unacked) : Carries s (closed s p u) := by
  refine ⟨rfl, fun k a ha => ?_, fun k => ?_, fun k => ?_⟩
  all_goals by_cases hk : k = p
  · subst hk
    rw [State.portHas, closed, State.port_onPort_same]
    exact ha
  · rw [State.portHas, closed, port_onPort_other _ _ _ _ hk]
    exact ha
  · rw [hk, closed, State.port_onPort_same]
  · rw [closed, port_onPort_other _ _ _ _ hk]
  · rw [hk, closed, State.port_onPort_same]
  · rw [closed, port_onPort_other _ _ _ _ hk]

/-- The fault that a status brings to the context of a message. -/
def ackFault (status : Nat) (u : Unacked) (s : State) : State :=
  if status = 0x49 then s.peerFault u (trouble 0x01 1 u.addr)
  else if status = 0x44 ∧ u.kind = 4 then s.peerFault u (trouble 0x09 4 u.addr)
  else s

/-- An acknowledgment of a message of no movement. -/
theorem exec_ack {p id status : Nat} {u : Unacked} (hp : p < 8) (hup : s.gmpUp p = true)
    (hu : (s.port p).unacked.find? (fun u => u.id = id) = some u) (hmove : u.move = none) :
    exec (.ack p [id] status) s = .next (((ackFault status u (closed s p u)).sysSendAll).portSettle p) := by
  have hone : s.ackOne p status id = (ackFault status u (closed s p u)).sysSendAll := by
    rw [State.ackOne, hu]
    dsimp only
    rw [hmove]
    rfl
  change Host.Outcome.next (ack p [id] status s) = _
  rw [ack, port_open hp hup, ← hone]
  rfl

/-- A status that refuses nothing. -/
theorem ackFault_none {status : Nat} {u : Unacked} (hstatus : status ≠ 0x49) (hpoison : ¬ (status = 0x44 ∧ u.kind = 4)) (s : State) :
    ackFault status u s = s := by
  rw [ackFault, if_neg hstatus, if_neg hpoison]

/-- With no barrier that waits to be sent, nothing is sent. -/
theorem sysSendAll_none (h : ∀ b ∈ s.gmp.barriers, b.ready = true → b.sent = true) : s.sysSendAll = s := by
  have hnone : s.gmp.barriers.filter (fun b => b.ready && !b.sent) = [] := by
    refine List.filter_eq_nil_iff.2 fun b hb => ?_
    cases hready : b.ready with
    | false => rw [Bool.false_and]; exact Bool.false_ne_true
    | true => rw [h b hb hready]; exact Bool.false_ne_true
  rw [State.sysSendAll, hnone]
  rfl

/-! ### A barrier that waited is sent (R207, R414) -/

/-- BARRIER as it leaves for a partner. -/
def Barrier (s : State) (b : SysBarrier) (m : PMsg) : Prop :=
  m.kind = 6 ∧ m.tag = s.hoopTag b.hoop ∧ m.aux = b.num ∧ m.body = leBytes 4 b.queue ++ leBytes 8 b.inst

/-- BARRIER of a barrier is on the port for partner `k`. -/
def Sent (s : State) (b : SysBarrier) (k : Nat) (t : State) : Prop := ∃ m, Barrier s b m ∧ t.portHas (t.portFor k none) m

theorem Sent.carries {b : SysBarrier} {k : Nat} {t u : State} (h : Sent s b k t) (hc : Carries t u) : Sent s b k u := by
  obtain ⟨m, hm, hhas⟩ := h
  refine ⟨m, hm, ?_⟩
  rw [hc.portFor]
  exact hc.has _ _ hhas

theorem sent_portSend {b : SysBarrier} {m : PMsg} (hm : Barrier s b m) (t : State) (k : Nat) : Sent s b k (t.portSend (t.portFor k none) m none) := by
  obtain ⟨hkind, htag, haux, hbody⟩ := hm
  refine ⟨numbered t (t.portFor k none) m, ⟨hkind, htag, haux, hbody⟩, ?_⟩
  rw [(carries_portSend t _ m none).portFor]
  exact portHas_portSend t _ m none

/-- A message for a partner leaves through the partner's port. -/
def sendTo (m : PMsg) (p : Nat) (t : State) : State := t.portSend (t.portFor p none) m none

theorem sent_each {b : SysBarrier} {m : PMsg} (hm : Barrier s b m) {ks : List Nat} {k : Nat} (hk : k ∈ ks) (t : State) :
    Sent s b k (each ks (sendTo m) t) :=
  each_reaches (f := sendTo m) (P := Sent s b k) hk (fun t => sent_portSend hm t k) (fun _ _ ht => ht.carries (carries_portSend _ _ _ _)) t

/-- The barrier is sent, and waits for no peer store. -/
def marked (b : SysBarrier) (g : Gimp) : Gimp :=
  { g with barriers := g.barriers.map (fun x => if x == b then { b with sent := true, after := [] } else x) }

/-- BARRIER of a barrier. -/
def barrierMsg (s : State) (b : SysBarrier) : PMsg :=
  { kind := 6, chunks := 1, tag := s.hoopTag b.hoop, xid := 0, id := 0, addr := 0, dst := 0, src := 0, aux := b.num
    body := leBytes 4 b.queue ++ leBytes 8 b.inst }

/-- The only barrier, complete and not sent, whose earlier peer stores are all acknowledged, is sent to every partner. -/
theorem sysSend_sends {b : SysBarrier} {v : Queue} (hb : s.gmp.barriers = [b]) (hready : b.ready = true) (hsent : b.sent = false)
    (hv : s.queue? b.queue = some v) (hafter : ∀ i ∈ b.after, i ∉ s.peerStores v.ctx) :
    s.sysSend b.queue b.num b.inst =
      (each (s.barrierPartners b.hoop) (sendTo (barrierMsg s b)) (s.onGmp (marked b))).sysRelease b.queue b.num b.inst := by
  have hfind : s.gmp.barriers.find? (fun x => x.queue = b.queue && x.num = b.num && x.inst = b.inst) = some b := by
    rw [hb, List.find?_cons_of_pos (by simp)]
  have hclear : b.after.any (fun i => (s.peerStores v.ctx).contains i) = false := by
    rw [List.any_eq_false]
    exact fun i hi hin => hafter i hi (List.contains_iff_mem.1 hin)
  have hsend : ¬ (!b.ready || b.sent || b.after.any (fun i => (s.peerStores v.ctx).contains i)) = true := by
    rw [hready, hsent, hclear]
    exact Bool.false_ne_true
  unfold State.sysSend
  rw [hfind]
  dsimp only
  rw [hv]
  dsimp only [Option.map_some, Option.getD_some]
  rw [if_neg hsend]
  rfl

theorem sent_sysSend {b : SysBarrier} {v : Queue} (hb : s.gmp.barriers = [b]) (hready : b.ready = true) (hsent : b.sent = false)
    (hv : s.queue? b.queue = some v) (hafter : ∀ i ∈ b.after, i ∉ s.peerStores v.ctx) {k : Nat} (hk : k ∈ s.barrierPartners b.hoop) :
    Sent s b k (s.sysSend b.queue b.num b.inst) := by
  rw [sysSend_sends hb hready hsent hv hafter]
  exact (sent_each (m := barrierMsg s b) ⟨rfl, rfl, rfl, rfl⟩ hk _).carries (carries_sysRelease _ _ _ _)

theorem sysSendAll_single {b : SysBarrier} (hb : s.gmp.barriers = [b]) (hready : b.ready = true) (hsent : b.sent = false) :
    s.sysSendAll = s.sysSend b.queue b.num b.inst := by
  rw [State.sysSendAll, hb, List.filter_cons_of_pos (by rw [hready, hsent]; rfl)]
  rfl

/-! ### A refusal faults (R412) -/

/-- A message of a lane, or of a bulk mover, faults the context that it belongs to. -/
theorem holdsFault_peerFault {u : Unacked} {i c : Nat} {y : Txn} (hreq : u.req = some (i, y))
    (hwho : (∃ e g, y.issuer = .lane e g ∧ y.ctx = some c) ∨ ∃ q v, y.issuer = .bulk q ∧ s.queue? q = some v ∧ v.ctx = c)
    (hc : s.faultFree c) (b : Trouble) : (s.peerFault u b).holdsFault c b.code b.detail b.addr := by
  rw [State.peerFault, hreq]
  dsimp only
  obtain ⟨e, g, hissuer, hctx⟩ | ⟨q, v, hissuer, hv, rfl⟩ := hwho
  · rw [hissuer]
    dsimp only
    rw [hctx]
    exact holdsFault_engineFaultOf hc _ _ _ _ _ _ _
  · rw [hissuer]
    exact holdsFault_frontFaultOf hv hc _ _ _

theorem holdsFault_ackFault {u : Unacked} {i c status : Nat} {y : Txn} (hstatus : status = 0x49 ∨ (status = 0x44 ∧ u.kind = 4))
    (hreq : u.req = some (i, y))
    (hwho : (∃ e g, y.issuer = .lane e g ∧ y.ctx = some c) ∨ ∃ q v, y.issuer = .bulk q ∧ s.queue? q = some v ∧ v.ctx = c)
    (hc : s.faultFree c) :
    (ackFault status u s).holdsFault c (if status = 0x49 then 0x01 else 0x09) (if status = 0x49 then 1 else 4) u.addr := by
  by_cases hrefused : status = 0x49
  · rw [ackFault, if_pos hrefused, if_pos hrefused, if_pos hrefused]
    exact holdsFault_peerFault hreq hwho hc (trouble 0x01 1 u.addr)
  · rw [ackFault, if_neg hrefused, if_neg hrefused, if_neg hrefused, if_pos (hstatus.resolve_left hrefused)]
    exact holdsFault_peerFault hreq hwho hc (trouble 0x09 4 u.addr)

/-! ### Held signals (R413) -/

/-- An earlier write of the context is not acknowledged. -/
theorem peerFenceHoldEnd_waits {p id : Nat} {h : HeldSignal} (hh : (s.port p).signals.find? (fun h => h.id = id) = some h)
    (hwait : ∃ w ∈ h.after, ∃ u ∈ (s.port w.1).unacked, u.id = w.2) : exec (.peerFenceHoldEnd p id) s = .next s := by
  obtain ⟨w, hw, u, hu, hid⟩ := hwait
  have hany : h.after.any (fun w => (s.port w.1).unacked.any (fun u => u.id = w.2)) = true :=
    List.any_eq_true.2 ⟨w, hw, List.any_eq_true.2 ⟨u, hu, decide_eq_true hid⟩⟩
  change Host.Outcome.next (peerFenceHoldEnd p id s) = _
  rw [peerFenceHoldEnd, hh]
  dsimp only
  rw [if_pos hany]

/-- The signal leaves those that are held. -/
def unheld (s : State) (p : Nat) (h : HeldSignal) : State := s.onPort p (fun x => { x with signals := x.signals.erase h })

theorem peerFenceHoldEnd_sends {p id : Nat} {h : HeldSignal} (hh : (s.port p).signals.find? (fun h => h.id = id) = some h)
    (hdone : ∀ w ∈ h.after, ∀ u ∈ (s.port w.1).unacked, u.id ≠ w.2) :
    exec (.peerFenceHoldEnd p id) s = .next ((unheld s p h).portSend p (peerMsg h.tag 4 h.who.addr (leBytes 8 h.value)) (some h.who)) := by
  have hnone : ¬ h.after.any (fun w => (s.port w.1).unacked.any (fun u => u.id = w.2)) = true := by
    intro hany
    obtain ⟨w, hw, hin⟩ := List.any_eq_true.1 hany
    obtain ⟨u, hu, hid⟩ := List.any_eq_true.1 hin
    exact hdone w hw u hu (of_decide_eq_true hid)
  change Host.Outcome.next (peerFenceHoldEnd p id s) = _
  rw [peerFenceHoldEnd, hh]
  dsimp only
  rw [if_neg hnone]
  rfl

end Sys2Proof.Machine.AckLaws
end

section
/-!
PROOF. BARRIER of a partner (R414), and the obligation about partners and barriers.
-/
namespace Sys2Proof.Machine.BarrierLaws
open MeshLaws FlowLaws SyndromeLaws CacheLaws NearLaws FrontLaws PortLaws PartnerLaws AckLaws

variable {s : State}

/-! ### The barriers that the ports know -/

/-- Whether a barrier is the one of this queue, number and count. -/
def isFor (q num inst : Nat) (b : SysBarrier) : Bool := b.queue = q && b.num = num && b.inst = inst

theorem isFor_iff {q num inst : Nat} {b : SysBarrier} : isFor q num inst b = true ↔ b.queue = q ∧ b.num = num ∧ b.inst = inst := by
  simp [isFor, and_assoc]

/-- A barrier that a partner has completed first. -/
def begun (s : State) (p q num inst h : Nat) : SysBarrier :=
  { queue := q, num := num, inst := inst, hoop := h, ready := false, sent := false, after := [], from_ := [s.partner p] }

/-- The barriers with one more partner's completion. -/
def heardFrom (k q num inst : Nat) (g : Gimp) : Gimp :=
  { g with barriers := g.barriers.map (fun x => if isFor q num inst x then { x with from_ := addNum x.from_ k } else x) }

/-- The barriers with one that a partner has completed first. -/
def withBarrier (b : SysBarrier) (g : Gimp) : Gimp := { g with barriers := g.barriers ++ [b] }

theorem exec_barrierMessage {p tag num q inst h : Nat} (hp : p < 8) (hup : s.gmpUp p = true) (hnum : num < 4) (htag : s.tagHoop p tag = some h) :
    exec (.barrierMessage p tag num q inst) s = .next (
      if !s.gmp.barriers.any (isFor q num inst) && decide (inst < SMap.getD s.gmp.instances (4 * q + num) 0) then s
      else (s.onGmp (fun g => { g with barriers := if s.gmp.barriers.any (isFor q num inst) then (heardFrom (s.partner p) q num inst g).barriers
        else (withBarrier (begun s p q num inst h) g).barriers })).sysRelease q num inst) := by
  change Host.Outcome.next (barrierMessage p tag num q inst s) = _
  unfold barrierMessage
  rw [port_open hp hup, decide_eq_false (by omega : ¬ 4 ≤ num), htag]
  rfl

theorem any_isFor_false {q num inst : Nat} (h : ∀ b ∈ s.gmp.barriers, ¬ (b.queue = q ∧ b.num = num ∧ b.inst = inst)) :
    s.gmp.barriers.any (isFor q num inst) = false :=
  List.any_eq_false.2 fun b hb hfor => h b hb (isFor_iff.1 hfor)

/-- A completion of a barrier that is not known and has been released is a duplicate. -/
theorem barrierMessage_dropped {p tag num q inst h : Nat} (hp : p < 8) (hup : s.gmpUp p = true) (hnum : num < 4) (htag : s.tagHoop p tag = some h)
    (hnew : ∀ b ∈ s.gmp.barriers, ¬ (b.queue = q ∧ b.num = num ∧ b.inst = inst)) (hinst : inst < SMap.getD s.gmp.instances (4 * q + num) 0) :
    exec (.barrierMessage p tag num q inst) s = .next s := by
  rw [exec_barrierMessage hp hup hnum htag, any_isFor_false hnew, decide_eq_true hinst]
  rfl

/-! ### Releases -/

theorem sysRelease_eq (q num inst : Nat) : s.sysRelease q num inst = match s.gmp.barriers.find? (isFor q num inst), (s.queue? q).bind (·.run) with
    | some b, some r =>
      if b.ready && b.sent && (s.barrierPartners b.hoop).all (fun p => b.from_.contains p) then
        (s.onGmp (fun g => { g with barriers := g.barriers.erase b })).barrierDone q num 4 0 r
      else s
    | _, _ => s := rfl

/-- A barrier that still waits is not released. -/
theorem sysRelease_waits {q num inst : Nat} {b : SysBarrier} (hfind : s.gmp.barriers.find? (isFor q num inst) = some b)
    (hwait : b.ready = false ∨ ∃ k ∈ s.barrierPartners b.hoop, k ∉ b.from_) : s.sysRelease q num inst = s := by
  have hno : ¬ (b.ready && b.sent && (s.barrierPartners b.hoop).all (fun p => b.from_.contains p)) = true := by
    intro hall
    rw [Bool.and_eq_true, Bool.and_eq_true] at hall
    obtain ⟨⟨hready, -⟩, hin⟩ := hall
    obtain hwait | ⟨k, hk, hnot⟩ := hwait
    · rw [hwait] at hready
      exact absurd hready Bool.false_ne_true
    · exact hnot (List.contains_iff_mem.1 (List.all_eq_true.1 hin k hk))
  rw [sysRelease_eq, hfind]
  split
  next c r hc _ =>
    rw [Option.some.inj hc.symm, if_neg hno]
  · rfl

/-- A barrier that every partner has completed is released. -/
theorem sysRelease_releases {q num inst : Nat} {b : SysBarrier} {u : Queue} {r : Run} (hfind : s.gmp.barriers.find? (isFor q num inst) = some b)
    (hu : s.queue? q = some u) (hr : u.run = some r) (hready : b.ready = true) (hsent : b.sent = true)
    (hall : ∀ k ∈ s.barrierPartners b.hoop, k ∈ b.from_) :
    s.sysRelease q num inst = (s.onGmp (fun g => { g with barriers := g.barriers.erase b })).barrierDone q num 4 0 r := by
  have hdone : (b.ready && b.sent && (s.barrierPartners b.hoop).all (fun p => b.from_.contains p)) = true := by
    rw [hready, hsent, Bool.true_and, Bool.true_and, List.all_eq_true]
    exact fun k hk => List.contains_iff_mem.2 (hall k hk)
  rw [sysRelease_eq, hfind, hu, Option.bind_some, hr]
  exact if_pos hdone

/-- A release has left for every member of the launch. -/
theorem asked_barrierDone (q num : Nat) (r : Run) {e : Nat} (he : e ∈ r.members) (s : State) :
    (s.barrierDone q num 4 0 r).fenceAsked (.release q num 4 e) := by
  have hms : r.members.filter (fun m => !((decide (4 = 1) && m != 0) || (decide (4 = 2) && engDie m != engDie 0))) = r.members :=
    List.filter_eq_self.2 fun _ _ => rfl
  have htold : Told (.release q num 4 e) (engDie e) (s.barrierDone q num 4 0 r) := by
    unfold State.barrierDone
    rw [hms]
    exact each_reaches (P := Told (.release q num 4 e) (engDie e)) he (fun t => told_sendMsg_new t _ _ _ _ _ _)
      (fun _ t ht => told_sendMsg_old ht _ _ _ _ _ _) s
  obtain ⟨j, y, hy, hkind, -⟩ := htold.tells
  exact ⟨j, y, hy, hkind⟩

theorem gmp_barrierDone (q num scope e : Nat) (r : Run) (s : State) : (s.barrierDone q num scope e r).gmp = s.gmp :=
  each_keeps (P := fun t => t.gmp = s.gmp) _ (fun _ _ t ht => by rw [moves_sendMsg t]; exact ht) s rfl

/-! ### A partner's completion -/

/-- The first completion of a barrier is remembered. -/
theorem barrierMessage_new {p tag num q inst h : Nat} (hp : p < 8) (hup : s.gmpUp p = true) (hnum : num < 4) (htag : s.tagHoop p tag = some h)
    (hnew : ∀ b ∈ s.gmp.barriers, ¬ (b.queue = q ∧ b.num = num ∧ b.inst = inst)) (hinst : SMap.getD s.gmp.instances (4 * q + num) 0 ≤ inst) :
    exec (.barrierMessage p tag num q inst) s = .next (s.onGmp (withBarrier (begun s p q num inst h))) := by
  have hnone : s.gmp.barriers.find? (isFor q num inst) = none :=
    List.find?_eq_none.2 fun b hb hfor => hnew b hb (isFor_iff.1 hfor)
  have hfind : (s.onGmp (withBarrier (begun s p q num inst h))).gmp.barriers.find? (isFor q num inst) = some (begun s p q num inst h) := by
    change (s.gmp.barriers ++ [begun s p q num inst h]).find? (isFor q num inst) = _
    rw [List.find?_append, hnone, Option.none_or]
    exact List.find?_cons_of_pos (isFor_iff.2 ⟨rfl, rfl, rfl⟩)
  rw [exec_barrierMessage hp hup hnum htag, any_isFor_false hnew, decide_eq_false (by omega)]
  exact congrArg _ (sysRelease_waits hfind (.inl rfl))

/-- The barrier with one more partner's completion. -/
def joinedBy (k : Nat) (b : SysBarrier) : SysBarrier := { b with from_ := addNum b.from_ k }

/-- A completion of the only barrier is noted, and its release looked at. -/
theorem barrierMessage_joins {p tag num q inst h : Nat} {b : SysBarrier} (hp : p < 8) (hup : s.gmpUp p = true) (hnum : num < 4)
    (htag : s.tagHoop p tag = some h) (hb : s.gmp.barriers = [b]) (hfor : isFor q num inst b = true) :
    exec (.barrierMessage p tag num q inst) s = .next ((s.onGmp (heardFrom (s.partner p) q num inst)).sysRelease q num inst) := by
  have hany : s.gmp.barriers.any (isFor q num inst) = true := by
    rw [hb, List.any_cons, hfor]
    rfl
  rw [exec_barrierMessage hp hup hnum htag, hany]
  rfl

theorem barriers_heardFrom {k q num inst : Nat} {b : SysBarrier} (hb : s.gmp.barriers = [b]) (hfor : isFor q num inst b = true) :
    (s.onGmp (heardFrom k q num inst)).gmp.barriers = [joinedBy k b] := by
  change s.gmp.barriers.map _ = _
  rw [hb, List.map_singleton, if_pos hfor]
  rfl

theorem find_heardFrom {k q num inst : Nat} {b : SysBarrier} (hb : s.gmp.barriers = [b]) (hfor : isFor q num inst b = true) :
    (s.onGmp (heardFrom k q num inst)).gmp.barriers.find? (isFor q num inst) = some (joinedBy k b) := by
  rw [barriers_heardFrom hb hfor]
  exact List.find?_cons_of_pos hfor

theorem partners_heardFrom (k q num inst h : Nat) : (s.onGmp (heardFrom k q num inst)).barrierPartners h = s.barrierPartners h :=
  (carries_onGmp s _ rfl).barrierPartners h

theorem mem_addNum_iff {l : List Nat} {n k : Nat} : k ∈ addNum l n ↔ k = n ∨ k ∈ l := by
  refine ⟨fun h => ?_, ?_⟩
  · induction l with
    | nil => exact .inl (List.mem_singleton.1 h)
    | cons a l ih =>
      rw [addNum] at h
      split at h
      · exact List.mem_cons.1 h
      · split at h
        · exact .inr h
        · obtain rfl | h := List.mem_cons.1 h
          · exact .inr (List.mem_cons_self ..)
          · exact (ih h).imp_right (List.mem_cons_of_mem _)
  · rintro (rfl | h)
    · exact mem_addNum_self l k
    · exact AccessLaws.mem_addNum_of_mem h n

end Sys2Proof.Machine.BarrierLaws

namespace Sys2Proof.Machine
open CacheLaws SyndromeLaws FrontLaws PortLaws PartnerLaws AckLaws BarrierLaws

/-- Settles O45, message by message: what may go where a partner directs it becomes a transaction or a signal, and all else is answered; an answer's
message is on its port because ports only hand messages from their queues to flits that they hold (`Flows`), and sending changes nothing else (`Carries`). -/
theorem partnersAndBarriers : Obligations.PartnersAndBarriers := by
  unfold Obligations.PartnersAndBarriers
  refine ⟨?_, ?_, ?_, ?_, ?_, ?_⟩
  · intro s p h m c op pa mask bs hp hup htag hmsg
    obtain ⟨k, hexec, rfl⟩ := exec_writes (s := s) hmsg
    refine ⟨fun hok hspace => ?_, fun hno => ?_⟩
    · rw [peerTxn_stores hp hup htag hok hspace] at hexec
      exact ⟨_, s.nextId, peerStore p h m op pa k bs, hexec, rfl, SMapLaws.get_put_same _ _ _, rfl, rfl, rfl, rfl, cut_behind _ _ _, rfl, rfl⟩
    · rw [peerTxn_refused hp hup htag hno] at hexec
      exact answers_peerAck s hexec
  · intro s p m hp hup
    refine ⟨fun c hc htag => ?_, fun hkind => ?_⟩
    · obtain ⟨t, ht, hack, hmem, htxns, -⟩ := answers_peerAck s (exec_untagged hp hup htag c hc)
      exact ⟨t, ht, hack, hmem, htxns⟩
    · obtain ⟨t, ht, hack, hmem, htxns, -⟩ := answers_peerAck s (exec_lineReduce_reserved hp hup hkind)
      exact ⟨t, ht, hack, hmem, htxns⟩
  · intro s p h m hp hup htag
    refine ⟨fun hno => ?_, fun halign hok hstack hfree hfirst => ?_⟩
    · obtain ⟨t, ht, hack, hmem, -⟩ := answers_peerAck s (gmpFenceSignal_refused hp hup htag hno)
      exact ⟨t, ht, hack, hmem⟩
    · have hexec := gmpFenceSignal_applies hp hup htag halign hok hstack hfree hfirst
      refine ⟨fun hbad => ?_, fun hgood hlow hquiet => ?_, fun hgood hsame => ?_⟩
      · rw [if_pos hbad] at hexec
        obtain ⟨t, ht, hack, hmem, -⟩ := answers_peerAck s hexec
        exact ⟨t, ht, hack, hmem⟩
      · rw [if_neg (by rw [hgood]; exact Bool.false_ne_true), applySignal_raises hlow hquiet] at hexec
        have hmoves := moves_raised s (m.addr % 2 ^ 40) (fenceHome s p h (m.addr % 2 ^ 40)) (numAt m.body 0 8)
          { fenceOf (s.peek (m.addr % 2 ^ 40) 32).1 with value := numAt m.body 0 8 }.bytes
        have hack := carries_peerAck (raised s (m.addr % 2 ^ 40) (fenceHome s p h (m.addr % 2 ^ 40)) (numAt m.body 0 8)
          { fenceOf (s.peek (m.addr % 2 ^ 40) 32).1 with value := numAt m.body 0 8 }.bytes) p m.id 0
        refine ⟨_, hexec, ackSent_peerAck _ _ _ _, hack.mem.trans hmoves.mem, hack.cache.trans hmoves.cache, ?_⟩
        rw [hack.objs]
        exact waits_raised _ _ _ _ _
      · rw [if_neg (by rw [hgood]; exact Bool.false_ne_true), applySignal_same hsame] at hexec
        exact ⟨_, hexec, ackSent_peerAck _ _ _ _, (carries_peerAck s _ _ _).mem, (carries_peerAck s _ _ _).objs⟩
  · intro s p id status u hp hup hclosing hu hmove
    have hexec := exec_ack (status := status) hp hup hu hmove
    refine ⟨fun hstatus hpoison => ?_, fun i y c hstatus hreq hwho hfree => ?_⟩
    · rw [ackFault_none hstatus hpoison] at hexec
      refine ⟨fun hall => ?_, fun b v hb hready hsent hv hafter => ?_⟩
      · rw [sysSendAll_none (s := closed s p u) hall, portSettle_open (((carries_closed s p u).closing p).trans hclosing)] at hexec
        exact hexec
      · have hcarries := (carries_closed s p u).trans (carries_sysSendAll (closed s p u))
        rw [portSettle_open ((hcarries.closing p).trans hclosing)] at hexec
        refine ⟨_, hexec, hcarries.mem, fun k hk => ?_⟩
        rw [← (carries_closed s p u).barrierPartners] at hk
        obtain ⟨m, ⟨hkind, hmtag, haux, hbody⟩, hhas⟩ := sent_sysSend (s := closed s p u) hb hready hsent hv hafter hk
        rw [← sysSendAll_single (s := closed s p u) hb hready hsent, hcarries.portFor] at hhas
        exact ⟨m, hkind, hmtag, haux, hbody, hhas⟩
    · refine ⟨_, hexec, ?_⟩
      have hfault := holdsFault_ackFault (s := closed s p u) hstatus hreq hwho hfree
      have hkeeps : KeepsFaults (ackFault status u (closed s p u)) ((ackFault status u (closed s p u)).sysSendAll.portSettle p) :=
        keepsFaults_of_objs ((objs_portSettle _ p).trans (carries_sysSendAll _).objs)
      exact hkeeps.holds hfault
  · intro s p id h hh
    refine ⟨fun hwait => peerFenceHoldEnd_waits hh hwait, fun hdone => ?_⟩
    have hflows := flows_portSend (unheld s p h) p (peerMsg h.tag 4 h.who.addr (leBytes 8 h.value)) (some h.who)
    have hport : (unheld s p h).port p = { s.port p with signals := (s.port p).signals.erase h } := State.port_onPort_same _ _ _
    refine ⟨_, numbered (unheld s p h) p (peerMsg h.tag 4 h.who.addr (leBytes 8 h.value)), (s.port p).nextId, peerFenceHoldEnd_sends hh hdone, ?_, rfl, rfl, rfl,
      rfl, portHas_portSend _ _ _ _, ?_, (carries_portSend _ _ _ _).mem⟩
    · rw [hflows.signals, hport]
      rfl
    · rw [hflows.unacked, hport]
      rfl
  · intro s p tag num q inst h hp hup hnum htag
    refine ⟨barrierMessage_dropped hp hup hnum htag, fun hnew hinst => ?_, fun b u r hb hq hn hi hready hsent hu hr => ?_⟩
    · exact ⟨_, barrierMessage_new hp hup hnum htag hnew hinst, rfl, rfl⟩
    · have hfor : isFor q num inst b = true := isFor_iff.2 ⟨hq, hn, hi⟩
      have hexec := barrierMessage_joins hp hup hnum htag hb hfor
      have hfind := find_heardFrom (k := s.partner p) hb hfor
      refine ⟨fun hwait => ?_, fun hall => ?_⟩
      · obtain ⟨k, hk, hother, hnot⟩ := hwait
        have hmissing : ∃ k ∈ (s.onGmp (heardFrom (s.partner p) q num inst)).barrierPartners (joinedBy (s.partner p) b).hoop,
            k ∉ (joinedBy (s.partner p) b).from_ := by
          refine ⟨k, ?_, fun hin => (mem_addNum_iff.1 hin).elim hother hnot⟩
          rw [partners_heardFrom]
          exact hk
        rw [sysRelease_waits hfind (.inr hmissing)] at hexec
        exact ⟨_, hexec, barriers_heardFrom hb hfor, rfl⟩
      · have hpartners : ∀ k ∈ (s.onGmp (heardFrom (s.partner p) q num inst)).barrierPartners (joinedBy (s.partner p) b).hoop,
            k ∈ (joinedBy (s.partner p) b).from_ := by
          rw [partners_heardFrom]
          exact fun k hk => mem_addNum_iff.2 (hall k hk)
        rw [sysRelease_releases hfind hu hr hready hsent hpartners] at hexec
        refine ⟨_, hexec, ?_, fun e he => asked_barrierDone q num r he _⟩
        rw [gmp_barrierDone]
        change ((s.onGmp (heardFrom (s.partner p) q num inst)).gmp.barriers.erase (joinedBy (s.partner p) b)) = []
        rw [barriers_heardFrom hb hfor, List.erase_cons_head]

end Sys2Proof.Machine
end

section
/-!
PROOF. The start of a held command (R256, R319), and what a translation looks at (R179).
-/
namespace Sys2Proof.Machine.QueueLaws
open MeshLaws SyndromeLaws CacheLaws NearLaws FrontLaws

/-! ### Translations do not look at the objects -/

section objects

variable (s : State) (f : Objects → Objects)

theorem fld_onObjs (w : Field) (k : Nat) : (s.onObjs f).fld w k = s.fld w k := by rw [State.fld, State.rd_onObjs, State.fld]
theorem bit_onObjs (w : Field) (k : Nat) : (s.onObjs f).bit w k = s.bit w k := by rw [bit_eq_fld, fld_onObjs, bit_eq_fld]
theorem rd64_onObjs (k : Nat) : (s.onObjs f).rd64 k = s.rd64 k := by rw [State.rd64, State.rd_onObjs, State.rd_onObjs, State.rd64]
theorem setOf_onObjs (pa : Nat) : (s.onObjs f).setOf pa = s.setOf pa := rfl
theorem isStack_onObjs (pa : Nat) : (s.onObjs f).isStack pa = s.isStack pa := rfl
theorem copySector_onObjs (mir : Bool) (a : Nat) : (s.onObjs f).copySector mir a = s.copySector mir a := rfl

theorem setAllowed_onObjs (h pa : Nat) (w : Bool) : (s.onObjs f).setAllowed h pa w = s.setAllowed h pa w := by
  simp only [State.setAllowed, fld_onObjs, bit_onObjs, setOf_onObjs]

theorem newest_onObjs (mir : Bool) (a : Nat) : (s.onObjs f).newest mir a = s.newest mir a := by
  rw [State.newest, copySector_onObjs]
  rfl

theorem peek_onObjs (pa n : Nat) : (s.onObjs f).peek pa n = s.peek pa n := by
  simp only [State.peek, State.peekAs, newest_onObjs]
  rfl

theorem savePool_onObjs (h : Nat) : (s.onObjs f).savePool h = s.savePool h := by
  rw [State.savePool, rd64_onObjs, fld_onObjs, State.savePool]

theorem reachable_onObjs (pa : Nat) : (s.onObjs f).reachable pa = s.reachable pa := by
  simp only [State.reachable, State.inSavePool, isStack_onObjs, fld_onObjs, savePool_onObjs]

theorem pageOk_onObjs (pa n : Nat) : (s.onObjs f).pageOk pa n = s.pageOk pa n := by
  simp only [State.pageOk, isStack_onObjs, fld_onObjs, savePool_onObjs]

theorem walkOne_onObjs (h lvl table va kind : Nat) : (s.onObjs f).walkOne h lvl table va kind = s.walkOne h lvl table va kind := by
  simp only [State.walkOne, State.pteCheck, setAllowed_onObjs, peek_onObjs, reachable_onObjs, pageOk_onObjs]

theorem walkAll_onObjs (h va kind n table : Nat) : (s.onObjs f).walkAll h va kind n table = s.walkAll h va kind n table := by
  induction n generalizing table with
  | zero => simp only [State.walkAll, walkOne_onObjs]
  | succ n ih => simp only [State.walkAll, walkOne_onObjs, ih]

theorem mobj_onObjs (c : Ctx) (i : Nat) : (s.onObjs f).mobj c i = s.mobj c i := by rw [State.mobj, peek_onObjs, State.mobj]

theorem leafCheck_onObjs (c : Ctx) (a : Access) (va : Nat) (l : Leaf) : (s.onObjs f).leafCheck c a va l = s.leafCheck c a va l := by
  rw [State.leafCheck, mobj_onObjs, State.leafCheck]

theorem translate_onObjs (c : Ctx) (a : Access) (va : Nat) : (s.onObjs f).translate c a va = s.translate c a va := by
  simp only [State.translate, walkAll_onObjs, leafCheck_onObjs]

theorem canReach_onObjs (d k : Nat) : (s.onObjs f).canReach d k = s.canReach d k := canReach_congr (State.rd_onObjs s f) d k

theorem idxFor_onObjs (w : Option Nat) (pa : Nat) : (s.onObjs f).idxFor w pa = s.idxFor w pa := by
  cases w with
  | none => rfl
  | some k => simp only [State.idxFor, fld_onObjs, bit_onObjs]

theorem idxOn_onObjs (d : Nat) (w : Option Nat) (pa : Nat) : (s.onObjs f).idxOn d w pa = s.idxOn d w pa := by
  have htest : (s.onObjs f).inTest d = s.inTest d := by rw [State.inTest, fld_onObjs, State.inTest]
  rw [State.idxOn, htest, idxFor_onObjs, State.idxOn]

theorem winFor_onObjs (h : Option Nat) (pa : Nat) : (s.onObjs f).winFor h pa = s.winFor h pa := by
  simp only [State.winFor, State.winCovers, fld_onObjs, bit_onObjs]

theorem idxDie_onObjs (i : Nat) : (s.onObjs f).idxDie i = s.idxDie i := fld_onObjs s f _ _

theorem fenceBar_onObjs (h die va pa : Nat) (w : Bool) : (s.onObjs f).fenceBar h die va pa w = s.fenceBar h die va pa w := by
  simp only [State.fenceBar, idxDie_onObjs, idxOn_onObjs, winFor_onObjs, setAllowed_onObjs, canReach_onObjs]

end objects

/-! ### A step that changes one queue -/

variable {s t : State} {q : Nat} {v : Queue}

/-- A step makes the queue `q` into `v`, and changes no other queue, no context and nothing besides. -/
structure Runs (q : Nat) (v : Queue) (s t : State) : Prop where
  only : t = s.onObjs (fun _ => t.objs)
  queue : t.queue? q = some v
  others : ∀ k, k ≠ q → t.queue? k = s.queue? k
  ctxs : t.objs.ctxs = s.objs.ctxs

theorem runs_self (h : s.queue? q = some v) : Runs q v s s := ⟨rfl, h, fun _ _ => rfl, rfl⟩

theorem Runs.onQueue (h : Runs q v s t) (f : Queue → Queue) : Runs q (f v) s (t.onQueue q f) := by
  refine ⟨?_, ?_, fun k hk => ?_, h.ctxs⟩
  · rw [State.onQueue, State.onObjs]
    exact congrArg (fun x : State => { x with objs := (t.onQueue q f).objs }) h.only
  · rw [State.queue_onQueue, if_pos rfl, h.queue]
    rfl
  · rw [State.queue_onQueue, if_neg hk, h.others k hk]

theorem Runs.onRun (h : Runs q v s t) (f : Run → Run) : Runs q { v with run := v.run.map f } s (t.onRun q f) :=
  h.onQueue (fun u => { u with run := u.run.map f })

theorem Runs.ctx (h : Runs q v s t) (c : Nat) : t.ctx? c = s.ctx? c := by rw [State.ctx?, h.ctxs, State.ctx?]
theorem Runs.regs (h : Runs q v s t) : t.regs = s.regs := by rw [h.only]; rfl
theorem Runs.mem (h : Runs q v s t) : t.mem = s.mem := by rw [h.only]; rfl
theorem Runs.engs (h : Runs q v s t) : t.engs = s.engs := by rw [h.only]; rfl

theorem Runs.translate (h : Runs q v s t) (c : Ctx) (a : Access) (va : Nat) : t.translate c a va = s.translate c a va := by
  rw [h.only]
  exact translate_onObjs s _ c a va

theorem Runs.fenceBar (h : Runs q v s t) (k die va pa : Nat) (w : Bool) : t.fenceBar k die va pa w = s.fenceBar k die va pa w := by
  rw [h.only]
  exact fenceBar_onObjs s _ k die va pa w

/-- A queue's die depends on its members, its mover and its context. -/
theorem Runs.queueDie (h : Runs q v s t) (u : Queue) : t.queueDie u = s.queueDie u := by
  have hhoop : t.queueHoop u = s.queueHoop u := by rw [State.queueHoop, h.ctx, State.queueHoop]
  have hmgr : ∀ k, t.mgrDie k = s.mgrDie k := fun k => by
    rw [h.only]
    rfl
  simp only [State.queueDie, hhoop, hmgr]

/-! ### A held command starts (R256, R319) -/

variable {op : Nat} {u : Queue} {c : Ctx} {r : Run}

/-- The queue has the members of its set, and its command has not begun to run. -/
def Queue.taking (u : Queue) (ms : List Nat) (r : Run) : Queue := { u with members := ms, run := some { r with members := ms } }

/-- The state in which the command of queue `q` runs on the members of its set. -/
def commenced (s : State) (q : Nat) (u : Queue) : State :=
  ((s.onQueue q (fun v => { v with members := s.setNow q u })).onRun q (fun r => { r with members := s.setNow q u })).onRun q
    (fun r => { r with phase := .running })

theorem runs_commenced (h : s.mayStart q op u c r) : Runs q (u.started (s.setNow q u) r) s (commenced s q u) := by
  obtain ⟨hu, -, hr, -⟩ := h
  have hstart := (((runs_self hu).onQueue (fun v => { v with members := s.setNow q u })).onRun (fun r => { r with members := s.setNow q u })).onRun
    (fun r => { r with phase := .running })
  rw [hr] at hstart
  exact hstart

/-- What the command does follows in the state in which it runs. -/
theorem startCmd_of_mayStart (h : s.mayStart q op u c r) (go : Queue → Ctx → Run → State → State) :
    s.startCmd q op go = go (Queue.taking u (s.setNow q u) r) c r (commenced s q u) := by
  obtain ⟨hu, hc, hr, hphase, hop, hbound, hst, hcst, hset, hfits⟩ := h
  have htake : s.takeSet q = some ((s.onQueue q (fun v => { v with members := s.setNow q u })).onRun q (fun r => { r with members := s.setNow q u })) := by
    have hmay : (u.kind = .copy ∨ (!(s.setNow q u).isEmpty) = true) ∧
        (s.setNow q u).all (fun e => u.members.contains e || s.engFits u e) = true := by
      refine ⟨hset.imp_right fun hne => ?_, List.all_eq_true.2 fun e he => ?_⟩
      · rw [Bool.not_eq_true', List.isEmpty_eq_false_iff]
        exact hne
      · rw [Bool.or_eq_true]
        exact hfits e he
    rw [State.takeSet, hu]
    exact if_pos hmay
  have hqueue : ((s.onQueue q (fun v => { v with members := s.setNow q u })).onRun q (fun r => { r with members := s.setNow q u })).queue? q =
      some (Queue.taking u (s.setNow q u) r) := by
    have htaken := ((runs_self hu).onQueue (fun v => { v with members := s.setNow q u })).onRun (fun r => { r with members := s.setNow q u })
    rw [htaken.queue, hr]
    rfl
  rw [State.startCmd, hu]
  dsimp only
  rw [hc, hr]
  dsimp only
  rw [if_pos ⟨hphase, hop, hbound, hst, hcst⟩, htake]
  dsimp only
  rw [hqueue]
  rfl

/-! ### NOP and EVENT (R262) -/

theorem runs_cmdDone (h : s.mayStart q op u c r) : Runs q { u with
    members := s.setNow q u, run := some { r with phase := .completing, members := s.setNow q u, status := 0, detail := 0 } } s
    ((commenced s q u).cmdDone q 0) :=
  (runs_commenced h).onRun (fun r => { r with phase := .completing, status := 0, detail := 0 })

theorem exec_nop (h : s.mayStart q 1 u c r) : exec (.nop q) s = .next ((commenced s q u).cmdDone q 0) := congrArg _ (startCmd_of_mayStart h _)
theorem exec_event (h : s.mayStart q 9 u c r) : exec (.event q) s = .next ((commenced s q u).cmdDone q 0) := congrArg _ (startCmd_of_mayStart h _)

/-! ### LAUNCH (R264) -/

theorem exec_launch_realTime (h : s.mayStart q 2 u c r) (hkind : u.kind = .realTime) : exec (.launch q) s = .next s := by
  obtain ⟨hu, -⟩ := h
  change Host.Outcome.next (launch q s) = _
  rw [launch, hu, if_pos (by rw [Option.any_some, hkind]; rfl)]

theorem exec_launch (h : s.mayStart q 2 u c r) (hkind : u.kind ≠ .realTime) :
    exec (.launch q) s = .next ((commenced s q u).openLaunch q u.ctx r.desc) := by
  have hu := h.1
  change Host.Outcome.next (launch q s) = _
  rw [launch, hu, if_neg (by rw [Option.any_some, decide_eq_true_iff]; exact hkind), startCmd_of_mayStart h]
  rfl

/-- Member `k` of a launch takes its share. -/
def takesShare (q ctx : Nat) (d : Bytes) (ms : List Nat) (k : Nat) (t : State) : State :=
  t.onEng (ms.getD k 0) (fun n => { n with shares := SMap.put n.shares q (shareOf ctx k ms.length d) })

theorem openShares_of_run {d : Bytes} {ctx : Nat} (hv : t.queue? q = some v) (hr : v.run = some r) :
    t.openShares q ctx d (fun _ => true) = each (List.range r.members.length) (takesShare q ctx d r.members) t := by
  rw [State.openShares, hv, Option.bind_some, hr]
  rfl

variable (q) in
/-- An engine outside the set is as it was. -/
theorem eng_takeShares (ctx : Nat) (d : Bytes) {ms : List Nat} {e : Nat} (he : e ∉ ms) (t : State) :
    (each (List.range ms.length) (takesShare q ctx d ms) t).eng e = t.eng e := by
  refine each_keeps (P := fun x => x.eng e = t.eng e) _ (fun k hk x hx => ?_) t rfl
  have hmem : ms.getD k 0 ∈ ms := by
    rw [List.getD_eq_getElem _ _ (List.mem_range.1 hk)]
    exact List.getElem_mem _
  have hother : e ≠ ms.getD k 0 := fun heq => he (heq ▸ hmem)
  rw [takesShare, State.eng_onEng_other _ _ _ _ hother, hx]

variable (q) in
/-- With no engine twice in the set, each has the share of its place. -/
theorem share_takeShares (ctx : Nat) (d : Bytes) {ms : List Nat} (hms : ms.Nodup) {n : Nat} (hn : n ≤ ms.length) (t : State) :
    ∀ k e, k < n → ms[k]? = some e → (each (List.range n) (takesShare q ctx d ms) t).share? e q = some (shareOf ctx k ms.length d) := by
  induction n with
  | zero => exact fun k _ hk => absurd hk (Nat.not_lt_zero k)
  | succ n ih =>
    intro k e hk he
    have hlast : each (List.range (n + 1)) (takesShare q ctx d ms) t = takesShare q ctx d ms n (each (List.range n) (takesShare q ctx d ms) t) := by
      rw [List.range_succ, each, List.foldl_append]
      rfl
    have hget : ms.getD n 0 = ms[n] := List.getD_eq_getElem _ _ (by omega)
    obtain ⟨hlen, rfl⟩ := List.getElem?_eq_some_iff.1 he
    rw [hlast, takesShare, hget, State.share?]
    by_cases hkn : k = n
    · subst hkn
      rw [State.eng_onEng_same]
      exact SMapLaws.get_put_same _ _ _
    · have hother : ms[k] ≠ ms[n] := fun heq => hkn ((List.Nodup.getElem_inj_iff hms).1 heq)
      rw [State.eng_onEng_other _ _ _ _ hother]
      exact ih (by omega) k _ (by omega) he

theorem takeShares_only (q ctx : Nat) (d : Bytes) (ms : List Nat) (l : List Nat) (t : State) :
    each l (takesShare q ctx d ms) t = { t with engs := (each l (takesShare q ctx d ms) t).engs } :=
  each_keeps (P := fun x => x = { t with engs := x.engs }) l
    (fun k _ x hx => congrArg (fun y : State => { y with engs := (takesShare q ctx d ms k x).engs }) hx) t rfl

/-- A context's next LAUNCH has begun. -/
def launched (c : Ctx) : Ctx := { c with launches := c.launches + 1, running := addNum c.running (c.launches + 1) }

theorem ctx_onRun (t : State) (q k : Nat) (f : Run → Run) : (t.onRun q f).ctx? k = t.ctx? k := rfl

/-- A LAUNCH begins: the context counts it, its queue's run has its number, and nothing besides changes. -/
theorem beginLaunch_spec (hv : t.queue? q = some v) (hc : t.ctx? v.ctx = some c) :
    (t.beginLaunch q v.ctx).queue? q = some { v with run := v.run.map (fun r => { r with phase := .running, launch := c.launches + 1 }) } ∧
      (t.beginLaunch q v.ctx).ctx? v.ctx = some (launched c) ∧ t.beginLaunch q v.ctx = t.onObjs (fun _ => (t.beginLaunch q v.ctx).objs) := by
  refine ⟨?_, ?_, rfl⟩
  · rw [State.beginLaunch, hc, State.onRun, State.queue_onQueue, if_pos rfl]
    exact congrArg (Option.map _) hv
  · rw [State.beginLaunch, hc]
    rw [ctx_onRun, State.ctx_onCtx, if_pos rfl, hc]
    rfl

theorem objs_takeShares (q ctx : Nat) (d : Bytes) (ms : List Nat) (l : List Nat) (t : State) : (each l (takesShare q ctx d ms) t).objs = t.objs :=
  each_keeps (f := takesShare q ctx d ms) (P := fun x => x.objs = t.objs) l (fun _ _ _ hx => hx) t rfl

/-- A LAUNCH that starts gives each member its share. -/
theorem openLaunch_eq (hv : t.queue? q = some v) (hc : t.ctx? v.ctx = some c) (hr : v.run = some r) (d : Bytes) :
    t.openLaunch q v.ctx d = each (List.range r.members.length) (takesShare q v.ctx d r.members) (t.beginLaunch q v.ctx) := by
  obtain ⟨hqueue, -, -⟩ := beginLaunch_spec hv hc
  rw [hr] at hqueue
  exact openShares_of_run (r := { r with phase := .running, launch := c.launches + 1 }) hqueue rfl

/-- What a LAUNCH that starts leaves: its queue and its context, its members' shares, and every other engine as it was. -/
theorem openLaunch_spec (hruns : Runs q v s t) (hc : t.ctx? v.ctx = some c) (hr : v.run = some r) (d : Bytes) {x : State} (hx : x = t.openLaunch q v.ctx d) :
    x.queue? q = some { v with run := v.run.map (fun r => { r with phase := .running, launch := c.launches + 1 }) } ∧
      x.ctx? v.ctx = some (launched c) ∧
      (r.members.Nodup → ∀ k e, r.members[k]? = some e → x.share? e q = some (shareOf v.ctx k r.members.length d)) ∧
      (∀ e, e ∉ r.members → x.eng e = s.eng e) ∧ x = { s with objs := x.objs, engs := x.engs } := by
  obtain ⟨hqueue, hctx, honly⟩ := beginLaunch_spec hruns.queue hc
  rw [openLaunch_eq hruns.queue hc hr] at hx
  have hobjs : x.objs = (t.beginLaunch q v.ctx).objs := by rw [hx, objs_takeShares]
  refine ⟨?_, ?_, fun hms k e he => ?_, fun e he => ?_, ?_⟩
  · rw [State.queue?, hobjs]
    exact hqueue
  · rw [State.ctx?, hobjs]
    exact hctx
  · rw [hx]
    exact share_takeShares q v.ctx d hms (Nat.le_refl _) _ k e (List.getElem?_eq_some_iff.1 he).1 he
  · rw [hx, eng_takeShares q v.ctx d he, State.eng, State.eng, ← hruns.engs]
    rfl
  · have hkept := takeShares_only q v.ctx d r.members (List.range r.members.length) (t.beginLaunch q v.ctx)
    rw [← hx, honly, hruns.only] at hkept
    rw [hobjs]
    exact hkept

end Sys2Proof.Machine.QueueLaws
end

section
/-!
PROOF. What a command does as it starts: bulk movers, fences and flushes (R180, R198, R199, R265 to R267), and the obligation about starts.
-/
namespace Sys2Proof.Machine.StartLaws
open MeshLaws SyndromeLaws CacheLaws NearLaws FrontLaws QueueLaws

variable {s t : State} {q op : Nat} {u v : Queue} {c : Ctx} {r : Run}

/-! ### Requests of a bulk mover (R265, R266) -/

/-- Where a step only lets one request leave, the bulk mover asks for a line. -/
def Asks (q : Nat) (op : MemOp) (va line : Nat) (sp : Space) (t t' : State) : Prop :=
  t' = { t with txns := t'.txns, nextId := t'.nextId } ∧ t'.bulkAsks q op va line sp

/-- A page that has a translation gives the line and the space of a request. -/
theorem asks_bulkSend {a : Access} {va : Nat} {l : Leaf} {m : Mobj} (htr : t.translate c a va = .ok (l, m)) (ha : a ≠ .atomic) (op : MemOp)
    (part len carry : Nat) (bs : Bytes) : Asks q op va (lineOf (l.phys va)) l.space t (t.bulkSend q v c a op part va len carry bs) := by
  rw [State.bulkSend, htr]
  dsimp only
  rw [if_neg (fun h => ha h.1)]
  exact ⟨rfl, t.nextId, _, SMapLaws.get_put_same _ _ _, rfl, rfl, rfl, rfl, Nat.sub_add_cancel (Nat.mod_le va 128), rfl⟩

/-- A page without one faults. -/
theorem bulkSend_faults {a : Access} {va : Nat} {f : Trouble} (htr : t.translate c a va = .error f) (op : MemOp) (part len carry : Nat) (bs : Bytes) :
    t.bulkSend q v c a op part va len carry bs = t.frontFault q f v.descVa := by
  rw [State.bulkSend, htr]

section next

variable (hv : t.queue? q = some v) (hc : t.ctx? v.ctx = some c) (hr : v.run = some r) (hpos : r.pos = 0) (hn : numAt r.desc 32 4 ≠ 0)
include hv hc hr hpos hn

/-- A COPY's first request reads its first source bytes. -/
theorem bulkNext_copy (hop : descOp r.desc = 3) : ∃ len, t.bulkNext q = t.bulkSend q v c .read .read 1 (numAt r.desc 16 8) len 0 [] := by
  unfold State.bulkNext
  rw [hv]
  dsimp only
  rw [hc, hr]
  dsimp only
  rw [hop, hpos]
  exact ⟨_, if_neg (by omega)⟩

/-- A FILL's first request stores its first pattern bytes. -/
theorem bulkNext_fill (hop : descOp r.desc = 4) : ∃ len bs, t.bulkNext q = t.bulkSend q v c .store .store 2 (numAt r.desc 24 8) len 0 bs := by
  unfold State.bulkNext
  rw [hv]
  dsimp only
  rw [hc, hr]
  dsimp only
  rw [hop, hpos]
  exact ⟨_, _, if_neg (by omega)⟩

/-- A REDUCE_COPY's first request reads its first scale word, or its first source line where it has no scales. -/
theorem bulkNext_reduce (hop : descOp r.desc = 5) : t.bulkNext q =
    if numAt r.desc 40 1 = 1 then t.bulkSend q v c .read .read 0 (numAt r.desc 48 8) 4 0 []
    else t.bulkSend q v c .read .read 1 (numAt r.desc 16 8) 128 0 [] := by
  unfold State.bulkNext
  rw [hv]
  dsimp only
  rw [hc, hr]
  dsimp only
  rw [hop, hpos]
  exact if_neg (by omega)

end next

theorem exec_copy (h : s.mayStart q 3 u c r) : exec (.copy q) s = .next ((commenced s q u).bulkNext q) := congrArg _ (startCmd_of_mayStart h _)
theorem exec_fill (h : s.mayStart q 4 u c r) : exec (.fill q) s = .next ((commenced s q u).bulkNext q) := congrArg _ (startCmd_of_mayStart h _)
theorem exec_reduceCopy (h : s.mayStart q 5 u c r) : exec (.reduceCopy q) s = .next ((commenced s q u).bulkNext q) :=
  congrArg _ (startCmd_of_mayStart h _)

/-- The queue runs its command, and a request of its bulk mover has left. -/
theorem runs_asks (h : s.mayStart q op u c r) {k : MemOp} {va line : Nat} {sp : Space} (ha : Asks q k va line sp (commenced s q u) t) :
    (t.queue? q = some (u.started (s.setNow q u) r) ∧ t = { s with objs := t.objs, txns := t.txns, nextId := t.nextId }) ∧
      t.bulkAsks q k va line sp := by
  obtain ⟨honly, hasks⟩ := ha
  have hruns := runs_commenced h
  refine ⟨⟨?_, ?_⟩, hasks⟩
  · rw [honly]
    exact hruns.queue
  · have hobjs : t.objs = (commenced s q u).objs := by rw [honly]
    rw [hruns.only] at honly
    rw [hobjs]
    exact honly

/-! ### Faults as a command starts (R255) -/

/-- A fault of the front end in the state in which the command runs is held by the command's context. -/
theorem holdsFault_commenced (h : s.mayStart q op u c r) (hfree : c.fault = none) (f : Trouble) (pc : Nat) :
    ((commenced s q u).frontFault q f pc).holdsFault u.ctx f.code f.detail f.addr := by
  have hruns := runs_commenced h
  have hc := h.2.1
  exact holdsFault_frontFaultOf hruns.queue ⟨c, (hruns.ctx u.ctx).trans hc, hfree⟩ true f pc

/-! ### Fences (R198, R199, R267) -/

theorem fenceMsg_only (kind : MsgKind) (hoop : Option Nat) (src pa : Nat) (frm : Stop) (t : State) : t.fenceMsg kind hoop src pa frm =
    { t with
      msgs := (t.fenceMsg kind hoop src pa frm).msgs, nextId := (t.fenceMsg kind hoop src pa frm).nextId
      mesh := (t.fenceMsg kind hoop src pa frm).mesh } := by
  have hmoves : Moves t (t.fenceMsg kind hoop src pa frm) := moves_sendMsg t _ _ _ _ _ _
  have htxns : (t.fenceMsg kind hoop src pa frm).txns = t.txns := txns_sendMsg t _ _ _ _ _ _
  unfold Moves at hmoves
  rw [htxns] at hmoves
  exact hmoves

theorem asked_fenceMsg (kind : MsgKind) (hoop : Option Nat) (src pa : Nat) (frm : Stop) (t : State) :
    (t.fenceMsg kind hoop src pa frm).fenceAsked kind := by
  obtain ⟨j, y, hy, hkind, -⟩ := tells_sendMsg t .request kind src (t.idxDie (t.idxOn src (t.winFor hoop pa) pa)) frm
    (.quadrant (idxQuad (t.idxOn src (t.winFor hoop pa) pa)))
  exact ⟨j, y, hy, hkind⟩

/-- A message to a fence's home leaves a state in which the queue runs. -/
theorem runs_fenceMsg (h : Runs q v s t) (kind : MsgKind) (hoop : Option Nat) (src pa : Nat) (frm : Stop) :
    ∃ x, x = t.fenceMsg kind hoop src pa frm ∧ x = { s with objs := x.objs, msgs := x.msgs, nextId := x.nextId, mesh := x.mesh } ∧
      x.queue? q = some v ∧ x.fenceAsked kind := by
  have honly := fenceMsg_only kind hoop src pa frm t
  have hobjs : (t.fenceMsg kind hoop src pa frm).objs = t.objs := by rw [honly]
  refine ⟨_, rfl, ?_, ?_, asked_fenceMsg kind hoop src pa frm t⟩
  · refine honly.trans ?_
    rw [hobjs]
    exact congrArg (fun y : State => { y with
      msgs := (t.fenceMsg kind hoop src pa frm).msgs, nextId := (t.fenceMsg kind hoop src pa frm).nextId
      mesh := (t.fenceMsg kind hoop src pa frm).mesh }) h.only
  · rw [State.queue?, hobjs]
    exact h.queue

/-- Where the front end is, and what it says of the queue, is the same before and after the command runs. -/
theorem queueDie_taking (h : s.mayStart q op u c r) :
    (commenced s q u).queueDie (Queue.taking u (s.setNow q u) r) = s.queueDie (u.started (s.setNow q u) r) :=
  (runs_commenced h).queueDie _

theorem exec_fenceSignal (h : s.mayStart q 6 u c r) : exec (.fenceSignal q) s = .next (
    match s.translate c .signal (numAt r.desc 16 8) with
    | .error f => (commenced s q u).frontFault q f u.descVa
    | .ok (l, _) => match s.fenceBar c.hoop (s.queueDie (u.started (s.setNow q u) r)) (numAt r.desc 16 8) (l.phys (numAt r.desc 16 8)) true with
      | some f => (commenced s q u).frontFault q f u.descVa
      | none => (commenced s q u).fenceMsg (.signal u.ctx (l.phys (numAt r.desc 16 8)) (numAt r.desc 24 8) (some q)
          (some { queue := q, unit := (u.started (s.setNow q u) r).leadUnit, group := 0, lane := 0, pc := u.descVa }))
        (some c.hoop) (s.queueDie (u.started (s.setNow q u) r)) (l.phys (numAt r.desc 16 8)) (Queue.taking u (s.setNow q u) r).frm) := by
  change Host.Outcome.next (fenceSignal q s) = _
  rw [fenceSignal, startCmd_of_mayStart h, (runs_commenced h).translate]
  simp only [(runs_commenced h).fenceBar, queueDie_taking h]
  rfl

theorem exec_fenceWait (h : s.mayStart q 7 u c r) : exec (.fenceWait q) s = .next (
    match s.translate c .wait (numAt r.desc 16 8) with
    | .error f => (commenced s q u).frontFault q f u.descVa
    | .ok (l, _) => match s.fenceBar c.hoop (s.queueDie (u.started (s.setNow q u) r)) (numAt r.desc 16 8) (l.phys (numAt r.desc 16 8)) false with
      | some f => (commenced s q u).frontFault q f u.descVa
      | none => ((commenced s q u).onRun q (fun r => { r with ranges := [(l.phys (numAt r.desc 16 8), l.phys (numAt r.desc 16 8) + 32)] })).fenceMsg
          (.register u.ctx (l.phys (numAt r.desc 16 8)) (numAt r.desc 24 8) (0, q)) (some c.hoop) (s.queueDie (u.started (s.setNow q u) r))
        (l.phys (numAt r.desc 16 8)) (Queue.taking u (s.setNow q u) r).frm) := by
  change Host.Outcome.next (fenceWait q s) = _
  rw [fenceWait, startCmd_of_mayStart h, (runs_commenced h).translate]
  simp only [(runs_commenced h).fenceBar, queueDie_taking h]
  rfl

/-! ### Flushes (R180, R267) -/

theorem works_takeBack (p a i : Nat) (secs : List (Nat × Bytes × Nat × Bool)) (s : State) : Works s (s.takeBack p a i secs) := by
  unfold State.takeBack
  split
  · exact (settles_onLine s _ _ _ _).works
  · refine works_ite (.refl s) ?_
    split
    · exact (settles_onSlice s p _).works.trans (settles_onLine _ _ _ _ _).works
    · exact works_writeBack s _ _ _ _ _

theorem works_mergeOwned (lo hi : Nat) (s : State) : Works s (s.mergeOwned lo hi) :=
  works_each (fun (x : Nat × Line) t => (works_takeBack _ _ _ _ t).trans (settles_onLine _ x.1 x.2.addr x.2.idx _).works) _ s

/-- Dirty sectors that are written back wait at their controllers: no byte of memory changes yet. -/
theorem works_writeBackRange (lo hi : Nat) (s : State) : Works s (s.writeBackRange lo hi) := by
  unfold State.writeBackRange
  refine ((works_mergeOwned lo hi s).trans (works_each (fun x t => ?_) _ _)).trans (works_each (fun m t => ?_) _ _)
  · exact (works_ite (works_writeBack t _ _ _ _ _) (.refl t)).trans (works_ite (settles_onLine _ _ _ _ _).works (.refl _))
  · dsimp only
    split
    · exact works_ite (works_writeBack t _ _ _ _ _) (.refl t)
    · exact works_ite (works_writeBack t _ _ _ _ _) (.refl t)
    · exact .refl t

section go

variable (hv : t.queue? q = some v) (hc : t.ctx? v.ctx = some c) (hr : v.run = some r)
include hv hc hr

/-- A step of a FLUSH: it is at its end, or it faults, walks its next range, or passes the next page by. -/
theorem flushGo_succ (k : Nat) : t.flushGo q (k + 1) =
    if numAt r.desc 24 8 ≤ r.pos then t.onRun q (fun r => { r with ranges := [] })
    else match t.flushRange c (pageParts (numAt r.desc 16 8 + r.pos) (numAt r.desc 24 8 / 4096 + 2) (numAt r.desc 24 8 - r.pos)) with
      | .error f => t.frontFault q f v.descVa
      | .ok (some lo, m) => (t.writeBackRange lo (lo + m)).onRun q (fun r => { r with pos := r.pos + m, ranges := [(lo, lo + m)] })
      | .ok (none, m) => (t.onRun q (fun r => { r with pos := r.pos + m, ranges := [] })).flushGo q k := by
  rw [State.flushGo, hv]
  dsimp only
  rw [hc, hr] <;> rfl

/-- A step from a page outside the stacks passes it by. -/
theorem flushGo_passes (k : Nat) (hmore : r.pos < numAt r.desc 24 8) {x : Leaf × Mobj}
    (hx : t.translate c .read (numAt r.desc 16 8 + r.pos) = .ok x) (hspace : x.1.space ≠ .stack) :
    t.flushGo q (k + 1) = (t.onRun q (fun y => { y with
      pos := y.pos + min (numAt r.desc 24 8 - r.pos) (4096 - (numAt r.desc 16 8 + r.pos) % 4096), ranges := [] })).flushGo q k := by
  rw [flushGo_succ hv hc hr, if_neg (by omega), pageParts, if_neg (by omega), State.flushRange, hx]
  dsimp only
  rw [if_pos hspace]

end go

/-- The run of a FLUSH that is at its end. -/
def Run.flushed (r : Run) : Run := { r with pos := numAt r.desc 24 8, ranges := [] }

/-- The bytes of the page at which a FLUSH stands. -/
def Run.pageBytes (r : Run) : Nat := min (numAt r.desc 24 8 - r.pos) (4096 - (numAt r.desc 16 8 + r.pos) % 4096)

/-- The run of a FLUSH that has passed a page by. -/
def Run.passed (r : Run) : Run := { r with pos := r.pos + Run.pageBytes r, ranges := [] }

/-- The pages that are left are the one at which a FLUSH stands and those behind it. -/
theorem pageParts_passed {r : Run} (hmore : r.pos < numAt r.desc 24 8) (k : Nat) :
    pageParts (numAt r.desc 16 8 + r.pos) (k + 1) (numAt r.desc 24 8 - r.pos) = (numAt r.desc 16 8 + r.pos, Run.pageBytes r) ::
      pageParts (numAt (Run.passed r).desc 16 8 + (Run.passed r).pos) k (numAt (Run.passed r).desc 24 8 - (Run.passed r).pos) := by
  rw [pageParts, if_neg (by omega), Run.passed]
  dsimp only
  rw [← Nat.add_assoc, ← Nat.sub_sub, Run.pageBytes]

/-- A page fewer is left: it was the last, or what is left begins with a whole page. -/
theorem pages_passed {r : Run} {k : Nat} (hmore : r.pos < numAt r.desc 24 8)
    (hleft : (numAt r.desc 16 8 + r.pos) % 4096 + (numAt r.desc 24 8 - r.pos) ≤ 4096 * (k + 1)) :
    (Run.passed r).pos = numAt r.desc 24 8 ∨ (0 < k ∧ (Run.passed r).pos ≤ numAt r.desc 24 8 ∧
      (numAt r.desc 16 8 + (Run.passed r).pos) % 4096 + (numAt r.desc 24 8 - (Run.passed r).pos) ≤ 4096 * k) := by
  rw [Run.passed, Run.pageBytes]
  dsimp only
  omega

/-- A FLUSH passes by the pages that are left, none of which lies in the stacks, and is at its end: each step takes a page, and the first may
begin within one. -/
theorem flushGo_end {k : Nat} (hruns : Runs q v s t) (hc : s.ctx? v.ctx = some c) (hr : v.run = some r)
    (hleft : (r.pos = numAt r.desc 24 8 ∧ r.ranges = []) ∨
      (0 < k ∧ r.pos ≤ numAt r.desc 24 8 ∧ (numAt r.desc 16 8 + r.pos) % 4096 + (numAt r.desc 24 8 - r.pos) ≤ 4096 * k))
    (hparts : ∀ p ∈ pageParts (numAt r.desc 16 8 + r.pos) k (numAt r.desc 24 8 - r.pos), ∃ x, s.translate c .read p.1 = .ok x ∧ x.1.space ≠ .stack) :
    Runs q { v with run := some (Run.flushed r) } s (t.flushGo q k) := by
  induction k generalizing t v r with
  | zero =>
    obtain ⟨hpos, hranges⟩ := hleft.resolve_right (fun h => absurd h.1 (Nat.lt_irrefl 0))
    have hsame : Run.flushed r = r := by rw [Run.flushed, ← hpos, ← hranges]
    rw [hsame, ← hr]
    exact hruns
  | succ k ih =>
    have hct : t.ctx? v.ctx = some c := (hruns.ctx _).trans hc
    by_cases hmore : r.pos < numAt r.desc 24 8
    · rw [pageParts_passed hmore] at hparts
      obtain ⟨x, hx, hspace⟩ := hparts _ (List.mem_cons_self ..)
      have hbound := (hleft.resolve_left (fun h => absurd h.1 (by omega))).2.2
      have hstep := hruns.onRun (fun y => { y with pos := y.pos + Run.pageBytes r, ranges := [] })
      rw [hr] at hstep
      rw [flushGo_passes hruns.queue hct hr k hmore ((hruns.translate _ _ _).trans hx) hspace]
      exact ih (v := { v with run := some (Run.passed r) }) (r := Run.passed r) hstep hc rfl
        ((pages_passed hmore hbound).imp_left fun h => ⟨h, rfl⟩) (fun p hp => hparts p (List.mem_cons_of_mem _ hp))
    · have hend : r.pos = numAt r.desc 24 8 := by omega
      have hstep := hruns.onRun (fun r => { r with ranges := [] })
      rw [hr] at hstep
      rw [flushGo_succ hruns.queue hct hr, if_pos (by omega), Run.flushed, ← hend]
      exact hstep


theorem flushRange_runs (hruns : Runs q v s t) (c : Ctx) (ps : List (Nat × Nat)) : t.flushRange c ps = s.flushRange c ps := by
  induction ps with
  | nil => rfl
  | cons p ps ih => rw [State.flushRange, hruns.translate, ih, State.flushRange]

theorem exec_flush (h : s.mayStart q 8 u c r) : exec (.flush q) s = .next ((commenced s q u).flushGo q (numAt r.desc 24 8 / 4096 + 2)) :=
  congrArg _ (startCmd_of_mayStart h _)

/-- The run of a FLUSH that walks a range. -/
def walking (lo m : Nat) (r : Run) : Run := { r with pos := r.pos + m, ranges := [(lo, lo + m)] }

/-- The first step of a FLUSH of at least a byte. -/
theorem exec_flush_first (h : s.mayStart q 8 u c r) (hpos : r.pos = 0) (hn : 0 < numAt r.desc 24 8) : exec (.flush q) s = .next (
    match s.flushRange c (pageParts (numAt r.desc 16 8) (numAt r.desc 24 8 / 4096 + 2) (numAt r.desc 24 8)) with
      | .error f => (commenced s q u).frontFault q f u.descVa
      | .ok (some lo, m) => ((commenced s q u).writeBackRange lo (lo + m)).onRun q (walking lo m)
      | .ok (none, m) => ((commenced s q u).onRun q (fun r => { r with pos := r.pos + m, ranges := [] })).flushGo q (numAt r.desc 24 8 / 4096 + 1)) := by
  have hruns := runs_commenced h
  have hc : (commenced s q u).ctx? (u.started (s.setNow q u) r).ctx = some c := (hruns.ctx u.ctx).trans h.2.1
  have hgo := flushGo_succ (r := { r with phase := .running, members := s.setNow q u }) hruns.queue hc rfl (numAt r.desc 24 8 / 4096 + 1)
  dsimp only at hgo
  rw [if_neg (by omega), hpos, Nat.add_zero, Nat.sub_zero, flushRange_runs hruns] at hgo
  rw [exec_flush h, hgo]
  rfl

/-- Work at the caches and the controllers leaves a state in which the queue runs: its run can go on, and no byte of memory, register or engine changes. -/
theorem works_onRun (hruns : Runs q v s t) {x : State} (hworks : Works t x) (f : Run → Run) :
    (x.onRun q f).mem.cells = s.mem.cells ∧ (x.onRun q f).regs = s.regs ∧ (x.onRun q f).engs = s.engs ∧
      (x.onRun q f).queue? q = some { v with run := v.run.map f } := by
  have hobjs : x.objs = t.objs := by rw [hworks]
  have hregs : x.regs = t.regs := by rw [hworks]
  have hengs : x.engs = t.engs := by rw [hworks]
  refine ⟨hworks.cells.trans (congrArg (·.cells) hruns.mem), hregs.trans hruns.regs, hengs.trans hruns.engs, ?_⟩
  rw [State.onRun, State.queue_onQueue, if_pos rfl, State.queue?, hobjs]
  exact congrArg (Option.map _) hruns.queue

/-- The first range of a FLUSH is written back, and no byte of memory, register or engine changes. -/
theorem flush_walks (h : s.mayStart q 8 u c r) (hpos : r.pos = 0) (lo m : Nat) :
    ∃ x, x = ((commenced s q u).writeBackRange lo (lo + m)).onRun q (walking lo m) ∧
      x.mem.cells = s.mem.cells ∧ x.regs = s.regs ∧ x.engs = s.engs ∧
      x.queue? q = some { u.started (s.setNow q u) r with
        run := (u.started (s.setNow q u) r).run.map (fun r => { r with pos := m, ranges := [(lo, lo + m)] }) } := by
  obtain ⟨hcells, hregs, hengs, hqueue⟩ := works_onRun (runs_commenced h) (works_writeBackRange lo (lo + m) (commenced s q u)) (walking lo m)
  refine ⟨_, rfl, hcells, hregs, hengs, ?_⟩
  rw [hqueue]
  simp only [Option.map_some, Queue.started, walking, hpos, Nat.zero_add]

/-- A FLUSH that meets no page of the stacks is at its end. -/
theorem flush_ends (h : s.mayStart q 8 u c r) (hpos : r.pos = 0)
    (hparts : ∀ p ∈ pageParts (numAt r.desc 16 8) (numAt r.desc 24 8 / 4096 + 2) (numAt r.desc 24 8), ∃ x,
      s.translate c .read p.1 = .ok x ∧ x.1.space ≠ .stack) :
    Runs q { u.started (s.setNow q u) r with
      run := (u.started (s.setNow q u) r).run.map (fun x => { x with pos := numAt r.desc 24 8, ranges := [] }) } s
      ((commenced s q u).flushGo q (numAt r.desc 24 8 / 4096 + 2)) := by
  refine flushGo_end (v := u.started (s.setNow q u) r) (r := { r with phase := .running, members := s.setNow q u }) (runs_commenced h) h.2.1 rfl
    (.inr ?_) ?_
  · dsimp only
    omega
  · dsimp only
    rw [hpos]
    exact hparts

end Sys2Proof.Machine.StartLaws

namespace Sys2Proof.Machine
open QueueLaws StartLaws

/-- Settles O34, command by command: a start changes the queue alone (`Runs`), no translation looks at the objects that it changes, and a FLUSH takes
one page a step (`flushGo_end`). -/
theorem queueCommandsStart : Obligations.QueueCommandsStart := by
  unfold Obligations.QueueCommandsStart
  refine ⟨?_, ?_, ?_, ?_, ?_⟩
  · intro s q u c r
    refine ⟨fun h => ?_, fun h => ?_, exec_launch_realTime, fun h hkind => ?_⟩
    · have hdone := runs_cmdDone h
      exact ⟨_, exec_nop h, hdone.queue, hdone.only, hdone.others, hdone.ctxs⟩
    · have hdone := runs_cmdDone h
      exact ⟨_, exec_event h, hdone.queue, hdone.only, hdone.others, hdone.ctxs⟩
    · have hc := ((runs_commenced h).ctx u.ctx).trans h.2.1
      exact ⟨_, exec_launch h hkind, openLaunch_spec (runs_commenced h) hc rfl r.desc rfl⟩
  · intro s q u c r l m hpos hn
    refine ⟨fun h htr => ?_, fun h htr => ?_, fun h hkind htr => ?_, fun h hkind htr => ?_⟩
    all_goals
      have hruns := runs_commenced h
      have hc : (commenced s q u).ctx? (u.started (s.setNow q u) r).ctx = some c := (hruns.ctx u.ctx).trans h.2.1
      have hop := h.2.2.2.2.1
      rw [← hruns.translate] at htr
    · obtain ⟨len, hnext⟩ := bulkNext_copy hruns.queue hc rfl hpos hn hop
      exact ⟨_, (exec_copy h).trans (congrArg Host.Outcome.next hnext), runs_asks h (asks_bulkSend htr (by decide) _ _ _ _ _)⟩
    · obtain ⟨len, bs, hnext⟩ := bulkNext_fill hruns.queue hc rfl hpos hn hop
      exact ⟨_, (exec_fill h).trans (congrArg Host.Outcome.next hnext), runs_asks h (asks_bulkSend htr (by decide) _ _ _ _ _)⟩
    · have hnext := bulkNext_reduce hruns.queue hc rfl hpos hn hop
      rw [if_neg hkind] at hnext
      exact ⟨_, (exec_reduceCopy h).trans (congrArg Host.Outcome.next hnext), runs_asks h (asks_bulkSend htr (by decide) _ _ _ _ _)⟩
    · have hnext := bulkNext_reduce hruns.queue hc rfl hpos hn hop
      rw [if_pos hkind] at hnext
      exact ⟨_, (exec_reduceCopy h).trans (congrArg Host.Outcome.next hnext), runs_asks h (asks_bulkSend htr (by decide) _ _ _ _ _)⟩
  · intro s q u c r f hfree
    refine ⟨fun h hpos hn htr => ?_, fun h htr => ?_, fun h htr => ?_⟩
    · have hruns := runs_commenced h
      have hc : (commenced s q u).ctx? (u.started (s.setNow q u) r).ctx = some c := (hruns.ctx u.ctx).trans h.2.1
      obtain ⟨len, hnext⟩ := bulkNext_copy hruns.queue hc rfl hpos hn h.2.2.2.2.1
      rw [← hruns.translate] at htr
      exact ⟨_, (exec_copy h).trans (congrArg Host.Outcome.next (hnext.trans (bulkSend_faults htr _ _ _ _ _))), holdsFault_commenced h hfree f _⟩
    · have hexec := exec_fenceSignal h
      rw [htr] at hexec
      exact ⟨_, hexec, holdsFault_commenced h hfree f _⟩
    · have hexec := exec_fenceWait h
      rw [htr] at hexec
      exact ⟨_, hexec, holdsFault_commenced h hfree f _⟩
  · intro s q u c r l m
    refine ⟨fun h htr hbar => ?_, fun h htr hbar => ?_⟩
    · have hexec := exec_fenceSignal h
      rw [htr] at hexec
      dsimp only at hexec
      rw [hbar] at hexec
      obtain ⟨x, rfl, hsends, hqueue, hasked⟩ := runs_fenceMsg (runs_commenced h) _ _ _ _ _
      exact ⟨_, hexec, hsends, hqueue, hasked⟩
    · have hexec := exec_fenceWait h
      rw [htr] at hexec
      dsimp only at hexec
      rw [hbar] at hexec
      obtain ⟨x, rfl, hsends, hqueue, hasked⟩ := runs_fenceMsg ((runs_commenced h).onRun _) _ _ _ _ _
      exact ⟨_, hexec, hsends, hqueue, hasked⟩
  · intro s q u c r h hpos
    refine ⟨fun lo m hn hrange => ?_, fun f hn hfree hrange => ?_, fun hparts => ?_⟩
    · have hexec := exec_flush_first h hpos hn
      rw [hrange] at hexec
      obtain ⟨x, rfl, hcells, hregs, hengs, hqueue⟩ := flush_walks h hpos lo m
      exact ⟨_, hexec, hcells, hregs, hengs, hqueue⟩
    · have hexec := exec_flush_first h hpos hn
      rw [hrange] at hexec
      exact ⟨_, hexec, holdsFault_commenced h hfree f _⟩
    · have hends := flush_ends h hpos hparts
      exact ⟨_, exec_flush h, hends.only, hends.queue⟩

end Sys2Proof.Machine
end
